-- ==== Sys2Proof/Word.lean ====
section
/-! DEFINITION. Word types of the CA-6410 and their plainest arithmetic: 32-bit register words, bytes, bit fields of a word and sparse maps. -/

namespace Sys2Proof

/-- A 32-bit register word (R13). -/
abbrev Word := BitVec 32

/-- One byte of a byte-addressed memory. -/
abbrev Byte := BitVec 8

/-- A 64-bit Tide tick count (R68). -/
abbrev Tick := BitVec 64

/-- A sparse map from keys to values; its canonical form is `SMap.wf` of Machine/SMap.lean. -/
abbrev SMap (α : Type) := List (Nat × α)

/-- The number in bits `[lo + n - 1 : lo]` of a word. -/
def Word.bits (w : Word) (lo n : Nat) : Nat := w.toNat / 2 ^ lo % 2 ^ n

/-- `w` with bits `[lo + n - 1 : lo]` set to `v` modulo `2 ^ n`. -/
def Word.setBits (w : Word) (lo n v : Nat) : Word :=
  BitVec.ofNat 32 (w.toNat % 2 ^ lo + 2 ^ lo * (v % 2 ^ n) + 2 ^ (lo + n) * (w.toNat / 2 ^ (lo + n)))

/-- The signed value of an `n`-bit field. -/
def signed (n v : Nat) : Int := if v % 2 ^ n < 2 ^ (n - 1) then (v % 2 ^ n : Nat) else (v % 2 ^ n : Nat) - (2 ^ n : Nat)

/-- The `n`-bit field that holds an integer in two's complement. -/
def unsigned (n : Nat) (v : Int) : Nat := (v % (2 ^ n : Nat)).toNat

end Sys2Proof
end

