-- ==== Sys2Proof/Operand.lean ====
section
/-! DEFINITION. The types that operands of commands and fields of the state share: Quays, requesters and register pages. -/

namespace Sys2Proof

/-- The two control complexes (Table 0-2). -/
inductive Quay
  | A
  | B
  deriving DecidableEq, Repr

/-- The other Quay. -/
def Quay.other : Quay → Quay
  | .A => .B
  | .B => .A

/-- 0 for Quay A and 1 for Quay B, which is also the region index (Table 0-2). -/
def Quay.idx : Quay → Nat
  | .A => 0
  | .B => 1

/-- The Quay of a region index. -/
def Quay.ofIdx (n : Nat) : Quay := if n % 2 = 0 then .A else .B

/-- The requesters of Table 1-6. -/
inductive Src
  | core (q : Quay) (c : Fin 4)
  | engine (q : Quay)
  | safety
  | debug
  | ethDma (n : Fin 2)
  | xspBoot
  | taps
  deriving DecidableEq, Repr

/-- The requester identifier of Table 1-6. -/
def Src.code : Src → Nat
  | .core .A c => c.val
  | .engine .A => 0x04
  | .core .B c => 0x10 + c.val
  | .engine .B => 0x14
  | .safety => 0x20
  | .debug => 0x30
  | .ethDma n => 0x40 + n.val
  | .xspBoot => 0x48
  | .taps => 0x50

/-- An arbiter of the region and chip levels: at the entry of a region, of the chip at that entry, and of the Gangway at the end of the Quay that sends (Table 1-7). -/
inductive Arbiter
  | region (r : Fin 8)
  | chip (r : Fin 8)
  | gangway (q : Quay)
  deriving DecidableEq, Repr

/-- What the requester at a port of an arbiter is (Table 1-7). -/
inductive ArbClient
  | tap | stream | copy
  | can | eth | xspBoot
  | core | engine | safety | message
  | debug
  deriving DecidableEq, Repr

/-- The kinds of register page: every block of Table 2-2, with the pages of multi-page blocks apart. `obj` is the banked CAN object window of R432, which has no address of its own. -/
inductive Blk
  | tide | fg | act | evs
  | leg | llp | sht | cnv | vcl
  | adc | dsf | tsn | pos | emu | cpl
  | brg | ssc
  | qctl | irq | eng | lane | inj | lck | gwy
  | bsn | que | cap
  | can | eth | xsp | dbg
  | saf | sio | seal | sbc | fltr | flt8 | pwr | clk | rst | strp
  | obj
  deriving DecidableEq, Repr

/-- One register page: its kind and its index. The pages of both Quays are numbered together, Quay A first; `lane` is `8 * quay + lane`, `obj` is `128 * controller + object`. -/
structure Page where
  blk : Blk
  idx : Nat
  deriving DecidableEq, Repr

/-- A pair of cores whose comparator reports: pair `n` of a Quay (R326), or the safety pair of SF (R357). -/
inductive LockstepUnit
  | pair (q : Quay) (n : Fin 2)
  | safety
  deriving DecidableEq, Repr

/-- The cases of an error that ISO 11898-1 counts apart (R422): an error found as receiver; a dominant bit first after the receiver's own error flag; an error for which the transmitter sends an error flag; an acknowledgement error in whose error flag the transmitter detects no dominant bit; a stuff error in arbitration on a stuff bit sent recessive; a bit error in an active error or overload flag; dominant bits beyond those tolerated after a flag. The last two are a transmitter's (`tx`) or a receiver's. -/
inductive CanErrorKind
  | receiver | receiverDominant | transmitter | ackAlone | stuffArbitration
  | flagBit (tx : Bool)
  | dominantRun (tx : Bool)
  deriving DecidableEq, Repr

/-- How a snapshot arrives (R339, R340): whole, with a byte count or CRC that fails, or with an error that SECDED cannot correct. -/
inductive MarkerCheck
  | good | mismatch | uncorr
  deriving DecidableEq, Repr

/-- The law image that the law memory of a run holds unchanged: its run is taken as a whole (R210, R263). -/
inductive ImageRun
  | none
  | traction
  | converter
  | charger
  deriving DecidableEq, Repr

/-- What the boot controller reads of an image (R441, R442): the 132 header words and the SCB section. -/
structure BootImage where
  readOk : Bool
  header : List Word
  scb : List Word
  deriving DecidableEq, Repr

/-- A CAN frame with its SOF stamp (R409, R412, Table 15-3): DATA as words, byte 0 in bits [7:0]. -/
structure CanFrame where
  ide : Bool
  id : BitVec 29
  fdf : Bool
  brs : Bool
  esi : Bool
  rtr : Bool
  dlc : BitVec 4
  data : List Word
  stamp : Nat
  deriving DecidableEq, Repr

end Sys2Proof
end

