-- ==== Sys2Proof/Syntax.lean ====
section
/-! DEFINITION. The commands of the block: one constructor for each row of spec/opcode_table.json. The first operand of each, `dt`, is the time in ticks of 0.4 ns that passes since the previous command (log entry 3); a command that the chip times itself acts at its own tick. Facts that only the world outside the registers decides (a measurement, a pin, a check of redundant hardware) are operands. -/

namespace Sys2Proof

/-- A command. -/
inductive Instr
  /-- REG_WRITE (R47): A write to a register field that has no step of its own sets RW or staged values, or is ignored for RO and reserved bits. -/
  | regWrite (dt : Nat) (src : Src) (a : BitVec 32) (size : Fin 3) (v : Word)
  /-- RC_READ (R51): A read of an RC field returns the value and clears it, unless the reader may not write the page. -/
  | rcRead (dt : Nat) (src : Src) (a : BitVec 32) (size : Fin 3) (ecc : Fin 3)
  /-- HOLDING_READ (R48): A read of a LO word copies the HI word into the reader's holding word, so a following HI read belongs to the same value. -/
  | holdingRead (dt : Nat) (src : Src) (p : Page) (off : Fin 1024)
  /-- EVT_PEND_CLEAR (R45): A W1C write to EVT_PEND clears RAW and PEND bits and holds the requester's later reads until the interrupt line has fallen. -/
  | evtPendClear (dt : Nat) (src : Src) (p : Page) (v : Word)
  /-- ERR_CLR (R66): A write of ERR_CODE.CLR clears LAST, FIRST and SRC. -/
  | errClr (dt : Nat) (src : Src) (p : Page)
  /-- ISO_REQ (R23): A write of FLT[r].REG_CTRL.ISO_REQ isolates region r with the effects of Table 1-4. -/
  | isoReq (dt : Nat) (src : Src) (r : Fin 8)
  /-- RESTART (R496): A write of FLT[r].REG_CTRL.RESTART is judged against Table 1-4 and R495 and, if accepted, starts the region restart. -/
  | restart (dt : Nat) (src : Src) (r : Fin 8)
  /-- RESTART_COMPLETE (R496): The region restart ends: the region is reset, its domains are good, READY sets and RESTART_CNT increments. -/
  | restartComplete (dt : Nat) (r : Fin 8)
  /-- INTERCONNECT_TIMEOUT (R22): A target that does not answer within 2,048 interconnect cycles ends the access with TIMEOUT and isolates its region. -/
  | interconnectTimeout (dt : Nat) (src : Src) (a : BitVec 32) (write : Bool) (waited : Nat)
  /-- REGION_FAULT_ISOLATE (R23): An interconnect parity error, uncorrectable memory error, power-domain fault or clock loss isolates a region. -/
  | regionFaultIsolate (dt : Nat) (r : Fin 8) (cause : Fin 4)
  /-- ARB_DECISION (R29): An arbiter grants one pending request of at most one burst, ageing the requests that were not granted. -/
  | arbDecision (dt : Nat) (at_ : Arbiter) (reqs : List (Fin 16 × ArbClient))
  /-- CELL_FAULT (R16): A cell detects a fault in its own function, applies its cell safe reaction, records the error and signals its block aggregator. -/
  | cellFault (dt : Nat) (p : Page) (code : BitVec 8)
  /-- REG_PARITY_ERROR (R16): A parity error in an active configuration register records REG_PARITY and applies the cell safe reaction. -/
  | regParityError (dt : Nat) (p : Page)
  /-- EN_CLEAR (R52): A write of 0 to PAGE_CTRL.EN stops the page's function at once in its stopped behaviour. -/
  | enClear (dt : Nat) (src : Src) (p : Page)
  /-- EN_SET (R52): A write of 1 to PAGE_CTRL.EN is accepted and waits for the next frame boundary at least 250 ticks later. -/
  | enSet (dt : Nat) (src : Src) (p : Page)
  /-- EN_APPLY (R52): At its boundary a pending EN = 1 takes effect if the active set passes its checks, else EN returns to 0 with ENABLE_REFUSED. -/
  | enApply (dt : Nat) (p : Page)
  /-- SRST (R53): A write of PAGE_CTRL.SRST stops the function, resets the page fields, cancels pending commits and closes the key window. -/
  | srst (dt : Nat) (src : Src) (p : Page)
  /-- SRST_COMPLETE (R53): The soft reset completes within 64 SYS cycles and held accesses to the page proceed. -/
  | srstComplete (dt : Nat) (p : Page)
  /-- COMMIT_GO (R54): A write of COMMIT.GO snapshots the staged set and assigns it to a frame boundary. -/
  | commitGo (dt : Nat) (src : Src) (p : Page) (discard : Bool)
  /-- SNAPSHOT_CHECK_DONE (R57): Within 32 SYS cycles of acceptance the snapshot is checked and either kept or discarded with REJECTED and COMMIT_REJ. -/
  | snapshotCheckDone (dt : Nat) (p : Page) (parity : Bool)
  /-- SNAPSHOT_APPLY (R56): At its assigned boundary, or at acceptance while EN is 0, a checked snapshot replaces the active set in one step. -/
  | snapshotApply (dt : Nat) (p : Page)
  /-- COMMIT_DISCARD (R59): A write of COMMIT.DISCARD returns staging to the active values and cancels snapshots not yet applied. -/
  | commitDiscard (dt : Nat) (src : Src) (p : Page)
  /-- LOCK_FIRST_WORD (R63): A correct first key word to LOCK arms the writer's key sequence. -/
  | lockFirstWord (dt : Nat) (src : Src) (p : Page)
  /-- LOCK_SECOND_WORD (R63): A correct second key word within 256 SYS cycles of the first opens the writer's key window. -/
  | lockSecondWord (dt : Nat) (src : Src) (p : Page)
  /-- LOCK_BAD_WORD (R65): A LOCK write that breaks the sequence disarms it, increments FAILS, records LOCK_SEQ and may set LOCKOUT. -/
  | lockBadWord (dt : Nat) (src : Src) (p : Page) (v : Word)
  /-- LOCK_BUSY_WRITE (R65): A LOCK write by a requester other than the holder of an open window records LOCK_BUSY and changes nothing. -/
  | lockBusyWrite (dt : Nat) (src : Src) (p : Page) (v : Word)
  /-- LOCK_RELEASE (R64): A write of 0 to LOCK by the holder closes the key window. -/
  | lockRelease (dt : Nat) (src : Src) (p : Page)
  /-- LOCK_ARM_EXPIRE (R63): An armed key sequence whose second word does not come within 256 SYS cycles disarms without error. -/
  | lockArmExpire (dt : Nat) (src : Src) (p : Page)
  /-- LOCK_WINDOW_EXPIRE (R64): An open key window closes after 8,192 SYS cycles, returning uncommitted protected fields with LOCK_EXPIRED. -/
  | lockWindowExpire (dt : Nat) (p : Page)
  /-- REF_LOST (R72): Loss of the selected Tide reference freezes the applied trim in HOLDOVER and raises REF_LOST. -/
  | refLost (dt : Nat) (ext : Bool)
  /-- REF_REGAINED (R73): Return of the reference lets the trim slew to the new target and raises REF_REGAINED with the new phase. -/
  | refRegained (dt : Nat) (phase : Fin 250)
  /-- TRIM_SLEW_STEP (R72): Each millisecond the applied trim moves towards its target by at most SLEW ppb, clipped to the limit with TRIM_LIMIT. -/
  | trimSlewStep (dt : Nat) (ext : Int)
  /-- XTAL_LOSS (R74): Loss of the crystal holds the PLL control words, sets XTAL_HOLDOVER and sends XTAL_LOSS to FLT[8]. -/
  | xtalLoss (dt : Nat)
  /-- XTAL_REGAINED (R460): After 10 ms of unbroken crystal operation XTAL_OK returns and the PLLs track REF again without a step. -/
  | xtalRegained (dt : Nat)
  /-- TIDE_UNLOCK (R74): Loss of lock of the TIDE PLL sets SUSPECT and sends TIDE_UNLOCK to FLT[8]. -/
  | tideUnlock (dt : Nat)
  /-- FG_START (R75): An EN = 1 write to a stopped frame generator starts it on the ANCHOR grid at acceptance. -/
  | fgStart (dt : Nat) (src : Src) (g : Fin 8)
  /-- FRAME_BOUNDARY (R75): A frame generator reaches a boundary, increments COUNT and applies pending period changes. -/
  | frameBoundary (dt : Nat) (g : Fin 8)
  /-- BANK_COPY_DONE (R78): The copy of the new active action bank into staging completes, COPY_DONE occurs and held accesses are served. -/
  | bankCopyDone (dt : Nat)
  /-- ACTION_DISPATCH (R80): The scheduler dispatches an action 160 ticks before its due tick to the timer beside its target. -/
  | actionDispatch (dt : Nat) (i : Fin 256)
  /-- ACTION_SAMPLE (R80): A SAMPLE action at its due tick strikes the sample of its target converter, filter, sensor, position interface or pilot. -/
  | actionSample (dt : Nat) (i : Fin 256)
  /-- ACTION_LAUNCH (R183): A LAUNCH action places a launch request in its lane's queue or drops it with a DROP record. -/
  | actionLaunch (dt : Nat) (i : Fin 256)
  /-- ACTION_CAPTURE (R203): A CAPTURE action opens a capture-tap window of ARG × 16 ticks. -/
  | actionCapture (dt : Nat) (i : Fin 256)
  /-- ACTION_VSTEP (R267): A VSTEP action issues the staged VCL command slot named by ARG. -/
  | actionVstep (dt : Nat) (i : Fin 256)
  /-- ACTION_MARK (R79): A MARK action writes a MARK record carrying ARG. -/
  | actionMark (dt : Nat) (i : Fin 256)
  /-- EVS_FIFO_DRAIN (R89): A source FIFO drains its oldest record into its routed Basin queue when the queue has room, advancing the watermark. -/
  | evsFifoDrain (dt : Nat) (src : BitVec 20) (corr : Nat)
  /-- TAP_FIFO_DRAIN (R203): A tap FIFO drains its oldest record into the queue that TAP_CFG names when the queue has room. -/
  | tapFifoDrain (dt : Nat) (q : Quay) (tap : Fin 16) (corr : Nat)
  /-- EDGE_ENTRY (R100): An edge entry arriving at a leg block's edge port is classified and appended to or invalidates its pattern. -/
  | edgeEntry (dt : Nat) (q : Quay) (lane : Fin 8) (k : Fin 24) (w0 w1 : Word)
  /-- CLOSE_ENTRY (R100): A CLOSE entry arriving at the edge port closes the pattern of the frame it names or marks it FORMAT. -/
  | closeEntry (dt : Nat) (q : Quay) (lane : Fin 8) (k : Fin 24) (w0 w1 : Word)
  /-- CLOSE_DEADLINE (R102): At the close deadline a leg block applies, holds, repeats or discards the pattern and shapes it. -/
  | closeDeadline (dt : Nat) (k : Fin 24)
  /-- PATTERN_TAKEOVER (R497): At the later of B_F and C_F the pattern of frame F starts to drive the leg and SOURCE changes. -/
  | patternTakeover (dt : Nat) (k : Fin 24)
  /-- GATE_EDGE_DUE (R114): A scheduled gate edge reaches its tick and fine step and the leg's commanded gate state changes. -/
  | gateEdgeDue (dt : Nat) (n : Fin 96)
  /-- PATTERN_ECC_ERROR (R121): An uncorrectable error in pattern storage sends the leg block SAFE with cause PATTERN_ECC. -/
  | patternEccError (dt : Nat) (k : Fin 24)
  /-- BLOCK_ENTER_SAFE (R121): Within 32 ticks of a fault of Table 4-7 an enabled leg block enters SAFE and asserts its LEG_BLK line. -/
  | blockEnterSafe (dt : Nat) (k : Fin 24) (cause : Fin 7)
  /-- SHUTTER_CLOSE_REPORT (R116): The SHT distribution reports a leg block's wires closed, setting SHUTTER_HOLD and moving RUN or HOLD to ARMED. -/
  | shutterCloseReport (dt : Nat) (k : Fin 24)
  /-- REARM (R119): A write of BLK_CTRL.REARM moves a SAFE or Shutter-held leg block to ARMED, or records REARM_REFUSED. -/
  | rearm (dt : Nat) (src : Src) (k : Fin 24)
  /-- LINK_TRAIN (R147): A write of LINK_CTRL.TRAIN in DOWN or FAULT starts link bring-up, else records TRAIN_REFUSED. -/
  | linkTrain (dt : Nat) (src : Src) (k : Fin 24)
  /-- LINK_DOWN (R148): A write of LINK_CTRL.DOWN takes the link to DOWN, sending IMM safe-state frames first when leaving UP. -/
  | linkDown (dt : Nat) (src : Src) (k : Fin 24)
  /-- LINK_DESAT_CLR (R145): A write of LINK_CTRL.DESAT_CLR sends CFG DESAT_CLR for every set latch. -/
  | linkDesatClr (dt : Nat) (src : Src) (k : Fin 24)
  /-- LINK_RECAL (R139): A write of LINK_CTRL.RECAL starts a calibration at once. -/
  | linkRecal (dt : Nat) (src : Src) (k : Fin 24)
  /-- TRAIN_COMPLETE (R147): A locked and aligned receiver with valid CAPS takes the link from TRAIN to CAL. -/
  | trainComplete (dt : Nat) (k : Fin 24)
  /-- TRAIN_TIMEOUT (R147): TRAIN not completed in 10 ms, or CONFIG not completed in 1 ms, ends in FAULT with TRAIN_FAIL. -/
  | trainTimeout (dt : Nat) (k : Fin 24)
  /-- CAL_SEND (R138): The LLP sends a CAL frame with a new TAG in a slot where no edge frame waits. -/
  | calSend (dt : Nat) (k : Fin 24) (fine : Fin 8)
  /-- CAL_ECHO_TIMEOUT (R138): An exchange without a valid ECHO within 4,096 ticks is repeated with a new TAG. -/
  | calEchoTimeout (dt : Nat) (k : Fin 24)
  /-- CAL_COMPLETE (R138): After 2^CAL_LOG2N exchanges DOWN_DELAY is computed, CAL_DONE occurs and the link moves on or faults. -/
  | calComplete (dt : Nat) (k : Fin 24)
  /-- CAL_PERIOD_EXPIRE (R139): While UP, CAL_PERIOD ms after the last calibration a recalibration starts. -/
  | calPeriodExpire (dt : Nat) (k : Fin 24)
  /-- CFG_SEND (R145): The LLP sends a copy of a CFG frame in a slot where no edge frame waits, three copies per write. -/
  | cfgSend (dt : Nat) (k : Fin 24)
  /-- EDGE_FRAME_SEND (R135): The LLP launches an EDGE frame for the next gate edge in time order within DEPTH and the launch limit. -/
  | edgeFrameSend (dt : Nat) (k : Fin 24)
  /-- EDGE_LATE (R135): An edge that cannot start on the wire by its tick − (170 + U) is not sent and takes the link to FAULT with LATE. -/
  | edgeLate (dt : Nat) (k : Fin 24)
  /-- SYNC_SEND (R137): Once 4,096 ticks have passed since the last SYNC, the LLP starts a SYNC frame in the first free slot. -/
  | syncSend (dt : Nat) (k : Fin 24) (fine : Fin 8)
  /-- COMMA_SEND (R130): After 63 frames without a comma the LLP sends an IDLE frame, or a SYNC when due. -/
  | commaSend (dt : Nat) (k : Fin 24)
  /-- UPLINK_STATUS (R140): A valid STATUS frame passes its DESAT and SUP_FAULT bits to the leg cells. -/
  | uplinkStatus (dt : Nat) (k : Fin 24) (f : BitVec 60)
  /-- UPLINK_STATE (R140): A valid STATE frame reports gates, EDGE_LOST, Shutter view, TIMEOUT_SEEN, SYNC_ERR and DN_ERR. -/
  | uplinkState (dt : Nat) (k : Fin 24) (f : BitVec 60)
  /-- UPLINK_NTC (R140): A valid NTC frame delivers a leg's module temperature for latching. -/
  | uplinkNtc (dt : Nat) (k : Fin 24) (f : BitVec 60)
  /-- UPLINK_SUPPLY (R140): A valid SUPPLY frame delivers a gate-supply reading and flags. -/
  | uplinkSupply (dt : Nat) (k : Fin 24) (f : BitVec 60)
  /-- UPLINK_VCE (R140): A valid VCE frame delivers a VCE-on reading of one switch. -/
  | uplinkVce (dt : Nat) (k : Fin 24) (f : BitVec 60)
  /-- UPLINK_ECHO (R138): A valid ECHO frame completes one calibration exchange with its TAG and TURN. -/
  | uplinkEcho (dt : Nat) (k : Fin 24) (f : BitVec 60) (t1 : Nat)
  /-- UPLINK_CAPS (R147): A valid CAPS frame in TRAIN delivers a board capability value. -/
  | uplinkCaps (dt : Nat) (k : Fin 24) (f : BitVec 60)
  /-- UPLINK_INVALID (R128): An invalid uplink frame is discarded whole and counted toward ERR_RATE. -/
  | uplinkInvalid (dt : Nat) (k : Fin 24) (f : BitVec 60)
  /-- UP_TIMEOUT (R148): No valid uplink frame for 2 µs while UP takes the link to FAULT with UP_TIMEOUT. -/
  | upTimeout (dt : Nat) (k : Fin 24)
  /-- NTC_STALE (R142): No NTC frame for a leg for 200 µs makes its latched NTC invalid. -/
  | ntcStale (dt : Nat) (k : Fin 24) (i : Fin 4)
  /-- ADC_RESULT_READY (R154): 450 ticks after an accepted strobe the ADC result is delivered to both engines and RESULT[c], and limits are checked. -/
  | adcResultReady (dt : Nat) (n : Fin 12) (code : BitVec 14)
  /-- ADC_REF_FAULT (R158): The converter reference outside its window for 1 µs sets REF_FAULT and sends a fault to FLT[8]. -/
  | adcRefFault (dt : Nat) (n : Fin 12)
  /-- ADC_REF_OK (R158): The reference inside its window for 100 µs clears REF_FAULT. -/
  | adcRefOk (dt : Nat) (n : Fin 12)
  /-- DSF_RESULT_READY (R162): 16 ticks after a DSF SAMPLE the latched sinc output is delivered and written to RESULT. -/
  | dsfResultReady (dt : Nat) (n : Fin 32) (bits : List (Nat × Bool))
  /-- DSF_COMP_TRIP (R164): The comparator filter leaving its limits sets COMP_LO or COMP_HI and may assert the fault wire. -/
  | dsfCompTrip (dt : Nat) (n : Fin 32) (bits : List (Nat × Bool))
  /-- DSF_CLK_LOST (R163): No rising edge on an input clock pin for 2,500 ticks sets CLK_LOST. -/
  | dsfClkLost (dt : Nat) (pin : Fin 4)
  /-- DSF_STUCK (R165): STUCK consecutive equal bits set STUCK and invalidate the result. -/
  | dsfStuck (dt : Nat) (n : Fin 32) (bits : List (Nat × Bool))
  /-- DSF_SETTLED (R165): L bits after enable or clock restart SETTLING clears and SETTLED occurs. -/
  | dsfSettled (dt : Nat) (n : Fin 32) (bits : List (Nat × Bool))
  /-- CPL_TRANSITION (R167): A pilot transition at 0 V updates plateau levels, period, duty, flags and possibly STATE. -/
  | cplTransition (dt : Nat) (up : Bool) (samples : List (Nat × BitVec 16))
  /-- CPL_OSC_LOST (R167): No pilot transition for 3 ms clears OSC and reports the steady level. -/
  | cplOscLost (dt : Nat) (samples : List (Nat × BitVec 16))
  /-- CPL_S2 (R170): A write of CPL_CTRL.S2 drives the CP_S2 pin within 1 µs. -/
  | cplS2 (dt : Nat) (src : Src) (v : Bool)
  /-- CPL_RESULT_READY (R170): 16 ticks after a CPL SAMPLE the last complete pilot set is delivered. -/
  | cplResultReady (dt : Nat)
  /-- TSN_CONVERSION (R172): Every 10 µs TSN[r] completes a conversion of its next die sensor. -/
  | tsnConversion (dt : Nat) (r : Fin 8) (temp : BitVec 12) (ok : Bool)
  /-- TSN_RESULT_READY (R172): 16 ticks after a TSN SAMPLE the latest conversion of the named sensor is delivered. -/
  | tsnResultReady (dt : Nat) (r : Fin 8)
  /-- TRIP_CLR (R175): A write of TSN_CTRL.TRIP_CLR clears every TRIP of the page whose temperature is below TRIP − 3 K. -/
  | tripClr (dt : Nat) (src : Src) (r : Fin 8)
  /-- SLOT_SAMPLE_ARRIVE (R188): A sample reaching the engine enters every enabled slot bound to its source. -/
  | slotSampleArrive (dt : Nat)
  /-- RUN_START (R184): A lane serves its next launch request, checks the descriptor and loads the state window. -/
  | runStart (dt : Nat) (q : Quay) (l : Fin 8) (img : ImageRun)
  /-- NOP (R186): Instruction with no operation. -/
  | nop (dt : Nat) (q : Quay) (l : Fin 8)
  /-- LDS (R190): Instruction that returns the conditioned sample of a slot named by stamp, stalling until it arrives. -/
  | lds (dt : Nat) (q : Quay) (l : Fin 8)
  /-- LDS_RELEASE (R190): A stalled LDS is released when a sample with a qualifying stamp arrives. -/
  | ldsRelease (dt : Nat) (q : Quay) (l : Fin 8)
  /-- LDC (R186): Instruction that loads a coefficient value. -/
  | ldc (dt : Nat) (q : Quay) (l : Fin 8)
  /-- LDM (R186): Instruction that loads a state window word. -/
  | ldm (dt : Nat) (q : Quay) (l : Fin 8)
  /-- STM (R186): Instruction that stores a word into the state window. -/
  | stm (dt : Nat) (q : Quay) (l : Fin 8)
  /-- MOVI (R186): Instruction that loads an immediate. -/
  | movi (dt : Nat) (q : Quay) (l : Fin 8)
  /-- MULC (R193): Instruction that returns the rounded, saturated product of a register and a coefficient. -/
  | mulc (dt : Nat) (q : Quay) (l : Fin 8)
  /-- MULX (R193): Instruction that returns the rounded, saturated product of two registers. -/
  | mulx (dt : Nat) (q : Quay) (l : Fin 8)
  /-- MACC (R194): Instruction that accumulates a product into an accumulator. -/
  | macc (dt : Nat) (q : Quay) (l : Fin 8)
  /-- RDACC (R193): Instruction that reads out an accumulator rounded and saturated, optionally clearing it. -/
  | rdacc (dt : Nat) (q : Quay) (l : Fin 8)
  /-- CLRA (R186): Instruction that clears an accumulator. -/
  | clra (dt : Nat) (q : Quay) (l : Fin 8)
  /-- ADD (R195): Instruction giving the saturated sum of two registers. -/
  | add (dt : Nat) (q : Quay) (l : Fin 8)
  /-- SUB (R195): Instruction giving the saturated difference of two registers. -/
  | sub (dt : Nat) (q : Quay) (l : Fin 8)
  /-- ADDI (R195): Instruction giving the saturated sum of a register and an immediate. -/
  | addi (dt : Nat) (q : Quay) (l : Fin 8)
  /-- SHS (R195): Instruction that shifts a register left with saturation or right with rounding. -/
  | shs (dt : Nat) (q : Quay) (l : Fin 8)
  /-- MIN (R186): Instruction giving the signed minimum. -/
  | min (dt : Nat) (q : Quay) (l : Fin 8)
  /-- MAX (R186): Instruction giving the signed maximum. -/
  | max (dt : Nat) (q : Quay) (l : Fin 8)
  /-- ABS (R195): Instruction giving the saturated absolute value. -/
  | abs (dt : Nat) (q : Quay) (l : Fin 8)
  /-- NEG (R195): Instruction giving the saturated negation. -/
  | neg (dt : Nat) (q : Quay) (l : Fin 8)
  /-- CMP (R186): Instruction that sets Z and N from the exact difference. -/
  | cmp (dt : Nat) (q : Quay) (l : Fin 8)
  /-- AND (R186): Bitwise AND instruction. -/
  | and (dt : Nat) (q : Quay) (l : Fin 8)
  /-- OR (R186): Bitwise OR instruction. -/
  | or (dt : Nat) (q : Quay) (l : Fin 8)
  /-- XOR (R186): Bitwise XOR instruction. -/
  | xor (dt : Nat) (q : Quay) (l : Fin 8)
  /-- SINCOS (R196): Instruction giving the interpolated sine and cosine of a turn fraction. -/
  | sincos (dt : Nat) (q : Quay) (l : Fin 8)
  /-- DIV (R197): Instruction giving the saturated scaled quotient. -/
  | div (dt : Nat) (q : Quay) (l : Fin 8)
  /-- SQRT (R197): Instruction giving the Q31 square root. -/
  | sqrt (dt : Nat) (q : Quay) (l : Fin 8)
  /-- GETT (R198): Instruction that loads the launch tick, a boundary, an LDS stamp or a period. -/
  | gett (dt : Nat) (q : Quay) (l : Fin 8)
  /-- TADD (R186): Instruction that adds a register to a time register. -/
  | tadd (dt : Nat) (q : Quay) (l : Fin 8)
  /-- TADDI (R186): Instruction that adds an immediate to a time register. -/
  | taddi (dt : Nat) (q : Quay) (l : Fin 8)
  /-- TSUB (R186): Instruction giving the saturated difference of two times. -/
  | tsub (dt : Nat) (q : Quay) (l : Fin 8)
  /-- EDGE (R199): Instruction that sends an edge entry to a leg block's edge port. -/
  | edge (dt : Nat) (q : Quay) (l : Fin 8)
  /-- CLOSE (R199): Instruction that sends a CLOSE entry to a leg block's edge port. -/
  | close (dt : Nat) (q : Quay) (l : Fin 8)
  /-- VCMD (R266): Instruction that sends a command word with its launch tick to the VCL. -/
  | vcmd (dt : Nat) (q : Quay) (l : Fin 8)
  /-- MBX (R201): Instruction that writes one mailbox word. -/
  | mbx (dt : Nat) (q : Quay) (l : Fin 8)
  /-- MBX2 (R201): Instruction that writes an even-odd mailbox pair in one step. -/
  | mbx2 (dt : Nat) (q : Quay) (l : Fin 8)
  /-- TAP (R203): Instruction that writes a tap record when the launch tick lies in an open window. -/
  | tap (dt : Nat) (q : Quay) (l : Fin 8)
  /-- INJ (R202): Instruction that returns the value of an injection generator at the launch tick. -/
  | inj (dt : Nat) (q : Quay) (l : Fin 8)
  /-- BR (R186): Conditional branch instruction. -/
  | br (dt : Nat) (q : Quay) (l : Fin 8)
  /-- END (R184): Instruction that publishes the state window and ends the run. -/
  | endRun (dt : Nat) (q : Quay) (l : Fin 8)
  /-- RUN_OVERTIME (R185): A run reaching BUDGET cycles without END aborts with OVERTIME. -/
  | runOvertime (dt : Nat) (q : Quay) (l : Fin 8)
  /-- RUN_STALL_TIMEOUT (R185): A stall longer than STALL_LIMIT aborts the run. -/
  | runStallTimeout (dt : Nat) (q : Quay) (l : Fin 8)
  /-- RUN_UNCORR (R185): An uncorrectable error in law memory, coefficients or slots aborts the run and is a Quay fault. -/
  | runUncorr (dt : Nat) (q : Quay) (l : Fin 8)
  /-- COEF_COPY_DONE (R191): The copy of the new active coefficient bank into staging completes. -/
  | coefCopyDone (dt : Nat) (q : Quay)
  /-- LAWMEM_WRITE (R206): A write to law memory applies while ENG EN is 0, else counts in LAWMEM_WR_REJ. -/
  | lawmemWrite (dt : Nat) (src : Src) (q : Quay) (i : Fin 65536) (w : Word)
  /-- SIG_REQ (R206): A write of SIG_CTRL.SIG_REQ starts the CRC of law memory. -/
  | sigReq (dt : Nat) (src : Src) (q : Quay)
  /-- SIG_DONE (R206): The law memory CRC completes into LAWMEM_SIG. -/
  | sigDone (dt : Nat) (q : Quay)
  /-- MAILBOX_PAIR_READ (R201): A read of an even mailbox word copies the odd word into the reader's holding word. -/
  | mailboxPairRead (dt : Nat) (src : Src) (q : Quay) (i : Fin 256)
  /-- CAPTURE_WINDOW_CLOSE (R203): A capture-tap window reaches its end. -/
  | captureWindowClose (dt : Nat) (tap : Fin 16)
  /-- INJ_WINDOW_OPEN (R208): The Tide reaches START of an injection generator. -/
  | injWindowOpen (dt : Nat) (q : Quay) (g : Fin 4)
  /-- INJ_WINDOW_CLOSE (R208): The Tide reaches START + DURATION of an injection generator. -/
  | injWindowClose (dt : Nat) (q : Quay) (g : Fin 4)
  /-- SERIAL_FRAME_DONE (R245): A serial encoder request ends and the frame is checked and recorded valid or invalid. -/
  | serialFrameDone (dt : Nat) (n : Fin 8) (low : Bool) (bits : List Bool)
  /-- POS_WORDS_READY (R239): A position sample's words become ready and are delivered to the engines. -/
  | posWordsReady (dt : Nat) (n : Fin 8)
  /-- QUAD_EDGE (R247): A filtered quadrature change is counted or found illegal, updating runs, reversal and speed state. -/
  | quadEdge (dt : Nat) (n : Fin 8) (a b : Bool) (held : Nat)
  /-- QUAD_INDEX (R249): A qualified index records ZPOS and, under Z_MODE, reloads COUNT and sets REFERENCED. -/
  | quadIndex (dt : Nat) (n : Fin 8) (z : Bool) (held : Nat)
  /-- HALL_EDGE (R250): A filtered hall code change steps the sector count and angle or is an illegal transition. -/
  | hallEdge (dt : Nat) (n : Fin 8) (code : BitVec 3) (held : Nat)
  /-- STILL_TIMEOUT (R252): No counted edge for STILL_TICKS sets STILL. -/
  | stillTimeout (dt : Nat) (n : Fin 8)
  /-- POS_FAULT_CLR (R248): A write of POS_CTRL.FAULT_CLR clears ENC_FAULT and the illegal-transition history. -/
  | posFaultClr (dt : Nat) (src : Src) (n : Fin 8)
  /-- ZARM (R249): A write of POS_CTRL.ZARM arms the next index to reference COUNT. -/
  | zarm (dt : Nat) (src : Src) (n : Fin 8)
  /-- EMU_COUNT_STEP (R255): The emulated output moves one count towards its target after the required spacing. -/
  | emuCountStep (dt : Nat) (j : Fin 4)
  /-- VCL_CMD_ACCEPT (R266): A VCMD word reaches the VCL and is accepted, refused or discarded by source, kind and timing. -/
  | vclCmdAccept (dt : Nat)
  /-- VCL_EXT_FRAME (R271): A complete valid command frame on VCL_RX is taken as an external command. -/
  | vclExtFrame (dt : Nat) (w : Word) (crc : BitVec 8)
  /-- VCL_EXT_TIMEOUT (R272): EXT_TIMEOUT ms without a valid external frame sets EXT_LOST and aborts the active SET. -/
  | vclExtTimeout (dt : Nat)
  /-- VCL_ACK_SEND (R271): The VCL sends an acknowledgement frame on VCL_TX for an external command. -/
  | vclAckSend (dt : Nat)
  /-- CNV_START (R289): A write of CNV_CTRL.START in OFF takes CNV to TRACK at the next boundary. -/
  | cnvStart (dt : Nat) (src : Src)
  /-- CNV_STOP (R289): A write of CNV_CTRL.STOP takes CNV to OFF at the next boundary. -/
  | cnvStop (dt : Nat) (src : Src)
  /-- CNV_RESTART (R289): A write of CNV_CTRL.RESTART takes CNV from SHUTDOWN or FAULT to OFF. -/
  | cnvRestart (dt : Nat) (src : Src)
  /-- BRG_CARRIER_START (R294): A bridge cell's carrier period starts and its gates follow the commanded duty, cap and refresh rules. -/
  | brgCarrierStart (dt : Nat) (n : Fin 16)
  /-- BST_MEASURE (R297): Each microsecond VBST is measured and BST_UV set or cleared. -/
  | bstMeasure (dt : Nat) (n : Fin 16) (dv : BitVec 8)
  /-- CP_FAULT_SET (R299): Charge-pump output below its level for 10 µs sets CP_FAULT and the 98 % cap. -/
  | cpFaultSet (dt : Nat) (n : Fin 16)
  /-- CP_FAULT_CLEAR (R299): Charge-pump output in range for 1 ms clears CP_FAULT. -/
  | cpFaultClear (dt : Nat) (n : Fin 16)
  /-- VDS_DETECT (R300): A VDS comparator high for 625 ticks after blanking latches VDS, turns both gates off and asserts the fault wire. -/
  | vdsDetect (dt : Nat) (n : Fin 16) (high atBlank : Bool)
  /-- VDS_CLR (R300): A write of BRG_CTRL.VDS_CLR clears the latch of a gate whose comparator reads low. -/
  | vdsClr (dt : Nat) (src : Src) (n : Fin 16) (lowH lowL : Bool)
  /-- BRG_REARM (R296): A write of BRG_CTRL.REARM clears SHUT_HOLD of a DIRECT cell, or records REARM_REFUSED. -/
  | brgRearm (dt : Nat) (src : Src) (n : Fin 16)
  /-- SELFTEST (R304): A write of BRG_CTRL.SELFTEST while EN is 0 starts the comparator self-test. -/
  | selftest (dt : Nat) (src : Src) (n : Fin 16)
  /-- SELFTEST_DONE (R304): The self-test ends after 100,000 ticks with ST_RESULT, ST_PASS or ST_FAIL. -/
  | selftestDone (dt : Nat) (n : Fin 16) (result : BitVec 10)
  /-- VBR_MEASURE (R306): Every 10 µs the lead cell measures VBR[b] and judges the block supply limits. -/
  | vbrMeasure (dt : Nat) (b : Fin 4) (dv : BitVec 10)
  /-- SSC_START (R314): A write of SSC_CTRL.START in OFF clears SHUT_HOLD and enters LISTEN, else CTRL_REFUSED. -/
  | sscStart (dt : Nat) (src : Src) (u : Fin 5)
  /-- SSC_STOP (R319): A write of SSC_CTRL.STOP takes the unit to STOPPING. -/
  | sscStop (dt : Nat) (src : Src) (u : Fin 5)
  /-- SSC_FAULT_CLR (R319): A write of SSC_CTRL.FAULT_CLR takes the unit from FAULT to OFF. -/
  | sscFaultClr (dt : Nat) (src : Src) (u : Fin 5)
  /-- SSC_CARRIER_START (R309): The unit's common carrier period starts for its three cells. -/
  | sscCarrierStart (dt : Nat) (u : Fin 5)
  /-- LISTEN_END (R315): A 20 ms listen ends and Table 11-6 selects RUN, WAIT, BRAKE or ALIGN. -/
  | listenEnd (dt : Nat) (u : Fin 5)
  /-- ZERO_CROSSING (R312): An accepted back-EMF zero crossing updates T_s, speed, advance, the next commutation and the speed loop. -/
  | zeroCrossing (dt : Nat) (u : Fin 5) (phase : Fin 3) (rising : Bool)
  /-- STEP_LOST (R312): No crossing by e_next + T_s/2 commutes at once, counts a lost step and may fault STALL. -/
  | stepLost (dt : Nat) (u : Fin 5)
  /-- COMMUTATION (R310): The commutation tick is reached and the unit drives the next step, hard or softened. -/
  | commutation (dt : Nat) (u : Fin 5)
  /-- KE_SAMPLE (R318): The floating phase is sampled at the fixed angle and the back-EMF constant window is updated. -/
  | keSample (dt : Nat) (u : Fin 5) (v : BitVec 16)
  /-- BRAKE_END (R315): BRAKE_MS ends and a new listen starts. -/
  | brakeEnd (dt : Nat) (u : Fin 5)
  /-- ALIGN_END (R317): ALIGN_MS ends and the unit enters OPEN_LOOP. -/
  | alignEnd (dt : Nat) (u : Fin 5)
  /-- FORCED_STEP (R317): An open-loop forced step ends, the reference rises and lock or OL_MAX is judged. -/
  | forcedStep (dt : Nat) (u : Fin 5)
  /-- STOPPING_END (R319): STOPPING completes and the unit enters OFF. -/
  | stoppingEnd (dt : Nat) (u : Fin 5)
  /-- LOCKSTEP_MISMATCH (R326): A compared output of a core pair differs, the pair enters its safe state and the Quay faults. -/
  | lockstepMismatch (dt : Nat) (u : LockstepUnit)
  /-- LANE_MISMATCH (R328): A lane and its checker lane differ, the lane halts with blocked outputs and the Quay faults. -/
  | laneMismatch (dt : Nat) (q : Quay) (l : Fin 8)
  /-- COMP_TEST (R327): Every 1 ms an injected mismatch tests each comparator; a failed test is a mismatch. -/
  | compTest (dt : Nat) (q : Quay) (unit : Fin 10) (ok : Bool)
  /-- CORE_SCRUB (R330): Every 1,000,000 cycles a pair stops for 128 cycles and compares register signatures. -/
  | coreScrub (dt : Nat) (q : Quay) (pair : Fin 2) (ok : Bool)
  /-- LANE_SCRUB (R330): At the first idle cycle after each mark a lane and its checker compare register signatures. -/
  | laneScrub (dt : Nat) (q : Quay) (l : Fin 8) (ok : Bool)
  /-- DEBUG_HALT (R331): The debugger halts a pair, the checker halting at the same instruction. -/
  | debugHalt (dt : Nat)
  /-- DEBUG_RESUME (R331): The debugger resumes or steps a pair after the checker applies the replay queue. -/
  | debugResume (dt : Nat) (single : Bool)
  /-- DEBUG_REG_WRITE (R331): A debugger register write to a main core is queued for replay, or refused when the queue is full. -/
  | debugRegWrite (dt : Nat) (r : BitVec 8) (v : Word)
  /-- WD_KICK (R333): A write to WD_KICK restarts the watchdog if correct and timely, else fails with WD_EARLY. -/
  | wdKick (dt : Nat) (src : Src) (q : Quay) (w : Fin 4) (v : Word)
  /-- WD_TIMEOUT (R333): PERIOD passes without a correct kick and the watchdog fails with WATCHDOG. -/
  | wdTimeout (dt : Nat) (q : Quay) (w : Fin 4)
  /-- TOKEN_RELEASE (R335): The active Quay releases, or SF revokes, the ownership token and the Quay stops launching and sending. -/
  | tokenRelease (dt : Nat)
  /-- TAKEOVER (R343): At B_T the standby takes the token, routing and ACTIVE state with its last accepted snapshot. -/
  | takeover (dt : Nat)
  /-- SNAPSHOT_MARKER (R339): A snapshot marker arrives and, if byte count and CRC match, the standby accepts the snapshot. -/
  | snapshotMarker (dt : Nat) (chk : MarkerCheck)
  /-- SNAPSHOT_DEADLINE (R340): A snapshot not accepted before B_(n+2) is discarded; two consecutive misses put the standby out of step. -/
  | snapshotDeadline (dt : Nat)
  /-- SWITCH_REQ (R345): A write of SW_CTRL.SWITCH_REQ in DUAL starts a commanded switch-over, else SWITCH_REFUSED. -/
  | switchReq (dt : Nat) (src : Src) (q : Quay)
  /-- QUAY_RESET (R347): After a fault release the Quay restarts its region and enters BIST. -/
  | quayReset (dt : Nat) (q : Quay)
  /-- BIST_DONE (R347): A Quay's BIST ends, passing into RESYNC or the start-up path, or failing into FAILED. -/
  | bistDone (dt : Nat) (q : Quay) (pass : Bool)
  /-- BULK_COPY_DONE (R347): The bulk copy to a resynchronising Quay completes. -/
  | bulkCopyDone (dt : Nat)
  /-- SINGLE_EXPIRE (R349): The SINGLE_LIMIT timer expires and SINGLE_EXPIRED goes to FLT[8]. -/
  | singleExpire (dt : Nat)
  /-- STARTUP_TAKE (R351): At the first FG[0] boundary after its BIST passes the named Quay takes the token. -/
  | startupTake (dt : Nat)
  /-- MSG_SEND (R342): A write of MSG_CTRL.SEND copies MSG_TX into the Gangway FIFO, or records MSG_FULL. -/
  | msgSend (dt : Nat) (src : Src) (q : Quay)
  /-- MSG_ARRIVE (R342): A Gangway message arrives in the receiving Quay. -/
  | msgArrive (dt : Nat) (q : Quay)
  /-- MSG_POP (R342): A write of MSG_CTRL.POP discards the head received message. -/
  | msgPop (dt : Nat) (src : Src) (q : Quay)
  /-- LCK_FORCE (R354): A write of LCK_CTRL.FORCE injects a real mismatch into pair 0. -/
  | lckForce (dt : Nat) (src : Src) (q : Quay)
  /-- KERNEL_CYCLE (R357): Every 250 µs the safety kernel runs its cycle, processing demands, resets and channel B. -/
  | kernelCycle (dt : Nat) (us : BitVec 16)
  /-- SF_WATCHDOG (R357): No kernel cycle in 1 ms raises SF_INTERNAL. -/
  | sfWatchdog (dt : Nat)
  /-- FAULT_ASSERT (R375): A fault line or report reaches FLT[8], is latched, recorded and raises its reaction demand. -/
  | faultAssert (dt : Nat) (id : BitVec 8)
  /-- FLT_CLR (R375): A write of FLT_CLR clears a named fault whose line is low and which is clearable. -/
  | fltClr (dt : Nat) (src : Src) (id : BitVec 8)
  /-- FC_TEST (R377): Once per second each collector input stage is tested by a masked injection. -/
  | fcTest (dt : Nat) (failed : Bool)
  /-- SHT_DISTRIBUTE (R361): The SHT distribution gives cells the commanded Shutter state and mode within 250 ticks. -/
  | shtDistribute (dt : Nat)
  /-- SHT_WIRE_CLOSED (R358): A wire static for 34 µs reaches the closed state. -/
  | shtWireClosed (dt : Nat) (i : Fin 28) (b : Bool)
  /-- SHT_RUN_REPORT (R361): After four correct half-periods on both wires the distribution reports the block in run. -/
  | shtRunReport (dt : Nat) (i : Fin 28)
  /-- SHT_WIRE_FAULT (R362): A wire read-back that breaks its commanded pattern records SHT_WIRE and closes the pair. -/
  | shtWireFault (dt : Nat) (i : Fin 28) (a b : Bool)
  /-- STO_REQ (R364): A write of SAF_CTRL.STO_REQ latches a software STO demand for the named functions. -/
  | stoReq (dt : Nat) (src : Src) (mask : BitVec 7)
  /-- SS1_REQ (R364): A write of SAF_CTRL.SS1_REQ latches a software SS1 demand. -/
  | ss1Req (dt : Nat) (src : Src) (mask : BitVec 7)
  /-- SS1_EXPIRE (R363): SS1_TIME passes and the function enters STO. -/
  | ss1Expire (dt : Nat) (f : Fin 7)
  /-- SAF_RESET (R365): A write of SAF_CTRL.RESET, or the RESET_SRC input, reopens qualifying STO functions or records RESET_REFUSED. -/
  | safReset (dt : Nat) (src : Src)
  /-- SIN_FILTER_CHANGE (R369): A safe input channel completes its 1 ms filter at a new level and the pair's demand is updated. -/
  | sinFilterChange (dt : Nat) (i : Fin 16) (chB level rawA rawB : Bool)
  /-- SIN_DISCREPANT (R370): Channels disagreeing for more than DISC_MS make the pair DISCREPANT. -/
  | sinDiscrepant (dt : Nat) (i : Fin 16)
  /-- SIN_CHAN_LOST (R371): A TP-fed channel missing two off-pulses or in demand with its source off is lost. -/
  | sinChanLost (dt : Nat) (i : Fin 16) (chB : Bool)
  /-- SIN_FAULT_CLR (R374): A write of SIN_CTRL.FAULT_CLR ends a pair's degraded mode when both channels pass. -/
  | sinFaultClr (dt : Nat) (src : Src) (mask : BitVec 16)
  /-- DEGR_EXPIRE (R373): A degraded-mode timer expires and SIN_EXPIRED goes to FLT[8]. -/
  | degrExpire (dt : Nat) (i : Fin 16)
  /-- SOUT_CMD (R372): A write of SOUT_CMD commands the safe outputs on or off. -/
  | soutCmd (dt : Nat) (src : Src) (on : BitVec 8)
  /-- SOUT_TEST_PULSE (R372): An on output's 200 µs off-pulse is checked by read-back, or SOUT_FAULT forces it off. -/
  | soutTestPulse (dt : Nat) (j : Fin 8) (low high : Bool) (missA missB : BitVec 16)
  /-- SOUT_FAULT_CLR (R372): A write of SOUT_CTRL.FAULT_CLR clears an output fault when it reads back low while off. -/
  | soutFaultClr (dt : Nat) (src : Src) (mask high : BitVec 8)
  /-- SBC_RELEASE (R366): A write of SBC_CTRL.RELEASE releases the brake, or records RELEASE_REFUSED. -/
  | sbcRelease (dt : Nat) (src : Src)
  /-- SBC_ENGAGE (R366): A write of SBC_CTRL.ENGAGE engages the brake at any time. -/
  | sbcEngage (dt : Nat) (src : Src)
  /-- SBC_DELAY_EXPIRE (R366): With SBC_MODE 1, SBC_DELAY after an STO of the SBC scope engages the brake. -/
  | sbcDelayExpire (dt : Nat)
  /-- SBC_TEST_PULSE (R367): A brake switch test pulse is checked by read-back, or SBC_FAULT turns both switches off. -/
  | sbcTestPulse (dt : Nat) (low pulse : Bool) (rb : BitVec 2)
  /-- BT_START (R368): A write of SBC_CTRL.BT_START engages the brake and starts a brake test. -/
  | btStart (dt : Nat) (src : Src)
  /-- BT_SETTLE_END (R368): BT_SETTLE ends and the test window on LIVE_COUNT opens. -/
  | btSettleEnd (dt : Nat)
  /-- BT_WINDOW_END (R368): BT_TIME ends and the movement decides pass or fail. -/
  | btWindowEnd (dt : Nat)
  /-- BT_OVERDUE (R368): BT_INTERVAL operating hours pass without a passed test. -/
  | btOverdue (dt : Nat)
  /-- SEAL_READ (R381): Every 100 ms SEAL reads both channels and updates its state or raises SEAL. -/
  | sealRead (dt : Nat) (a b : BitVec 16)
  /-- SEAL_PROGRAM (R384): A write of SEAL_CTRL.PROGRAM latches the switch code and starts burning the next slot. -/
  | sealProgram (dt : Nat) (src : Src)
  /-- SEAL_PROG_DONE (R384): The slot burn completes or aborts on a changed code. -/
  | sealProgDone (dt : Nat) (a : BitVec 16)
  /-- PUSH_OPEN (R396): A write of PUSH_CTRL.OPEN opens a software packet, or is refused. -/
  | pushOpen (dt : Nat) (src : Src) (n : Fin 64) (corr : Nat)
  /-- PUSH_DATA (R396): A write of PUSH_DATA appends a payload word, held when the queue is full. -/
  | pushData (dt : Nat) (src : Src) (n : Fin 64) (v : Word) (corr : Nat)
  /-- PUSH_HOLD_EXPIRE (R396): A PUSH_DATA held 1,024 cycles completes with the word discarded and the packet truncated. -/
  | pushHoldExpire (dt : Nat) (n : Fin 64)
  /-- PUSH_CLOSE (R396): A write of PUSH_CTRL.CLOSE writes the length word and completes the packet. -/
  | pushClose (dt : Nat) (src : Src) (n : Fin 64) (corr : Nat)
  /-- PORT_WORD_WRITE (R397): A hardware producer's word enters its queue when a cell can be taken, or waits. -/
  | portWordWrite (dt : Nat) (i : Fin 8) (corr : Nat)
  /-- POP_DATA (R399): A read of POP_DATA returns and consumes the next payload word, retiring the packet at its last word. -/
  | popData (dt : Nat) (src : Src) (n : Fin 64) (ecc : Fin 3) (corr : Nat)
  /-- POP_SKIP (R399): A write of POP_CTRL.SKIP retires the head packet whole. -/
  | popSkip (dt : Nat) (src : Src) (n : Fin 64) (corr : Nat)
  /-- QUE_FLUSH (R401): A write of QUE_CTRL.FLUSH sets FLUSH_PEND until the flush point. -/
  | queFlush (dt : Nat) (src : Src) (n : Fin 64) (corr : Nat)
  /-- QUE_RESET (R402): A control-record or link copy mismatch resets the queue and discards its packets. -/
  | queReset (dt : Nat) (n : Fin 64) (uncorr : Nat)
  /-- SWEEP_DONE (R402): The cell sweep frees the cells of the resetting queues and RESETTING clears. -/
  | sweepDone (dt : Nat) (st : Fin 2) (bad : List Nat) (corr : List (Option (Fin 64))) (uncorr : Nat)
  /-- FREELIST_REBUILD (R403): A free-list pointer mismatch starts a rebuild sweep of the store. -/
  | freelistRebuild (dt : Nat) (st : Fin 2)
  /-- REBUILD_DONE (R403): The rebuild sweep completes and allocation resumes. -/
  | rebuildDone (dt : Nat) (st : Fin 2) (bad : List Nat) (corr : List (Option (Fin 64))) (uncorr : Nat)
  /-- CAN_RX_FRAME (R414): A received CAN frame is matched and stored in an object, shadow or queue port, or counted. -/
  | canRxFrame (dt : Nat) (n : Fin 6) (f : CanFrame)
  /-- CAN_SEND (R418): A write of OBJ_CTRL.SEND makes a send object PENDING or arms a window object. -/
  | canSend (dt : Nat) (src : Src) (n : Fin 6)
  /-- CAN_ABORT (R418): A write of OBJ_CTRL.ABORT clears PENDING with ABORTED. -/
  | canAbort (dt : Nat) (src : Src) (n : Fin 6) (bus : Bool)
  /-- CAN_TX_DONE (R418): A frame is sent without error, clearing PENDING with SENT. -/
  | canTxDone (dt : Nat) (n : Fin 6) (sof delay : Nat)
  /-- CAN_ATTEMPT_FAIL (R419): A failed attempt or lost arbitration leads to retransmission or ends the object. -/
  | canAttemptFail (dt : Nat) (n : Fin 6) (sof : Nat) (lost : Bool)
  /-- OBJ_CFG_WRITE (R413): A write to OBJ_CFG enables, disables or reconfigures an object under the enabled-object rules. -/
  | objCfgWrite (dt : Nat) (src : Src) (n : Fin 6) (v : Word) (bus : Bool)
  /-- OBJ_HEAD_READ (R416): A read of OBJ_HEAD of a receive object takes the read lock. -/
  | objHeadRead (dt : Nat) (src : Src) (n : Fin 6)
  /-- OBJ_LAST_READ (R416): A read of a frame's last word by the lock holder releases the lock and moves in the shadow. -/
  | objLastRead (dt : Nat) (src : Src) (n : Fin 6)
  /-- OBJ_RELEASE (R417): A write of OBJ_CTRL.RELEASE releases the lock leaving NEW set. -/
  | objRelease (dt : Nat) (src : Src) (n : Fin 6)
  /-- CAN_BUS_ERROR (R422): A bus error updates TEC, REC, STATE and LEC and may put the controller in BUS_OFF. -/
  | canBusError (dt : Nat) (n : Fin 6) (lec : Fin 8) (kind : CanErrorKind)
  /-- CAN_RECOVER (R423): A write of CAN_CTRL.RECOVER in BUS_OFF enters RECOVERING, else NOT_BUS_OFF. -/
  | canRecover (dt : Nat) (src : Src) (n : Fin 6)
  /-- CAN_RECOVERED (R423): After 128 occurrences of 11 recessive bits the controller returns to ACTIVE. -/
  | canRecovered (dt : Nat) (n : Fin 6)
  /-- CAN_TXQ_TAKE (R421): The queue send object takes the next packet from its queue as a frame. -/
  | canTxqTake (dt : Nat) (n : Fin 6) (corr bad : Nat)
  /-- REF_MSG_DUE (R426): At s_k the time master offers its reference message. -/
  | refMsgDue (dt : Nat) (n : Fin 6)
  /-- REF_MSG_DROP (R426): A reference message not sent by s_k + REF_PERIOD/2 is dropped. -/
  | refMsgDrop (dt : Nat) (n : Fin 6)
  /-- TT_WINDOW_OPEN (R429): An exclusive window opens and the object offers its frame. -/
  | ttWindowOpen (dt : Nat) (n : Fin 6) (j : Fin 128)
  /-- TT_WINDOW_END (R429): An exclusive window ends without SOF and the object reports MISSED. -/
  | ttWindowEnd (dt : Nat) (n : Fin 6) (j : Fin 128) (started : Bool)
  /-- ETH_RX_FRAME (R435): A received Ethernet frame is filtered, stamped and written as a packet, or dropped. -/
  | ethRxFrame (dt : Nat) (n : Fin 2) (stamp : Nat) (good : Bool) (bs : List Byte)
  /-- ETH_TX_FRAME (R437): The transmit port takes a packet as one frame and sends it, stamping it on request. -/
  | ethTxFrame (dt : Nat) (n : Fin 2) (stamp : Nat) (fine : Fin 8) (corr bad : Nat)
  /-- ETH_LINK_CHANGE (R434): The Ethernet link comes up or goes down. -/
  | ethLinkChange (dt : Nat) (n : Fin 2) (up : Bool)
  /-- SYNC_APPLY (R439): A write of SYNC_CTRL.APPLY renews XPAIR and the trim target if valid, else is refused. -/
  | syncApply (dt : Nat) (src : Src) (n : Fin 2)
  /-- BOOT_START (R441): After power-on reset the boot ROM reads and verifies the image header and places the SCB. -/
  | bootStart (dt : Nat) (img : BootImage)
  /-- BOOT_LOAD (R441): After both Quays leave BIST the QUAY section is loaded, verified and the cores released. -/
  | bootLoad (dt : Nat) (readOk : Bool) (bytes : List Byte)
  /-- BOOT_FAIL (R443): No image passes and the boot ends in HOLD. -/
  | bootFail (dt : Nat)
  /-- BOOT_ETH_FRAME (R444): An Ethernet boot frame in order is accepted and answered. -/
  | bootEthFrame (dt : Nat) (dest : BitVec 48) (etype : BitVec 16) (off : Word) (bs : List Byte)
  /-- BOOT_ETH_TIMEOUT (R444): An Ethernet image not complete within 10 s ends in HOLD. -/
  | bootEthTimeout (dt : Nat)
  /-- QUAY_RELOAD (R445): After a Quay restart the boot controller reloads and verifies its QUAY section. -/
  | quayReload (dt : Nat) (q : Quay)
  /-- QUAY_RELOAD_DONE (R445): The reload ends, releasing the cores or raising RELOAD_FAIL. -/
  | quayReloadDone (dt : Nat) (img : BootImage) (bs : List Byte)
  /-- ROLLBACK_BURN (R446): A write of FUSE_CTRL.ROLLBACK_BURN raises ROLLBACK_MIN to the running image. -/
  | rollbackBurn (dt : Nat) (src : Src)
  /-- REVOKE (R446): A write of FUSE_CTRL.REVOKE burns the revocation bits of named key slots. -/
  | revoke (dt : Nat) (src : Src) (mask : BitVec 4)
  /-- XSP_GO (R447): A write of XSP_CTRL.GO issues the flash command, or refuses it. -/
  | xspGo (dt : Nat) (src : Src)
  /-- XSP_CMD_DONE (R453): An xSPI command completes and CMD_DONE occurs. -/
  | xspCmdDone (dt : Nat) (data : List Byte)
  /-- DEBUG_PORT_OPEN (R448): The debug port opens or closes as its conditions change. -/
  | debugPortOpen (dt : Nat)
  /-- DBG_ATTACH (R449): A write of DBG_ATTACH by the debug port selects the attached main core. -/
  | dbgAttach (dt : Nat) (src : Src) (core : Fin 8)
  /-- SCAN_INSTRUCTION (R450): A boundary-scan instruction is accepted with all functions in STO, else BYPASS. -/
  | scanInstruction (dt : Nat) (ins : Fin 3)
  /-- TAP_RESET (R463): TRST_N or five TCK cycles with TMS high reset the TAP. -/
  | tapReset (dt : Nat)
  /-- POR_ASSERT (R455): A rail below its reset level or RESET_N low asserts power-on reset. -/
  | porAssert (dt : Nat) (k : Fin 5)
  /-- STRAP_LATCH (R465): The straps are sampled eight times before the release and latched, or the release is postponed. -/
  | strapLatch (dt : Nat) (last unstable : BitVec 16)
  /-- POR_RELEASE (R455): Rails above their reset levels for 2 ms release power-on reset and start the sequencer. -/
  | porRelease (dt : Nat)
  /-- SEQ_DOMAIN_ON (R459): The sequencer switches on the next domain of the start order. -/
  | seqDomainOn (dt : Nat) (good : Bool) (us : Fin 101)
  /-- SEQ_RETRY (R459): PD_SAFE or PD_TIDE not good within 100 µs holds reset 10 ms and restarts. -/
  | seqRetry (dt : Nat)
  /-- TIDE_START (R459): At the first TIDE edge after lock the Tide counts 0, the boot ROM starts and the Quays enter BIST. -/
  | tideStart (dt : Nat)
  /-- SUP_WARN (R455): A rail outside its warning window for 10 µs raises SUP_WARN. -/
  | supWarn (dt : Nat) (rail : Fin 4) (mv : BitVec 13)
  /-- DOM_ON_REQ (R457): A write of DOM_CTRL.ON_REQ switches a domain on, or records why not. -/
  | domOnReq (dt : Nat) (src : Src) (on off : BitVec 14)
  /-- DOM_OFF_REQ (R457): A write of DOM_CTRL.OFF_REQ isolates a permitted domain and opens its switch. -/
  | domOffReq (dt : Nat) (src : Src) (off : BitVec 14)
  /-- DOM_GOOD (R457): A switched-on domain reaches good and its pages hold reset values. -/
  | domGood (dt : Nat) (d : Fin 14) (us : Fin 101)
  /-- DOM_RAMP_TIMEOUT (R457): A domain not good within 100 µs is left off with DOM_FAULT. -/
  | domRampTimeout (dt : Nat) (d : Fin 14)
  /-- DOM_OUT_OF_RANGE (R458): A domain's supply below 90 % for 1 µs isolates it and sends PWR_DOM to FLT[8]. -/
  | domOutOfRange (dt : Nat) (d : Fin 14)
  /-- PLL_FAIL (R461): A PLL's lock loss or frequency error is signalled as its fault. -/
  | pllFail (dt : Nat) (i : Fin 6) (lost : Bool) (khz : BitVec 22)
  /-- SAFE_OSC_MISMATCH (R461): SAFE_OSC and REF differing by more than 5 % in two windows is SF_INTERNAL. -/
  | safeOscMismatch (dt : Nat) (khz : BitVec 18)
  /-- SYS_RESET (R464): A write of RST_CTRL.SYS_RESET with all functions in STO schedules power-on reset, else SYSRST_REFUSED. -/
  | sysReset (dt : Nat) (src : Src)
  /-- SYS_RESET_FIRE (R464): 1 ms after an accepted SYS_RESET power-on reset asserts with cause SYS_RESET. -/
  | sysResetFire (dt : Nat)
  /-- STRAP_CHANGED (R465): A strap pin's live level differing from the latch raises STRAP_CHANGED. -/
  | strapChanged (dt : Nat) (live : BitVec 16)
  /-- FINE_STEP_CALIBRATION (R69): A background calibration of the fine-step delay line completes and applies to each leg between two of its edges. -/
  | fineStepCalibration (dt : Nat)
  /-- CPL_STEADY_STATE (R168): While OSC is 0, the same new pilot state classified continuously for 3 ms changes STATE and writes a STATE record. -/
  | cplSteadyState (dt : Nat) (samples : List (Nat × BitVec 16))
  /-- DSF_CLK_REGAINED (R165): Rising edges return on an input DSM_CLK pin, CLK_LOST clears and SETTLING restarts. -/
  | dsfClkRegained (dt : Nat) (pin : Fin 4)
  /-- DSF_STUCK_CLEAR (R165): The first bit of the other value clears STUCK and restarts SETTLING. -/
  | dsfStuckClear (dt : Nat) (n : Fin 32) (bits : List (Nat × Bool))
  /-- DSF_COMP_RETURN (R164): The comparator filter returns inside COMP_LIM and the DSF fault wire to FLT[8] falls. -/
  | dsfCompReturn (dt : Nat) (n : Fin 32) (bits : List (Nat × Bool))
  /-- EMU_PASS_FOLLOW (R257): A filtered position input of a PASS source changes and the EMU output follows within the stated delay. -/
  | emuPassFollow (dt : Nat) (j : Fin 4)
  /-- CHANNEL_B_ENABLE_LAPSE (R378): Channel B's enable is not refreshed by a kernel cycle and channel B stops its run pattern within 500 µs. -/
  | channelBEnableLapse (dt : Nat)
  /-- EXT_FRAME_INVALID (R271): A gap longer than one bit time or a bad CRC discards a partial or invalid VCL_RX frame, counts EXT_ERR_CNT and makes the receiver search for 0xA5 again. -/
  | extFrameInvalid (dt : Nat)
  deriving DecidableEq, Repr

end Sys2Proof
end

