-- ==== Sys2Proof/Machine/State.lean ====
section
/-! DEFINITION. The state of the CA-6410 as plain data: its registers and byte memories, what each unit holds beyond its registers, the queue of waiting commands, and the state after reset. -/

namespace Sys2Proof.Machine

open Sys2Proof

/-- A machine fault. The chip never stops with one: every fault the manual describes is an effect on the state (an error code, a fault line, a safe reaction), so the type is empty. -/
inductive Fault
  deriving DecidableEq, Repr

/-- Why a command has no meaning. -/
inductive Refusal
  /-- Raised by the arm of a command that has no meaning yet; no arm raises it. Safe: the model stops where the hardware would go on. -/
  | notModelled (mnemonic : String)
  deriving DecidableEq, Repr

/-- A staged set copied at the acceptance of a GO (R54). -/
structure Snap where
  /-- ST words of the page: offset and staged value. -/
  words : List (Nat × Word)
  /-- Words of the staging bank of ACT or ENG, by offset, where they are not 0. -/
  bank : List (Nat × Word)
  /-- Boundaries left before the snapshot applies; 0 when it applies at acceptance. -/
  wait : Nat
  /-- Tide tick of acceptance. -/
  at_ : Nat
  /-- Requester of the GO. -/
  src : Nat
  /-- PAGE_CTRL.EN read 1 when the GO was accepted (R60). -/
  en : Bool
  /-- Result of the check of R57, none before it. -/
  ok : Option Bool
  deriving DecidableEq, Repr

/-- An access that a page holds until a copy or a reset completes (R53, R78, R191). -/
inductive Held
  | write (src : Src) (addr : Nat) (data : Word)
  | go (src : Src)
  deriving DecidableEq, Repr

/-- What a page holds beyond its registers. -/
structure PageSt where
  /-- Boundaries left before a pending EN = 1 takes effect, and its requester (R52). -/
  enWait : Option (Nat × Nat) := none
  /-- Time at which a soft reset completes (R53). -/
  srstDue : Option Nat := none
  /-- Snapshots accepted and not yet applied, oldest first (R54). -/
  snaps : List Snap := []
  /-- Tide tick at which a bank copy completes (R78, R191). -/
  copyDue : Option Nat := none
  /-- Accesses held, oldest first. -/
  held : List Held := []
  /-- Armed key sequences: requester and time of the first word (R63). -/
  armed : List (Nat × Nat) := []
  /-- Holder of the open key window and the time it opened (R64). -/
  holder : Option (Nat × Nat) := none
  /-- Offsets of LOCK-protected ST words written in the open window (R64). -/
  prot : List Nat := []
  /-- Holding words of R48: requester, offset of the HI word, value. -/
  holding : List (Nat × Nat × Word) := []
  /-- Requesters of an EVT_PEND clear whose interrupt line may not yet have fallen at the interrupt controller (R45). -/
  irqFall : List Nat := []
  /-- Time of the error that ERR_CODE.LAST shows (R66). -/
  errAt : Option Nat := none
  deriving DecidableEq, Repr

/-- One arbiter: of a region's entry, of the chip or of the Gangway (R29, R30), or of a block (R17). -/
structure ArbSt where
  /-- Requests raised and not yet granted: port and priority class. -/
  pend : List (Nat × Nat) := []
  /-- Age of each requester port that is not 0. -/
  age : List (Nat × Nat) := []
  /-- Port granted last in each class, for round robin. -/
  last : List (Nat × Nat) := []
  /-- Port, or cell of a block, granted by the latest decision. -/
  granted : Option Nat := none
  deriving DecidableEq, Repr

/-- One event record on its way to a Basin queue (Table 3-6). -/
structure Rec where
  words : List Word
  queue : Nat
  deriving DecidableEq, Repr

/-- One event-stream source (R34, R85). -/
structure StreamSt where
  /-- Records generated so far, modulo 2^16. -/
  seq : Nat := 0
  /-- Records dropped since the previous delivered one. -/
  lost : Nat := 0
  fifo : List Rec := []
  /-- Stamps of samples whose records are still to come (R87, R89). -/
  pend : List Nat := []
  /-- Records that wait for those of an earlier sample, oldest first: code, stamp, DATA0 and DATA1 (R87). -/
  later : List (Nat × Nat × Nat × Nat) := []
  deriving DecidableEq, Repr

/-- What the Tide holds beyond its registers. -/
structure TideSt where
  /-- Trim target that the EXT10M or GPTP servo asks for, ppb, before clipping (R72). -/
  servo : Int := 0
  /-- Due ticks of the actions executed in the last 128 ticks (R84). -/
  executed : List Nat := []
  /-- Entry index and due tick of the actions judged at the latest due tick (R83, R84). -/
  judged : List (Nat × Nat) := []
  /-- Entry index and due tick of dispatched actions (R80). -/
  dispatched : List (Nat × Nat) := []
  /-- Tide tick at which the active action bank became active (R82). -/
  bankAt : Nat := 0
  /-- Tide tick at which EN = 1 of ACT took effect (R82). -/
  enAt : Nat := 0
  /-- The reference was lost and has not returned; it has been valid since its mode was selected; the crystal is lost (Table 3-1). -/
  refLost : Bool := false
  refSeen : Bool := false
  xtalLost : Bool := false
  /-- Tide tick of the latest valid sync, and its RATE, ppb (Table 3-1, R439). -/
  syncAt : Nat := 0
  syncRate : Int := 0
  /-- Fine-step calibrations completed; a calibration applies to every leg at the moment it completes, which lies between two edges of each (R69). -/
  calib : Nat := 0
  /-- Time of the latest step of the applied trim (R72). -/
  slewAt : Nat := 0
  /-- Generators that have started and whose first boundary lies ahead (R75). -/
  firsts : List Nat := []
  deriving DecidableEq, Repr

/-- The three states of a leg (R95). -/
inductive LegState
  | off | high | low
  deriving DecidableEq, Repr

/-- One edge of a leg: its time in fine steps and the state it enters (R97). -/
structure LegEdge where
  t : Nat
  state : LegState
  deriving DecidableEq, Repr

/-- One gate edge: its time in fine steps, the gate (true: H) and its new level. -/
structure GateEdge where
  t : Nat
  high : Bool
  on : Bool
  deriving DecidableEq, Repr

/-- What a leg cell holds beyond its registers. -/
structure LegSt where
  /-- Last leg edges applied, after shaping (R102). -/
  applied : List LegEdge := []
  /-- Offsets from the boundary of the list that REPEAT repeats (R103). -/
  stored : List LegEdge := []
  /-- State and time at the end of the list applied last (R105). -/
  s0 : LegState := .off
  tl : Nat := 0
  /-- Gate edges not yet executed, in time order (R113). -/
  gates : List GateEdge := []
  /-- The source of rank 1 to 4 that drives the leg, none while its edges do (Table 4-5). -/
  rank : Option Nat := some 4
  /-- Times of the latest executed OFF edges of H and L (R111). -/
  offH : Nat := 0
  offL : Nat := 0
  /-- DT_HL of the governing set, as at the latest C_F since the lead's start (R105). -/
  gov : Option Nat := none
  deriving DecidableEq, Repr

/-- The pattern of one frame (R98). -/
structure Pattern where
  /-- Boundary B_F of its frame. -/
  bound : Nat
  /-- Edges in the order written, with the leg within the block. -/
  edges : List (Nat × LegEdge)
  closed : Bool
  /-- Invalid cause of LAST_MISS, none while valid. -/
  cause : Option Nat
  deriving DecidableEq, Repr

/-- What a leg block holds beyond its registers. -/
structure BlkSt where
  /-- Open patterns. -/
  pats : List Pattern := []
  /-- Boundary of the frame of the next close deadline and its fixed EARLIEST (R99). -/
  next : Option (Nat × Nat) := none
  /-- Tick and rank of a take-over that waits (R497). -/
  takeover : Option (Nat × Nat) := none
  /-- Rank 5 or 6 that drives the legs no higher rank drives; 0 while none has taken over (R497). -/
  rank : Nat := 0
  /-- The Shutter has acted since the block was last in RUN (Table 4-5, rank 3). -/
  imposed : Bool := false
  deriving DecidableEq, Repr

/-- A downlink frame: K-character, payload, CRC, the six ten-bit symbols, and the time of its first bit in fine steps (R127 to R129). -/
structure SentFrame where
  kchar : Nat
  payload : Word
  crc : Nat
  symbols : List Nat
  at8 : Nat
  deriving DecidableEq, Repr

/-- What a leg-link port holds beyond its registers (R127 to R152). -/
structure LinkSt where
  /-- Time of the latest entry to the present state. -/
  since : Nat := 0
  /-- CAPS indices received since the entry to TRAIN. -/
  caps : List (Nat × Nat) := []
  /-- Tag and t0 (fine steps) of the calibration exchange under way. -/
  cal : Option (Nat × Nat) := none
  /-- Next CAL tag. -/
  tag : Nat := 0
  /-- RTTs of the calibration under way; none when no calibration runs. -/
  rtts : Option (List Nat) := none
  /-- Tide tick at which the latest calibration ended. -/
  calAt : Nat := 0
  /-- Gate edges waiting to launch: leg and edge, with the strength code. -/
  edges : List (Nat × GateEdge × Nat) := []
  /-- Edges launched and not yet due: leg and time. -/
  outst : List (Nat × Nat) := []
  /-- Next ESEQ of each leg (R133). -/
  eseq : List (Nat × Nat) := []
  /-- CFG copies waiting: ADDR, DATA, copies left (R145). -/
  cfg : List (Nat × Nat × Nat) := []
  /-- Latest IMM frame: payload and copies sent (R136). -/
  imm : Option (Nat × Nat) := none
  /-- Frames since the latest comma, and tick of the latest SYNC start. -/
  commaGap : Nat := 0
  syncAt : Nat := 0
  /-- Latest frame sent. -/
  sent : Option SentFrame := none
  /-- The downlink is in electrical idle (Table 5-9), or no frame has been sent since. -/
  idle : Bool := true
  /-- Running disparity of the downlink and of the uplink: positive when true (R127). -/
  rdDn : Bool := false
  rdUp : Bool := false
  /-- Stamp of the latest valid uplink frame. -/
  heard : Nat := 0
  /-- Stamps of invalid frames and DN_ERR reports in the ERR_RATE window. -/
  errs : List Nat := []
  /-- Stamps of lost edges in the LOST_RATE window. -/
  lost : List Nat := []
  /-- The previous STATE frame reported SYNC_ERR. -/
  syncErr : Bool := false
  /-- Newest NTC of each leg: leg, stamp, temperature, VALID. -/
  ntc : List (Nat × Nat × Nat × Bool) := []
  /-- Newest supply of each side: 2 × leg + side, VPOS, flags. -/
  sup : List (Nat × Nat × Nat) := []
  /-- Newest VCE-on of each switch: 2 × leg + side, mV. -/
  vce : List (Nat × Nat) := []
  deriving DecidableEq, Repr

/-- What a fault line reports (Table 13-5). -/
structure FaultSt where
  /-- The cause that the record carries, where Table 13-5 gives one. -/
  cause : Nat := 0
  /-- The condition ends with the report, so the line falls once it is latched (R498). -/
  pulse : Bool := false
  /-- The line has asserted and the collector has not latched it yet (R375). -/
  pend : Bool := false
  deriving DecidableEq, Repr

/-- A sample on its way to the engines (R153, R188). -/
structure Sample where
  /-- Source block type, instance, channel and word. -/
  type : Nat
  inst : Nat
  chan : Nat
  word : Nat
  value : Word
  valid : Bool
  stamp : Nat
  deriving DecidableEq, Repr

/-- A conversion in progress: its input, due tick, and the settings that govern it (R153). -/
structure AdcConv where
  chan : Nat
  t : Nat
  bipolar : Bool
  limitFault : Bool
  lo : Nat
  hi : Nat
  deriving DecidableEq, Repr

/-- What a SAR converter holds beyond its registers. -/
structure AdcSt where
  /-- Tick of the previous accepted strobe (R155). -/
  last : Option Nat := none
  conv : Option AdcConv := none
  /-- Inputs whose latest result violates limits that drive the fault wire (R157). -/
  wires : List Nat := []
  deriving DecidableEq, Repr

/-- A SAMPLE of a delta-sigma input whose result is not ready yet: its due tick, and what was in force then: ORDER, OSR, and whether nothing but the bits made the result invalid (R153, R162, R165). -/
structure DsfDue where
  t : Nat
  order : Nat
  osr : Nat
  ok : Bool
  deriving DecidableEq, Repr

/-- What a delta-sigma input holds beyond its registers. -/
structure DsfSt where
  /-- SAMPLEs whose results are not ready yet, oldest first. -/
  due : List DsfDue := []
  /-- The latest 766 bits, newest first, with s_i: as many as the longest filter spans (R161). -/
  bits : List (Nat × Bool) := []
  /-- Clock edge of the newest bit. -/
  edge : Option Nat := none
  /-- Bits since SETTLING was set, up to 766, and consecutive bits of the newest value, up to 65,535 (R165). -/
  count : Nat := 0
  run : Nat := 0
  deriving DecidableEq, Repr

/-- What the control pilot holds beyond its registers. -/
structure CplSt where
  /-- Latest rising and falling transitions. -/
  rise : Option Nat := none
  fall : Option Nat := none
  /-- Latest transition. -/
  edge : Nat := 0
  /-- New state classified in consecutive periods, and how many (R168). -/
  cand : Option (Nat × Nat) := none
  /-- State classified while OSC is 0, and since when (R168). -/
  steady : Option (Nat × Nat) := none
  /-- The period last evaluated was outside the window of R169. -/
  freqErr : Bool := false
  /-- Transitions have stopped (OSC_LOST). -/
  lost : Bool := false
  /-- PERIOD, HIGH_TIME, LEVELS and DUTY of the last complete set (R170). -/
  set : List Nat := [0, 0, 0, 0]
  /-- Sets latched by SAMPLEs not ready yet, oldest first: due tick and words. -/
  due : List (Nat × List Nat) := []
  deriving DecidableEq, Repr

/-- A temperature source beyond its registers (R173 to R175). -/
structure TempSt where
  /-- No evaluation since a start or a pause. -/
  first : Bool := true
  /-- Tick of the latest evaluation, and the period fixed then (R173). -/
  last : Option (Nat × Nat) := none
  /-- Temperature of the latest evaluation, 2,047 when invalid. -/
  temp : Int := 2047
  /-- Dwell under way: direction up, and its start. -/
  dwell : Option (Bool × Nat) := none
  /-- Since when the WARN and FAST conditions have been false. -/
  warnLow : Option Nat := none
  fastLow : Option Nat := none
  deriving DecidableEq, Repr

/-- What a temperature page holds beyond its registers. -/
structure TsnSt where
  /-- Sensor that converts next (R172). -/
  next : Nat := 0
  /-- Consecutive evaluations in which each sensor differed from the median, and in which two sensors differed (R178). -/
  diff : List Nat := [0, 0, 0]
  pair : Nat := 0
  /-- Conversion latched by a SAMPLE not ready yet: due tick, sensor, temperature, VALID. -/
  due : List (Nat × Nat × Nat × Bool) := []
  deriving DecidableEq, Repr

/-- The flags of a lane (Table 7-1). -/
structure LaneFlags where
  z : Bool := false
  n : Bool := false
  v : Bool := false
  s : Bool := false
  deriving DecidableEq, Repr

/-- The set of one injection generator (Table 7-15). -/
structure InjSet where
  mode : Nat
  seed : Nat
  ampl : Nat
  inc : Nat
  phase : Nat
  start : Nat
  duration : Nat
  deriving DecidableEq, Repr

/-- A launch request: descriptor and launch tick, with what was in force at the launch tick: the enabled taps with their queues, the running frame generators with their latest boundary and period, and the sets of the injection generators (R183, R198, R202, R408). -/
structure Launch where
  law : Nat
  tL : Nat
  taps : List (Nat × Nat)
  fgs : List (Nat × Nat × Nat)
  inj : List InjSet := []
  /-- SHED_I of CNV in 0.1 A, and the leg blocks in SAFE at the launch tick (R279, R288). -/
  shedI : Nat := 0
  safe : List Nat := []
  deriving DecidableEq, Repr

/-- A run in progress (R182 to R185). -/
structure Run where
  launch : Launch
  fg : Nat
  state : Nat
  words : Nat
  budget : Nat
  stallLimit : Nat
  pc : Nat
  /-- Earliest cycle of the next issue, without stall cycles and state load. -/
  cyc : Nat
  /-- Tick at which the first instruction issues, and the ticks stalled since. -/
  start : Nat
  stalled : Nat
  /-- Stall under way: slot, named tick, destination register, tick of its start. -/
  stall : Option (Nat × Nat × Nat × Nat)
  /-- The LDS stamp register, in ticks. -/
  stamp : Nat
  /-- A law image that the run executes as a whole (R210, R263). -/
  img : ImageRun := .none
  deriving DecidableEq, Repr

/-- One lane (Table 7-1). -/
structure LaneSt where
  /-- Registers and window words written in the run; the others hold what a run starts with (log entry 7). -/
  x : SMap (Option Word) := []
  t : SMap (Option Nat) := []
  acc0 : Int := 0
  acc1 : Int := 0
  fl : LaneFlags := {}
  window : SMap (Option Word) := []
  /-- Cycle from which each resource is ready: X at 0, T at 64, ACC at 80, Z and N at 82, V at 83, S at 84, divider at 85, LDS stamp register at 86. -/
  ready : SMap Nat := []
  /-- Launch requests waiting, oldest first. -/
  queue : List Launch := []
  run : Option Run := none
  /-- The lane has halted on a checker mismatch (R328). -/
  halted : Bool := false
  deriving DecidableEq, Repr

/-- One sample in an input slot. -/
structure Held8 where
  value : Word
  valid : Bool
  stamp : Nat
  deriving DecidableEq, Repr

/-- One input slot: its last eight samples, oldest first, and the latest stamp overwritten (R188, R190). -/
structure SlotSt where
  held : List Held8 := []
  lost : Option Nat := none
  deriving DecidableEq, Repr

/-- One tap FIFO: records oldest first with their queue, and records dropped since the last delivered (R203). -/
structure TapSt where
  fifo : List Rec := []
  lost : Nat := 0
  deriving DecidableEq, Repr

/-- What an engine holds beyond its lanes. -/
structure EngSt where
  /-- Earlier coefficient banks with the tick at which each stopped being active (R191). -/
  banks : List (Nat × List (Nat × Word)) := []
  /-- Holding words of mailbox pairs: requester, even index, odd word (R201). -/
  holding : List (Nat × Nat × Word) := []
  /-- Latest window event of each injection generator: 2 × generator, + 1 for the end, and its tick (R208). -/
  edges : List (Nat × Nat) := []
  deriving DecidableEq, Repr

/-- An edge entry on its way from a lane to the edge port of a leg block (R187). -/
structure Entry where
  q : Quay
  lane : Nat
  block : Nat
  w0 : Word
  w1 : Word
  deriving DecidableEq, Repr


/-- What the traction law of one machine keeps in its state block (R232). Angles are electrical, 2^32 to one turn; rates are angles per 2^24 ticks; fluxes are 3 × the linkage in 5 × 10^−14 V·s. -/
structure TracSt where
  /-- Quay and launch tick of the run that wrote it; none before the first. -/
  ran : Option (Quay × Nat) := none
  /-- Last valid parameter block (R216). -/
  block : List Word := []
  /-- STATE, ANGLE_SRC and CAUSE (Tables 8-5, 8-6, 8-7). -/
  state : Nat := 0
  src : Nat := 0
  cause : Nat := 0
  /-- t_L of the last transition. -/
  trans : Nat := 0
  paramBad : Bool := false
  stale : Bool := false
  limited : Bool := false
  xchk : Bool := false
  psiWarn : Bool := false
  psiFault : Bool := false
  encLost : Bool := false
  identRefused : Bool := false
  /-- Attempts since the last loss, and whether a loss stands. -/
  tries : Nat := 0
  lost : Bool := false
  /-- CMD_SEQ of the previous run and consecutive runs with it (R217). -/
  seq : Nat := 0
  seqRuns : Nat := 0
  /-- Torque reference in 0.01 N·m / 2,500,000, and the current references per set in mA (R218). -/
  tq : Int := 0
  idRef : Int := 0
  iqRef : Int := 0
  /-- States of the current controllers (R230, R232). -/
  ctrl : List Word := []
  /-- ω_T in 0.1 rpm and as a rate, and the electrical angle at the launch tick (R221, R232). -/
  omega : Int := 0
  rate : Int := 0
  angle : Word := 0
  /-- Angle of the latest trusted frame, and the launch tick of its run (R221, R223). -/
  trustAngle : Word := 0
  trustAt : Nat := 0
  /-- The latest valid encoder sample and its stamp, and the speed from consecutive stamps (R219). -/
  enc : Option (Word × Nat) := none
  encRate : Int := 0
  /-- Encoder counted as lost; consecutive invalid and valid samples (R219). -/
  encOut : Bool := false
  encBad : Nat := 0
  encGood : Nat := 0
  /-- Stator flux of set 0, magnitude and angle of the active flux, and its speed; CONF as a Q31 number (R220). -/
  fluxA : Int := 0
  fluxB : Int := 0
  activeMag : Nat := 0
  obsAngle : Word := 0
  obsRate : Int := 0
  conf : Nat := 0
  /-- Kind of the latest edge of each leg before tick `lvAt`, and the edges written for later: leg, fine steps, KIND (R220). -/
  levels : List Nat := []
  lvAt : Nat := 0
  edges : List (Nat × Nat × Nat) := []
  /-- Angle of the current vector of set 0, its tick and its rotation, and the rotor angle taken from it; that angle agrees with its extrapolation (R224). -/
  arg : Option (Word × Nat) := none
  argRate : Int := 0
  theta : Option Word := none
  agree : Bool := false
  /-- Current vectors of the pulses of the catch: angle and amount, mA (R225). -/
  pulses : List (Word × Nat) := []
  /-- Reference speed of the open-loop start, 0.1 rpm / 250,000,000 (R227). -/
  ifSpeed : Int := 0
  /-- Consecutive runs below CONF_LOSS (R223); beyond ANG_XCHK and within it (R222); phase sums above the limit, by set (R228). -/
  lossRuns : Nat := 0
  xchkRuns : Nat := 0
  xchkGood : Nat := 0
  sumRuns : List Nat := []
  /-- Patterns written in the present ZERO, ASC or RECATCH state; consistent angles; observer locked runs. -/
  frames : Nat := 0
  hits : Nat := 0
  /-- ZERO ends in FAULT. -/
  toFault : Bool := false
  /-- FAULT holds the active short circuit. -/
  asc : Bool := false
  /-- ψ estimates summed over the qualifying frames of the window (R233). -/
  psiSum : Int := 0
  psiEst : Word := 0
  psiRatio : Nat := 0
  qual : Nat := 0
  /-- RS_EST, LD_EST, LQ_EST and their OK bits. -/
  est : List Word := [0, 0, 0]
  estOk : Nat := 0
  /-- The previous run lay in an injection window. -/
  inj : Bool := false
  deriving DecidableEq, Repr

/-- Words of a position sample that are not ready yet (R239): due tick, ready tick, words 0 to 4 with VALID. -/
structure PosWords where
  t : Nat
  ready : Nat
  words : List (Word × Bool)
  /-- Of a valid serial frame: its ANGLE, that of the last frame before it that passed causes 1 to 5, and the due tick of the valid frame before it (R245, R255). -/
  frame : Option (Word × Option Word × Option Nat)
  deriving DecidableEq, Repr

/-- What a position interface holds beyond its registers. -/
structure PosSt where
  /-- Filtered levels of POS_IN0 (bit 0) to POS_IN2 (bit 2). -/
  levels : Nat := 0
  /-- Serial request under way: due tick, and POS_CFG to SER_CHK as they governed it (R246). -/
  req : Option (Nat × List Word) := none
  /-- Clock of the latest serial request: due tick, HALF, and its final rising edge once it is known; none while POS_OUT idles since enable (R241). -/
  clock : Option (Nat × Nat × Option Nat) := none
  /-- First tick at which a serial SAMPLE is accepted again (R246). -/
  free : Nat := 0
  /-- Sampled words not yet ready. -/
  out : List PosWords := []
  /-- ANGLE of the last frame without causes 1 to 5 (R245); the latest frame, if there is one, was valid; consecutive invalid frames; due tick of the latest valid frame. -/
  passed : Option Word := none
  frameOk : Bool := true
  validAt : Option Nat := none
  bad : Nat := 0
  /-- Stamps of the edges of the current run of the last 2^24 ticks, newest first; its length up to 2; its first stamp (R251). -/
  run : List Nat := []
  runLen : Nat := 0
  runFirst : Nat := 0
  /-- Direction and stamp of the previous counted edge since enable. -/
  dir : Option Bool := none
  last : Option Nat := none
  /-- Stamps of the latest illegal transitions (R248). -/
  illegal : List Nat := []
  /-- ZARM written and no index since (R249). -/
  armed : Bool := false
  /-- Boundary of the last hall step since enable or FAULT_CLR (R250). -/
  hall : Option Nat := none
  deriving DecidableEq, Repr

/-- What an encoder output holds beyond its registers (R254 to R256). -/
structure EmuSt where
  /-- Source position in turns times 2^32, target and output counts, unwrapped. -/
  p : Int := 0
  t : Int := 0
  out : Int := 0
  /-- Spacing that the latest serial frame asks of output counts beside MIN_GAP, and tick of the latest count. -/
  gap : Nat := 0
  at_ : Option Nat := none
  /-- No invalid serial frame has come since the latest valid one (R256). -/
  based : Bool := true
  /-- A commit of the source has broken the condition of the mode. -/
  broken : Bool := false
  deriving DecidableEq, Repr

/-- A SET accepted and not yet applied: boundary, command word, source (Table 10-4). -/
structure VclSet where
  at_ : Nat
  word : Word
  src : Nat
  deriving DecidableEq, Repr

/-- What CNV and VCL hold beyond their registers (R264 to R272). -/
structure CnvSt where
  /-- SETs, REPORTs and TRACKREFs accepted, in order of acceptance. -/
  sets : List VclSet := []
  reports : List (Nat × Word) := []
  trackrefs : List (Nat × Word) := []
  /-- The active SET, and the target T in mV (R269). -/
  active : Option VclSet := none
  target : Nat := 0
  /-- Consecutive boundaries without a report, reports in band, reports low enough to shed, and boundaries of an announcement. -/
  miss : Nat := 0
  inband : Nat := 0
  shed : Nat := 0
  ann : Nat := 0
  /-- Control writes accepted, with the boundaries left: 0 START, 1 STOP, 2 RESTART (R289). -/
  ctrl : List (Nat × Nat) := []
  /-- RESTORE of WORD 2. -/
  restore : Bool := false
  /-- Latest valid external frame, and EXT_LOST not yet taken at a boundary (R272). -/
  heard : Nat := 0
  abort_ : Bool := false
  /-- Latest valid external frame, as EXT_OK counts it, and the records of EXT_LOST that wait for the boundary: 1 set, 0 cleared (R291, R292). -/
  okAt : Option Nat := none
  lostRecs : List Nat := []
  /-- REG_PARITY on the CNV page, not yet taken at a boundary (R281). -/
  parity : Bool := false
  /-- Acknowledgement frames waiting for VCL_TX, and the bytes of the latest one sent (R271). -/
  tx : List Word := []
  sent : List Nat := []
  deriving DecidableEq, Repr

/-- What the converter law keeps in its state block (R273 to R279). -/
structure ConvSt where
  /-- Total current of the previous run, mA. -/
  iSum : Option Int := none
  /-- Sums of the phase currents over the imbalance window, mA (R279). -/
  sums : List Int := []
  /-- Phases switching in the previous pattern with their rank offset, and HIGH edges that fall in the next frame: phase and fine steps from its boundary (R274). -/
  ranks : List (Nat × Nat) := []
  carry : List (Nat × Nat) := []
  /-- Consecutive runs at the end of tracking, and TRACKREF sent (R275). -/
  track : Nat := 0
  /-- Frames of the imbalance window, the latest means and IMB_RATIO (R279). -/
  frames : Nat := 0
  means : List Word := []
  ratio : Nat := 0
  deriving DecidableEq, Repr

/-- What the charger law keeps in its state block (R286, R288): its state, the input current set point in 0.1 A / 2,500,000, and the step per tick at which it ramps down after a loss of permission. -/
structure ChgSt where
  state : Nat := 0
  ref : Nat := 0
  rate : Nat := 0
  deriving DecidableEq, Repr

/-- What a bridge cell holds beyond its registers (R293 to R306). -/
structure BrgSt where
  /-- Gate edges planned and not yet executed, in ticks. -/
  plan : List GateEdge := []
  /-- Next start of the DIRECT carrier. -/
  carrier : Option Nat := none
  /-- Ticks of the latest OFF of GH and GL (R294). -/
  offH : Nat := 0
  offL : Nat := 0
  /-- Ticks of their latest ON commands, which restart blanking (R300). -/
  onH : Nat := 0
  onL : Nat := 0
  /-- Consecutive measurements of VBST beyond the level that changes BST_UV. -/
  bst : Nat := 0
  /-- Start, length and GH on-time of the present DIRECT period, while DSTATE PWM drives it (R294); end of the latest carrier period to which the 98 % cap applies, 0 before the first (R299). -/
  pwm : Option (Nat × Nat × Nat) := none
  capTo : Nat := 0
  /-- Periods since the latest refresh gap; none when there was none since BST_UV set. Start and end of that gap (R298). -/
  gapAge : Option Nat := none
  gap : Nat × Nat := (0, 0)
  /-- Tick at which the self-test ends. -/
  selftest : Option Nat := none
  /-- Consecutive measurements of VBR that contradict the supply state, on a lead page; the supply is outside its limits. -/
  sup : Nat := 0
  supBad : Bool := false
  deriving DecidableEq, Repr

/-- A crossing: tick, phase, rising. -/
abbrev Crossing := Nat × Nat × Bool

/-- What a six-step unit holds beyond its registers (R307 to R320). -/
structure SscSt where
  /-- Boundaries left before an accepted START applies (R314). -/
  start : Option Nat := none
  /-- Tick of entry to the present state. -/
  since : Nat := 0
  /-- Rank of the condition that gave the present state, and the state before the conditions of its tick (R320). -/
  rank : Nat := 0
  before : Nat := 0
  /-- Requester of the STOP that gave the present state. -/
  stopBy : Option Nat := none
  /-- Next carrier start (R309). -/
  carrier : Option Nat := none
  /-- Crossings of the listen. -/
  cross : List Crossing := []
  /-- Intervals between accepted crossings, newest first, at most six; the latest crossing; a step was lost since (R312). -/
  ints : List Nat := []
  z : Option Nat := none
  gone : Bool := false
  /-- T_s, which STEP_TICKS shows saturated (R312). -/
  ts : Nat := 0
  /-- Next commutation, expected crossing, consecutive lost steps, integrator and duty. -/
  comm : Option Nat := none
  next : Nat := 0
  lostRun : Nat := 0
  integ : Int := 0
  duty : Nat := 0
  /-- The cells are driven: the first commutation of RUN has come. -/
  driven : Bool := false
  /-- Commutation under way: S, periods so far, previous step (R310); and the tick at which the latest ended (R311). -/
  soft : Option (Nat × Nat × Nat) := none
  commEnd : Nat := 0
  /-- Windows of WAIT and BRAKE (R315). -/
  windows : Nat := 0
  /-- Forced steps: start of OPEN_LOOP, start and length of the present step, whether it is checked and has crossed, consecutive steps with a crossing (R317). -/
  olStart : Nat := 0
  stepAt : Nat := 0
  stepLen : Nat := 0
  checked : Bool := false
  crossed : Bool := false
  lockRun : Nat := 0
  /-- Terms of the back-EMF window, and whether the latest crossing still awaits its sample (R318). -/
  ke : List Nat := []
  keOpen : Bool := false
  /-- Tick of the first VDS latch of a cell (R303). -/
  vdsAt : Option Nat := none
  deriving DecidableEq, Repr

/-- State of a Quay before the acceptance of a snapshot: words by address, published law states, end boundary of the snapshot before it, deadlines missed. -/
structure SnapUndo where
  words : List (Nat × Word)
  tracs : List (Nat × TracSt)
  conv : ConvSt
  chg : ChgSt
  accepted : Option Nat
  missed : Nat
  deriving DecidableEq, Repr

/-- What one Quay's end of the Gangway holds beyond its registers (R338 to R342). -/
structure GwySt where
  /-- State blocks published since the last accepted snapshot: word offset in law memory, words, tick of END. -/
  blocks : List (Nat × List Word × Nat) := []
  /-- Law states published with them and the tick of END: traction by machine, converter, and the charger state (R232). -/
  tracs : List (Nat × TracSt × Nat) := []
  convs : List (ConvSt × Nat) := []
  chgs : List (ChgSt × Nat) := []
  /-- Markers sent and not accepted: COUNT of the frame, B_(n+1), and whether the snapshot has failed its checks (R339). -/
  marks : List (Nat × Nat × Bool) := []
  /-- Messages received, oldest first. -/
  inbox : List (List Word) := []
  /-- Messages sent and not yet arrived at the other Quay. -/
  flight : List (List Word) := []
  /-- Messages in flight whose burst the Gangway has granted (R28). -/
  granted : Nat := 0
  /-- End boundary of the latest snapshot accepted by this Quay. -/
  accepted : Option Nat := none
  /-- Consecutive snapshot deadlines missed. -/
  missed : Nat := 0
  /-- The bulk copy to this Quay has completed. -/
  copied : Bool := false
  /-- This Quay has missed two consecutive deadlines and has not been STANDBY since (R340). -/
  outOfStep : Bool := false
  /-- What the snapshot accepted last replaced, with the tick of its acceptance: a release at that very tick takes the previous snapshot (Table 12-5). -/
  undo : Option (Nat × SnapUndo) := none
  deriving DecidableEq, Repr


/-- What a Quay holds beyond its registers and its engine (R325 to R347). -/
structure QuaySt where
  /-- Time of the start or of the latest correct kick of each watchdog. -/
  wd : List Nat := [0, 0, 0, 0]
  /-- Pairs, or cores under CORE_SPLIT, that the debugger has halted, with the time of the halt. -/
  halted : List (Nat × Nat) := []
  /-- Replay queues of pair 0 and pair 1: register and value, oldest first. -/
  replay0 : List (Nat × Word) := []
  replay1 : List (Nat × Word) := []
  /-- Architectural registers written by the debugger: 256 × core + register. -/
  regs : SMap Word := []
  /-- Tick at which BIST passed while the Quay still waits for the start-up decision (R351). -/
  bist : Option Nat := none
  /-- Tick at which the resynchronisation started. -/
  resync : Nat := 0
  /-- A Quay fault has been detected in BIST, which then fails (R327, Table 12-2). -/
  bistBad : Bool := false
  deriving DecidableEq, Repr

/-- The redundancy of the chip, held in SF (R335 to R351). -/
structure RedSt where
  /-- A fault of the active Quay detected and not yet released: Quay, code, t_d. -/
  pend : Option (Quay × Nat × Nat) := none
  /-- The switch-over under way: old Quay, code, t_r, B_T. -/
  rel : Option (Quay × Nat × Nat × Nat) := none
  /-- B_s of an accepted SWITCH_REQ (R345). -/
  switchAt : Option Nat := none
  /-- Tick of the entry to SINGLE (R349). -/
  singleAt : Nat := 0
  deriving DecidableEq, Repr

/-- A complete packet: its cells in order (0 to 65,535 in the pool, from 65,536 in the capture store) and LEN (R392). -/
structure Pkt where
  cells : List Nat
  len : Nat
  deriving DecidableEq, Repr

/-- A packet open on the write side. -/
structure OpenPkt where
  cells : List Nat
  len : Nat
  trunc : Bool
  /-- Requester that holds a software packet. -/
  holder : Option Src
  /-- Producer code of Table 14-2 that writes it. -/
  prod : Nat
  /-- Further words are discarded up to CLOSE (R396). -/
  discard : Bool
  deriving DecidableEq, Repr

/-- A PUSH write (R396). -/
inductive PushOp
  | open_
  | data (v : Word)
  | close
  deriving DecidableEq, Repr

/-- What a queue holds beyond its registers (R391 to R402). -/
structure QueSt where
  /-- Complete packets, oldest first, and payload words read of the head. -/
  done : List Pkt := []
  read : Nat := 0
  opened : Option OpenPkt := none
  /-- A PUSH_DATA write that is held: its word and the tick at which it arrived (R396). -/
  held : Option (Word × Nat) := none
  /-- PUSH writes of the holder that wait behind it, oldest first (R396). -/
  waits : List (Src × PushOp) := []
  /-- A FLUSH waits for its flush point (R401). -/
  flush : Bool := false
  /-- Cells that the next sweep frees, their store, the queue is resetting, and the sweep that began serves it (R402). -/
  dead : List Nat := []
  deadStore : Nat := 0
  resetting : Bool := false
  swept : Bool := false
  /-- The handshake withheld at present has been counted in FULL_CNT. -/
  withheld : Bool := false
  /-- For coincidences with a flush point (Table 14-3): tick at which a SKIP retired a packet; tick at which a close set NOTICE; tick of the latest flush point, and the head that it discarded with one word left; tick of the latest flush point, and whether it set FLUSH_DONE. -/
  skipAt : Option Nat := none
  closeAt : Option Nat := none
  flushed : Option (Nat × Pkt) := none
  flushAt : Option (Nat × Bool) := none
  deriving DecidableEq, Repr

/-- A hardware producer port (R397): frames that wait as packets, oldest first, words of the first already written, frames lost since the previous packet, and the first frame is being discarded after a queue reset. -/
structure PortSt where
  frames : List (List Word) := []
  pos : Nat := 0
  lost : Bool := false
  discard : Bool := false
  deriving DecidableEq, Repr

/-- Who asked for a cell, with what returns to it if the cell goes to a lower queue index: an OPEN, a PUSH_DATA write with its word and the tick of its arrival, a port by producer code, an event-stream source, or a tap. -/
inductive Taker
  | opens (src : Src)
  | data (v : Word) (t : Nat)
  | port (code : Nat) (st : PortSt)
  | stream (id : Nat) (st : StreamSt)
  | tap (k : Nat) (st : TapSt)
  deriving DecidableEq, Repr

/-- A queue before an operation of tick `at_`, with the words of its page and of CAP.TAP_REC_CNT, and after it (Table 14-3). -/
structure QueUndo where
  at_ : Nat
  queue : Nat
  before : QueSt
  words : List (Nat × Word)
  after : QueSt
  deriving DecidableEq, Repr

/-- What one store holds beyond its cells (R402, R403): start of the sweep and of the rebuild under way, the cells in quarantine; the operation that took its last free cell, and the held writes given up in the latest tick in which one was (Table 14-3). -/
structure StoreSt where
  sweep : Option Nat := none
  rebuild : Option Nat := none
  quarantine : List Nat := []
  take : Option (QueUndo × Taker) := none
  gave : List QueUndo := []
  deriving DecidableEq, Repr

/-- What a message object holds beyond its window (R413 to R429). -/
structure ObjSt where
  /-- A frame that waits for the read lock to release (R415). -/
  shadow : Option CanFrame := none
  /-- Tick at which the object became PENDING, its failed attempts, and an ABORT that waits for the attempt on the bus (R418, R419). -/
  since : Nat := 0
  fails : Nat := 0
  abort_ : Bool := false
  /-- Armed for its exclusive windows; SOF stamp of the reference message of the window opened last, whether it is open, and whether its last attempt is on the bus at its end (R429). -/
  armed : Bool := false
  win : Option Nat := none
  winOpen : Bool := false
  last : Bool := false
  /-- OBJ_CFG with EN = 0 that waits for the attempt on the bus (R413). -/
  cfg : Option Word := none
  deriving DecidableEq, Repr

/-- What a CAN controller holds beyond its registers. -/
structure CanSt where
  /-- OBJ_SEL of each requester, where not 0 (R413). -/
  sel : List (Nat × Nat) := []
  /-- Next scheduled reference message; the one offered (s_k and the tick of the offer); s_k withdrawn; stamp of the previous reference message sent (R426 to R428). -/
  refNext : Option Nat := none
  refOffer : Option (Nat × Nat) := none
  yield : Option Nat := none
  refSent : Nat := 0
  /-- Frame taken from the transmit queue; the previous one ended in another way than those after which the next is taken (R421). -/
  txq : Option CanFrame := none
  txqStop : Bool := false
  /-- Tick from which the controller integrates on 11 recessive bits (R410, R424). -/
  integ : Option Nat := none
  /-- Place of the data-phase bit checks of the latest frame sent with delay compensation: measured delay + TDCO, in CAN clock cycles (R411). -/
  ssp : Option Nat := none
  /-- Ticks of the latest RECOVER and of the latest stop of the page (Table 15-6). -/
  recoverAt : Option Nat := none
  stopAt : Option Nat := none
  deriving DecidableEq, Repr

/-- What an Ethernet port holds beyond its registers: SYNC_TIDE of the previous accepted APPLY, and the frame sent last, with its padding and FCS (R437, R439). -/
structure EthSt where
  sync : Option Nat := none
  sent : List (BitVec 8) := []
  deriving DecidableEq, Repr

/-- Where the boot stands (R441 to R445). -/
inductive BootPhase
  | idle | copyB | header | failed | done | hold
  deriving DecidableEq, Repr

/-- What the boot controller, the fuses it reads and XSP hold beyond the registers of XSP. -/
structure BootSt where
  phase : BootPhase := .idle
  /-- Copy being loaded or booted: 0 A, 1 B, 2 Ethernet. -/
  copy : Nat := 0
  /-- Bytes of an Ethernet image received in order, tick of its first frame, and the latest answer: OFFSET and LEN (R444). -/
  image : List (BitVec 8) := []
  ethAt : Option Nat := none
  answer : Option (Nat × Nat) := none
  /-- Quays whose cores are released, by index (R441, R445). -/
  released : List Nat := []
  /-- Reloads waiting or running, in order of restart (R445). -/
  reloads : List Nat := []
  /-- Quays that have restarted and whose reload has not been ordered (R445). -/
  due : List Nat := []
  /-- A software command waits for the reload to end, or runs. -/
  cmdWait : Bool := false
  cmd : Bool := false
  /-- Header and key slot of the image that is loaded or runs (R441 to R447). -/
  header : List Word := []
  slot : Nat := 0
  /-- The command as GO issued it: XSP_CMD, XSP_ADDR and the words of XSP_DATA (R447). -/
  issued : Word × Word × List Word := (0, 0, [])
  deriving DecidableEq, Repr

/-- The fuses: anti-rollback counter, key slots programmed and revoked (R446), the key hash of each slot (R442), and the seal slots in order: code and digest of a programmed slot (R384). -/
structure FuseSt where
  rollback : Nat := 0
  prog : Nat := 1
  revoked : Nat := 0
  keys : List (List Word) :=
    [[0xD875DB7D#32, 0xEF232236#32, 0xAEC738C6#32, 0xB0BB3E80#32, 0x142F5D0F#32, 0xD8F4DF24#32, 0xFED6EEF5#32, 0xCBB50D9F#32], [], [], []]
  slots : List (Option (Nat × List Word)) := [none, none, none, none]
  deriving DecidableEq, Repr

/-- What the debug port holds beyond its registers: the boundary-scan instruction selected (0 BYPASS, 1 EXTEST, 2 INTEST, 3 CLAMP; R450, R463). -/
structure DbgSt where
  ir : Nat := 0
  deriving DecidableEq, Repr

/-- What the safety kernel and the Shutter master hold beyond their registers (R357 to R365). -/
structure SafSt where
  /-- Tick of the latest kernel cycle. -/
  kernelAt : Nat := 0
  /-- An SCB is placed; it is valid, so that its matrix applies (R382). -/
  placed : Bool := false
  valid : Bool := false
  /-- Software STO and SS1 requests latched, by function (R364). -/
  swSto : Nat := 0
  swSs1 : Nat := 0
  /-- Functions demanded since the latest kernel cycle, for which a reset is refused (R385). -/
  fresh : Nat := 0
  /-- End of SS1 of functions in SS1 (R363). -/
  ss1 : List (Nat × Nat) := []
  /-- A reset waits for the next kernel cycle, and its requester, 0xFF for a safe input (R365). -/
  reset : Option Nat := none
  /-- Blocks whose channel A and channel B wires are commanded closed: bit k leg block k, bit 24 + b bridge block b. -/
  chA : Nat := 0xFFFFFFF
  chB : Nat := 0xFFFFFFF
  /-- Blocks whose wire A and wire B the read-back shows in the closed state (R358). -/
  wireA : Nat := 0xFFFFFFF
  wireB : Nat := 0xFFFFFFF
  /-- Tick of the last edge of each wire whose run pattern has stopped: A wires at 0 to 27, B wires at 28 to 55 (R25, R358). -/
  edge : List Nat := List.replicate 56 0
  /-- Tick at which the run pattern of each pair started (R361), its half-period, nominally 40,000 ticks (R358), and the pairs whose wire A starts it high. -/
  openAt : List Nat := List.replicate 28 0
  half : List Nat := List.replicate 28 40000
  high : Nat := 0
  /-- The master's read-back (R362): tick of the latest sample of each pair, the levels it showed on wires A and B, tick of the sample at which each wire last showed an edge, and the sample since which a pair in the run state shows one level on both wires. -/
  sampAt : List (Option Nat) := List.replicate 28 none
  sampA : Nat := 0
  sampB : Nat := 0
  edgeSeen : List Nat := List.replicate 56 0
  same : List (Option Nat) := List.replicate 28 none
  /-- Tick at which the watchdog of the safety pair last fired; its next millisecond starts there (R357). -/
  watchAt : Nat := 0
  deriving DecidableEq, Repr

/-- What a safe input pair holds beyond its registers (R369 to R374). -/
structure SinSt where
  /-- Tick since which the channels disagree. -/
  apart : Option Nat := none
  /-- DISCREPANT has seen both channels in demand; tick at which the first of them returned to run. -/
  both : Bool := false
  back : Option Nat := none
  /-- Consecutive off-pulses missed by channel A and B. -/
  missA : Nat := 0
  missB : Nat := 0
  /-- Start of the degraded mode; ticks it has left when it is not running; tick at which it was left. -/
  since : Option Nat := none
  left : Option Nat := none
  outAt : Nat := 0
  deriving DecidableEq, Repr

/-- What the brake holds beyond its registers (R366 to R368). -/
structure BrakeSt where
  /-- Tick at which SBC_DELAY ends. -/
  delay : Option Nat := none
  /-- End of BT_SETTLE, or of BT_TIME; LIVE_COUNT at the start of the window, and the largest change seen. -/
  settle : Option Nat := none
  window : Option Nat := none
  start : Nat := 0
  move : Nat := 0
  /-- Operating ticks since the latest passed test. -/
  hours : Nat := 0
  deriving DecidableEq, Repr

/-- What SEAL holds beyond its registers (R381, R384). -/
structure SealSt where
  /-- Consecutive readings that agree with the seal; the code sealed. -/
  agree : Nat := 0
  code : Nat := 0
  /-- A reading has been made. -/
  seen : Bool := false
  /-- Code latched for the programming under way and the tick of its acceptance. -/
  prog : Option (Nat × Nat) := none
  /-- Fuse slots burnt since power-on reset, which apply only from the next one: bit i slot i (R384). -/
  burnt : Nat := 0
  deriving DecidableEq, Repr

/-- Where the power sequencer stands (R455 to R465). -/
structure SeqSt where
  /-- Strap samplings that disagreed at this reset. -/
  tries : Nat := 0
  /-- The straps have been latched at this reset. -/
  latched : Bool := false
  /-- Time of the release of power-on reset; none while it is held. -/
  released : Option Nat := none
  /-- Domains still to switch on, in start order. -/
  order : List Nat := []
  /-- Domains switched on and not yet good (R457). -/
  ramp : List Nat := []
  /-- Bit d: domain d is on; it is on and in range; the sequencer left it off (R456 to R459). -/
  on : Nat := 0
  good : Nat := 0
  leftOff : Nat := 0
  /-- Time at which an accepted SYS_RESET asserts power-on reset (R464). -/
  sysReset : Option Nat := none
  deriving DecidableEq, Repr

/-- Everything the chip holds but the queue of commands. -/
structure Chip where
  /-- Ticks of 0.4 ns since the model started; it also runs while the Tide does not (log entry 3). -/
  now : Nat := 0
  /-- The Tide (R68). -/
  tide : Tick := 0
  /-- The Tide counts. -/
  tideOn : Bool := false
  /-- The strap latch STRAP[15:0] (R12, R465). -/
  strap : BitVec 16 := 0
  /-- The ownership token, held in SF (R334). -/
  owner : Option Quay := none
  /-- Response code and read data of the latest interconnect access (R21). -/
  resp : Nat := 0
  rdata : Word := 0
  /-- Index of the next free value (log entry 6). -/
  free : Nat := 0
  /-- Every register word and word window, by address; an unlisted word reads `resetWord`. -/
  regs : SMap Word := []
  /-- Byte memories: Quay-local SRAMs, queue pool and capture memory; an unlisted byte reads 0. -/
  mem : List Host.Cell := []
  /-- What each page holds beyond its registers, by page address. -/
  pages : SMap PageSt := []
  /-- Arbiters: r for the arbiter of region r, 16 + r for the chip arbiter at its entry. -/
  arbs : SMap ArbSt := []
  /-- Event-stream sources, by SRC_ID. -/
  streams : SMap StreamSt := []
  /-- Leg cells, by n. -/
  legs : SMap LegSt := []
  /-- Leg blocks, by k. -/
  blks : SMap BlkSt := []
  /-- Leg-link ports, by k. -/
  links : SMap LinkSt := []
  /-- Reports at FLT[8], by fault ID. -/
  faults : SMap FaultSt := []
  /-- SAR converters. -/
  adcs : SMap AdcSt := []
  /-- Delta-sigma inputs. -/
  dsfs : SMap DsfSt := []
  /-- Temperature pages. -/
  tsns : SMap TsnSt := []
  /-- Temperature sources: r for region r, 8 + n for leg n. -/
  temps : SMap TempSt := []
  /-- Lanes: 8 × Quay + lane. -/
  lanes : SMap LaneSt := []
  /-- Input slots: 256 × Quay + slot. -/
  slotMem : SMap SlotSt := []
  /-- Tap FIFOs: 16 × Quay + tap. -/
  taps : SMap TapSt := []
  /-- Engines, by Quay. -/
  engs : SMap EngSt := []
  /-- Gangway ends, by Quay. -/
  gwys : SMap GwySt := []
  /-- Traction machines: 4 × Quay + machine. -/
  tracs : SMap TracSt := []
  /-- The converter law, by Quay. -/
  convs : SMap ConvSt := []
  /-- The charger law, by Quay (R286, R288). -/
  chgs : SMap ChgSt := []
  /-- Position interfaces. -/
  poss : SMap PosSt := []
  /-- Encoder outputs. -/
  emus : SMap EmuSt := []
  /-- Bridge cells. -/
  brgs : SMap BrgSt := []
  /-- Six-step units. -/
  sscs : SMap SscSt := []
  /-- Basin queues. -/
  ques : SMap QueSt := []
  /-- Cell stores: 0 pool, 1 capture store. -/
  stores : SMap StoreSt := []
  /-- Hardware producer ports, by producer code (Table 14-2). -/
  ports : SMap PortSt := []
  /-- CAN controllers. -/
  cans : SMap CanSt := []
  /-- Message objects: 128 × controller + object. -/
  objs : SMap ObjSt := []
  /-- Ethernet ports. -/
  eths : SMap EthSt := []
  /-- Safe input pairs. -/
  sins : SMap SinSt := []
  /-- The Quays, by index. -/
  quays : SMap QuaySt := []
  /-- What the Tide holds beyond its registers. -/
  tideSt : TideSt := {}
  /-- What the control pilot holds beyond its registers. -/
  cplSt : CplSt := {}
  /-- Samples delivered and not yet at the engines, oldest first. -/
  deliveries : List Sample := []
  /-- Edge entries that have left a lane and not yet reached their edge port. -/
  outbox : List Entry := []
  /-- VCMD words that have left a lane and not yet reached the VCL, with their lane and launch tick. -/
  vcmds : List (Quay × Nat × Word × Nat) := []
  /-- Capture-tap windows: tap, start and end (R203). -/
  capWins : List (Nat × Nat × Nat) := []
  /-- What CNV and VCL hold beyond their registers. -/
  cnvSt : CnvSt := {}
  /-- The boot controller (R441 to R447). -/
  bootSt : BootSt := {}
  /-- The fuses, which no reset changes. -/
  fuse : FuseSt := {}
  /-- The debug port. -/
  dbgSt : DbgSt := {}
  /-- The safety kernel and the Shutter master. -/
  safSt : SafSt := {}
  /-- The safe brake. -/
  brakeSt : BrakeSt := {}
  /-- The seal. -/
  sealSt : SealSt := {}
  /-- The power sequencer. -/
  seqSt : SeqSt := {}
  /-- The redundancy. -/
  redSt : RedSt := {}
  deriving DecidableEq, Repr

/-- The state of the block: the chip, and the commands that wait, first in first out. -/
structure State where
  chip : Chip
  pending : List Instr
  deriving DecidableEq, Repr

/-- The machine right after power-on reset is asserted for the first time: every register at the reset value of its table, no byte of memory written, the Tide not yet counting, and no command waiting. -/
def State.reset : State := { chip := {}, pending := [] }

end Sys2Proof.Machine
end

