-- ==== Sys2Proof/Config.lean ====
section
/-! DEFINITION. What the manual leaves open: free values and functions, of which no proof can see a value. -/

namespace Sys2Proof.Config

open Sys2Proof.Machine

/-- The `n`-th value that the manual leaves open (log entry 6). -/
opaque freeValue : Nat → Nat

/-- What a lane holds at the start of every run: X by number, T from 64, ACC from 80, the flags Z, N and V from 82, the LDS stamp register at 85, and the words of the state window from 128; at 86 the stamp of an LDS of a slot whose EN is 0 (log entry 7). -/
opaque runStart : Nat → Nat

/-! ### The arithmetic of the law images, which the manual does not give: functions of what R5 names (log entry 8) -/

/-- What an output of a law may depend on beside its state: the parameter block, the samples in the order of their reads (value, V, stamp), the value of its injection generator, and the launch tick (R5, R205). -/
structure LawInput where
  block : List Word
  samples : List (Word × Bool × Nat)
  inj : Word
  tL : Nat
  deriving DecidableEq, Repr

/-- What a run of the traction law computes by arithmetic that the manual does not give (R214 to R234). -/
structure TractionArith where
  /-- Cycles the run executes; its arithmetic saturates; the words of the state block it publishes, whose layout is not given. -/
  cycles : Nat
  sat : Bool
  words : List Word
  /-- Where the law's rounding puts a quantity against the exact one, from 0, one unit below, to 2, one unit above: speeds of the encoder and of the observer, angle of the observer, CONF, I_D, I_Q, ANGLE, ψ of the frame, TQ_REF. -/
  dev : List (Fin 3)
  /-- Half of the high time that the current controllers ask of each leg of the machine, in fine steps (R212, R213). -/
  half : List Int
  /-- States of the current controllers after the run (R232). -/
  ctrl : List Word
  /-- By how much the field-weakening loop lowers the d-axis current, mA; 0 while it does not act (R218). -/
  weaken : Nat
  /-- The current vector lets the law track the speed in ASC (R229). -/
  tracked : Bool
  /-- c of R220 while PSI_EST is 0, and ψ of a frame at zero speed (R233). -/
  conf : BitVec 16
  psi : Word
  /-- Reference angle at which an open-loop start begins (R227). -/
  angle : Word
  /-- RS, LD and LQ as a completed injection window gives them, each with its response and the noise measured (R234). -/
  est : List (Word × Nat × Nat)
  /-- TQ_EST (Table 8-6). -/
  tqEst : Word
  deriving DecidableEq, Repr, Inhabited

/-- What a run of the converter law computes by arithmetic that the manual does not give (R274, R275). -/
structure ConverterArith where
  cycles : Nat
  sat : Bool
  words : List Word
  /-- Time for which a switching phase is LOW, as the current loop asks for it, fine steps. -/
  onTime : Nat
  deriving DecidableEq, Repr, Inhabited

/-- What a run of the charger law computes by arithmetic that the manual does not give (R284 to R288). -/
structure ChargerArith where
  cycles : Nat
  sat : Bool
  words : List Word
  /-- Input current of a three-phase input, mA. -/
  iIn : Word
  /-- How far the current set point rises towards a higher limit, 0.1 A. -/
  rise : Nat
  /-- Edges of the PFC block: leg, fine steps from the boundary, KIND less 1. -/
  pfc : List (Fin 4 × Nat × Fin 3)
  /-- Where in the frame leg 0 of the primary bridge goes HIGH, fine steps, and the phase shift of the secondary. -/
  primary : Nat
  shift : Nat
  deriving DecidableEq, Repr, Inhabited

/-- The arithmetic of the traction law. -/
opaque traction : LawInput → TracSt → TractionArith

/-- The total current in mA that the voltage loop of the converter law asks for (R274). -/
opaque converterCurrent : LawInput → ConvSt → Int

/-- The arithmetic of the converter law for a total current reference in mA. -/
opaque converter : LawInput → ConvSt → Int → ConverterArith

/-- The reference of RATIOMETRIC tracking while MASTER_FINAL is 0, mV (R275). -/
opaque ratiometric : LawInput → Int

/-- The arithmetic of the charger law: V_BUS_REF and V_OUT_REQ in 0.1 V, I_OUT_REQ and the input current limit in 0.1 A are the set points that it regulates to (R284). -/
opaque charger : LawInput → ChgSt → (busRef vOut iOut iIn : Nat) → ChargerArith

/-- BAND of the charger, 0.1 V: R288 names it, and Table 10-11 gives it no field. -/
opaque chargerBand : Nat

end Sys2Proof.Config
end

