-- ==== Sys2Proof/Machine/RegField.lean ====
section
/-! DEFINITION. What a row of a field map is: place, access, reset value and the checks that its description states (R46, R57, R60, R67). -/

namespace Sys2Proof

/-- The access types of Table 2-3. -/
inductive Access
  | rw | ro | wo | w1c | w1s | rc | st
  deriving DecidableEq, Repr

/-- What zero means in the field (R60): stated or harmless, invalid, or judged by the range alone. -/
inductive ZeroRule
  | ok | invalid | asRange
  deriving DecidableEq, Repr

/-- Where a reset value marked S comes from (Table 17-7). -/
inductive StrapVal
  | none
  | bits (lo width : Nat)
  | framePeriod
  | linkRate
  | legSafe
  | supUv
  | supOv
  | nominalBrp
  | dataBrp
  | domainsOn
  deriving DecidableEq, Repr

/-- One field of a field map. Element `k` of an array lies in word `off + stride * (k / per)` at bit `lo + step * (k % per)`. -/
structure Field where
  off : Nat
  lo : Nat
  width : Nat
  acc : Access
  reset : Nat
  count : Nat
  stride : Nat
  per : Nat
  step : Nat
  lock : Bool
  zero : ZeroRule
  min : Nat
  max : Nat
  resv : Nat
  strap : StrapVal
  deriving DecidableEq, Repr

/-- Word offset of element `k`. -/
def Field.word (f : Field) (k : Nat) : Nat := f.off + f.stride * (k / f.per)

/-- Lowest bit of element `k`. -/
def Field.bit (f : Field) (k : Nat) : Nat := f.lo + f.step * (k % f.per)

/-- The value of an S field from the strap latch (Table 17-7). -/
def StrapVal.value (s : Nat) : StrapVal → Nat
  | .none => 0
  | .bits lo w => s / 2 ^ lo % 2 ^ w
  | .framePeriod => match s / 64 % 4 with
    | 0 => 12500
    | 1 => 25000
    | 2 => 50000
    | _ => 125000
  | .linkRate => if s / 256 % 4 = 3 then 1 else s / 256 % 4
  | .legSafe => if s / 16384 % 4 = 1 then 1 else 0
  | .supUv => if s / 4096 % 2 = 0 then 90 else 180
  | .supOv => if s / 4096 % 2 = 0 then 300 else 650
  | .nominalBrp => if s / 8192 % 2 = 0 then 1 else 3
  | .dataBrp => if s / 8192 % 2 = 0 then 0 else 1
  | .domainsOn => if s / 2048 % 2 = 0 then 0x1FFF else 0x3FFF

/-- The reset value of the field, S fields loaded from the strap latch (R12, R67). -/
def Field.resetVal (strap : Nat) (f : Field) : Nat :=
  match f.strap with
  | .none => f.reset
  | v => v.value strap

end Sys2Proof
end

