-- ==== Sys2Proof/Machine/RegChip.lean ====
section
/-! DEFINITION. Register fields of safety, Basin, communication and power (Tables 13-9, 13-13 to 13-16, 14-5 to 14-7, 15-7, 15-8, 16-4 to 16-6, 17-9 to 17-12).
One field a definition, with the offset, bits, access and reset value of its row; the docstring is the row. -/

namespace Sys2Proof.Reg

namespace SAF

/-- 0x040 SAF_STAT [0]: Latched STRAP[10] -/
def SAF_STAT_PROFILE : Field :=
  ⟨0x040, 0, 1, .ro, 0, 1, 4, 1, 0, false, .ok, 0, 1, 2, .bits 10 1⟩
/-- 0x040 SAF_STAT [1]: SEAL in SEALED -/
def SAF_STAT_SEALED : Field :=
  ⟨0x040, 1, 1, .ro, 0, 1, 4, 1, 0, false, .ok, 0, 1, 2, .none⟩
/-- 0x040 SAF_STAT [2]: Kernel running its cycle -/
def SAF_STAT_KERNEL_OK : Field :=
  ⟨0x040, 2, 1, .ro, 0, 1, 4, 1, 0, false, .ok, 0, 1, 2, .none⟩
/-- 0x044 FUNC_STAT [2f+1:2f]: Function f = 0 to 6: 0 RUN, 1 SS1, 2 STO; 3 not used -/
def FUNC_STAT_STATE : Field :=
  ⟨0x044, 0, 2, .ro, 2, 7, 4, 7, 2, false, .ok, 0, 3, 4, .none⟩
/-- 0x044 FUNC_STAT [22:16]: Bit f: a demand is present -/
def FUNC_STAT_DEMAND : Field :=
  ⟨0x044, 16, 7, .ro, 0, 1, 4, 1, 0, false, .ok, 0, 127, 128, .none⟩
/-- 0x048 SHUT_LEG [23:0]: Commanded closed, per leg block -/
def SHUT_LEG : Field :=
  ⟨0x048, 0, 24, .ro, 16777215, 1, 4, 1, 0, false, .ok, 0, 16777215, 16777216, .none⟩
/-- 0x04C SHUT_BRG [3:0]: Per bridge block -/
def SHUT_BRG : Field :=
  ⟨0x04C, 0, 4, .ro, 15, 1, 4, 1, 0, false, .ok, 0, 15, 16, .none⟩
/-- 0x050 WIRE_FAULT [23:0]: R362, per leg block -/
def WIRE_FAULT_LEG : Field :=
  ⟨0x050, 0, 24, .ro, 0, 1, 4, 1, 0, false, .ok, 0, 16777215, 16777216, .none⟩
/-- 0x050 WIRE_FAULT [27:24]: Per bridge block -/
def WIRE_FAULT_BRG : Field :=
  ⟨0x050, 24, 4, .ro, 0, 1, 4, 1, 0, false, .ok, 0, 15, 16, .none⟩
/-- 0x054 SAF_CTRL [6:0]: Bit f, R364 -/
def SAF_CTRL_STO_REQ : Field :=
  ⟨0x054, 0, 7, .w1s, 0, 1, 4, 1, 0, false, .ok, 0, 127, 128, .none⟩
/-- 0x054 SAF_CTRL [14:8]: Bit f -/
def SAF_CTRL_SS1_REQ : Field :=
  ⟨0x054, 8, 7, .w1s, 0, 1, 4, 1, 0, false, .ok, 0, 127, 128, .none⟩
/-- 0x054 SAF_CTRL [16]: R365 -/
def SAF_CTRL_RESET : Field :=
  ⟨0x054, 16, 1, .w1s, 0, 1, 4, 1, 0, false, .ok, 0, 1, 2, .none⟩
/-- 0x058 SS1_TIME [15:0]: SS1 delay; SEAL: at most SS1_MAX; 0 gives an immediate STO; LOCK-protected; resets to SS1_MAX of the SCB in use, o... -/
def SS1_TIME : Field :=
  ⟨0x058, 0, 16, .st, 0, 1, 4, 1, 0, true, .ok, 0, 65535, 65536, .none⟩
/-- 0x05C SS1_REMAIN [15:0]: Least time left among functions in SS1 -/
def SS1_REMAIN : Field :=
  ⟨0x05C, 0, 16, .ro, 0, 1, 4, 1, 0, false, .ok, 0, 65535, 65536, .none⟩
/-- 0x060 KERNEL [15:0]: Kernel release -/
def KERNEL_VERSION : Field :=
  ⟨0x060, 0, 16, .ro, 0, 1, 4, 1, 0, false, .ok, 0, 65535, 65536, .none⟩
/-- 0x060 KERNEL [31:16]: Longest cycle, µs -/
def KERNEL_CYCLE_MAX : Field :=
  ⟨0x060, 16, 16, .rc, 0, 1, 4, 1, 0, false, .ok, 0, 65535, 65536, .none⟩

/-- Every field of the SAF table, in table order. -/
def fields : List Field :=
    [ SAF_STAT_PROFILE, SAF_STAT_SEALED, SAF_STAT_KERNEL_OK, FUNC_STAT_STATE, FUNC_STAT_DEMAND,
    SHUT_LEG, SHUT_BRG, WIRE_FAULT_LEG, WIRE_FAULT_BRG, SAF_CTRL_STO_REQ, SAF_CTRL_SS1_REQ,
    SAF_CTRL_RESET, SS1_TIME, SS1_REMAIN, KERNEL_VERSION, KERNEL_CYCLE_MAX]

end SAF

namespace SIO

/-- 0x040–0x044 SIN_STAT0–1 [4p+3:4p]: Pair 8w + p: [0] A filtered, [1] B filtered, [2] DEMAND, [3] DISCREPANT -/
def SIN_STAT : Field :=
  ⟨0x040, 0, 4, .ro, 0, 16, 4, 8, 4, false, .ok, 0, 15, 16, .none⟩
/-- 0x048 SIN_LOST [15:0]: Channel A lost, per pair -/
def SIN_LOST_A : Field :=
  ⟨0x048, 0, 16, .ro, 0, 1, 4, 1, 0, false, .ok, 0, 65535, 65536, .none⟩
/-- 0x048 SIN_LOST [31:16]: Channel B lost -/
def SIN_LOST_B : Field :=
  ⟨0x048, 16, 16, .ro, 0, 1, 4, 1, 0, false, .ok, 0, 65535, 65536, .none⟩
/-- 0x04C DEGR [5:0]: Seconds; SEAL: at most DEGR_MAX; 0 fails with ZERO_INVALID; LOCK-protected -/
def DEGR : Field :=
  ⟨0x04C, 0, 6, .st, 10, 1, 4, 1, 0, true, .invalid, 0, 63, 64, .none⟩
/-- 0x050 DEGR_MIN [3:0]: Degraded pair with the least time left -/
def DEGR_MIN_PAIR : Field :=
  ⟨0x050, 0, 4, .ro, 0, 1, 4, 1, 0, false, .ok, 0, 15, 16, .none⟩
/-- 0x050 DEGR_MIN [31:16]: Its time left, 0.1 s; 0 when none is degraded -/
def DEGR_MIN_REMAIN : Field :=
  ⟨0x050, 16, 16, .ro, 0, 1, 4, 1, 0, false, .ok, 0, 65535, 65536, .none⟩
/-- 0x054 SIN_CTRL [15:0]: Per pair, R374 -/
def SIN_CTRL : Field :=
  ⟨0x054, 0, 16, .w1s, 0, 1, 4, 1, 0, false, .ok, 0, 65535, 65536, .none⟩
/-- 0x058 SOUT_CMD [7:0]: Commanded state per output -/
def SOUT_CMD : Field :=
  ⟨0x058, 0, 8, .rw, 0, 1, 4, 1, 0, false, .ok, 0, 255, 256, .none⟩
/-- 0x05C SOUT_STAT [7:0]: Read-back -/
def SOUT_STAT_LEVEL : Field :=
  ⟨0x05C, 0, 8, .ro, 0, 1, 4, 1, 0, false, .ok, 0, 255, 256, .none⟩
/-- 0x05C SOUT_STAT [15:8]: SOUT_FAULT -/
def SOUT_STAT_FAULT : Field :=
  ⟨0x05C, 8, 8, .ro, 0, 1, 4, 1, 0, false, .ok, 0, 255, 256, .none⟩
/-- 0x05C SOUT_STAT [23:16]: Forced off -/
def SOUT_STAT_FORCED : Field :=
  ⟨0x05C, 16, 8, .ro, 0, 1, 4, 1, 0, false, .ok, 0, 255, 256, .none⟩
/-- 0x060 SOUT_CTRL [7:0]: Per output, R372 -/
def SOUT_CTRL : Field :=
  ⟨0x060, 0, 8, .w1s, 0, 1, 4, 1, 0, false, .ok, 0, 255, 256, .none⟩
/-- 0x064 TP_FAIL_CNT [15:0]: Missed off-pulses; saturates -/
def TP_FAIL_CNT : Field :=
  ⟨0x064, 0, 16, .rc, 0, 1, 4, 1, 0, false, .ok, 0, 65535, 65536, .none⟩

/-- Every field of the SIO table, in table order. -/
def fields : List Field :=
    [ SIN_STAT, SIN_LOST_A, SIN_LOST_B, DEGR, DEGR_MIN_PAIR, DEGR_MIN_REMAIN, SIN_CTRL,
    SOUT_CMD, SOUT_STAT_LEVEL, SOUT_STAT_FAULT, SOUT_STAT_FORCED, SOUT_CTRL, TP_FAIL_CNT]

end SIO

namespace SEAL

/-- 0x040 SEAL_STAT [2:0]: 0 READING, 1 SEALED, 2 CODE_MISMATCH, 3 CHANNEL_FAULT, 4 HASH_MISMATCH, 5 SCB_INVALID, 6 UNSEALED; 7 not used -/
def SEAL_STAT_STATE : Field :=
  ⟨0x040, 0, 3, .ro, 0, 1, 4, 1, 0, false, .ok, 0, 7, 8, .none⟩
/-- 0x040 SEAL_STAT [5:4]: Active slot -/
def SEAL_STAT_SLOT : Field :=
  ⟨0x040, 4, 2, .ro, 0, 1, 4, 1, 0, false, .ok, 0, 3, 4, .none⟩
/-- 0x040 SEAL_STAT [8]: R384 -/
def SEAL_STAT_PROG_BUSY : Field :=
  ⟨0x040, 8, 1, .ro, 0, 1, 4, 1, 0, false, .ok, 0, 1, 2, .none⟩
/-- 0x040 SEAL_STAT [14:12]: 0 to 4 -/
def SEAL_STAT_SLOTS_FREE : Field :=
  ⟨0x040, 12, 3, .ro, 0, 1, 4, 1, 0, false, .ok, 0, 7, 8, .none⟩
/-- 0x044 SW_READ [15:0]: Latest decoded code, channel A -/
def SW_READ_CODE_A : Field :=
  ⟨0x044, 0, 16, .ro, 0, 1, 4, 1, 0, false, .ok, 0, 65535, 65536, .none⟩
/-- 0x044 SW_READ [31:16]: Channel B -/
def SW_READ_CODE_B : Field :=
  ⟨0x044, 16, 16, .ro, 0, 1, 4, 1, 0, false, .ok, 0, 65535, 65536, .none⟩
/-- 0x048 FUSE_CODE [15:0]: Code of the active slot -/
def FUSE_CODE : Field :=
  ⟨0x048, 0, 16, .ro, 0, 1, 4, 1, 0, false, .ok, 0, 65535, 65536, .none⟩
/-- 0x04C SEAL_CTRL [0]: R384; LOCK-protected -/
def SEAL_CTRL : Field :=
  ⟨0x04C, 0, 1, .w1s, 0, 1, 4, 1, 0, true, .ok, 0, 1, 2, .none⟩
/-- 0x050 XCHK [0]: R383 -/
def XCHK_PROFILE_OK : Field :=
  ⟨0x050, 0, 1, .ro, 0, 1, 4, 1, 0, false, .ok, 0, 1, 2, .none⟩
/-- 0x050 XCHK [1]: R383 -/
def XCHK_SPLIT_OK : Field :=
  ⟨0x050, 1, 1, .ro, 0, 1, 4, 1, 0, false, .ok, 0, 1, 2, .none⟩
/-- 0x050 XCHK [2]: R383 -/
def XCHK_DEBUG_OK : Field :=
  ⟨0x050, 2, 1, .ro, 0, 1, 4, 1, 0, false, .ok, 0, 1, 2, .none⟩
/-- 0x050 XCHK [3]: R383, including the SHORT-LOW check -/
def XCHK_LEG_SAFE_OK : Field :=
  ⟨0x050, 3, 1, .ro, 0, 1, 4, 1, 0, false, .ok, 0, 1, 2, .none⟩
/-- 0x400–0x5FC SCB0–127 [31:0]: The SCB in use, Table 13-10 -/
def SCB : Field :=
  ⟨0x400, 0, 32, .ro, 0, 128, 4, 1, 0, false, .ok, 0, 4294967295, 4294967296, .none⟩
/-- 0x600–0x7FC SCB_STAGE0–127 [31:0]: SCB to be programmed -/
def SCB_STAGE : Field :=
  ⟨0x600, 0, 32, .rw, 0, 128, 4, 1, 0, false, .ok, 0, 4294967295, 4294967296, .none⟩

/-- Every field of the SEAL table, in table order. -/
def fields : List Field :=
    [ SEAL_STAT_STATE, SEAL_STAT_SLOT, SEAL_STAT_PROG_BUSY, SEAL_STAT_SLOTS_FREE,
    SW_READ_CODE_A, SW_READ_CODE_B, FUSE_CODE, SEAL_CTRL, XCHK_PROFILE_OK, XCHK_SPLIT_OK,
    XCHK_DEBUG_OK, XCHK_LEG_SAFE_OK, SCB, SCB_STAGE]

end SEAL

namespace SBC

/-- 0x040 SBC_CTRL [0]: R366; LOCK-protected -/
def SBC_CTRL_RELEASE : Field :=
  ⟨0x040, 0, 1, .w1s, 0, 1, 4, 1, 0, true, .ok, 0, 1, 2, .none⟩
/-- 0x040 SBC_CTRL [1]: R366; not LOCK-protected -/
def SBC_CTRL_ENGAGE : Field :=
  ⟨0x040, 1, 1, .w1s, 0, 1, 4, 1, 0, false, .ok, 0, 1, 2, .none⟩
/-- 0x040 SBC_CTRL [2]: R368; LOCK-protected -/
def SBC_CTRL_BT_START : Field :=
  ⟨0x040, 2, 1, .w1s, 0, 1, 4, 1, 0, true, .ok, 0, 1, 2, .none⟩
/-- 0x044 SBC_STAT [1:0]: 0 ENGAGED, 1 RELEASED, 2 TESTING, 3 FAULT -/
def SBC_STAT_STATE : Field :=
  ⟨0x044, 0, 2, .ro, 0, 1, 4, 1, 0, false, .ok, 0, 3, 4, .none⟩
/-- 0x044 SBC_STAT [3:2]: [2] SBC_H, [3] SBC_L -/
def SBC_STAT_READBACK : Field :=
  ⟨0x044, 2, 2, .ro, 0, 1, 4, 1, 0, false, .ok, 0, 3, 4, .none⟩
/-- 0x044 SBC_STAT [5:4]: 0 none, 1 pass, 2 fail, 3 refused or aborted -/
def SBC_STAT_BT_RESULT : Field :=
  ⟨0x044, 4, 2, .ro, 0, 1, 4, 1, 0, false, .ok, 0, 3, 4, .none⟩
/-- 0x044 SBC_STAT [6]: R368 -/
def SBC_STAT_BT_OVERDUE : Field :=
  ⟨0x044, 6, 1, .ro, 0, 1, 4, 1, 0, false, .ok, 0, 1, 2, .none⟩
/-- 0x048 BT_CFG [2:0]: POS instance; LOCK-protected -/
def BT_CFG_BT_POS : Field :=
  ⟨0x048, 0, 3, .st, 0, 1, 4, 1, 0, true, .ok, 0, 7, 8, .none⟩
/-- 0x048 BT_CFG [15:8]: ms, 1 to 255; 0 fails with ZERO_INVALID; LOCK-protected -/
def BT_CFG_BT_SETTLE : Field :=
  ⟨0x048, 8, 8, .st, 20, 1, 4, 1, 0, true, .invalid, 0, 255, 256, .none⟩
/-- 0x048 BT_CFG [31:16]: ms, 1 to 65,535; 0 fails with ZERO_INVALID; LOCK-protected -/
def BT_CFG_BT_TIME : Field :=
  ⟨0x048, 16, 16, .st, 1000, 1, 4, 1, 0, true, .invalid, 0, 65535, 65536, .none⟩
/-- 0x04C BT_STAT [15:0]: Counts moved in the last test -/
def BT_STAT_MOVE : Field :=
  ⟨0x04C, 0, 16, .ro, 0, 1, 4, 1, 0, false, .ok, 0, 65535, 65536, .none⟩
/-- 0x04C BT_STAT [31:16]: To BT_INTERVAL; 0 when the interval is 0 -/
def BT_STAT_HOURS_LEFT : Field :=
  ⟨0x04C, 16, 16, .ro, 0, 1, 4, 1, 0, false, .ok, 0, 65535, 65536, .none⟩
/-- 0x050 BT_TQ [31:0]: Declared test torque, 0.01 N·m -/
def BT_TQ : Field :=
  ⟨0x050, 0, 32, .rw, 0, 1, 4, 1, 0, false, .ok, 0, 4294967295, 4294967296, .none⟩

/-- Every field of the SBC table, in table order. -/
def fields : List Field :=
    [ SBC_CTRL_RELEASE, SBC_CTRL_ENGAGE, SBC_CTRL_BT_START, SBC_STAT_STATE, SBC_STAT_READBACK,
    SBC_STAT_BT_RESULT, SBC_STAT_BT_OVERDUE, BT_CFG_BT_POS, BT_CFG_BT_SETTLE, BT_CFG_BT_TIME,
    BT_STAT_MOVE, BT_STAT_HOURS_LEFT, BT_TQ]

end SBC

namespace FLT8

/-- 0x040–0x05C ACTIVE0–7 [31:0]: Bit j of word w: fault 32w + j active -/
def ACTIVE : Field :=
  ⟨0x040, 0, 32, .ro, 0, 8, 4, 1, 0, false, .ok, 0, 4294967295, 4294967296, .none⟩
/-- 0x060–0x07C RAW0–7 [31:0]: Present line state -/
def RAW : Field :=
  ⟨0x060, 0, 32, .ro, 0, 8, 4, 1, 0, false, .ok, 0, 4294967295, 4294967296, .none⟩
/-- 0x080 FIRST [7:0]: First fault since power-on reset -/
def FIRST : Field :=
  ⟨0x080, 0, 8, .ro, 0, 1, 4, 1, 0, false, .ok, 0, 255, 256, .none⟩
/-- 0x084 FIRST_TIDE_LO [31:0]: Its stamp, bits [31:0] -/
def FIRST_TIDE_LO : Field :=
  ⟨0x084, 0, 32, .ro, 0, 1, 4, 1, 0, false, .ok, 0, 4294967295, 4294967296, .none⟩
/-- 0x088 FIRST_TIDE_HI [31:0]: Bits [63:32], holding rule of R48 -/
def FIRST_TIDE_HI : Field :=
  ⟨0x088, 0, 32, .ro, 0, 1, 4, 1, 0, false, .ok, 0, 4294967295, 4294967296, .none⟩
/-- 0x08C FLT_CLR [7:0]: Clear under R375; LOCK-protected -/
def FLT_CLR : Field :=
  ⟨0x08C, 0, 8, .wo, 0, 1, 4, 1, 0, true, .ok, 0, 255, 256, .none⟩
/-- 0x090 FC_STAT [0]: Every input stage passed its latest test -/
def FC_STAT_TEST_OK : Field :=
  ⟨0x090, 0, 1, .ro, 0, 1, 4, 1, 0, false, .ok, 0, 1, 2, .none⟩
/-- 0x090 FC_STAT [31:16]: Test rounds; wraps -/
def FC_STAT_TEST_CNT : Field :=
  ⟨0x090, 16, 16, .ro, 0, 1, 4, 1, 0, false, .ok, 0, 65535, 65536, .none⟩
/-- 0x100–0x1FC MATRIX0–63 [31:0]: Applied matrix, SCB words 64 to 127 -/
def MATRIX : Field :=
  ⟨0x100, 0, 32, .ro, 0, 64, 4, 1, 0, false, .ok, 0, 4294967295, 4294967296, .none⟩

/-- Every field of the FLT8 table, in table order. -/
def fields : List Field :=
    [ ACTIVE, RAW, FIRST, FIRST_TIDE_LO, FIRST_TIDE_HI, FLT_CLR, FC_STAT_TEST_OK,
    FC_STAT_TEST_CNT, MATRIX]

end FLT8

namespace BSN

/-- 0x040 POOL_STAT [16:0]: Free pool cells -/
def POOL_STAT_FREE : Field :=
  ⟨0x040, 0, 17, .ro, 65536, 1, 4, 1, 0, false, .ok, 0, 131071, 131072, .none⟩
/-- 0x040 POOL_STAT [31]: Under R403 -/
def POOL_STAT_REBUILD : Field :=
  ⟨0x040, 31, 1, .ro, 0, 1, 4, 1, 0, false, .ok, 0, 1, 2, .none⟩
/-- 0x044 CAPT_STAT [16:0]: Free capture cells -/
def CAPT_STAT_FREE : Field :=
  ⟨0x044, 0, 17, .ro, 32768, 1, 4, 1, 0, false, .ok, 0, 131071, 131072, .none⟩
/-- 0x044 CAPT_STAT [31]: Under R403 -/
def CAPT_STAT_REBUILD : Field :=
  ⟨0x044, 31, 1, .ro, 0, 1, 4, 1, 0, false, .ok, 0, 1, 2, .none⟩
/-- 0x048 POOL_RSV [16:0]: Sum of pool RESERVE -/
def POOL_RSV : Field :=
  ⟨0x048, 0, 17, .ro, 0, 1, 4, 1, 0, false, .ok, 0, 131071, 131072, .none⟩
/-- 0x04C CAPT_RSV [16:0]: Sum of capture RESERVE -/
def CAPT_RSV : Field :=
  ⟨0x04C, 0, 17, .ro, 0, 1, 4, 1, 0, false, .ok, 0, 131071, 131072, .none⟩
/-- 0x050 LOW_MARK [16:0]: POOL_LOW while FREE is below it; 0 means never -/
def LOW_MARK : Field :=
  ⟨0x050, 0, 17, .st, 0, 1, 4, 1, 0, false, .ok, 0, 131071, 131072, .none⟩
/-- 0x054 LOW_MARK_C [16:0]: CAPT_LOW likewise; 0 means never -/
def LOW_MARK_C : Field :=
  ⟨0x054, 0, 17, .st, 0, 1, 4, 1, 0, false, .ok, 0, 131071, 131072, .none⟩
/-- 0x058 CORR_CNT [31:0]: Corrected words, both stores; saturates -/
def CORR_CNT : Field :=
  ⟨0x058, 0, 32, .rc, 0, 1, 4, 1, 0, false, .ok, 0, 4294967295, 4294967296, .none⟩
/-- 0x05C UNCORR_CNT [31:0]: Uncorrectable words; saturates -/
def UNCORR_CNT : Field :=
  ⟨0x05C, 0, 32, .rc, 0, 1, 4, 1, 0, false, .ok, 0, 4294967295, 4294967296, .none⟩
/-- 0x060 QUARANTINE [16:0]: Cells quarantined, both stores -/
def QUARANTINE : Field :=
  ⟨0x060, 0, 17, .ro, 0, 1, 4, 1, 0, false, .ok, 0, 131071, 131072, .none⟩
/-- 0x064 QRESET_LO [31:0]: Bit n: QUE[n] reset since last read -/
def QRESET_LO : Field :=
  ⟨0x064, 0, 32, .rc, 0, 1, 4, 1, 0, false, .ok, 0, 4294967295, 4294967296, .none⟩
/-- 0x068 QRESET_HI [31:0]: Bit n: QUE[32 + n] -/
def QRESET_HI : Field :=
  ⟨0x068, 0, 32, .rc, 0, 1, 4, 1, 0, false, .ok, 0, 4294967295, 4294967296, .none⟩

/-- Every field of the BSN table, in table order. -/
def fields : List Field :=
    [ POOL_STAT_FREE, POOL_STAT_REBUILD, CAPT_STAT_FREE, CAPT_STAT_REBUILD, POOL_RSV, CAPT_RSV,
    LOW_MARK, LOW_MARK_C, CORR_CNT, UNCORR_CNT, QUARANTINE, QRESET_LO, QRESET_HI]

end BSN

namespace QUE

/-- 0x040 QUE_CFG [0]: 0 pool, 1 capture store -/
def QUE_CFG_STORE : Field :=
  ⟨0x040, 0, 1, .st, 0, 1, 4, 1, 0, false, .ok, 0, 1, 2, .none⟩
/-- 0x040 QUE_CFG [15:8]: Table 14-2 -/
def QUE_CFG_PROD : Field :=
  ⟨0x040, 8, 8, .st, 0, 1, 4, 1, 0, false, .ok, 0, 255, 256, .none⟩
/-- 0x040 QUE_CFG [23:16]: Table 14-2 -/
def QUE_CFG_CONS : Field :=
  ⟨0x040, 16, 8, .st, 0, 1, 4, 1, 0, false, .ok, 0, 255, 256, .none⟩
/-- 0x040 QUE_CFG [31:24]: Under R400 -/
def QUE_CFG_CONS_SRC : Field :=
  ⟨0x040, 24, 8, .st, 254, 1, 4, 1, 0, false, .ok, 0, 255, 256, .none⟩
/-- 0x044 QUE_LIM [16:0]: Quota; 0 means no quota -/
def QUE_LIM : Field :=
  ⟨0x044, 0, 17, .st, 0, 1, 4, 1, 0, false, .ok, 0, 131071, 131072, .none⟩
/-- 0x048 QUE_RSV [16:0]: Cells held back; 0 means none -/
def QUE_RSV : Field :=
  ⟨0x048, 0, 17, .st, 0, 1, 4, 1, 0, false, .ok, 0, 131071, 131072, .none⟩
/-- 0x050 QUE_STAT [16:0]: Cells in use -/
def QUE_STAT_CELLS : Field :=
  ⟨0x050, 0, 17, .ro, 0, 1, 4, 1, 0, false, .ok, 0, 131071, 131072, .none⟩
/-- 0x050 QUE_STAT [17]: Packet open on the write side -/
def QUE_STAT_OPEN : Field :=
  ⟨0x050, 17, 1, .ro, 0, 1, 4, 1, 0, false, .ok, 0, 1, 2, .none⟩
/-- 0x050 QUE_STAT [18]: Head packet partly read -/
def QUE_STAT_READING : Field :=
  ⟨0x050, 18, 1, .ro, 0, 1, 4, 1, 0, false, .ok, 0, 1, 2, .none⟩
/-- 0x050 QUE_STAT [19]: Under R394 -/
def QUE_STAT_FULL : Field :=
  ⟨0x050, 19, 1, .ro, 0, 1, 4, 1, 0, false, .ok, 0, 1, 2, .none⟩
/-- 0x050 QUE_STAT [20]: Under R401 -/
def QUE_STAT_FLUSH_PEND : Field :=
  ⟨0x050, 20, 1, .ro, 0, 1, 4, 1, 0, false, .ok, 0, 1, 2, .none⟩
/-- 0x050 QUE_STAT [21]: Under R402 -/
def QUE_STAT_RESETTING : Field :=
  ⟨0x050, 21, 1, .ro, 0, 1, 4, 1, 0, false, .ok, 0, 1, 2, .none⟩
/-- 0x054 PKT_COUNT [16:0]: Complete packets waiting -/
def PKT_COUNT : Field :=
  ⟨0x054, 0, 17, .ro, 0, 1, 4, 1, 0, false, .ok, 0, 131071, 131072, .none⟩
/-- 0x058 PUSH_CTRL [0]: Under R396 -/
def PUSH_CTRL_OPEN : Field :=
  ⟨0x058, 0, 1, .w1s, 0, 1, 4, 1, 0, false, .ok, 0, 1, 2, .none⟩
/-- 0x058 PUSH_CTRL [1]: Under R396 -/
def PUSH_CTRL_CLOSE : Field :=
  ⟨0x058, 1, 1, .w1s, 0, 1, 4, 1, 0, false, .ok, 0, 1, 2, .none⟩
/-- 0x05C PUSH_DATA [31:0]: Payload word -/
def PUSH_DATA : Field :=
  ⟨0x05C, 0, 32, .wo, 0, 1, 4, 1, 0, false, .ok, 0, 4294967295, 4294967296, .none⟩
/-- 0x060 POP_LEN [31:0]: Head length word; 0xFFFF_FFFF when empty -/
def POP_LEN : Field :=
  ⟨0x060, 0, 32, .ro, 4294967295, 1, 4, 1, 0, false, .ok, 0, 4294967295, 4294967296, .none⟩
/-- 0x064 POP_DATA [31:0]: Next payload word; the read consumes it, under R399 -/
def POP_DATA : Field :=
  ⟨0x064, 0, 32, .rc, 0, 1, 4, 1, 0, false, .ok, 0, 4294967295, 4294967296, .none⟩
/-- 0x068 POP_CTRL [0]: Retire the head packet -/
def POP_CTRL : Field :=
  ⟨0x068, 0, 1, .w1s, 0, 1, 4, 1, 0, false, .ok, 0, 1, 2, .none⟩
/-- 0x06C QUE_CTRL [0]: Under R401 -/
def QUE_CTRL : Field :=
  ⟨0x06C, 0, 1, .w1s, 0, 1, 4, 1, 0, false, .ok, 0, 1, 2, .none⟩
/-- 0x070 PKT_IN_CNT [31:0]: Packets completed; wraps -/
def PKT_IN_CNT : Field :=
  ⟨0x070, 0, 32, .ro, 0, 1, 4, 1, 0, false, .ok, 0, 4294967295, 4294967296, .none⟩
/-- 0x074 PKT_OUT_CNT [31:0]: Packets retired by pop or skip; wraps -/
def PKT_OUT_CNT : Field :=
  ⟨0x074, 0, 32, .ro, 0, 1, 4, 1, 0, false, .ok, 0, 4294967295, 4294967296, .none⟩
/-- 0x078 DROP_CNT [15:0]: Packets discarded by flush or reset; saturates -/
def DROP_CNT : Field :=
  ⟨0x078, 0, 16, .rc, 0, 1, 4, 1, 0, false, .ok, 0, 65535, 65536, .none⟩
/-- 0x07C TRUNC_CNT [15:0]: Packets closed with TRUNC; saturates -/
def TRUNC_CNT : Field :=
  ⟨0x07C, 0, 16, .rc, 0, 1, 4, 1, 0, false, .ok, 0, 65535, 65536, .none⟩
/-- 0x080 FULL_CNT [15:0]: Refused OPENs and withheld handshakes; saturates -/
def FULL_CNT : Field :=
  ⟨0x080, 0, 16, .rc, 0, 1, 4, 1, 0, false, .ok, 0, 65535, 65536, .none⟩
/-- 0x084 CORR_CNT [15:0]: Corrected words of this queue; saturates -/
def CORR_CNT : Field :=
  ⟨0x084, 0, 16, .rc, 0, 1, 4, 1, 0, false, .ok, 0, 65535, 65536, .none⟩
/-- 0x088 RESET_CNT [15:0]: Resets under R402; saturates -/
def RESET_CNT : Field :=
  ⟨0x088, 0, 16, .rc, 0, 1, 4, 1, 0, false, .ok, 0, 65535, 65536, .none⟩
/-- 0x08C PEAK_CELLS [16:0]: Highest CELLS since last read -/
def PEAK_CELLS : Field :=
  ⟨0x08C, 0, 17, .rc, 0, 1, 4, 1, 0, false, .ok, 0, 131071, 131072, .none⟩

/-- Every field of the QUE table, in table order. -/
def fields : List Field :=
    [ QUE_CFG_STORE, QUE_CFG_PROD, QUE_CFG_CONS, QUE_CFG_CONS_SRC, QUE_LIM, QUE_RSV,
    QUE_STAT_CELLS, QUE_STAT_OPEN, QUE_STAT_READING, QUE_STAT_FULL, QUE_STAT_FLUSH_PEND,
    QUE_STAT_RESETTING, PKT_COUNT, PUSH_CTRL_OPEN, PUSH_CTRL_CLOSE, PUSH_DATA, POP_LEN,
    POP_DATA, POP_CTRL, QUE_CTRL, PKT_IN_CNT, PKT_OUT_CNT, DROP_CNT, TRUNC_CNT, FULL_CNT,
    CORR_CNT, RESET_CNT, PEAK_CELLS]

end QUE

namespace CAP

/-- 0x040–0x07C TAP_CFG0–15 [5:0]: Queue of tap t at 0x040 + 4t -/
def TAP_CFG_QUEUE : Field :=
  ⟨0x040, 0, 6, .st, 0, 16, 4, 1, 0, false, .ok, 0, 63, 64, .none⟩
/-- 0x040–0x07C TAP_CFG0–15 [7]: Route enabled -/
def TAP_CFG_EN : Field :=
  ⟨0x040, 7, 1, .st, 0, 16, 4, 1, 0, false, .ok, 0, 1, 2, .none⟩
/-- 0x080–0x0BC TAP_DROP0–15 [15:0]: Records of tap t dropped; saturates -/
def TAP_DROP : Field :=
  ⟨0x080, 0, 16, .rc, 0, 16, 4, 1, 0, false, .ok, 0, 65535, 65536, .none⟩
/-- 0x0C0 WIN_STAT [15:0]: Bit t: a window of tap t is open -/
def WIN_STAT : Field :=
  ⟨0x0C0, 0, 16, .ro, 0, 1, 4, 1, 0, false, .ok, 0, 65535, 65536, .none⟩
/-- 0x0C4 TAP_REC_CNT [31:0]: Tap records delivered, all taps; wraps -/
def TAP_REC_CNT : Field :=
  ⟨0x0C4, 0, 32, .ro, 0, 1, 4, 1, 0, false, .ok, 0, 4294967295, 4294967296, .none⟩

/-- Every field of the CAP table, in table order. -/
def fields : List Field :=
    [ TAP_CFG_QUEUE, TAP_CFG_EN, TAP_DROP, WIN_STAT, TAP_REC_CNT]

end CAP

namespace CAN

/-- 0x040 CAN_CFG [0]: CAN FD frames accepted and sendable -/
def CAN_CFG_FD_EN : Field :=
  ⟨0x040, 0, 1, .st, 1, 1, 4, 1, 0, false, .ok, 0, 1, 2, .none⟩
/-- 0x040 CAN_CFG [1]: R410 -/
def CAN_CFG_PXHD : Field :=
  ⟨0x040, 1, 1, .st, 1, 1, 4, 1, 0, false, .ok, 0, 1, 2, .none⟩
/-- 0x040 CAN_CFG [3:2]: 0 NORMAL, 1 LISTEN, 2 RESTRICTED, 3 LOOPBACK -/
def CAN_CFG_MODE : Field :=
  ⟨0x040, 2, 2, .st, 0, 1, 4, 1, 0, false, .ok, 0, 3, 4, .none⟩
/-- 0x040 CAN_CFG [4]: R411 -/
def CAN_CFG_TDC_EN : Field :=
  ⟨0x040, 4, 1, .st, 1, 1, 4, 1, 0, false, .ok, 0, 1, 2, .none⟩
/-- 0x040 CAN_CFG [5]: R414 -/
def CAN_CFG_NOMATCH_EN : Field :=
  ⟨0x040, 5, 1, .st, 0, 1, 4, 1, 0, false, .ok, 0, 1, 2, .none⟩
/-- 0x040 CAN_CFG [15:8]: R419; 0 means no limit -/
def CAN_CFG_RETRY_MAX : Field :=
  ⟨0x040, 8, 8, .st, 0, 1, 4, 1, 0, false, .ok, 0, 255, 256, .none⟩
/-- 0x044 NBT [7:0]: Prescaler − 1 -/
def NBT_BRP : Field :=
  ⟨0x044, 0, 8, .st, 0, 1, 4, 1, 0, false, .ok, 0, 255, 256, .nominalBrp⟩
/-- 0x044 NBT [15:8]: 2 to 256 tq, minus 1; 0 fails with RANGE -/
def NBT_TSEG1 : Field :=
  ⟨0x044, 8, 8, .st, 62, 1, 4, 1, 0, false, .asRange, 1, 255, 256, .none⟩
/-- 0x044 NBT [22:16]: 1 to 128 tq, minus 1 -/
def NBT_TSEG2 : Field :=
  ⟨0x044, 16, 7, .st, 15, 1, 4, 1, 0, false, .ok, 0, 127, 128, .none⟩
/-- 0x044 NBT [30:24]: 1 to 128 tq, minus 1 -/
def NBT_SJW : Field :=
  ⟨0x044, 24, 7, .st, 15, 1, 4, 1, 0, false, .ok, 0, 127, 128, .none⟩
/-- 0x048 DBT [4:0]: Prescaler − 1, 1 to 32 -/
def DBT_BRP : Field :=
  ⟨0x048, 0, 5, .st, 0, 1, 4, 1, 0, false, .ok, 0, 31, 32, .dataBrp⟩
/-- 0x048 DBT [12:8]: 1 to 32 tq, minus 1 -/
def DBT_TSEG1 : Field :=
  ⟨0x048, 8, 5, .st, 30, 1, 4, 1, 0, false, .ok, 0, 31, 32, .none⟩
/-- 0x048 DBT [19:16]: 1 to 16 tq, minus 1 -/
def DBT_TSEG2 : Field :=
  ⟨0x048, 16, 4, .st, 7, 1, 4, 1, 0, false, .ok, 0, 15, 16, .none⟩
/-- 0x048 DBT [27:24]: 1 to 16 tq, minus 1 -/
def DBT_SJW : Field :=
  ⟨0x048, 24, 4, .st, 7, 1, 4, 1, 0, false, .ok, 0, 15, 16, .none⟩
/-- 0x04C TDC [6:0]: Offset in CAN clock cycles, 0 to 127; 0 checks at the measured delay -/
def TDC : Field :=
  ⟨0x04C, 0, 7, .st, 20, 1, 4, 1, 0, false, .ok, 0, 127, 128, .none⟩
/-- 0x050 CAN_CTRL [0]: R423 -/
def CAN_CTRL : Field :=
  ⟨0x050, 0, 1, .w1s, 0, 1, 4, 1, 0, false, .ok, 0, 1, 2, .none⟩
/-- 0x054 ERR_STAT [7:0]: Transmit error counter -/
def ERR_STAT_TEC : Field :=
  ⟨0x054, 0, 8, .ro, 0, 1, 4, 1, 0, false, .ok, 0, 255, 256, .none⟩
/-- 0x054 ERR_STAT [15:8]: Receive error counter, saturating at 128 -/
def ERR_STAT_REC : Field :=
  ⟨0x054, 8, 8, .ro, 0, 1, 4, 1, 0, false, .ok, 0, 255, 256, .none⟩
/-- 0x054 ERR_STAT [17:16]: 0 ACTIVE, 1 PASSIVE, 2 BUS_OFF, 3 RECOVERING -/
def ERR_STAT_STATE : Field :=
  ⟨0x054, 16, 2, .ro, 0, 1, 4, 1, 0, false, .ok, 0, 3, 4, .none⟩
/-- 0x054 ERR_STAT [18]: R422 -/
def ERR_STAT_WARNING : Field :=
  ⟨0x054, 18, 1, .ro, 0, 1, 4, 1, 0, false, .ok, 0, 1, 2, .none⟩
/-- 0x054 ERR_STAT [22:20]: 0 none, 1 stuff, 2 form, 3 acknowledgement, 4 bit recessive, 5 bit dominant, 6 CRC, 7 parity -/
def ERR_STAT_LEC : Field :=
  ⟨0x054, 20, 3, .ro, 0, 1, 4, 1, 0, false, .ok, 0, 7, 8, .none⟩
/-- 0x058 RX_CNT [31:0]: Frames received; wraps -/
def RX_CNT : Field :=
  ⟨0x058, 0, 32, .ro, 0, 1, 4, 1, 0, false, .ok, 0, 4294967295, 4294967296, .none⟩
/-- 0x05C TX_CNT [31:0]: Frames sent; wraps -/
def TX_CNT : Field :=
  ⟨0x05C, 0, 32, .ro, 0, 1, 4, 1, 0, false, .ok, 0, 4294967295, 4294967296, .none⟩
/-- 0x060 LOST_CNT [15:0]: R415, R420; saturates -/
def LOST_CNT : Field :=
  ⟨0x060, 0, 16, .rc, 0, 1, 4, 1, 0, false, .ok, 0, 65535, 65536, .none⟩
/-- 0x064 NOMATCH_CNT [15:0]: R414; saturates -/
def NOMATCH_CNT : Field :=
  ⟨0x064, 0, 16, .rc, 0, 1, 4, 1, 0, false, .ok, 0, 65535, 65536, .none⟩
/-- 0x068 BUSOFF_CNT [15:0]: R423; saturates -/
def BUSOFF_CNT : Field :=
  ⟨0x068, 0, 16, .rc, 0, 1, 4, 1, 0, false, .ok, 0, 65535, 65536, .none⟩
/-- 0x06C TXQ_BAD_CNT [15:0]: R421; saturates -/
def TXQ_BAD_CNT : Field :=
  ⟨0x06C, 0, 16, .rc, 0, 1, 4, 1, 0, false, .ok, 0, 65535, 65536, .none⟩
/-- 0x070–0x07C RX_NEW0–3 [31:0]: Bit j of word w: OBJ[32w + j] NEW -/
def RX_NEW : Field :=
  ⟨0x070, 0, 32, .ro, 0, 4, 4, 1, 0, false, .ok, 0, 4294967295, 4294967296, .none⟩
/-- 0x080 TT_CFG [0]: R426 -/
def TT_CFG_TM_EN : Field :=
  ⟨0x080, 0, 1, .st, 0, 1, 4, 1, 0, false, .ok, 0, 1, 2, .none⟩
/-- 0x080 TT_CFG [1]: R427 -/
def TT_CFG_TIDE_IN_REF : Field :=
  ⟨0x080, 1, 1, .st, 1, 1, 4, 1, 0, false, .ok, 0, 1, 2, .none⟩
/-- 0x080 TT_CFG [13:8]: R427; 0 keeps the count at 0 -/
def TT_CFG_CYCLE_MAX : Field :=
  ⟨0x080, 8, 6, .st, 0, 1, 4, 1, 0, false, .ok, 0, 63, 64, .none⟩
/-- 0x084 REF_ID [28:0]: Reference identifier -/
def REF_ID_ID : Field :=
  ⟨0x084, 0, 29, .st, 0, 1, 4, 1, 0, false, .ok, 0, 536870911, 536870912, .none⟩
/-- 0x084 REF_ID [29]: Extended identifier -/
def REF_ID_IDE : Field :=
  ⟨0x084, 29, 1, .st, 0, 1, 4, 1, 0, false, .ok, 0, 1, 2, .none⟩
/-- 0x088 REF_PERIOD [31:0]: 125,000 and above; 0 fails with ZERO_INVALID -/
def REF_PERIOD : Field :=
  ⟨0x088, 0, 32, .st, 25000000, 1, 4, 1, 0, false, .invalid, 125000, 4294967295, 4294967296, .none⟩
/-- 0x08C REF_ANCHOR_LO [31:0]: Bits [31:0] -/
def REF_ANCHOR_LO : Field :=
  ⟨0x08C, 0, 32, .st, 0, 1, 4, 1, 0, false, .ok, 0, 4294967295, 4294967296, .none⟩
/-- 0x090 REF_ANCHOR_HI [31:0]: Bits [63:32] -/
def REF_ANCHOR_HI : Field :=
  ⟨0x090, 0, 32, .st, 0, 1, 4, 1, 0, false, .ok, 0, 4294967295, 4294967296, .none⟩
/-- 0x094 REF_DATA [23:0]: Bytes 1 to 3 -/
def REF_DATA : Field :=
  ⟨0x094, 0, 24, .st, 0, 1, 4, 1, 0, false, .ok, 0, 16777215, 16777216, .none⟩
/-- 0x098 TT_STAT [5:0]: Cycle count -/
def TT_STAT_CYCLE : Field :=
  ⟨0x098, 0, 6, .ro, 0, 1, 4, 1, 0, false, .ok, 0, 63, 64, .none⟩
/-- 0x098 TT_STAT [6]: The latest reference message was this controller's -/
def TT_STAT_SENT_LAST : Field :=
  ⟨0x098, 6, 1, .ro, 0, 1, 4, 1, 0, false, .ok, 0, 1, 2, .none⟩
/-- 0x098 TT_STAT [7]: R428 -/
def TT_STAT_YIELDED : Field :=
  ⟨0x098, 7, 1, .ro, 0, 1, 4, 1, 0, false, .ok, 0, 1, 2, .none⟩
/-- 0x09C LAST_REF_LO [31:0]: SOF stamp of the latest reference message -/
def LAST_REF_LO : Field :=
  ⟨0x09C, 0, 32, .ro, 0, 1, 4, 1, 0, false, .ok, 0, 4294967295, 4294967296, .none⟩
/-- 0x0A0 LAST_REF_HI [31:0]: Bits [63:32], holding rule of R48 -/
def LAST_REF_HI : Field :=
  ⟨0x0A0, 0, 32, .ro, 0, 1, 4, 1, 0, false, .ok, 0, 4294967295, 4294967296, .none⟩
/-- 0x0A4 REF_LATE_MAX [31:0]: R426 -/
def REF_LATE_MAX : Field :=
  ⟨0x0A4, 0, 32, .rc, 0, 1, 4, 1, 0, false, .ok, 0, 4294967295, 4294967296, .none⟩
/-- 0x0A8 REF_MISSED_CNT [15:0]: R426; saturates -/
def REF_MISSED_CNT : Field :=
  ⟨0x0A8, 0, 16, .rc, 0, 1, 4, 1, 0, false, .ok, 0, 65535, 65536, .none⟩
/-- 0x100 OBJ_SEL [6:0]: Banked per requester, R413 -/
def OBJ_SEL : Field :=
  ⟨0x100, 0, 7, .rw, 0, 1, 4, 1, 0, false, .ok, 0, 127, 128, .none⟩

/-- Every field of the CAN table, in table order. -/
def fields : List Field :=
    [ CAN_CFG_FD_EN, CAN_CFG_PXHD, CAN_CFG_MODE, CAN_CFG_TDC_EN, CAN_CFG_NOMATCH_EN,
    CAN_CFG_RETRY_MAX, NBT_BRP, NBT_TSEG1, NBT_TSEG2, NBT_SJW, DBT_BRP, DBT_TSEG1, DBT_TSEG2,
    DBT_SJW, TDC, CAN_CTRL, ERR_STAT_TEC, ERR_STAT_REC, ERR_STAT_STATE, ERR_STAT_WARNING,
    ERR_STAT_LEC, RX_CNT, TX_CNT, LOST_CNT, NOMATCH_CNT, BUSOFF_CNT, TXQ_BAD_CNT, RX_NEW,
    TT_CFG_TM_EN, TT_CFG_TIDE_IN_REF, TT_CFG_CYCLE_MAX, REF_ID_ID, REF_ID_IDE, REF_PERIOD,
    REF_ANCHOR_LO, REF_ANCHOR_HI, REF_DATA, TT_STAT_CYCLE, TT_STAT_SENT_LAST, TT_STAT_YIELDED] ++
    [ LAST_REF_LO, LAST_REF_HI, REF_LATE_MAX, REF_MISSED_CNT, OBJ_SEL]

end CAN

namespace OBJ

/-- 0x104 OBJ_CFG [0]: Object enabled -/
def OBJ_CFG_EN : Field :=
  ⟨0x104, 0, 1, .rw, 0, 1, 4, 1, 0, false, .ok, 0, 1, 2, .none⟩
/-- 0x104 OBJ_CFG [1]: 0 receive, 1 send -/
def OBJ_CFG_DIR : Field :=
  ⟨0x104, 1, 1, .rw, 0, 1, 4, 1, 0, false, .ok, 0, 1, 2, .none⟩
/-- 0x104 OBJ_CFG [2]: Extended identifier -/
def OBJ_CFG_IDE : Field :=
  ⟨0x104, 2, 1, .rw, 0, 1, 4, 1, 0, false, .ok, 0, 1, 2, .none⟩
/-- 0x104 OBJ_CFG [3]: CAN FD frame (send); matched under R414 -/
def OBJ_CFG_FDF : Field :=
  ⟨0x104, 3, 1, .rw, 0, 1, 4, 1, 0, false, .ok, 0, 1, 2, .none⟩
/-- 0x104 OBJ_CFG [4]: Bit rate switch when sending -/
def OBJ_CFG_BRS : Field :=
  ⟨0x104, 4, 1, .rw, 0, 1, 4, 1, 0, false, .ok, 0, 1, 2, .none⟩
/-- 0x104 OBJ_CFG [5]: Send a remote frame -/
def OBJ_CFG_RTR : Field :=
  ⟨0x104, 5, 1, .rw, 0, 1, 4, 1, 0, false, .ok, 0, 1, 2, .none⟩
/-- 0x104 OBJ_CFG [6]: R420, R421 -/
def OBJ_CFG_TO_QUEUE : Field :=
  ⟨0x104, 6, 1, .rw, 0, 1, 4, 1, 0, false, .ok, 0, 1, 2, .none⟩
/-- 0x104 OBJ_CFG [7]: R415 -/
def OBJ_CFG_OVERWRITE : Field :=
  ⟨0x104, 7, 1, .rw, 0, 1, 4, 1, 0, false, .ok, 0, 1, 2, .none⟩
/-- 0x104 OBJ_CFG [8]: Exclusive window, R429 -/
def OBJ_CFG_TIME : Field :=
  ⟨0x104, 8, 1, .rw, 0, 1, 4, 1, 0, false, .ok, 0, 1, 2, .none⟩
/-- 0x104 OBJ_CFG [9]: R419 -/
def OBJ_CFG_SINGLE_SHOT : Field :=
  ⟨0x104, 9, 1, .rw, 0, 1, 4, 1, 0, false, .ok, 0, 1, 2, .none⟩
/-- 0x108 OBJ_ID [28:0]: Identifier, right-justified -/
def OBJ_ID : Field :=
  ⟨0x108, 0, 29, .rw, 0, 1, 4, 1, 0, false, .ok, 0, 536870911, 536870912, .none⟩
/-- 0x10C OBJ_MASK [28:0]: 1 = bit must match; 0 accepts every identifier -/
def OBJ_MASK_MASK : Field :=
  ⟨0x10C, 0, 29, .rw, 0, 1, 4, 1, 0, false, .ok, 0, 536870911, 536870912, .none⟩
/-- 0x10C OBJ_MASK [30]: R414 -/
def OBJ_MASK_FDF_MATCH : Field :=
  ⟨0x10C, 30, 1, .rw, 0, 1, 4, 1, 0, false, .ok, 0, 1, 2, .none⟩
/-- 0x110 OBJ_OFFSET [31:0]: Window start after the reference SOF; 0 opens at the SOF -/
def OBJ_OFFSET : Field :=
  ⟨0x110, 0, 32, .rw, 0, 1, 4, 1, 0, false, .ok, 0, 4294967295, 4294967296, .none⟩
/-- 0x114 OBJ_WIN [23:0]: Window length, ticks -/
def OBJ_WIN : Field :=
  ⟨0x114, 0, 24, .rw, 0, 1, 4, 1, 0, false, .ok, 0, 16777215, 16777216, .none⟩
/-- 0x118 OBJ_CYCLE [5:0]: R429 -/
def OBJ_CYCLE_BASE : Field :=
  ⟨0x118, 0, 6, .rw, 0, 1, 4, 1, 0, false, .ok, 0, 63, 64, .none⟩
/-- 0x118 OBJ_CYCLE [10:8]: Every 2^REP cycles, REP 0 to 6; 7 has no effect and records RANGE -/
def OBJ_CYCLE_REP : Field :=
  ⟨0x118, 8, 3, .rw, 0, 1, 4, 1, 0, false, .ok, 0, 7, 8, .none⟩
/-- 0x11C OBJ_STAT [0]: R418 -/
def OBJ_STAT_PENDING : Field :=
  ⟨0x11C, 0, 1, .ro, 0, 1, 4, 1, 0, false, .ok, 0, 1, 2, .none⟩
/-- 0x11C OBJ_STAT [1]: R415 -/
def OBJ_STAT_NEW : Field :=
  ⟨0x11C, 1, 1, .ro, 0, 1, 4, 1, 0, false, .ok, 0, 1, 2, .none⟩
/-- 0x11C OBJ_STAT [2]: R416 -/
def OBJ_STAT_LOCKED : Field :=
  ⟨0x11C, 2, 1, .ro, 0, 1, 4, 1, 0, false, .ok, 0, 1, 2, .none⟩
/-- 0x11C OBJ_STAT [3]: Shadow full -/
def OBJ_STAT_SHADOW : Field :=
  ⟨0x11C, 3, 1, .ro, 0, 1, 4, 1, 0, false, .ok, 0, 1, 2, .none⟩
/-- 0x11C OBJ_STAT [4]: R415 -/
def OBJ_STAT_LOST : Field :=
  ⟨0x11C, 4, 1, .w1c, 0, 1, 4, 1, 0, false, .ok, 0, 1, 2, .none⟩
/-- 0x11C OBJ_STAT [7:5]: 0 none, 1 SENT, 2 ABORTED, 3 BUSOFF, 4 MISSED, 5 RETRY_LIMIT -/
def OBJ_STAT_TX_RESULT : Field :=
  ⟨0x11C, 5, 3, .ro, 0, 1, 4, 1, 0, false, .ok, 0, 7, 8, .none⟩
/-- 0x11C OBJ_STAT [15:8]: Requester of Table 1-6 -/
def OBJ_STAT_LOCK_OWNER : Field :=
  ⟨0x11C, 8, 8, .ro, 0, 1, 4, 1, 0, false, .ok, 0, 255, 256, .none⟩
/-- 0x120 OBJ_CTRL [0]: R418, R429 -/
def OBJ_CTRL_SEND : Field :=
  ⟨0x120, 0, 1, .w1s, 0, 1, 4, 1, 0, false, .ok, 0, 1, 2, .none⟩
/-- 0x120 OBJ_CTRL [1]: R418 -/
def OBJ_CTRL_ABORT : Field :=
  ⟨0x120, 1, 1, .w1s, 0, 1, 4, 1, 0, false, .ok, 0, 1, 2, .none⟩
/-- 0x120 OBJ_CTRL [2]: R417 -/
def OBJ_CTRL_RELEASE : Field :=
  ⟨0x120, 2, 1, .w1s, 0, 1, 4, 1, 0, false, .ok, 0, 1, 2, .none⟩
/-- 0x124 OBJ_HEAD [28:0]: Received identifier; read takes the lock; RW on send objects only -/
def OBJ_HEAD_ID : Field :=
  ⟨0x124, 0, 29, .rw, 0, 1, 4, 1, 0, false, .ok, 0, 536870911, 536870912, .none⟩
/-- 0x124 OBJ_HEAD [29]: Of the stored frame -/
def OBJ_HEAD_IDE : Field :=
  ⟨0x124, 29, 1, .ro, 0, 1, 4, 1, 0, false, .ok, 0, 1, 2, .none⟩
/-- 0x128 OBJ_INFO [3:0]: Table 15-3; RW on send objects only -/
def OBJ_INFO_DLC : Field :=
  ⟨0x128, 0, 4, .rw, 0, 1, 4, 1, 0, false, .ok, 0, 15, 16, .none⟩
/-- 0x128 OBJ_INFO [4]: Of the stored frame -/
def OBJ_INFO_BRS : Field :=
  ⟨0x128, 4, 1, .ro, 0, 1, 4, 1, 0, false, .ok, 0, 1, 2, .none⟩
/-- 0x128 OBJ_INFO [5]: Of the stored frame -/
def OBJ_INFO_ESI : Field :=
  ⟨0x128, 5, 1, .ro, 0, 1, 4, 1, 0, false, .ok, 0, 1, 2, .none⟩
/-- 0x128 OBJ_INFO [6]: Of the stored frame -/
def OBJ_INFO_FDF : Field :=
  ⟨0x128, 6, 1, .ro, 0, 1, 4, 1, 0, false, .ok, 0, 1, 2, .none⟩
/-- 0x128 OBJ_INFO [7]: Of the stored frame -/
def OBJ_INFO_RTR : Field :=
  ⟨0x128, 7, 1, .ro, 0, 1, 4, 1, 0, false, .ok, 0, 1, 2, .none⟩
/-- 0x12C OBJ_TIDE_LO [31:0]: SOF stamp, bits [31:0] -/
def OBJ_TIDE_LO : Field :=
  ⟨0x12C, 0, 32, .ro, 0, 1, 4, 1, 0, false, .ok, 0, 4294967295, 4294967296, .none⟩
/-- 0x130 OBJ_TIDE_HI [31:0]: Bits [63:32] -/
def OBJ_TIDE_HI : Field :=
  ⟨0x130, 0, 32, .ro, 0, 1, 4, 1, 0, false, .ok, 0, 4294967295, 4294967296, .none⟩
/-- 0x140–0x17C DATA0–15 [31:0]: Bytes 4i to 4i + 3, byte 4i in [7:0]; RO on receive objects -/
def DATA : Field :=
  ⟨0x140, 0, 32, .rw, 0, 16, 4, 1, 0, false, .ok, 0, 4294967295, 4294967296, .none⟩

/-- Every field of the OBJ table, in table order. -/
def fields : List Field :=
    [ OBJ_CFG_EN, OBJ_CFG_DIR, OBJ_CFG_IDE, OBJ_CFG_FDF, OBJ_CFG_BRS, OBJ_CFG_RTR,
    OBJ_CFG_TO_QUEUE, OBJ_CFG_OVERWRITE, OBJ_CFG_TIME, OBJ_CFG_SINGLE_SHOT, OBJ_ID,
    OBJ_MASK_MASK, OBJ_MASK_FDF_MATCH, OBJ_OFFSET, OBJ_WIN, OBJ_CYCLE_BASE, OBJ_CYCLE_REP,
    OBJ_STAT_PENDING, OBJ_STAT_NEW, OBJ_STAT_LOCKED, OBJ_STAT_SHADOW, OBJ_STAT_LOST,
    OBJ_STAT_TX_RESULT, OBJ_STAT_LOCK_OWNER, OBJ_CTRL_SEND, OBJ_CTRL_ABORT, OBJ_CTRL_RELEASE,
    OBJ_HEAD_ID, OBJ_HEAD_IDE, OBJ_INFO_DLC, OBJ_INFO_BRS, OBJ_INFO_ESI, OBJ_INFO_FDF,
    OBJ_INFO_RTR, OBJ_TIDE_LO, OBJ_TIDE_HI, DATA]

end OBJ

namespace ETH

/-- 0x040 ETH_CFG [0]: Clause 37 auto-negotiation -/
def ETH_CFG_AN_EN : Field :=
  ⟨0x040, 0, 1, .st, 1, 1, 4, 1, 0, false, .ok, 0, 1, 2, .none⟩
/-- 0x040 ETH_CFG [1]: R435 -/
def ETH_CFG_PROMISC : Field :=
  ⟨0x040, 1, 1, .st, 0, 1, 4, 1, 0, false, .ok, 0, 1, 2, .none⟩
/-- 0x040 ETH_CFG [2]: R435 -/
def ETH_CFG_BCAST_EN : Field :=
  ⟨0x040, 2, 1, .st, 1, 1, 4, 1, 0, false, .ok, 0, 1, 2, .none⟩
/-- 0x040 ETH_CFG [3]: R435 -/
def ETH_CFG_MCAST_ALL : Field :=
  ⟨0x040, 3, 1, .st, 0, 1, 4, 1, 0, false, .ok, 0, 1, 2, .none⟩
/-- 0x044 MAC_LO [31:0]: Address bytes 2 to 5 -/
def MAC_LO : Field :=
  ⟨0x044, 0, 32, .st, 0, 1, 4, 1, 0, false, .ok, 0, 4294967295, 4294967296, .none⟩
/-- 0x048 MAC_HI [15:0]: Address bytes 0 and 1 -/
def MAC_HI : Field :=
  ⟨0x048, 0, 16, .st, 0, 1, 4, 1, 0, false, .ok, 0, 65535, 65536, .none⟩
/-- 0x04C LAT [15:0]: Ticks; 0 means no correction -/
def LAT_RX_LAT : Field :=
  ⟨0x04C, 0, 16, .st, 0, 1, 4, 1, 0, false, .ok, 0, 65535, 65536, .none⟩
/-- 0x04C LAT [31:16]: Ticks; 0 means no correction -/
def LAT_TX_LAT : Field :=
  ⟨0x04C, 16, 16, .st, 0, 1, 4, 1, 0, false, .ok, 0, 65535, 65536, .none⟩
/-- 0x050 SYNC_IVL [15:0]: 1 to 65,535; 0 fails with ZERO_INVALID -/
def SYNC_IVL : Field :=
  ⟨0x050, 0, 16, .st, 125, 1, 4, 1, 0, false, .invalid, 0, 65535, 65536, .none⟩
/-- 0x054 ETH_STAT [0]: Link up -/
def ETH_STAT_LINK : Field :=
  ⟨0x054, 0, 1, .ro, 0, 1, 4, 1, 0, false, .ok, 0, 1, 2, .none⟩
/-- 0x054 ETH_STAT [1]: Auto-negotiation complete -/
def ETH_STAT_AN_DONE : Field :=
  ⟨0x054, 1, 1, .ro, 0, 1, 4, 1, 0, false, .ok, 0, 1, 2, .none⟩
/-- 0x058 SYNC_TIDE_LO [31:0]: R439 -/
def SYNC_TIDE_LO : Field :=
  ⟨0x058, 0, 32, .rw, 0, 1, 4, 1, 0, false, .ok, 0, 4294967295, 4294967296, .none⟩
/-- 0x05C SYNC_TIDE_HI [31:0]: R439 -/
def SYNC_TIDE_HI : Field :=
  ⟨0x05C, 0, 32, .rw, 0, 1, 4, 1, 0, false, .ok, 0, 4294967295, 4294967296, .none⟩
/-- 0x060 SYNC_SEC_LO [31:0]: R439 -/
def SYNC_SEC_LO : Field :=
  ⟨0x060, 0, 32, .rw, 0, 1, 4, 1, 0, false, .ok, 0, 4294967295, 4294967296, .none⟩
/-- 0x064 SYNC_SEC_HI [15:0]: R439 -/
def SYNC_SEC_HI : Field :=
  ⟨0x064, 0, 16, .rw, 0, 1, 4, 1, 0, false, .ok, 0, 65535, 65536, .none⟩
/-- 0x068 SYNC_NS [29:0]: R439 -/
def SYNC_NS : Field :=
  ⟨0x068, 0, 30, .rw, 0, 1, 4, 1, 0, false, .ok, 0, 1073741823, 1073741824, .none⟩
/-- 0x06C RATE [31:0]: Signed, R439 -/
def RATE : Field :=
  ⟨0x06C, 0, 32, .rw, 0, 1, 4, 1, 0, false, .ok, 0, 4294967295, 4294967296, .none⟩
/-- 0x070 SYNC_CTRL [0]: R439 -/
def SYNC_CTRL : Field :=
  ⟨0x070, 0, 1, .w1s, 0, 1, 4, 1, 0, false, .ok, 0, 1, 2, .none⟩
/-- 0x074 RX_CNT [31:0]: Frames accepted; wraps -/
def RX_CNT : Field :=
  ⟨0x074, 0, 32, .ro, 0, 1, 4, 1, 0, false, .ok, 0, 4294967295, 4294967296, .none⟩
/-- 0x078 TX_CNT [31:0]: Frames sent; wraps -/
def TX_CNT : Field :=
  ⟨0x078, 0, 32, .ro, 0, 1, 4, 1, 0, false, .ok, 0, 4294967295, 4294967296, .none⟩
/-- 0x07C RX_DROP_CNT [15:0]: R436; saturates -/
def RX_DROP_CNT : Field :=
  ⟨0x07C, 0, 16, .rc, 0, 1, 4, 1, 0, false, .ok, 0, 65535, 65536, .none⟩
/-- 0x080 RX_ERR_CNT [15:0]: R435; saturates -/
def RX_ERR_CNT : Field :=
  ⟨0x080, 0, 16, .rc, 0, 1, 4, 1, 0, false, .ok, 0, 65535, 65536, .none⟩
/-- 0x084 TX_BAD_CNT [15:0]: R437; saturates -/
def TX_BAD_CNT : Field :=
  ⟨0x084, 0, 16, .rc, 0, 1, 4, 1, 0, false, .ok, 0, 65535, 65536, .none⟩

/-- Every field of the ETH table, in table order. -/
def fields : List Field :=
    [ ETH_CFG_AN_EN, ETH_CFG_PROMISC, ETH_CFG_BCAST_EN, ETH_CFG_MCAST_ALL, MAC_LO, MAC_HI,
    LAT_RX_LAT, LAT_TX_LAT, SYNC_IVL, ETH_STAT_LINK, ETH_STAT_AN_DONE, SYNC_TIDE_LO,
    SYNC_TIDE_HI, SYNC_SEC_LO, SYNC_SEC_HI, SYNC_NS, RATE, SYNC_CTRL, RX_CNT, TX_CNT,
    RX_DROP_CNT, RX_ERR_CNT, TX_BAD_CNT]

end ETH

namespace XSP

/-- 0x040 BOOT_STAT [1:0]: Latched BOOT_SRC -/
def BOOT_STAT_SRC : Field :=
  ⟨0x040, 0, 2, .ro, 0, 1, 4, 1, 0, false, .ok, 0, 3, 4, .bits 0 2⟩
/-- 0x040 BOOT_STAT [3:2]: 0 A, 1 B, 2 Ethernet, 3 none -/
def BOOT_STAT_COPY : Field :=
  ⟨0x040, 2, 2, .ro, 3, 1, 4, 1, 0, false, .ok, 0, 3, 4, .none⟩
/-- 0x040 BOOT_STAT [7:4]: 0 OK, 1 NO_IMAGE, 2 SIGNATURE, 3 KEY_UNKNOWN, 4 KEY_REVOKED, 5 ROLLBACK, 6 DIGEST, 7 FORMAT, 8 READ_ERR, 9 HOLD -/
def BOOT_STAT_RESULT : Field :=
  ⟨0x040, 4, 4, .ro, 0, 1, 4, 1, 0, false, .ok, 0, 15, 16, .none⟩
/-- 0x040 BOOT_STAT [11:8]: Result of copy A -/
def BOOT_STAT_RESULT_A : Field :=
  ⟨0x040, 8, 4, .ro, 0, 1, 4, 1, 0, false, .ok, 0, 15, 16, .none⟩
/-- 0x040 BOOT_STAT [13:12]: Slot of the booted key -/
def BOOT_STAT_KEY_SLOT : Field :=
  ⟨0x040, 12, 2, .ro, 0, 1, 4, 1, 0, false, .ok, 0, 3, 4, .none⟩
/-- 0x040 BOOT_STAT [31:16]: Level of the booted image -/
def BOOT_STAT_ROLLBACK : Field :=
  ⟨0x040, 16, 16, .ro, 0, 1, 4, 1, 0, false, .ok, 0, 65535, 65536, .none⟩
/-- 0x044 FUSE_STAT [15:0]: Fuse counter -/
def FUSE_STAT_ROLLBACK_MIN : Field :=
  ⟨0x044, 0, 16, .ro, 0, 1, 4, 1, 0, false, .ok, 0, 65535, 65536, .none⟩
/-- 0x044 FUSE_STAT [19:16]: Programmed slots -/
def FUSE_STAT_KEY_PROG : Field :=
  ⟨0x044, 16, 4, .ro, 0, 1, 4, 1, 0, false, .ok, 0, 15, 16, .none⟩
/-- 0x044 FUSE_STAT [23:20]: Revoked slots -/
def FUSE_STAT_KEY_REVOKED : Field :=
  ⟨0x044, 20, 4, .ro, 0, 1, 4, 1, 0, false, .ok, 0, 15, 16, .none⟩
/-- 0x048 FUSE_CTRL [0]: R446 -/
def FUSE_CTRL_ROLLBACK_BURN : Field :=
  ⟨0x048, 0, 1, .w1s, 0, 1, 4, 1, 0, true, .ok, 0, 1, 2, .none⟩
/-- 0x048 FUSE_CTRL [7:4]: R446 -/
def FUSE_CTRL_REVOKE : Field :=
  ⟨0x048, 4, 4, .w1s, 0, 1, 4, 1, 0, true, .ok, 0, 15, 16, .none⟩
/-- 0x04C XSP_CMD [15:0]: 16 bits in octal mode, [7:0] in single mode -/
def XSP_CMD_OPCODE : Field :=
  ⟨0x04C, 0, 16, .rw, 0, 1, 4, 1, 0, false, .ok, 0, 65535, 65536, .none⟩
/-- 0x04C XSP_CMD [16]: 8D-8D-8D -/
def XSP_CMD_OCTAL : Field :=
  ⟨0x04C, 16, 1, .rw, 0, 1, 4, 1, 0, false, .ok, 0, 1, 2, .none⟩
/-- 0x04C XSP_CMD [17]: Send a 4-byte address -/
def XSP_CMD_HAS_ADDR : Field :=
  ⟨0x04C, 17, 1, .rw, 0, 1, 4, 1, 0, false, .ok, 0, 1, 2, .none⟩
/-- 0x04C XSP_CMD [22:18]: Dummy cycles, 0 to 31 -/
def XSP_CMD_DUMMY : Field :=
  ⟨0x04C, 18, 5, .rw, 0, 1, 4, 1, 0, false, .ok, 0, 31, 32, .none⟩
/-- 0x04C XSP_CMD [23]: Data to the flash -/
def XSP_CMD_WRITE : Field :=
  ⟨0x04C, 23, 1, .rw, 0, 1, 4, 1, 0, false, .ok, 0, 1, 2, .none⟩
/-- 0x04C XSP_CMD [30:24]: Data bytes, 0 to 64; 0 sends no data -/
def XSP_CMD_LEN : Field :=
  ⟨0x04C, 24, 7, .rw, 0, 1, 4, 1, 0, false, .ok, 0, 127, 128, .none⟩
/-- 0x050 XSP_ADDR [31:0]: Flash address -/
def XSP_ADDR : Field :=
  ⟨0x050, 0, 32, .rw, 0, 1, 4, 1, 0, false, .ok, 0, 4294967295, 4294967296, .none⟩
/-- 0x054 XSP_CTRL [0]: Issue the command -/
def XSP_CTRL : Field :=
  ⟨0x054, 0, 1, .w1s, 0, 1, 4, 1, 0, false, .ok, 0, 1, 2, .none⟩
/-- 0x058 XSP_STAT [0]: Command or reload running -/
def XSP_STAT_BUSY : Field :=
  ⟨0x058, 0, 1, .ro, 0, 1, 4, 1, 0, false, .ok, 0, 1, 2, .none⟩
/-- 0x058 XSP_STAT [1]: R445 -/
def XSP_STAT_RELOAD : Field :=
  ⟨0x058, 1, 1, .ro, 0, 1, 4, 1, 0, false, .ok, 0, 1, 2, .none⟩
/-- 0x05C PROT_BASE [31:0]: Start of the booted copy -/
def PROT_BASE : Field :=
  ⟨0x05C, 0, 32, .ro, 0, 1, 4, 1, 0, false, .ok, 0, 4294967295, 4294967296, .none⟩
/-- 0x060 PROT_LEN [31:0]: Its length; 0 protects nothing -/
def PROT_LEN : Field :=
  ⟨0x060, 0, 32, .ro, 0, 1, 4, 1, 0, false, .ok, 0, 4294967295, 4294967296, .none⟩
/-- 0x080–0x0BC XSP_DATA0–15 [31:0]: Command data, byte 4i in [7:0] -/
def XSP_DATA : Field :=
  ⟨0x080, 0, 32, .rw, 0, 16, 4, 1, 0, false, .ok, 0, 4294967295, 4294967296, .none⟩
/-- 0x200–0x40F HEADER [31:0]: Header of the booted image, Table 16-1 -/
def HEADER : Field :=
  ⟨0x200, 0, 32, .ro, 0, 132, 4, 1, 0, false, .ok, 0, 4294967295, 4294967296, .none⟩

/-- Every field of the XSP table, in table order. -/
def fields : List Field :=
    [ BOOT_STAT_SRC, BOOT_STAT_COPY, BOOT_STAT_RESULT, BOOT_STAT_RESULT_A, BOOT_STAT_KEY_SLOT,
    BOOT_STAT_ROLLBACK, FUSE_STAT_ROLLBACK_MIN, FUSE_STAT_KEY_PROG, FUSE_STAT_KEY_REVOKED,
    FUSE_CTRL_ROLLBACK_BURN, FUSE_CTRL_REVOKE, XSP_CMD_OPCODE, XSP_CMD_OCTAL, XSP_CMD_HAS_ADDR,
    XSP_CMD_DUMMY, XSP_CMD_WRITE, XSP_CMD_LEN, XSP_ADDR, XSP_CTRL, XSP_STAT_BUSY,
    XSP_STAT_RELOAD, PROT_BASE, PROT_LEN, XSP_DATA, HEADER]

end XSP

namespace DBG

/-- 0x040 DBG_STAT [0]: R448 -/
def DBG_STAT_PORT_OPEN : Field :=
  ⟨0x040, 0, 1, .ro, 0, 1, 4, 1, 0, false, .ok, 0, 1, 2, .none⟩
/-- 0x040 DBG_STAT [1]: Latched DEBUG_ALLOW -/
def DBG_STAT_ALLOWED : Field :=
  ⟨0x040, 1, 1, .ro, 0, 1, 4, 1, 0, false, .ok, 0, 1, 2, .bits 11 1⟩
/-- 0x040 DBG_STAT [2]: Seal condition of R448 met -/
def DBG_STAT_SEAL_OK : Field :=
  ⟨0x040, 2, 1, .ro, 0, 1, 4, 1, 0, false, .ok, 0, 1, 2, .none⟩
/-- 0x040 DBG_STAT [6:4]: 0–3 Quay A core c, 4–7 Quay B core c − 4 -/
def DBG_STAT_ATTACH : Field :=
  ⟨0x040, 4, 3, .ro, 0, 1, 4, 1, 0, false, .ok, 0, 7, 8, .none⟩
/-- 0x040 DBG_STAT [15:8]: Bit c: core c of Quay A; bit 4 + c: core c of Quay B -/
def DBG_STAT_HALTED : Field :=
  ⟨0x040, 8, 8, .ro, 0, 1, 4, 1, 0, false, .ok, 0, 255, 256, .none⟩
/-- 0x044 ACCESS_CNT [31:0]: Debugger accesses; wraps -/
def ACCESS_CNT : Field :=
  ⟨0x044, 0, 32, .ro, 0, 1, 4, 1, 0, false, .ok, 0, 4294967295, 4294967296, .none⟩
/-- 0x048 REFUSED_CNT [15:0]: Accesses refused, replay-queue refusals and refused DBG_ATTACH writes included; saturates -/
def REFUSED_CNT : Field :=
  ⟨0x048, 0, 16, .rc, 0, 1, 4, 1, 0, false, .ok, 0, 65535, 65536, .none⟩
/-- 0x04C DBG_ATTACH [2:0]: Core to attach, under R449: 0–3 Quay A core c, 4–7 Quay B core c − 4; writable by the debug port only; reads as D... -/
def DBG_ATTACH : Field :=
  ⟨0x04C, 0, 3, .rw, 0, 1, 4, 1, 0, false, .ok, 0, 7, 8, .none⟩

/-- Every field of the DBG table, in table order. -/
def fields : List Field :=
    [ DBG_STAT_PORT_OPEN, DBG_STAT_ALLOWED, DBG_STAT_SEAL_OK, DBG_STAT_ATTACH, DBG_STAT_HALTED,
    ACCESS_CNT, REFUSED_CNT, DBG_ATTACH]

end DBG

namespace PWR

/-- 0x040 DOM_STAT [13:0]: Bit d: domain on; 0x3FFF with DEBUG_ALLOW, 0x1FFF otherwise, less domains left off under R459 -/
def DOM_STAT : Field :=
  ⟨0x040, 0, 14, .ro, 0, 1, 4, 1, 0, false, .ok, 0, 16383, 16384, .domainsOn⟩
/-- 0x044 DOM_GOOD [13:0]: Bit d: domain on and in range -/
def DOM_GOOD : Field :=
  ⟨0x044, 0, 14, .ro, 0, 1, 4, 1, 0, false, .ok, 0, 16383, 16384, .domainsOn⟩
/-- 0x048 DOM_FAULT [13:0]: Bit d: out of range under R458, or not good under R457; clears when the domain is next good -/
def DOM_FAULT : Field :=
  ⟨0x048, 0, 14, .ro, 0, 1, 4, 1, 0, false, .ok, 0, 16383, 16384, .none⟩
/-- 0x04C DOM_CTRL [13:0]: R457; LOCK-protected -/
def DOM_CTRL_ON_REQ : Field :=
  ⟨0x04C, 0, 14, .w1s, 0, 1, 4, 1, 0, true, .ok, 0, 16383, 16384, .none⟩
/-- 0x04C DOM_CTRL [29:16]: R457; LOCK-protected -/
def DOM_CTRL_OFF_REQ : Field :=
  ⟨0x04C, 16, 14, .w1s, 0, 1, 4, 1, 0, true, .ok, 0, 16383, 16384, .none⟩
/-- 0x050 SUP_STAT [0]: R455 -/
def SUP_STAT_VDD_WARN : Field :=
  ⟨0x050, 0, 1, .ro, 0, 1, 4, 1, 0, false, .ok, 0, 1, 2, .none⟩
/-- 0x050 SUP_STAT [1]: R455 -/
def SUP_STAT_IO18_WARN : Field :=
  ⟨0x050, 1, 1, .ro, 0, 1, 4, 1, 0, false, .ok, 0, 1, 2, .none⟩
/-- 0x050 SUP_STAT [2]: R455 -/
def SUP_STAT_IO33_WARN : Field :=
  ⟨0x050, 2, 1, .ro, 0, 1, 4, 1, 0, false, .ok, 0, 1, 2, .none⟩
/-- 0x050 SUP_STAT [3]: R455 -/
def SUP_STAT_VDDA_WARN : Field :=
  ⟨0x050, 3, 1, .ro, 0, 1, 4, 1, 0, false, .ok, 0, 1, 2, .none⟩
/-- 0x050 SUP_STAT [4]: VDDA below 4.50 V -/
def SUP_STAT_VDDA_FAIL : Field :=
  ⟨0x050, 4, 1, .ro, 0, 1, 4, 1, 0, false, .ok, 0, 1, 2, .none⟩
/-- 0x054 SUP_MEAS0 [11:0]: mV, updated every 10 µs -/
def SUP_MEAS0_VDD : Field :=
  ⟨0x054, 0, 12, .ro, 0, 1, 4, 1, 0, false, .ok, 0, 4095, 4096, .none⟩
/-- 0x054 SUP_MEAS0 [27:16]: mV -/
def SUP_MEAS0_VDDIO18 : Field :=
  ⟨0x054, 16, 12, .ro, 0, 1, 4, 1, 0, false, .ok, 0, 4095, 4096, .none⟩
/-- 0x058 SUP_MEAS1 [11:0]: mV -/
def SUP_MEAS1_VDDIO33 : Field :=
  ⟨0x058, 0, 12, .ro, 0, 1, 4, 1, 0, false, .ok, 0, 4095, 4096, .none⟩
/-- 0x058 SUP_MEAS1 [27:16]: 2 mV -/
def SUP_MEAS1_VDDA : Field :=
  ⟨0x058, 16, 12, .ro, 0, 1, 4, 1, 0, false, .ok, 0, 4095, 4096, .none⟩
/-- 0x05C RAMP_MAX [7:0]: Longest ramp to good since last read, µs; saturates -/
def RAMP_MAX : Field :=
  ⟨0x05C, 0, 8, .rc, 0, 1, 4, 1, 0, false, .ok, 0, 255, 256, .none⟩

/-- Every field of the PWR table, in table order. -/
def fields : List Field :=
    [ DOM_STAT, DOM_GOOD, DOM_FAULT, DOM_CTRL_ON_REQ, DOM_CTRL_OFF_REQ, SUP_STAT_VDD_WARN,
    SUP_STAT_IO18_WARN, SUP_STAT_IO33_WARN, SUP_STAT_VDDA_WARN, SUP_STAT_VDDA_FAIL,
    SUP_MEAS0_VDD, SUP_MEAS0_VDDIO18, SUP_MEAS1_VDDIO33, SUP_MEAS1_VDDA, RAMP_MAX]

end PWR

namespace CLK

/-- 0x040 CLK_STAT [0]: R460 -/
def CLK_STAT_XTAL_OK : Field :=
  ⟨0x040, 0, 1, .ro, 0, 1, 4, 1, 0, false, .ok, 0, 1, 2, .none⟩
/-- 0x040 CLK_STAT [1]: R461 -/
def CLK_STAT_SAFE_OSC_OK : Field :=
  ⟨0x040, 1, 1, .ro, 0, 1, 4, 1, 0, false, .ok, 0, 1, 2, .none⟩
/-- 0x040 CLK_STAT [2]: R460 -/
def CLK_STAT_HOLDOVER : Field :=
  ⟨0x040, 2, 1, .ro, 0, 1, 4, 1, 0, false, .ok, 0, 1, 2, .none⟩
/-- 0x040 CLK_STAT [13:8]: Bit i: PLL of index i locked -/
def CLK_STAT_LOCK : Field :=
  ⟨0x040, 8, 6, .ro, 0, 1, 4, 1, 0, false, .ok, 0, 63, 64, .none⟩
/-- 0x040 CLK_STAT [21:16]: Bit i: PLL i failed under R461 -/
def CLK_STAT_FAULT : Field :=
  ⟨0x040, 16, 6, .ro, 0, 1, 4, 1, 0, false, .ok, 0, 63, 64, .none⟩
/-- 0x044–0x058 MEAS0–5 [21:0]: PLL i at 0x044 + 4i, measured over the last window -/
def MEAS : Field :=
  ⟨0x044, 0, 22, .ro, 0, 6, 4, 1, 0, false, .ok, 0, 4194303, 4194304, .none⟩
/-- 0x05C SAFE_MEAS [17:0]: SAFE_OSC as the PD_AON counter measures it -/
def SAFE_MEAS : Field :=
  ⟨0x05C, 0, 18, .ro, 0, 1, 4, 1, 0, false, .ok, 0, 262143, 262144, .none⟩
/-- 0x060 FAULT_CNT [15:0]: PLL failures and crystal losses; saturates -/
def FAULT_CNT : Field :=
  ⟨0x060, 0, 16, .rc, 0, 1, 4, 1, 0, false, .ok, 0, 65535, 65536, .none⟩

/-- Every field of the CLK table, in table order. -/
def fields : List Field :=
    [ CLK_STAT_XTAL_OK, CLK_STAT_SAFE_OSC_OK, CLK_STAT_HOLDOVER, CLK_STAT_LOCK, CLK_STAT_FAULT,
    MEAS, SAFE_MEAS, FAULT_CNT]

end CLK

namespace RST

/-- 0x040 RST_CAUSE [0]: PD_AON had lost its state -/
def RST_CAUSE_COLD : Field :=
  ⟨0x040, 0, 1, .ro, 0, 1, 4, 1, 0, false, .ok, 0, 1, 2, .none⟩
/-- 0x040 RST_CAUSE [1]: VDD below its reset level -/
def RST_CAUSE_VDD_UV : Field :=
  ⟨0x040, 1, 1, .ro, 0, 1, 4, 1, 0, false, .ok, 0, 1, 2, .none⟩
/-- 0x040 RST_CAUSE [2]: VDDIO18 below its reset level -/
def RST_CAUSE_IO18_UV : Field :=
  ⟨0x040, 2, 1, .ro, 0, 1, 4, 1, 0, false, .ok, 0, 1, 2, .none⟩
/-- 0x040 RST_CAUSE [3]: RESET_N low -/
def RST_CAUSE_PIN : Field :=
  ⟨0x040, 3, 1, .ro, 0, 1, 4, 1, 0, false, .ok, 0, 1, 2, .none⟩
/-- 0x040 RST_CAUSE [4]: R464 -/
def RST_CAUSE_SYS_RESET : Field :=
  ⟨0x040, 4, 1, .ro, 0, 1, 4, 1, 0, false, .ok, 0, 1, 2, .none⟩
/-- 0x040 RST_CAUSE [5]: R459 -/
def RST_CAUSE_SEQ_RETRY : Field :=
  ⟨0x040, 5, 1, .ro, 0, 1, 4, 1, 0, false, .ok, 0, 1, 2, .none⟩
/-- 0x040 RST_CAUSE [6]: Start-up waited more than 20 ms for XTAL_OK -/
def RST_CAUSE_XTAL_WAIT : Field :=
  ⟨0x040, 6, 1, .ro, 0, 1, 4, 1, 0, false, .ok, 0, 1, 2, .none⟩
/-- 0x044 POR_CNT [15:0]: Power-on resets since COLD; saturates -/
def POR_CNT : Field :=
  ⟨0x044, 0, 16, .ro, 0, 1, 4, 1, 0, false, .ok, 0, 65535, 65536, .none⟩
/-- 0x048 RST_CTRL [0]: R464; LOCK-protected -/
def RST_CTRL : Field :=
  ⟨0x048, 0, 1, .w1s, 0, 1, 4, 1, 0, true, .ok, 0, 1, 2, .none⟩
/-- 0x04C START_US [15:0]: Release of power-on reset to Tide tick 0; saturates at 65,535 -/
def START_US : Field :=
  ⟨0x04C, 0, 16, .ro, 0, 1, 4, 1, 0, false, .ok, 0, 65535, 65536, .none⟩

/-- Every field of the RST table, in table order. -/
def fields : List Field :=
    [ RST_CAUSE_COLD, RST_CAUSE_VDD_UV, RST_CAUSE_IO18_UV, RST_CAUSE_PIN, RST_CAUSE_SYS_RESET,
    RST_CAUSE_SEQ_RETRY, RST_CAUSE_XTAL_WAIT, POR_CNT, RST_CTRL, START_US]

end RST

namespace STRP

/-- 0x040 STRAP_LATCH [15:0]: Latched STRAP[15:0] -/
def STRAP_LATCH : Field :=
  ⟨0x040, 0, 16, .ro, 0, 1, 4, 1, 0, false, .ok, 0, 65535, 65536, .bits 0 16⟩
/-- 0x044 STRAP_LIVE [15:0]: Present pin levels -/
def STRAP_LIVE : Field :=
  ⟨0x044, 0, 16, .ro, 0, 1, 4, 1, 0, false, .ok, 0, 65535, 65536, .none⟩
/-- 0x048 STRAP_STAT [15:0]: R465 -/
def STRAP_STAT_UNSTABLE : Field :=
  ⟨0x048, 0, 16, .ro, 0, 1, 4, 1, 0, false, .ok, 0, 65535, 65536, .none⟩
/-- 0x048 STRAP_STAT [16]: R466 -/
def STRAP_STAT_INVALID : Field :=
  ⟨0x048, 16, 1, .ro, 0, 1, 4, 1, 0, false, .ok, 0, 1, 2, .none⟩
/-- 0x048 STRAP_STAT [18:17]: Resamplings at the last power-on reset, 0 to 3 -/
def STRAP_STAT_ATTEMPTS : Field :=
  ⟨0x048, 17, 2, .ro, 0, 1, 4, 1, 0, false, .ok, 0, 3, 4, .none⟩

/-- Every field of the STRP table, in table order. -/
def fields : List Field :=
    [ STRAP_LATCH, STRAP_LIVE, STRAP_STAT_UNSTABLE, STRAP_STAT_INVALID, STRAP_STAT_ATTEMPTS]

end STRP

end Sys2Proof.Reg
end

