-- ==== Sys2Proof/Machine/RegCore.lean ====
section
/-! DEFINITION. Register fields of the page header, the region error controllers and the Tide (Tables 1-5, 2-1, 3-11 to 3-14).
One field a definition, with the offset, bits, access and reset value of its row; the docstring is the row. -/

namespace Sys2Proof.Reg

namespace HDR

/-- 0x000 PAGE_ID [7:0]: Block type code, Table 2-2 -/
def PAGE_ID_TYPE : Field :=
  ⟨0x000, 0, 8, .ro, 0, 1, 4, 1, 0, false, .ok, 0, 255, 256, .none⟩
/-- 0x000 PAGE_ID [15:8]: Instance index n of BLOCK[n]; 0 for single-instance blocks -/
def PAGE_ID_INSTANCE : Field :=
  ⟨0x000, 8, 8, .ro, 0, 1, 4, 1, 0, false, .ok, 0, 255, 256, .none⟩
/-- 0x000 PAGE_ID [19:16]: Region index r: QA 0, QB 1, TD 2, SN 3, AC 4, CM 5, BS 6, SF 7 -/
def PAGE_ID_REGION : Field :=
  ⟨0x000, 16, 4, .ro, 0, 1, 4, 1, 0, false, .ok, 0, 15, 16, .none⟩
/-- 0x000 PAGE_ID [23:20]: Page index within a multi-page block; 0 for single-page blocks -/
def PAGE_ID_SUBPAGE : Field :=
  ⟨0x000, 20, 4, .ro, 0, 1, 4, 1, 0, false, .ok, 0, 15, 16, .none⟩
/-- 0x000 PAGE_ID [31:24]: Page version: [31:28] major, [27:24] minor; every page of silicon B1 reads 0x21 -/
def PAGE_ID_VERSION : Field :=
  ⟨0x000, 24, 8, .ro, 33, 1, 4, 1, 0, false, .ok, 0, 255, 256, .none⟩
/-- 0x004 PAGE_CAP [0]: Page holds ST fields -/
def PAGE_CAP_HAS_ST : Field :=
  ⟨0x004, 0, 1, .ro, 0, 1, 4, 1, 0, false, .ok, 0, 1, 2, .none⟩
/-- 0x004 PAGE_CAP [1]: Page holds LOCK-protected fields -/
def PAGE_CAP_HAS_LOCK : Field :=
  ⟨0x004, 1, 1, .ro, 0, 1, 4, 1, 0, true, .ok, 0, 1, 2, .none⟩
/-- 0x004 PAGE_CAP [2]: Page is a member of a commit group, under R62 -/
def PAGE_CAP_GROUP : Field :=
  ⟨0x004, 2, 1, .ro, 0, 1, 4, 1, 0, false, .ok, 0, 1, 2, .none⟩
/-- 0x004 PAGE_CAP [3]: Page is the lead of its commit group -/
def PAGE_CAP_GROUP_LEAD : Field :=
  ⟨0x004, 3, 1, .ro, 0, 1, 4, 1, 0, false, .ok, 0, 1, 2, .none⟩
/-- 0x004 PAGE_CAP [12:8]: Number of block events implemented, from bit 0 up; 0 means none -/
def PAGE_CAP_NUM_EVT : Field :=
  ⟨0x004, 8, 5, .ro, 0, 1, 4, 1, 0, false, .ok, 0, 31, 32, .none⟩
/-- 0x004 PAGE_CAP [31:16]: Block capability bits, defined by the owning chapter -/
def PAGE_CAP_BLOCK_CAP : Field :=
  ⟨0x004, 16, 16, .ro, 0, 1, 4, 1, 0, false, .ok, 0, 65535, 65536, .none⟩
/-- 0x008 PAGE_CTRL [0]: Enable the page's function, under R52 -/
def PAGE_CTRL_EN : Field :=
  ⟨0x008, 0, 1, .rw, 0, 1, 4, 1, 0, false, .ok, 0, 1, 2, .none⟩
/-- 0x008 PAGE_CTRL [1]: Soft reset of the page, under R53; reads 1 until complete -/
def PAGE_CTRL_SRST : Field :=
  ⟨0x008, 1, 1, .w1s, 0, 1, 4, 1, 0, false, .ok, 0, 1, 2, .none⟩
/-- 0x00C PAGE_STAT [0]: Function enabled and running -/
def PAGE_STAT_ENABLED : Field :=
  ⟨0x00C, 0, 1, .ro, 0, 1, 4, 1, 0, false, .ok, 0, 1, 2, .none⟩
/-- 0x00C PAGE_STAT [1]: Soft reset in progress -/
def PAGE_STAT_BUSY : Field :=
  ⟨0x00C, 1, 1, .ro, 0, 1, 4, 1, 0, false, .ok, 0, 1, 2, .none⟩
/-- 0x00C PAGE_STAT [2]: An ST field has been written since the last snapshot -/
def PAGE_STAT_DIRTY : Field :=
  ⟨0x00C, 2, 1, .ro, 0, 1, 4, 1, 0, false, .ok, 0, 1, 2, .none⟩
/-- 0x00C PAGE_STAT [3]: At least one accepted commit waits for its frame boundary -/
def PAGE_STAT_COMMIT_PEND : Field :=
  ⟨0x00C, 3, 1, .ro, 0, 1, 4, 1, 0, false, .ok, 0, 1, 2, .none⟩
/-- 0x00C PAGE_STAT [4]: Key window open -/
def PAGE_STAT_LOCK_OPEN : Field :=
  ⟨0x00C, 4, 1, .ro, 0, 1, 4, 1, 0, false, .ok, 0, 1, 2, .none⟩
/-- 0x00C PAGE_STAT [5]: ERR_CODE.LAST is nonzero -/
def PAGE_STAT_ERR : Field :=
  ⟨0x00C, 5, 1, .ro, 0, 1, 4, 1, 0, false, .ok, 0, 1, 2, .none⟩
/-- 0x00C PAGE_STAT [6]: The cell safe reaction of R16 is active -/
def PAGE_STAT_SAFE : Field :=
  ⟨0x00C, 6, 1, .ro, 0, 1, 4, 1, 0, false, .ok, 0, 1, 2, .none⟩
/-- 0x00C PAGE_STAT [31:16]: Block status bits, defined by the owning chapter -/
def PAGE_STAT_BLOCK_STAT : Field :=
  ⟨0x00C, 16, 16, .ro, 0, 1, 4, 1, 0, false, .ok, 0, 65535, 65536, .none⟩
/-- 0x010 EVT_RAW [31:0]: Event occurred, whether or not enabled, under R49 -/
def EVT_RAW : Field :=
  ⟨0x010, 0, 32, .ro, 0, 1, 4, 1, 0, false, .ok, 0, 4294967295, 4294967296, .none⟩
/-- 0x014 EVT_EN [31:0]: Event enables -/
def EVT_EN : Field :=
  ⟨0x014, 0, 32, .rw, 0, 1, 4, 1, 0, false, .ok, 0, 4294967295, 4294967296, .none⟩
/-- 0x018 EVT_PEND [31:0]: Reads RAW AND EN; write 1 clears the bit in RAW and PEND -/
def EVT_PEND : Field :=
  ⟨0x018, 0, 32, .w1c, 0, 1, 4, 1, 0, false, .ok, 0, 4294967295, 4294967296, .none⟩
/-- 0x01C ERR_CODE [7:0]: Code of the latest error, Table 2-4 or the block's own codes -/
def ERR_CODE_LAST : Field :=
  ⟨0x01C, 0, 8, .ro, 0, 1, 4, 1, 0, false, .ok, 0, 255, 256, .none⟩
/-- 0x01C ERR_CODE [15:8]: Code of the first error since the last clear -/
def ERR_CODE_FIRST : Field :=
  ⟨0x01C, 8, 8, .ro, 0, 1, 4, 1, 0, false, .ok, 0, 255, 256, .none⟩
/-- 0x01C ERR_CODE [23:16]: Requester identifier, Table 1-6, of the access that caused LAST; 0xFF if the page itself detected it -/
def ERR_CODE_SRC : Field :=
  ⟨0x01C, 16, 8, .ro, 0, 1, 4, 1, 0, false, .ok, 0, 255, 256, .none⟩
/-- 0x01C ERR_CODE [31]: Write 1 to clear LAST, FIRST and SRC -/
def ERR_CODE_CLR : Field :=
  ⟨0x01C, 31, 1, .wo, 0, 1, 4, 1, 0, false, .ok, 0, 1, 2, .none⟩
/-- 0x020 ERR_CNT [15:0]: Errors recorded since last read; saturates at 65,535 -/
def ERR_CNT : Field :=
  ⟨0x020, 0, 16, .rc, 0, 1, 4, 1, 0, false, .ok, 0, 65535, 65536, .none⟩
/-- 0x024 LOCK [31:0]: Key sequence, under R63 -/
def LOCK_KEY : Field :=
  ⟨0x024, 0, 32, .wo, 0, 1, 4, 1, 0, false, .ok, 0, 4294967295, 4294967296, .none⟩
/-- 0x024 LOCK [0]: The sequence of at least one requester is armed, under R63 -/
def LOCK_ARMED : Field :=
  ⟨0x024, 0, 1, .ro, 0, 1, 4, 1, 0, false, .ok, 0, 1, 2, .none⟩
/-- 0x024 LOCK [1]: Key window open -/
def LOCK_OPEN : Field :=
  ⟨0x024, 1, 1, .ro, 0, 1, 4, 1, 0, false, .ok, 0, 1, 2, .none⟩
/-- 0x024 LOCK [2]: Windows refused, under R65 -/
def LOCK_LOCKOUT : Field :=
  ⟨0x024, 2, 1, .ro, 0, 1, 4, 1, 0, false, .ok, 0, 1, 2, .none⟩
/-- 0x024 LOCK [4:3]: Wrong key sequences since the last correct one -/
def LOCK_FAILS : Field :=
  ⟨0x024, 3, 2, .ro, 0, 1, 4, 1, 0, false, .ok, 0, 3, 4, .none⟩
/-- 0x024 LOCK [15:8]: Requester identifier of the window holder -/
def LOCK_OWNER : Field :=
  ⟨0x024, 8, 8, .ro, 0, 1, 4, 1, 0, false, .ok, 0, 255, 256, .none⟩
/-- 0x024 LOCK [31:16]: SYS cycles left in the window -/
def LOCK_REMAIN : Field :=
  ⟨0x024, 16, 16, .ro, 0, 1, 4, 1, 0, false, .ok, 0, 65535, 65536, .none⟩
/-- 0x028 COMMIT [0]: Snapshot the staged set and commit it, under R56 -/
def COMMIT_GO : Field :=
  ⟨0x028, 0, 1, .w1s, 0, 1, 4, 1, 0, false, .ok, 0, 1, 2, .none⟩
/-- 0x028 COMMIT [1]: Return every ST field in staging to its active value and cancel commits not yet applied -/
def COMMIT_DISCARD : Field :=
  ⟨0x028, 1, 1, .w1s, 0, 1, 4, 1, 0, false, .ok, 0, 1, 2, .none⟩
/-- 0x028 COMMIT [2]: As PAGE_STAT.COMMIT_PEND -/
def COMMIT_PEND : Field :=
  ⟨0x028, 2, 1, .ro, 0, 1, 4, 1, 0, false, .ok, 0, 1, 2, .none⟩
/-- 0x028 COMMIT [3]: The latest GO was rejected; cleared by the next accepted GO -/
def COMMIT_REJECTED : Field :=
  ⟨0x028, 3, 1, .ro, 0, 1, 4, 1, 0, false, .ok, 0, 1, 2, .none⟩
/-- 0x028 COMMIT [31:16]: GO writes accepted since reset; wraps -/
def COMMIT_ACCEPT_CNT : Field :=
  ⟨0x028, 16, 16, .ro, 0, 1, 4, 1, 0, false, .ok, 0, 65535, 65536, .none⟩
/-- 0x030 LAST_COMMIT_TIDE_LO [31:0]: Tide bits [31:0] of the frame boundary at which the last commit applied -/
def LAST_COMMIT_TIDE_LO : Field :=
  ⟨0x030, 0, 32, .ro, 0, 1, 4, 1, 0, false, .ok, 0, 4294967295, 4294967296, .none⟩
/-- 0x034 LAST_COMMIT_TIDE_HI [31:0]: Tide bits [63:32], under R48 -/
def LAST_COMMIT_TIDE_HI : Field :=
  ⟨0x034, 0, 32, .ro, 0, 1, 4, 1, 0, false, .ok, 0, 4294967295, 4294967296, .none⟩
/-- 0x038 COMMIT_SEQ [31:0]: Commits applied since reset; wraps -/
def COMMIT_SEQ : Field :=
  ⟨0x038, 0, 32, .ro, 0, 1, 4, 1, 0, false, .ok, 0, 4294967295, 4294967296, .none⟩
/-- 0x03C COMMIT_SRC [7:0]: Requester identifier of the GO last applied -/
def COMMIT_SRC : Field :=
  ⟨0x03C, 0, 8, .ro, 0, 1, 4, 1, 0, false, .ok, 0, 255, 256, .none⟩

/-- Every field of the HDR table, in table order. -/
def fields : List Field :=
    [ PAGE_ID_TYPE, PAGE_ID_INSTANCE, PAGE_ID_REGION, PAGE_ID_SUBPAGE, PAGE_ID_VERSION,
    PAGE_CAP_HAS_ST, PAGE_CAP_HAS_LOCK, PAGE_CAP_GROUP, PAGE_CAP_GROUP_LEAD, PAGE_CAP_NUM_EVT,
    PAGE_CAP_BLOCK_CAP, PAGE_CTRL_EN, PAGE_CTRL_SRST, PAGE_STAT_ENABLED, PAGE_STAT_BUSY,
    PAGE_STAT_DIRTY, PAGE_STAT_COMMIT_PEND, PAGE_STAT_LOCK_OPEN, PAGE_STAT_ERR, PAGE_STAT_SAFE,
    PAGE_STAT_BLOCK_STAT, EVT_RAW, EVT_EN, EVT_PEND, ERR_CODE_LAST, ERR_CODE_FIRST,
    ERR_CODE_SRC, ERR_CODE_CLR, ERR_CNT, LOCK_KEY, LOCK_ARMED, LOCK_OPEN, LOCK_LOCKOUT,
    LOCK_FAILS, LOCK_OWNER, LOCK_REMAIN, COMMIT_GO, COMMIT_DISCARD, COMMIT_PEND,
    COMMIT_REJECTED] ++
    [ COMMIT_ACCEPT_CNT, LAST_COMMIT_TIDE_LO, LAST_COMMIT_TIDE_HI, COMMIT_SEQ, COMMIT_SRC]

end HDR

namespace FLTR

/-- 0x040 REG_STAT [0]: Region isolated -/
def REG_STAT_ISOLATED : Field :=
  ⟨0x040, 0, 1, .ro, 0, 1, 4, 1, 0, false, .ok, 0, 1, 2, .none⟩
/-- 0x040 REG_STAT [1]: Restart in progress -/
def REG_STAT_RESTARTING : Field :=
  ⟨0x040, 1, 1, .ro, 0, 1, 4, 1, 0, false, .ok, 0, 1, 2, .none⟩
/-- 0x040 REG_STAT [2]: Region out of reset and serving accesses -/
def REG_STAT_READY : Field :=
  ⟨0x040, 2, 1, .ro, 1, 1, 4, 1, 0, false, .ok, 0, 1, 2, .none⟩
/-- 0x040 REG_STAT [7:4]: Cause of last isolation: 0 none, 1 interconnect parity, 2 uncorrectable memory error in region logic, 3 target time... -/
def REG_STAT_LAST_CAUSE : Field :=
  ⟨0x040, 4, 4, .ro, 0, 1, 4, 1, 0, false, .ok, 0, 15, 16, .none⟩
/-- 0x044 REG_CTRL [0]: Isolate the region; LOCK key window required for TD and SN -/
def REG_CTRL_ISO_REQ : Field :=
  ⟨0x044, 0, 1, .w1s, 0, 1, 4, 1, 0, true, .ok, 0, 1, 2, .none⟩
/-- 0x044 REG_CTRL [1]: Restart the isolated region, under R26 -/
def REG_CTRL_RESTART : Field :=
  ⟨0x044, 1, 1, .w1s, 0, 1, 4, 1, 0, false, .ok, 0, 1, 2, .none⟩
/-- 0x048 BUS_ERR [3:0]: Response code of the last rejected access into the region, Table 1-3 -/
def BUS_ERR_CODE : Field :=
  ⟨0x048, 0, 4, .ro, 0, 1, 4, 1, 0, false, .ok, 0, 15, 16, .none⟩
/-- 0x048 BUS_ERR [15:8]: Requester identifier, Table 1-6 -/
def BUS_ERR_SRC : Field :=
  ⟨0x048, 8, 8, .ro, 0, 1, 4, 1, 0, false, .ok, 0, 255, 256, .none⟩
/-- 0x048 BUS_ERR [31:16]: Rejected accesses since last read; saturates at 65,535 -/
def BUS_ERR_COUNT : Field :=
  ⟨0x048, 16, 16, .rc, 0, 1, 4, 1, 0, false, .ok, 0, 65535, 65536, .none⟩
/-- 0x04C BUS_ERR_ADDR [31:0]: Address of the last rejected access -/
def BUS_ERR_ADDR : Field :=
  ⟨0x04C, 0, 32, .ro, 0, 1, 4, 1, 0, false, .ok, 0, 4294967295, 4294967296, .none⟩
/-- 0x050 ARB_AGE [7:0]: Highest requester age seen at the region's arbiters since last read -/
def ARB_AGE : Field :=
  ⟨0x050, 0, 8, .rc, 0, 1, 4, 1, 0, false, .ok, 0, 255, 256, .none⟩
/-- 0x054 PROMO_CNT [31:0]: Promotions under R30 since last read; saturates -/
def PROMO_CNT : Field :=
  ⟨0x054, 0, 32, .rc, 0, 1, 4, 1, 0, false, .ok, 0, 4294967295, 4294967296, .none⟩
/-- 0x058–0x064 BLK_ERR0–3 [31:0]: Bit n of the 128-bit vector: block index n of Table 1-8 has an uncleared error -/
def BLK_ERR : Field :=
  ⟨0x058, 0, 32, .ro, 0, 4, 4, 1, 0, false, .ok, 0, 4294967295, 4294967296, .none⟩
/-- 0x068–0x074 BLK_IRQ0–3 [31:0]: Bit n: block index n drives its interrupt line -/
def BLK_IRQ : Field :=
  ⟨0x068, 0, 32, .ro, 0, 4, 4, 1, 0, false, .ok, 0, 4294967295, 4294967296, .none⟩
/-- 0x078 CORR_CNT [31:0]: Corrected ECC errors in region memories; saturates -/
def CORR_CNT : Field :=
  ⟨0x078, 0, 32, .rc, 0, 1, 4, 1, 0, false, .ok, 0, 4294967295, 4294967296, .none⟩
/-- 0x07C UNCORR_CNT [31:0]: Uncorrectable ECC errors in region memories; saturates -/
def UNCORR_CNT : Field :=
  ⟨0x07C, 0, 32, .rc, 0, 1, 4, 1, 0, false, .ok, 0, 4294967295, 4294967296, .none⟩
/-- 0x080 RESTART_CNT [15:0]: Restarts since power-on reset; saturates -/
def RESTART_CNT : Field :=
  ⟨0x080, 0, 16, .ro, 0, 1, 4, 1, 0, false, .ok, 0, 65535, 65536, .none⟩

/-- Every field of the FLTR table, in table order. -/
def fields : List Field :=
    [ REG_STAT_ISOLATED, REG_STAT_RESTARTING, REG_STAT_READY, REG_STAT_LAST_CAUSE,
    REG_CTRL_ISO_REQ, REG_CTRL_RESTART, BUS_ERR_CODE, BUS_ERR_SRC, BUS_ERR_COUNT, BUS_ERR_ADDR,
    ARB_AGE, PROMO_CNT, BLK_ERR, BLK_IRQ, CORR_CNT, UNCORR_CNT, RESTART_CNT]

end FLTR

namespace TIDE

/-- 0x040 NOW_LO [31:0]: Tide bits [31:0], under R70 -/
def NOW_LO : Field :=
  ⟨0x040, 0, 32, .ro, 0, 1, 4, 1, 0, false, .ok, 0, 4294967295, 4294967296, .none⟩
/-- 0x044 NOW_HI [31:0]: Tide bits [63:32] -/
def NOW_HI : Field :=
  ⟨0x044, 0, 32, .ro, 0, 1, 4, 1, 0, false, .ok, 0, 4294967295, 4294967296, .none⟩
/-- 0x048 REF_CTRL [1:0]: Table 3-1 -/
def REF_CTRL_SRC : Field :=
  ⟨0x048, 0, 2, .st, 0, 1, 4, 1, 0, false, .ok, 0, 3, 4, .bits 4 2⟩
/-- 0x048 REF_CTRL [7:4]: Missed sync intervals that mean loss in GPTP, 2 to 15; 0 and 1 fail with RANGE -/
def REF_CTRL_LOSS_SYNCS : Field :=
  ⟨0x048, 4, 4, .st, 3, 1, 4, 1, 0, false, .asRange, 2, 15, 16, .none⟩
/-- 0x048 REF_CTRL [8]: ETH[0] or ETH[1] -/
def REF_CTRL_GPTP_PORT : Field :=
  ⟨0x048, 8, 1, .st, 0, 1, 4, 1, 0, false, .ok, 0, 1, 2, .none⟩
/-- 0x04C REF_STAT [2:0]: 0 ACQUIRING, 1 TRACKING, 2 HOLDOVER, 3 FIXED (FREE mode), 4 XTAL_HOLDOVER; 5 to 7 not used -/
def REF_STAT_STATE : Field :=
  ⟨0x04C, 0, 3, .ro, 0, 1, 4, 1, 0, false, .ok, 0, 7, 8, .none⟩
/-- 0x04C REF_STAT [3]: Crystal present and in range -/
def REF_STAT_XTAL_OK : Field :=
  ⟨0x04C, 3, 1, .ro, 0, 1, 4, 1, 0, false, .ok, 0, 1, 2, .none⟩
/-- 0x04C REF_STAT [4]: TIDE_REFIN valid -/
def REF_STAT_EXT_OK : Field :=
  ⟨0x04C, 4, 1, .ro, 0, 1, 4, 1, 0, false, .ok, 0, 1, 2, .none⟩
/-- 0x04C REF_STAT [5]: Servo receiving valid syncs -/
def REF_STAT_GPTP_OK : Field :=
  ⟨0x04C, 5, 1, .ro, 0, 1, 4, 1, 0, false, .ok, 0, 1, 2, .none⟩
/-- 0x04C REF_STAT [6]: TIDE PLL locked -/
def REF_STAT_PLL_LOCK : Field :=
  ⟨0x04C, 6, 1, .ro, 0, 1, 4, 1, 0, false, .ok, 0, 1, 2, .none⟩
/-- 0x04C REF_STAT [7]: Under R74 -/
def REF_STAT_SUSPECT : Field :=
  ⟨0x04C, 7, 1, .ro, 0, 1, 4, 1, 0, false, .ok, 0, 1, 2, .none⟩
/-- 0x04C REF_STAT [15:8]: Held phase in EXT10M, 0 to 249 ticks -/
def REF_STAT_EXT_PHASE : Field :=
  ⟨0x04C, 8, 8, .ro, 0, 1, 4, 1, 0, false, .ok, 0, 255, 256, .none⟩
/-- 0x050 TRIM_TARGET [31:0]: Signed trim target in CRYSTAL mode, −100,000 to +100,000; other values fail with RANGE under R72; ignored in ot... -/
def TRIM_TARGET : Field :=
  ⟨0x050, 0, 32, .st, 0, 1, 4, 1, 0, false, .ok, 0, 4294967295, 4294967296, .none⟩
/-- 0x054 TRIM_APPLIED [31:0]: Signed applied trim -/
def TRIM_APPLIED : Field :=
  ⟨0x054, 0, 32, .ro, 0, 1, 4, 1, 0, false, .ok, 0, 4294967295, 4294967296, .none⟩
/-- 0x058 SLEW [13:0]: Slew limit in ppb per ms, 1 to 10,000; 0 fails with RANGE -/
def SLEW : Field :=
  ⟨0x058, 0, 14, .st, 100, 1, 4, 1, 0, false, .asRange, 1, 10000, 16384, .none⟩
/-- 0x060 XPAIR_TIDE_LO [31:0]: Tide bits [31:0] of the pair -/
def XPAIR_TIDE_LO : Field :=
  ⟨0x060, 0, 32, .ro, 0, 1, 4, 1, 0, false, .ok, 0, 4294967295, 4294967296, .none⟩
/-- 0x064 XPAIR_TIDE_HI [31:0]: Tide bits [63:32] of the pair -/
def XPAIR_TIDE_HI : Field :=
  ⟨0x064, 0, 32, .ro, 0, 1, 4, 1, 0, false, .ok, 0, 4294967295, 4294967296, .none⟩
/-- 0x068 XPAIR_SEC_LO [31:0]: 802.1AS seconds bits [31:0] -/
def XPAIR_SEC_LO : Field :=
  ⟨0x068, 0, 32, .ro, 0, 1, 4, 1, 0, false, .ok, 0, 4294967295, 4294967296, .none⟩
/-- 0x06C XPAIR_SEC_HI [15:0]: 802.1AS seconds bits [47:32] -/
def XPAIR_SEC_HI : Field :=
  ⟨0x06C, 0, 16, .ro, 0, 1, 4, 1, 0, false, .ok, 0, 65535, 65536, .none⟩
/-- 0x070 XPAIR_NS [29:0]: 802.1AS nanoseconds -/
def XPAIR_NS : Field :=
  ⟨0x070, 0, 30, .ro, 0, 1, 4, 1, 0, false, .ok, 0, 1073741823, 1073741824, .none⟩
/-- 0x074 XPAIR_SEQ [31:0]: Increments when a new pair is written -/
def XPAIR_SEQ : Field :=
  ⟨0x074, 0, 32, .ro, 0, 1, 4, 1, 0, false, .ok, 0, 4294967295, 4294967296, .none⟩
/-- 0x080–0x088 FRAME_MAP0–2 [3i+2:3i]: Generator of leg block 8n + i, where n is the register index and i = 0 to 7 -/
def FRAME_MAP : Field :=
  ⟨0x080, 0, 3, .st, 0, 24, 4, 8, 3, false, .ok, 0, 7, 8, .none⟩
/-- 0x08C FRAME_MAP3 [2:0]: Generator of CNV and VCL -/
def FRAME_MAP3_CNV_VCL : Field :=
  ⟨0x08C, 0, 3, .st, 0, 1, 4, 1, 0, false, .ok, 0, 7, 8, .none⟩
/-- 0x08C FRAME_MAP3 [5:3]: Generator of the AC pages -/
def FRAME_MAP3_AC : Field :=
  ⟨0x08C, 3, 3, .st, 0, 1, 4, 1, 0, false, .ok, 0, 7, 8, .none⟩
/-- 0x08C FRAME_MAP3 [8:6]: Generator of the SN pages -/
def FRAME_MAP3_SN : Field :=
  ⟨0x08C, 6, 3, .st, 0, 1, 4, 1, 0, false, .ok, 0, 7, 8, .none⟩

/-- Every field of the TIDE table, in table order. -/
def fields : List Field :=
    [ NOW_LO, NOW_HI, REF_CTRL_SRC, REF_CTRL_LOSS_SYNCS, REF_CTRL_GPTP_PORT, REF_STAT_STATE,
    REF_STAT_XTAL_OK, REF_STAT_EXT_OK, REF_STAT_GPTP_OK, REF_STAT_PLL_LOCK, REF_STAT_SUSPECT,
    REF_STAT_EXT_PHASE, TRIM_TARGET, TRIM_APPLIED, SLEW, XPAIR_TIDE_LO, XPAIR_TIDE_HI,
    XPAIR_SEC_LO, XPAIR_SEC_HI, XPAIR_NS, XPAIR_SEQ, FRAME_MAP, FRAME_MAP3_CNV_VCL,
    FRAME_MAP3_AC, FRAME_MAP3_SN]

end TIDE

namespace FG

/-- 0x040 PERIOD [21:0]: Frame period, 5,000 to 2,500,000 ticks; strap values 12,500, 25,000, 50,000, 125,000; 0 fails with ZERO_INVALID -/
def PERIOD : Field :=
  ⟨0x040, 0, 22, .st, 0, 1, 4, 1, 0, false, .invalid, 5000, 2500000, 4194304, .framePeriod⟩
/-- 0x044 ANCHOR_LO [31:0]: Grid origin bits [31:0] for a start, under R75 -/
def ANCHOR_LO : Field :=
  ⟨0x044, 0, 32, .st, 0, 1, 4, 1, 0, false, .ok, 0, 4294967295, 4294967296, .none⟩
/-- 0x048 ANCHOR_HI [31:0]: Grid origin bits [63:32] -/
def ANCHOR_HI : Field :=
  ⟨0x048, 0, 32, .st, 0, 1, 4, 1, 0, false, .ok, 0, 4294967295, 4294967296, .none⟩
/-- 0x04C COUNT [31:0]: Number of the current frame under R75: 0 from the start through the first frame, +1 at each later boundary; wraps; us... -/
def COUNT : Field :=
  ⟨0x04C, 0, 32, .ro, 0, 1, 4, 1, 0, false, .ok, 0, 4294967295, 4294967296, .none⟩
/-- 0x050 NEXT_LO [31:0]: Next boundary bits [31:0] -/
def NEXT_LO : Field :=
  ⟨0x050, 0, 32, .ro, 0, 1, 4, 1, 0, false, .ok, 0, 4294967295, 4294967296, .none⟩
/-- 0x054 NEXT_HI [31:0]: Next boundary bits [63:32], R48 holding rule -/
def NEXT_HI : Field :=
  ⟨0x054, 0, 32, .ro, 0, 1, 4, 1, 0, false, .ok, 0, 4294967295, 4294967296, .none⟩

/-- Every field of the FG table, in table order. -/
def fields : List Field :=
    [ PERIOD, ANCHOR_LO, ANCHOR_HI, COUNT, NEXT_LO, NEXT_HI]

end FG

namespace ACT

/-- 0x040 ACT_STAT [0]: Copy of R78 in progress -/
def ACT_STAT_COPY_BUSY : Field :=
  ⟨0x040, 0, 1, .ro, 0, 1, 4, 1, 0, false, .ok, 0, 1, 2, .none⟩
/-- 0x040 ACT_STAT [1]: Physical bank now active -/
def ACT_STAT_BANK : Field :=
  ⟨0x040, 1, 1, .ro, 0, 1, 4, 1, 0, false, .ok, 0, 1, 2, .none⟩
/-- 0x040 ACT_STAT [16:8]: Valid MODE 1 entries in the active bank, 0 to 256 -/
def ACT_STAT_ABS_PEND : Field :=
  ⟨0x040, 8, 9, .ro, 0, 1, 4, 1, 0, false, .ok, 0, 511, 512, .none⟩
/-- 0x044–0x060 RETIRED0–7 [31:0]: Bit j of word n: entry 32n + j retired; cleared when a GO is accepted -/
def RETIRED : Field :=
  ⟨0x044, 0, 32, .ro, 0, 8, 4, 1, 0, false, .ok, 0, 4294967295, 4294967296, .none⟩
/-- 0x064 OVERRUN_CNT [15:0]: Under R84; saturates -/
def OVERRUN_CNT : Field :=
  ⟨0x064, 0, 16, .rc, 0, 1, 4, 1, 0, false, .ok, 0, 65535, 65536, .none⟩
/-- 0x068 SKIP_CNT [15:0]: Under R81; saturates -/
def SKIP_CNT : Field :=
  ⟨0x068, 0, 16, .rc, 0, 1, 4, 1, 0, false, .ok, 0, 65535, 65536, .none⟩
/-- 0x06C LATE_CNT [15:0]: Under R82; saturates -/
def LATE_CNT : Field :=
  ⟨0x06C, 0, 16, .rc, 0, 1, 4, 1, 0, false, .ok, 0, 65535, 65536, .none⟩
/-- 0x070 COLLIDE_CNT [15:0]: Under R83; saturates -/
def COLLIDE_CNT : Field :=
  ⟨0x070, 0, 16, .rc, 0, 1, 4, 1, 0, false, .ok, 0, 65535, 65536, .none⟩

/-- Every field of the ACT table, in table order. -/
def fields : List Field :=
    [ ACT_STAT_COPY_BUSY, ACT_STAT_BANK, ACT_STAT_ABS_PEND, RETIRED, OVERRUN_CNT, SKIP_CNT,
    LATE_CNT, COLLIDE_CNT]

end ACT

namespace EVS

/-- 0x040 DROP_CNT [31:0]: Records dropped by all sources; saturates -/
def DROP_CNT : Field :=
  ⟨0x040, 0, 32, .rc, 0, 1, 4, 1, 0, false, .ok, 0, 4294967295, 4294967296, .none⟩
/-- 0x100–0x1FC ROUTE0–63 [8j+5:8j]: Queue for block 4(w mod 8) + j of region w div 8, where w is the word index and j = 0 to 3; block indice... -/
def ROUTE_QUEUE : Field :=
  ⟨0x100, 0, 6, .st, 0, 256, 4, 4, 8, false, .ok, 0, 63, 64, .none⟩
/-- 0x100–0x1FC ROUTE0–63 [8j+7]: Route enabled -/
def ROUTE_EN : Field :=
  ⟨0x100, 7, 1, .st, 0, 256, 4, 4, 8, false, .ok, 0, 1, 2, .none⟩
/-- 0x200 + 8q WM_LO[q] [31:0]: Watermark bits [31:0] of queue q, under R89 -/
def WM_LO : Field :=
  ⟨0x200, 0, 32, .ro, 0, 64, 8, 1, 0, false, .ok, 0, 4294967295, 4294967296, .none⟩
/-- 0x204 + 8q WM_HI[q] [31:0]: Watermark bits [63:32], R48 holding rule -/
def WM_HI : Field :=
  ⟨0x204, 0, 32, .ro, 0, 64, 8, 1, 0, false, .ok, 0, 4294967295, 4294967296, .none⟩

/-- Every field of the EVS table, in table order. -/
def fields : List Field :=
    [ DROP_CNT, ROUTE_QUEUE, ROUTE_EN, WM_LO, WM_HI]

end EVS

end Sys2Proof.Reg
end

