-- ==== Sys2Proof/Machine/RegDrive.lean ====
section
/-! DEFINITION. Register fields of the leg blocks, links, converter, VCL and actuators (Tables 4-11, 4-12, 5-12, 10-12, 10-13, 11-9, 11-10).
One field a definition, with the offset, bits, access and reset value of its row; the docstring is the row. -/

namespace Sys2Proof.Reg

namespace LEG

/-- 0x040 LEG_CFG [0]: Leg safe state: 0 OFF, 1 LOW, under R117; LOCK-protected -/
def LEG_CFG_SAFE_MODE : Field :=
  ⟨0x040, 0, 1, .st, 0, 1, 4, 1, 0, true, .ok, 0, 1, 2, .legSafe⟩
/-- 0x040 LEG_CFG [1]: Under R112 -/
def LEG_CFG_BAND_SRC : Field :=
  ⟨0x040, 1, 1, .st, 0, 1, 4, 1, 0, false, .ok, 0, 1, 2, .none⟩
/-- 0x044 MIN_PULSE [12:0]: Minimum leg-state interval, 16 to 8,191 ticks; 0 fails with ZERO_INVALID -/
def MIN_PULSE : Field :=
  ⟨0x044, 0, 13, .st, 0, 1, 4, 1, 0, false, .invalid, 16, 8191, 8192, .none⟩
/-- 0x048–0x054 DT0–DT3 [15:0]: Dead time HIGH to LOW for band b at 0x048 + 4b, 128 to 65,535 fine steps; 0 fails with ZERO_INVALID; LOCK-pro... -/
def DT_HL : Field :=
  ⟨0x048, 0, 16, .st, 0, 4, 4, 1, 0, true, .invalid, 128, 65535, 65536, .none⟩
/-- 0x048–0x054 DT0–DT3 [31:16]: Dead time LOW to HIGH, as HL -/
def DT_LH : Field :=
  ⟨0x048, 16, 16, .st, 0, 4, 4, 1, 0, true, .invalid, 128, 65535, 65536, .none⟩
/-- 0x058 DRV_STR [2b+1:2b]: Gate-drive strength code for band b, b = 0 to 3, sent under R112 -/
def DRV_STR : Field :=
  ⟨0x058, 0, 2, .st, 0, 4, 4, 4, 2, false, .ok, 0, 3, 4, .none⟩
/-- 0x05C LEG_STAT [1:0]: 0 OFF, 1 HIGH, 2 LOW; 3 not used -/
def LEG_STAT_STATE : Field :=
  ⟨0x05C, 0, 2, .ro, 0, 1, 4, 1, 0, false, .ok, 0, 3, 4, .none⟩
/-- 0x05C LEG_STAT [2]: H commanded on -/
def LEG_STAT_GATE_H : Field :=
  ⟨0x05C, 2, 1, .ro, 0, 1, 4, 1, 0, false, .ok, 0, 1, 2, .none⟩
/-- 0x05C LEG_STAT [3]: L commanded on -/
def LEG_STAT_GATE_L : Field :=
  ⟨0x05C, 3, 1, .ro, 0, 1, 4, 1, 0, false, .ok, 0, 1, 2, .none⟩
/-- 0x05C LEG_STAT [5:4]: Band in the governing set -/
def LEG_STAT_BAND : Field :=
  ⟨0x05C, 4, 2, .ro, 0, 1, 4, 1, 0, false, .ok, 0, 3, 4, .none⟩
/-- 0x05C LEG_STAT [10:8]: Rank of Table 4-5 now acting, minus 1; 3 means leg safe state -/
def LEG_STAT_SOURCE : Field :=
  ⟨0x05C, 8, 3, .ro, 3, 1, 4, 1, 0, false, .ok, 0, 7, 8, .none⟩
/-- 0x05C LEG_STAT [11]: Latch of R118 -/
def LEG_STAT_DESAT_OFF : Field :=
  ⟨0x05C, 11, 1, .ro, 0, 1, 4, 1, 0, false, .ok, 0, 1, 2, .none⟩
/-- 0x060 LAST_EDGE_LO [31:0]: Tick of the last leg edge applied, bits [31:0] -/
def LAST_EDGE_LO : Field :=
  ⟨0x060, 0, 32, .ro, 0, 1, 4, 1, 0, false, .ok, 0, 4294967295, 4294967296, .none⟩
/-- 0x064 LAST_EDGE_HI [31:0]: Bits [63:32], under the holding rule of R48 -/
def LAST_EDGE_HI : Field :=
  ⟨0x064, 0, 32, .ro, 0, 1, 4, 1, 0, false, .ok, 0, 4294967295, 4294967296, .none⟩
/-- 0x068 LAST_EDGE_FINE [2:0]: Its fine step -/
def LAST_EDGE_FINE : Field :=
  ⟨0x068, 0, 3, .ro, 0, 1, 4, 1, 0, false, .ok, 0, 7, 8, .none⟩
/-- 0x06C PAT_FILL [7:0]: Edge entries of this leg in the latest applied pattern -/
def PAT_FILL : Field :=
  ⟨0x06C, 0, 8, .ro, 0, 1, 4, 1, 0, false, .ok, 0, 255, 256, .none⟩
/-- 0x070 EDGE_CNT [31:0]: Gate edges handed to LLP[k]; wraps -/
def EDGE_CNT : Field :=
  ⟨0x070, 0, 32, .ro, 0, 1, 4, 1, 0, false, .ok, 0, 4294967295, 4294967296, .none⟩
/-- 0x074 NOOP_CNT [15:0]: R107 removals; saturates -/
def NOOP_CNT : Field :=
  ⟨0x074, 0, 16, .rc, 0, 1, 4, 1, 0, false, .ok, 0, 65535, 65536, .none⟩
/-- 0x078 COLLIDE_CNT [15:0]: R106 removals; saturates -/
def COLLIDE_CNT : Field :=
  ⟨0x078, 0, 16, .rc, 0, 1, 4, 1, 0, false, .ok, 0, 65535, 65536, .none⟩
/-- 0x07C MINPULSE_CNT [15:0]: Edges removed under R108 and R109; saturates -/
def MINPULSE_CNT : Field :=
  ⟨0x07C, 0, 16, .rc, 0, 1, 4, 1, 0, false, .ok, 0, 65535, 65536, .none⟩
/-- 0x080 STRETCH_CNT [15:0]: Edges moved under R109; saturates -/
def STRETCH_CNT : Field :=
  ⟨0x080, 0, 16, .rc, 0, 1, 4, 1, 0, false, .ok, 0, 65535, 65536, .none⟩
/-- 0x084 INTERLOCK_CNT [15:0]: ON edges delayed under R111; saturates -/
def INTERLOCK_CNT : Field :=
  ⟨0x084, 0, 16, .rc, 0, 1, 4, 1, 0, false, .ok, 0, 65535, 65536, .none⟩
/-- 0x088 PAT_PEAK [7:0]: Highest PAT_FILL since last read -/
def PAT_PEAK : Field :=
  ⟨0x088, 0, 8, .rc, 0, 1, 4, 1, 0, false, .ok, 0, 255, 256, .none⟩

/-- Every field of the LEG table, in table order. -/
def fields : List Field :=
    [ LEG_CFG_SAFE_MODE, LEG_CFG_BAND_SRC, MIN_PULSE, DT_HL, DT_LH, DRV_STR, LEG_STAT_STATE,
    LEG_STAT_GATE_H, LEG_STAT_GATE_L, LEG_STAT_BAND, LEG_STAT_SOURCE, LEG_STAT_DESAT_OFF,
    LAST_EDGE_LO, LAST_EDGE_HI, LAST_EDGE_FINE, PAT_FILL, EDGE_CNT, NOOP_CNT, COLLIDE_CNT,
    MINPULSE_CNT, STRETCH_CNT, INTERLOCK_CNT, PAT_PEAK]

end LEG

namespace LEGL

/-- 0x100 BLK_CFG [0]: 0 LAW, 1 REPEAT under R103 -/
def BLK_CFG_MODE : Field :=
  ⟨0x100, 0, 1, .st, 0, 1, 4, 1, 0, false, .ok, 0, 1, 2, .none⟩
/-- 0x100 BLK_CFG [3:1]: Engine lane whose entries the block accepts, under R96 -/
def BLK_CFG_LANE : Field :=
  ⟨0x100, 1, 3, .st, 0, 1, 4, 1, 0, false, .ok, 0, 7, 8, .none⟩
/-- 0x100 BLK_CFG [17:8]: Frames allowed under R104, 2 to 1,023; 0 and 1 fail with RANGE -/
def BLK_CFG_SW_HOLD_MAX : Field :=
  ⟨0x100, 8, 10, .st, 2, 1, 4, 1, 0, false, .asRange, 2, 1023, 1024, .none⟩
/-- 0x104 EARLIEST [15:0]: Offset of the earliest edge permitted in a frame, 0 to 65,535 ticks, subject to R117; 0 permits edges at the bound... -/
def EARLIEST : Field :=
  ⟨0x104, 0, 16, .st, 736, 1, 4, 1, 0, false, .ok, 0, 65535, 65536, .none⟩
/-- 0x108 BLK_CTRL [0]: Under R119 -/
def BLK_CTRL : Field :=
  ⟨0x108, 0, 1, .w1s, 0, 1, 4, 1, 0, false, .ok, 0, 1, 2, .none⟩
/-- 0x10C BLK_STAT [2:0]: Table 4-6 -/
def BLK_STAT_BSTATE : Field :=
  ⟨0x10C, 0, 3, .ro, 0, 1, 4, 1, 0, false, .ok, 0, 7, 8, .none⟩
/-- 0x10C BLK_STAT [3]: Under R104 -/
def BLK_STAT_SWITCH_HOLD : Field :=
  ⟨0x10C, 3, 1, .ro, 0, 1, 4, 1, 0, false, .ok, 0, 1, 2, .none⟩
/-- 0x10C BLK_STAT [4]: Shutter wires of the block in the closed state -/
def BLK_STAT_SHUTTER_CLOSED : Field :=
  ⟨0x10C, 4, 1, .ro, 1, 1, 4, 1, 0, false, .ok, 0, 1, 2, .none⟩
/-- 0x10C BLK_STAT [5]: Under R116; set from reset -/
def BLK_STAT_SHUTTER_HOLD : Field :=
  ⟨0x10C, 5, 1, .ro, 1, 1, 4, 1, 0, false, .ok, 0, 1, 2, .none⟩
/-- 0x10C BLK_STAT [9:6]: 0 none, 1 MISS, 2 LINK, 3 REG_PARITY, 4 DESAT, 5 SWITCH_TIMEOUT, 6 PATTERN_ECC -/
def BLK_STAT_SAFE_CAUSE : Field :=
  ⟨0x10C, 6, 4, .ro, 0, 1, 4, 1, 0, false, .ok, 0, 15, 16, .none⟩
/-- 0x10C BLK_STAT [11:10]: Consecutive misses, 0 or 1 -/
def BLK_STAT_MISS_RUN : Field :=
  ⟨0x10C, 10, 2, .ro, 0, 1, 4, 1, 0, false, .ok, 0, 3, 4, .none⟩
/-- 0x10C BLK_STAT [25:16]: Frames held under R104, 0 to 1,023 -/
def BLK_STAT_SW_HELD : Field :=
  ⟨0x10C, 16, 10, .ro, 0, 1, 4, 1, 0, false, .ok, 0, 1023, 1024, .none⟩
/-- 0x110 MISS_CNT [15:0]: HORIZON_MISS records written; saturates -/
def MISS_CNT : Field :=
  ⟨0x110, 0, 16, .rc, 0, 1, 4, 1, 0, false, .ok, 0, 65535, 65536, .none⟩
/-- 0x114 LATE_CNT [15:0]: Entries discarded as late or while STOPPED or SAFE; saturates -/
def LATE_CNT : Field :=
  ⟨0x114, 0, 16, .rc, 0, 1, 4, 1, 0, false, .ok, 0, 65535, 65536, .none⟩
/-- 0x118 HELD_CNT [15:0]: Frames held, switch holds included; saturates -/
def HELD_CNT : Field :=
  ⟨0x118, 0, 16, .rc, 0, 1, 4, 1, 0, false, .ok, 0, 65535, 65536, .none⟩
/-- 0x11C LAST_MISS [3:0]: 0 LATE, 1 EARLY, 2 AHEAD, 3 ORDER, 4 FORMAT, 5 LEG, 6 OVERFLOW -/
def LAST_MISS_CAUSE : Field :=
  ⟨0x11C, 0, 4, .ro, 0, 1, 4, 1, 0, false, .ok, 0, 15, 16, .none⟩
/-- 0x11C LAST_MISS [31:16]: Bits [15:0] of the generator COUNT of the missed frame -/
def LAST_MISS_FRAME : Field :=
  ⟨0x11C, 16, 16, .ro, 0, 1, 4, 1, 0, false, .ok, 0, 65535, 65536, .none⟩

/-- Every field of the LEGL table, in table order. -/
def fields : List Field :=
    [ BLK_CFG_MODE, BLK_CFG_LANE, BLK_CFG_SW_HOLD_MAX, EARLIEST, BLK_CTRL, BLK_STAT_BSTATE,
    BLK_STAT_SWITCH_HOLD, BLK_STAT_SHUTTER_CLOSED, BLK_STAT_SHUTTER_HOLD, BLK_STAT_SAFE_CAUSE,
    BLK_STAT_MISS_RUN, BLK_STAT_SW_HELD, MISS_CNT, LATE_CNT, HELD_CNT, LAST_MISS_CAUSE,
    LAST_MISS_FRAME]

end LEGL

namespace LLP

/-- 0x040 LINK_CFG [1:0]: 0 1 Gb/s, 1 2 Gb/s, 2 4 Gb/s; 3 fails with RESERVED_VALUE; from STRAP[9:8] -/
def LINK_CFG_RATE : Field :=
  ⟨0x040, 0, 2, .st, 0, 1, 4, 1, 0, false, .ok, 0, 3, 3, .linkRate⟩
/-- 0x040 LINK_CFG [2]: Board timeout state: 0 OFF, 1 LOW, under R150; LOCK-protected -/
def LINK_CFG_TIMEOUT_MODE : Field :=
  ⟨0x040, 2, 1, .st, 0, 1, 4, 1, 0, true, .ok, 0, 1, 2, .legSafe⟩
/-- 0x040 LINK_CFG [15:8]: Invalid frames per 1 ms window, 1 to 255; 0 fails with ZERO_INVALID -/
def LINK_CFG_ERR_MAX : Field :=
  ⟨0x040, 8, 8, .st, 8, 1, 4, 1, 0, false, .invalid, 0, 255, 256, .none⟩
/-- 0x040 LINK_CFG [23:16]: Lost edges per 1 s window, 0 to 255; 0 makes every lost edge a fault -/
def LINK_CFG_LOST_MAX : Field :=
  ⟨0x040, 16, 8, .st, 4, 1, 4, 1, 0, false, .ok, 0, 255, 256, .none⟩
/-- 0x044 CAL_CFG [7:0]: Recalibration period in ms; 0 means no periodic recalibration -/
def CAL_CFG_CAL_PERIOD : Field :=
  ⟨0x044, 0, 8, .st, 10, 1, 4, 1, 0, false, .ok, 0, 255, 256, .none⟩
/-- 0x044 CAL_CFG [15:8]: Fine steps, 1 to 255; 0 fails with ZERO_INVALID -/
def CAL_CFG_CAL_TOL : Field :=
  ⟨0x044, 8, 8, .st, 8, 1, 4, 1, 0, false, .invalid, 0, 255, 256, .none⟩
/-- 0x044 CAL_CFG [18:16]: Exchanges averaged, 2^CAL_LOG2N, 0 to 6; 7 fails with RANGE -/
def CAL_CFG_CAL_LOG2N : Field :=
  ⟨0x044, 16, 3, .st, 4, 1, 4, 1, 0, false, .ok, 0, 6, 8, .none⟩
/-- 0x048 VCE_CFG [11:0]: 40 to 4,095 ticks; 0 means no VCE sampling; 1 to 39 fail with RANGE -/
def VCE_CFG : Field :=
  ⟨0x048, 0, 12, .st, 0, 1, 4, 1, 0, false, .ok, 40, 4095, 4096, .none⟩
/-- 0x04C LINK_CTRL [0]: Start bring-up, under R147 -/
def LINK_CTRL_TRAIN : Field :=
  ⟨0x04C, 0, 1, .w1s, 0, 1, 4, 1, 0, false, .ok, 0, 1, 2, .none⟩
/-- 0x04C LINK_CTRL [1]: Send CFG DESAT_CLR for every latch set -/
def LINK_CTRL_DESAT_CLR : Field :=
  ⟨0x04C, 1, 1, .w1s, 0, 1, 4, 1, 0, false, .ok, 0, 1, 2, .none⟩
/-- 0x04C LINK_CTRL [2]: Calibrate now, under R139 -/
def LINK_CTRL_RECAL : Field :=
  ⟨0x04C, 2, 1, .w1s, 0, 1, 4, 1, 0, false, .ok, 0, 1, 2, .none⟩
/-- 0x04C LINK_CTRL [3]: Take the link down, under R148 -/
def LINK_CTRL_DOWN : Field :=
  ⟨0x04C, 3, 1, .w1s, 0, 1, 4, 1, 0, false, .ok, 0, 1, 2, .none⟩
/-- 0x050 LINK_STAT [2:0]: Table 5-9 -/
def LINK_STAT_LSTATE : Field :=
  ⟨0x050, 0, 3, .ro, 0, 1, 4, 1, 0, false, .ok, 0, 7, 8, .none⟩
/-- 0x050 LINK_STAT [3]: Uplink clock recovered -/
def LINK_STAT_RX_LOCK : Field :=
  ⟨0x050, 3, 1, .ro, 0, 1, 4, 1, 0, false, .ok, 0, 1, 2, .none⟩
/-- 0x050 LINK_STAT [4]: Uplink symbols aligned -/
def LINK_STAT_ALIGNED : Field :=
  ⟨0x050, 4, 1, .ro, 0, 1, 4, 1, 0, false, .ok, 0, 1, 2, .none⟩
/-- 0x050 LINK_STAT [5]: CAPS 0 to 5 received and accepted since the last entry to TRAIN, under R149 -/
def LINK_STAT_CAPS_OK : Field :=
  ⟨0x050, 5, 1, .ro, 0, 1, 4, 1, 0, false, .ok, 0, 1, 2, .none⟩
/-- 0x050 LINK_STAT [6]: DOWN_DELAY valid -/
def LINK_STAT_CAL_OK : Field :=
  ⟨0x050, 6, 1, .ro, 0, 1, 4, 1, 0, false, .ok, 0, 1, 2, .none⟩
/-- 0x050 LINK_STAT [11:8]: Table 5-10; 0 none -/
def LINK_STAT_FAULT_CAUSE : Field :=
  ⟨0x050, 8, 4, .ro, 0, 1, 4, 1, 0, false, .ok, 0, 15, 16, .none⟩
/-- 0x050 LINK_STAT [23:16]: Latches reported by the board -/
def LINK_STAT_DESAT : Field :=
  ⟨0x050, 16, 8, .ro, 0, 1, 4, 1, 0, false, .ok, 0, 255, 256, .none⟩
/-- 0x050 LINK_STAT [27:24]: Supply faults reported by the board -/
def LINK_STAT_SUP_FAULT : Field :=
  ⟨0x050, 24, 4, .ro, 0, 1, 4, 1, 0, false, .ok, 0, 15, 16, .none⟩
/-- 0x050 LINK_STAT [31:28]: Per leg, latched NTC invalid -/
def LINK_STAT_NTC_INVALID : Field :=
  ⟨0x050, 28, 4, .ro, 0, 1, 4, 1, 0, false, .ok, 0, 15, 16, .none⟩
/-- 0x054 DOWN_DELAY [15:0]: One-way delay in use, fine steps -/
def DOWN_DELAY : Field :=
  ⟨0x054, 0, 16, .ro, 0, 1, 4, 1, 0, false, .ok, 0, 65535, 65536, .none⟩
/-- 0x058 RTT_LAST [15:0]: Last single RTT measured, fine steps -/
def RTT_LAST : Field :=
  ⟨0x058, 0, 16, .ro, 0, 1, 4, 1, 0, false, .ok, 0, 65535, 65536, .none⟩
/-- 0x05C DRV_CAPS0 [13:0]: CAPS index 0 -/
def DRV_CAPS0_PROTO_VER : Field :=
  ⟨0x05C, 0, 14, .ro, 0, 1, 4, 1, 0, false, .ok, 0, 16383, 16384, .none⟩
/-- 0x05C DRV_CAPS0 [29:16]: CAPS index 1 -/
def DRV_CAPS0_LEGS : Field :=
  ⟨0x05C, 16, 14, .ro, 0, 1, 4, 1, 0, false, .ok, 0, 16383, 16384, .none⟩
/-- 0x060 DRV_CAPS1 [13:0]: CAPS index 2 -/
def DRV_CAPS1_DEPTH : Field :=
  ⟨0x060, 0, 14, .ro, 0, 1, 4, 1, 0, false, .ok, 0, 16383, 16384, .none⟩
/-- 0x060 DRV_CAPS1 [29:16]: CAPS index 3 -/
def DRV_CAPS1_RATES : Field :=
  ⟨0x060, 16, 14, .ro, 0, 1, 4, 1, 0, false, .ok, 0, 16383, 16384, .none⟩
/-- 0x064 DRV_CAPS2 [13:0]: CAPS index 4 -/
def DRV_CAPS2_VENDOR : Field :=
  ⟨0x064, 0, 14, .ro, 0, 1, 4, 1, 0, false, .ok, 0, 16383, 16384, .none⟩
/-- 0x064 DRV_CAPS2 [29:16]: CAPS index 5 -/
def DRV_CAPS2_BOARD : Field :=
  ⟨0x064, 16, 14, .ro, 0, 1, 4, 1, 0, false, .ok, 0, 16383, 16384, .none⟩
/-- 0x068 ERR_CNT_UP [15:0]: Invalid uplink frames; saturates -/
def ERR_CNT_UP : Field :=
  ⟨0x068, 0, 16, .rc, 0, 1, 4, 1, 0, false, .ok, 0, 65535, 65536, .none⟩
/-- 0x06C ERR_CNT_DN [15:0]: STATE frames reporting DN_ERR; saturates -/
def ERR_CNT_DN : Field :=
  ⟨0x06C, 0, 16, .rc, 0, 1, 4, 1, 0, false, .ok, 0, 65535, 65536, .none⟩
/-- 0x070 LOST_CNT [15:0]: EDGE_LOST reports, counted per leg; saturates -/
def LOST_CNT : Field :=
  ⟨0x070, 0, 16, .rc, 0, 1, 4, 1, 0, false, .ok, 0, 65535, 65536, .none⟩
/-- 0x074 TX_EDGE_CNT [31:0]: EDGE frames sent; wraps -/
def TX_EDGE_CNT : Field :=
  ⟨0x074, 0, 32, .ro, 0, 1, 4, 1, 0, false, .ok, 0, 4294967295, 4294967296, .none⟩
/-- 0x078 OUTST_PEAK [15:0]: Most edges of one leg launched and not yet due -/
def OUTST_PEAK : Field :=
  ⟨0x078, 0, 16, .rc, 0, 1, 4, 1, 0, false, .ok, 0, 65535, 65536, .none⟩
/-- 0x07C SLACK_MIN [15:0]: Least margin in ticks beyond the 100 of R135 at any edge's arrival; saturates at 65,535 and returns to it when read -/
def SLACK_MIN : Field :=
  ⟨0x07C, 0, 16, .rc, 65535, 1, 4, 1, 0, false, .ok, 0, 65535, 65536, .none⟩
/-- 0x080–0x08C TEL_NTC0–3 [11:0]: Latched NTC of leg i at 0x080 + 4i, signed, 0.125 °C -/
def TEL_NTC_TEMP : Field :=
  ⟨0x080, 0, 12, .ro, 0, 4, 4, 1, 0, false, .ok, 0, 4095, 4096, .none⟩
/-- 0x080–0x08C TEL_NTC0–3 [12]: Under R142 -/
def TEL_NTC_VALID : Field :=
  ⟨0x080, 12, 1, .ro, 0, 4, 4, 1, 0, false, .ok, 0, 1, 2, .none⟩
/-- 0x090–0x09C TEL_VCE0–3 [11:0]: Latched VCE-on of H, mV -/
def TEL_VCE_VCE_H : Field :=
  ⟨0x090, 0, 12, .ro, 0, 4, 4, 1, 0, false, .ok, 0, 4095, 4096, .none⟩
/-- 0x090–0x09C TEL_VCE0–3 [12]: Sample present -/
def TEL_VCE_H_VALID : Field :=
  ⟨0x090, 12, 1, .ro, 0, 4, 4, 1, 0, false, .ok, 0, 1, 2, .none⟩
/-- 0x090–0x09C TEL_VCE0–3 [27:16]: Latched VCE-on of L, mV -/
def TEL_VCE_VCE_L : Field :=
  ⟨0x090, 16, 12, .ro, 0, 4, 4, 1, 0, false, .ok, 0, 4095, 4096, .none⟩
/-- 0x090–0x09C TEL_VCE0–3 [28]: Sample present -/
def TEL_VCE_L_VALID : Field :=
  ⟨0x090, 28, 1, .ro, 0, 4, 4, 1, 0, false, .ok, 0, 1, 2, .none⟩
/-- 0x0A0–0x0AC TEL_SUP0–3 [9:0]: H positive supply, 25 mV -/
def TEL_SUP_H_VPOS : Field :=
  ⟨0x0A0, 0, 10, .ro, 0, 4, 4, 1, 0, false, .ok, 0, 1023, 1024, .none⟩
/-- 0x0A0–0x0AC TEL_SUP0–3 [14:10]: UV_POS, OV_POS, UV_NEG, OV_NEG, UV_PRI -/
def TEL_SUP_H_FLAGS : Field :=
  ⟨0x0A0, 10, 5, .ro, 0, 4, 4, 1, 0, false, .ok, 0, 31, 32, .none⟩
/-- 0x0A0–0x0AC TEL_SUP0–3 [25:16]: L positive supply, 25 mV -/
def TEL_SUP_L_VPOS : Field :=
  ⟨0x0A0, 16, 10, .ro, 0, 4, 4, 1, 0, false, .ok, 0, 1023, 1024, .none⟩
/-- 0x0A0–0x0AC TEL_SUP0–3 [30:26]: As H_FLAGS -/
def TEL_SUP_L_FLAGS : Field :=
  ⟨0x0A0, 26, 5, .ro, 0, 4, 4, 1, 0, false, .ok, 0, 31, 32, .none⟩

/-- Every field of the LLP table, in table order. -/
def fields : List Field :=
    [ LINK_CFG_RATE, LINK_CFG_TIMEOUT_MODE, LINK_CFG_ERR_MAX, LINK_CFG_LOST_MAX,
    CAL_CFG_CAL_PERIOD, CAL_CFG_CAL_TOL, CAL_CFG_CAL_LOG2N, VCE_CFG, LINK_CTRL_TRAIN,
    LINK_CTRL_DESAT_CLR, LINK_CTRL_RECAL, LINK_CTRL_DOWN, LINK_STAT_LSTATE, LINK_STAT_RX_LOCK,
    LINK_STAT_ALIGNED, LINK_STAT_CAPS_OK, LINK_STAT_CAL_OK, LINK_STAT_FAULT_CAUSE,
    LINK_STAT_DESAT, LINK_STAT_SUP_FAULT, LINK_STAT_NTC_INVALID, DOWN_DELAY, RTT_LAST,
    DRV_CAPS0_PROTO_VER, DRV_CAPS0_LEGS, DRV_CAPS1_DEPTH, DRV_CAPS1_RATES, DRV_CAPS2_VENDOR,
    DRV_CAPS2_BOARD, ERR_CNT_UP, ERR_CNT_DN, LOST_CNT, TX_EDGE_CNT, OUTST_PEAK, SLACK_MIN,
    TEL_NTC_TEMP, TEL_NTC_VALID, TEL_VCE_VCE_H, TEL_VCE_H_VALID, TEL_VCE_VCE_L] ++
    [ TEL_VCE_L_VALID, TEL_SUP_H_VPOS, TEL_SUP_H_FLAGS, TEL_SUP_L_VPOS, TEL_SUP_L_FLAGS]

end LLP

namespace CNV

/-- 0x040 CNV_CFG [4:0]: First converter leg block -/
def CNV_CFG_FIRST_BLK : Field :=
  ⟨0x040, 0, 5, .st, 0, 1, 4, 1, 0, false, .ok, 0, 31, 32, .none⟩
/-- 0x040 CNV_CFG [9:5]: 1 to 16; 0 fails with ZERO_INVALID -/
def CNV_CFG_PHASES : Field :=
  ⟨0x040, 5, 5, .st, 0, 1, 4, 1, 0, false, .invalid, 1, 16, 32, .none⟩
/-- 0x040 CNV_CFG [12:10]: Lane of the converter law, R266 -/
def CNV_CFG_LANE : Field :=
  ⟨0x040, 10, 3, .st, 0, 1, 4, 1, 0, false, .ok, 0, 7, 8, .none⟩
/-- 0x040 CNV_CFG [13]: 0 OFF, 1 BYPASS; LOCK-protected -/
def CNV_CFG_SHUT_MODE : Field :=
  ⟨0x040, 13, 1, .st, 1, 1, 4, 1, 0, true, .ok, 0, 1, 2, .none⟩
/-- 0x040 CNV_CFG [14]: R276 -/
def CNV_CFG_SHED_EN : Field :=
  ⟨0x040, 14, 1, .st, 0, 1, 4, 1, 0, false, .ok, 0, 1, 2, .none⟩
/-- 0x044 SHED_CFG [4:0]: 1 to PHASES; 0 fails with ZERO_INVALID -/
def SHED_CFG_PHASE_MIN : Field :=
  ⟨0x044, 0, 5, .st, 1, 1, 4, 1, 0, false, .invalid, 0, 31, 32, .none⟩
/-- 0x044 SHED_CFG [15:8]: 1 to 255; 0 fails with ZERO_INVALID -/
def SHED_CFG_ANNOUNCE_FRAMES : Field :=
  ⟨0x044, 8, 8, .st, 50, 1, 4, 1, 0, false, .invalid, 0, 255, 256, .none⟩
/-- 0x044 SHED_CFG [31:16]: 1 to 65,535; 0 fails with ZERO_INVALID -/
def SHED_CFG_SHED_FRAMES : Field :=
  ⟨0x044, 16, 16, .st, 100, 1, 4, 1, 0, false, .invalid, 0, 65535, 65536, .none⟩
/-- 0x048 SHED_I [15:0]: 0.1 A per phase; 0 never sheds -/
def SHED_I_SHED_I : Field :=
  ⟨0x048, 0, 16, .st, 0, 1, 4, 1, 0, false, .ok, 0, 65535, 65536, .none⟩
/-- 0x048 SHED_I [31:16]: 0.1 A per phase -/
def SHED_I_RESTORE_I : Field :=
  ⟨0x048, 16, 16, .st, 1, 1, 4, 1, 0, false, .ok, 0, 65535, 65536, .none⟩
/-- 0x04C CNV_MISS [15:0]: 1 to 65,535, enough to exceed every permitted SW_HOLD_MAX; 0 fails with ZERO_INVALID -/
def CNV_MISS : Field :=
  ⟨0x04C, 0, 16, .st, 3, 1, 4, 1, 0, false, .invalid, 0, 65535, 65536, .none⟩
/-- 0x050 CNV_CTRL [0]: R281 -/
def CNV_CTRL_START : Field :=
  ⟨0x050, 0, 1, .w1s, 0, 1, 4, 1, 0, false, .ok, 0, 1, 2, .none⟩
/-- 0x050 CNV_CTRL [1]: R281 -/
def CNV_CTRL_STOP : Field :=
  ⟨0x050, 1, 1, .w1s, 0, 1, 4, 1, 0, false, .ok, 0, 1, 2, .none⟩
/-- 0x050 CNV_CTRL [2]: R281 -/
def CNV_CTRL_RESTART : Field :=
  ⟨0x050, 2, 1, .w1s, 0, 1, 4, 1, 0, false, .ok, 0, 1, 2, .none⟩
/-- 0x054 CNV_STAT [2:0]: Table 10-7 -/
def CNV_STAT_STATE : Field :=
  ⟨0x054, 0, 3, .ro, 0, 1, 4, 1, 0, false, .ok, 0, 7, 8, .none⟩
/-- 0x054 CNV_STAT [3]: R280 -/
def CNV_STAT_OT_WARN : Field :=
  ⟨0x054, 3, 1, .ro, 0, 1, 4, 1, 0, false, .ok, 0, 1, 2, .none⟩
/-- 0x054 CNV_STAT [4]: A converter leg has TRIP -/
def CNV_STAT_TRIP : Field :=
  ⟨0x054, 4, 1, .ro, 0, 1, 4, 1, 0, false, .ok, 0, 1, 2, .none⟩
/-- 0x054 CNV_STAT [5]: R279 -/
def CNV_STAT_IMB : Field :=
  ⟨0x054, 5, 1, .ro, 0, 1, 4, 1, 0, false, .ok, 0, 1, 2, .none⟩
/-- 0x054 CNV_STAT [6]: Latest report -/
def CNV_STAT_BYPASS : Field :=
  ⟨0x054, 6, 1, .ro, 0, 1, 4, 1, 0, false, .ok, 0, 1, 2, .none⟩
/-- 0x054 CNV_STAT [11:8]: 0 none, 1 NO_REPORT, 2 BLOCK_SAFE, 3 LAW_FAULT, 4 PARITY -/
def CNV_STAT_FAULT_CAUSE : Field :=
  ⟨0x054, 8, 4, .ro, 0, 1, 4, 1, 0, false, .ok, 0, 15, 16, .none⟩
/-- 0x054 CNV_STAT [20:16]: Active phases -/
def CNV_STAT_N_ACTIVE : Field :=
  ⟨0x054, 16, 5, .ro, 0, 1, 4, 1, 0, false, .ok, 0, 31, 32, .none⟩
/-- 0x058 PHASE_STAT [15:0]: WORD 1 -/
def PHASE_STAT_ACTIVE : Field :=
  ⟨0x058, 0, 16, .ro, 0, 1, 4, 1, 0, false, .ok, 0, 65535, 65536, .none⟩
/-- 0x058 PHASE_STAT [31:16]: WORD 1 -/
def PHASE_STAT_ANNOUNCE : Field :=
  ⟨0x058, 16, 16, .ro, 0, 1, 4, 1, 0, false, .ok, 0, 65535, 65536, .none⟩
/-- 0x05C I_SUM [15:0]: Latest report, 0.1 A -/
def I_SUM_I_SUM : Field :=
  ⟨0x05C, 0, 16, .ro, 0, 1, 4, 1, 0, false, .ok, 0, 65535, 65536, .none⟩
/-- 0x05C I_SUM [16]: A report applied at the latest boundary -/
def I_SUM_VALID : Field :=
  ⟨0x05C, 16, 1, .ro, 0, 1, 4, 1, 0, false, .ok, 0, 1, 2, .none⟩
/-- 0x060 SHED_CNT [15:0]: Phases dropped; saturates -/
def SHED_CNT : Field :=
  ⟨0x060, 0, 16, .rc, 0, 1, 4, 1, 0, false, .ok, 0, 65535, 65536, .none⟩
/-- 0x064 RESTORE_CNT [15:0]: Restores and aborted announcements; saturates -/
def RESTORE_CNT : Field :=
  ⟨0x064, 0, 16, .rc, 0, 1, 4, 1, 0, false, .ok, 0, 65535, 65536, .none⟩
/-- 0x068 MISS_CNT [15:0]: Boundaries without a report in TRACK to ANNOUNCE; saturates -/
def MISS_CNT : Field :=
  ⟨0x068, 0, 16, .rc, 0, 1, 4, 1, 0, false, .ok, 0, 65535, 65536, .none⟩

/-- Every field of the CNV table, in table order. -/
def fields : List Field :=
    [ CNV_CFG_FIRST_BLK, CNV_CFG_PHASES, CNV_CFG_LANE, CNV_CFG_SHUT_MODE, CNV_CFG_SHED_EN,
    SHED_CFG_PHASE_MIN, SHED_CFG_ANNOUNCE_FRAMES, SHED_CFG_SHED_FRAMES, SHED_I_SHED_I,
    SHED_I_RESTORE_I, CNV_MISS, CNV_CTRL_START, CNV_CTRL_STOP, CNV_CTRL_RESTART, CNV_STAT_STATE,
    CNV_STAT_OT_WARN, CNV_STAT_TRIP, CNV_STAT_IMB, CNV_STAT_BYPASS, CNV_STAT_FAULT_CAUSE,
    CNV_STAT_N_ACTIVE, PHASE_STAT_ACTIVE, PHASE_STAT_ANNOUNCE, I_SUM_I_SUM, I_SUM_VALID,
    SHED_CNT, RESTORE_CNT, MISS_CNT]

end CNV

namespace VCL

/-- 0x040 VCL_CFG [1:0]: 0 LAW, 1 STAGED, 2 EXTERNAL; 3 fails with RESERVED_VALUE -/
def VCL_CFG_SRC : Field :=
  ⟨0x040, 0, 2, .st, 0, 1, 4, 1, 0, false, .ok, 0, 3, 3, .none⟩
/-- 0x040 VCL_CFG [4:2]: Lane whose SET is taken when SRC is LAW -/
def VCL_CFG_CMD_LANE : Field :=
  ⟨0x040, 2, 3, .st, 0, 1, 4, 1, 0, false, .ok, 0, 7, 8, .none⟩
/-- 0x040 VCL_CFG [6:5]: 0 1 Mb/s, 1 2.5 Mb/s, 2 5 Mb/s, 3 10 Mb/s -/
def VCL_CFG_BAUD : Field :=
  ⟨0x040, 5, 2, .st, 3, 1, 4, 1, 0, false, .ok, 0, 3, 4, .none⟩
/-- 0x040 VCL_CFG [15:8]: 1 to 255; 0 fails with ZERO_INVALID -/
def VCL_CFG_REACH_FRAMES : Field :=
  ⟨0x040, 8, 8, .st, 4, 1, 4, 1, 0, false, .invalid, 0, 255, 256, .none⟩
/-- 0x040 VCL_CFG [31:16]: ms; 0 means no timeout -/
def VCL_CFG_EXT_TIMEOUT : Field :=
  ⟨0x040, 16, 16, .st, 100, 1, 4, 1, 0, false, .ok, 0, 65535, 65536, .none⟩
/-- 0x044 APPLY_LEAD [21:0]: R267, 0 to 2,499,999; 0 applies at the first boundary at or after t_L -/
def APPLY_LEAD : Field :=
  ⟨0x044, 0, 22, .st, 0, 1, 4, 1, 0, false, .ok, 0, 2499999, 4194304, .none⟩
/-- 0x048 V_LIMITS [15:0]: 0.1 V; LOCK-protected -/
def V_LIMITS_V_MIN : Field :=
  ⟨0x048, 0, 16, .st, 0, 1, 4, 1, 0, true, .ok, 0, 65535, 65536, .none⟩
/-- 0x048 V_LIMITS [31:16]: 0.1 V; LOCK-protected; 0 refuses every SET -/
def V_LIMITS_V_MAX : Field :=
  ⟨0x048, 16, 16, .st, 0, 1, 4, 1, 0, true, .ok, 0, 65535, 65536, .none⟩
/-- 0x04C–0x058 SLEW0–3 [15:0]: SLEW k at 0x04C + 4k, mV/µs, 1 to 65,535; 0 fails with ZERO_INVALID -/
def SLEW : Field :=
  ⟨0x04C, 0, 16, .st, 1, 4, 4, 1, 0, false, .invalid, 0, 65535, 65536, .none⟩
/-- 0x060–0x07C SLOT0–7 [31:0]: Command word of slot s at 0x060 + 4s, for VSTEP -/
def SLOT : Field :=
  ⟨0x060, 0, 32, .st, 0, 8, 4, 1, 0, false, .ok, 0, 4294967295, 4294967296, .none⟩
/-- 0x080 RAMP [31:0]: Ramp point -/
def RAMP : Field :=
  ⟨0x080, 0, 32, .ro, 0, 1, 4, 1, 0, false, .ok, 0, 4294967295, 4294967296, .none⟩
/-- 0x084 TARGET [15:0]: Active target, 0.1 V -/
def TARGET_VOLT : Field :=
  ⟨0x084, 0, 16, .ro, 0, 1, 4, 1, 0, false, .ok, 0, 65535, 65536, .none⟩
/-- 0x084 TARGET [19:16]: Its TAG -/
def TARGET_TAG : Field :=
  ⟨0x084, 16, 4, .ro, 0, 1, 4, 1, 0, false, .ok, 0, 15, 16, .none⟩
/-- 0x084 TARGET [21:20]: Its rate index -/
def TARGET_SLEW : Field :=
  ⟨0x084, 20, 2, .ro, 0, 1, 4, 1, 0, false, .ok, 0, 3, 4, .none⟩
/-- 0x084 TARGET [31]: A SET is active -/
def TARGET_ACTIVE : Field :=
  ⟨0x084, 31, 1, .ro, 0, 1, 4, 1, 0, false, .ok, 0, 1, 2, .none⟩
/-- 0x088 LAST_ACK [31:0]: Table 10-4 -/
def LAST_ACK : Field :=
  ⟨0x088, 0, 32, .ro, 0, 1, 4, 1, 0, false, .ok, 0, 4294967295, 4294967296, .none⟩
/-- 0x08C LAST_ACK_TIDE [31:0]: Stamp bits [31:0] of LAST_ACK -/
def LAST_ACK_TIDE : Field :=
  ⟨0x08C, 0, 32, .ro, 0, 1, 4, 1, 0, false, .ok, 0, 4294967295, 4294967296, .none⟩
/-- 0x090 CMD_CNT [31:0]: SETs acknowledged ACCEPTED; wraps -/
def CMD_CNT : Field :=
  ⟨0x090, 0, 32, .ro, 0, 1, 4, 1, 0, false, .ok, 0, 4294967295, 4294967296, .none⟩
/-- 0x094 REFUSED_CNT [15:0]: Refused SETs and discarded words; saturates -/
def REFUSED_CNT : Field :=
  ⟨0x094, 0, 16, .rc, 0, 1, 4, 1, 0, false, .ok, 0, 65535, 65536, .none⟩
/-- 0x098 EXT_ERR_CNT [15:0]: Invalid external frames; saturates -/
def EXT_ERR_CNT : Field :=
  ⟨0x098, 0, 16, .rc, 0, 1, 4, 1, 0, false, .ok, 0, 65535, 65536, .none⟩
/-- 0x09C REPORT_LATE_CNT [15:0]: R267; saturates -/
def REPORT_LATE_CNT : Field :=
  ⟨0x09C, 0, 16, .rc, 0, 1, 4, 1, 0, false, .ok, 0, 65535, 65536, .none⟩
/-- 0x0A0 VCL_STAT [0]: A valid external frame within EXT_TIMEOUT -/
def VCL_STAT_EXT_OK : Field :=
  ⟨0x0A0, 0, 1, .ro, 0, 1, 4, 1, 0, false, .ok, 0, 1, 2, .none⟩
/-- 0x0A0 VCL_STAT [1]: R272 -/
def VCL_STAT_EXT_LOST : Field :=
  ⟨0x0A0, 1, 1, .ro, 0, 1, 4, 1, 0, false, .ok, 0, 1, 2, .none⟩

/-- Every field of the VCL table, in table order. -/
def fields : List Field :=
    [ VCL_CFG_SRC, VCL_CFG_CMD_LANE, VCL_CFG_BAUD, VCL_CFG_REACH_FRAMES, VCL_CFG_EXT_TIMEOUT,
    APPLY_LEAD, V_LIMITS_V_MIN, V_LIMITS_V_MAX, SLEW, SLOT, RAMP, TARGET_VOLT, TARGET_TAG,
    TARGET_SLEW, TARGET_ACTIVE, LAST_ACK, LAST_ACK_TIDE, CMD_CNT, REFUSED_CNT, EXT_ERR_CNT,
    REPORT_LATE_CNT, VCL_STAT_EXT_OK, VCL_STAT_EXT_LOST]

end VCL

namespace BRG

/-- 0x040 BRG_CFG [1:0]: 0 OFF, 1 SSC, 2 DIRECT; 3 fails with RESERVED_VALUE -/
def BRG_CFG_MODE : Field :=
  ⟨0x040, 0, 2, .st, 0, 1, 4, 1, 0, false, .ok, 0, 3, 3, .none⟩
/-- 0x040 BRG_CFG [3:2]: Gate source current code: 0 0.25 A, 1 0.5 A, 2 1 A, 3 2 A -/
def BRG_CFG_SRC_I : Field :=
  ⟨0x040, 2, 2, .st, 1, 1, 4, 1, 0, false, .ok, 0, 3, 4, .none⟩
/-- 0x040 BRG_CFG [5:4]: Gate sink current code, as SRC_I -/
def BRG_CFG_SNK_I : Field :=
  ⟨0x040, 4, 2, .st, 1, 1, 4, 1, 0, false, .ok, 0, 3, 4, .none⟩
/-- 0x044 DT [11:0]: Dead time, 25 to 4,095 ticks; 0 fails with ZERO_INVALID; LOCK-protected -/
def DT : Field :=
  ⟨0x044, 0, 12, .st, 0, 1, 4, 1, 0, true, .invalid, 25, 4095, 4096, .none⟩
/-- 0x048 VDS_CFG [4:0]: Threshold 0.1 V × (TH + 1), 0.1 V to 2.0 V; above 19 fails with RANGE; LOCK-protected -/
def VDS_CFG_TH : Field :=
  ⟨0x048, 0, 5, .st, 9, 1, 4, 1, 0, true, .ok, 0, 19, 32, .none⟩
/-- 0x048 VDS_CFG [27:16]: 250 to 4,095 ticks; 0 fails with ZERO_INVALID, 1 to 249 with RANGE; LOCK-protected -/
def VDS_CFG_BLANK : Field :=
  ⟨0x048, 16, 12, .st, 1250, 1, 4, 1, 0, true, .invalid, 250, 4095, 4096, .none⟩
/-- 0x04C BST_CFG [7:0]: 0.1 V, 50 to 100; 0 fails with ZERO_INVALID -/
def BST_CFG_BST_UV : Field :=
  ⟨0x04C, 0, 8, .st, 70, 1, 4, 1, 0, false, .invalid, 50, 100, 256, .none⟩
/-- 0x04C BST_CFG [23:16]: Periods between gaps, 1 to 255; 0 fails with ZERO_INVALID -/
def BST_CFG_REFRESH_N : Field :=
  ⟨0x04C, 16, 8, .st, 4, 1, 4, 1, 0, false, .invalid, 0, 255, 256, .none⟩
/-- 0x050 PWM_PERIOD [21:0]: DIRECT carrier, 25,000 to 2,500,000; 0 fails with ZERO_INVALID when MODE is 2; ignored otherwise -/
def PWM_PERIOD : Field :=
  ⟨0x050, 0, 22, .st, 125000, 1, 4, 1, 0, false, .ok, 0, 4194303, 4194304, .none⟩
/-- 0x054 DIRECT [1:0]: 0 OFF, 1 PWM, 2 LOW; 3 fails with RESERVED_VALUE -/
def DIRECT_DSTATE : Field :=
  ⟨0x054, 0, 2, .st, 0, 1, 4, 1, 0, false, .ok, 0, 3, 3, .none⟩
/-- 0x054 DIRECT [29:16]: 0.01 %, 0 to 10,000; 0 holds GH off in PWM; above 10,000 fails with RANGE -/
def DIRECT_DUTY : Field :=
  ⟨0x054, 16, 14, .st, 0, 1, 4, 1, 0, false, .ok, 0, 10000, 16384, .none⟩
/-- 0x058 BRG_CTRL [0]: Under R300 -/
def BRG_CTRL_VDS_CLR : Field :=
  ⟨0x058, 0, 1, .w1s, 0, 1, 4, 1, 0, false, .ok, 0, 1, 2, .none⟩
/-- 0x058 BRG_CTRL [1]: Under R304; reads 1 while running -/
def BRG_CTRL_SELFTEST : Field :=
  ⟨0x058, 1, 1, .w1s, 0, 1, 4, 1, 0, false, .ok, 0, 1, 2, .none⟩
/-- 0x058 BRG_CTRL [2]: Under R296 -/
def BRG_CTRL_REARM : Field :=
  ⟨0x058, 2, 1, .w1s, 0, 1, 4, 1, 0, false, .ok, 0, 1, 2, .none⟩
/-- 0x05C BRG_STAT [0]: GH on -/
def BRG_STAT_GATE_H : Field :=
  ⟨0x05C, 0, 1, .ro, 0, 1, 4, 1, 0, false, .ok, 0, 1, 2, .none⟩
/-- 0x05C BRG_STAT [1]: GL on -/
def BRG_STAT_GATE_L : Field :=
  ⟨0x05C, 1, 1, .ro, 0, 1, 4, 1, 0, false, .ok, 0, 1, 2, .none⟩
/-- 0x05C BRG_STAT [2]: Latch -/
def BRG_STAT_VDS_H : Field :=
  ⟨0x05C, 2, 1, .ro, 0, 1, 4, 1, 0, false, .ok, 0, 1, 2, .none⟩
/-- 0x05C BRG_STAT [3]: Latch -/
def BRG_STAT_VDS_L : Field :=
  ⟨0x05C, 3, 1, .ro, 0, 1, 4, 1, 0, false, .ok, 0, 1, 2, .none⟩
/-- 0x05C BRG_STAT [4]: Under R297 -/
def BRG_STAT_BST_UV : Field :=
  ⟨0x05C, 4, 1, .ro, 0, 1, 4, 1, 0, false, .ok, 0, 1, 2, .none⟩
/-- 0x05C BRG_STAT [5]: Under R299 -/
def BRG_STAT_CP_FAULT : Field :=
  ⟨0x05C, 5, 1, .ro, 0, 1, 4, 1, 0, false, .ok, 0, 1, 2, .none⟩
/-- 0x05C BRG_STAT [6]: The 98 % cap applies -/
def BRG_STAT_CAPPED : Field :=
  ⟨0x05C, 6, 1, .ro, 0, 1, 4, 1, 0, false, .ok, 0, 1, 2, .none⟩
/-- 0x05C BRG_STAT [7]: Under R296 -/
def BRG_STAT_SHUT_HOLD : Field :=
  ⟨0x05C, 7, 1, .ro, 0, 1, 4, 1, 0, false, .ok, 0, 1, 2, .none⟩
/-- 0x05C BRG_STAT [8]: Block Shutter wires closed -/
def BRG_STAT_SHUTTER_CLOSED : Field :=
  ⟨0x05C, 8, 1, .ro, 1, 1, 4, 1, 0, false, .ok, 0, 1, 2, .none⟩
/-- 0x05C BRG_STAT [11:9]: Rank of Table 11-1 acting, minus 1 -/
def BRG_STAT_SOURCE : Field :=
  ⟨0x05C, 9, 3, .ro, 2, 1, 4, 1, 0, false, .ok, 0, 7, 8, .none⟩
/-- 0x05C BRG_STAT [12]: Under R304 -/
def BRG_STAT_ST_PASS : Field :=
  ⟨0x05C, 12, 1, .ro, 0, 1, 4, 1, 0, false, .ok, 0, 1, 2, .none⟩
/-- 0x05C BRG_STAT [13]: Under R305 -/
def BRG_STAT_ST_FAIL : Field :=
  ⟨0x05C, 13, 1, .ro, 0, 1, 4, 1, 0, false, .ok, 0, 1, 2, .none⟩
/-- 0x060 ST_RESULT [9:0]: Pairs trip, no-trip: [1:0] VDS_H, [3:2] VDS_L, [5:4] BST_UV, [7:6] charge pump, [9:8] zero crossing; 1 = pass -/
def ST_RESULT : Field :=
  ⟨0x060, 0, 10, .ro, 0, 1, 4, 1, 0, false, .ok, 0, 1023, 1024, .none⟩
/-- 0x064 VBST [7:0]: Latest VBST, 0.1 V -/
def VBST : Field :=
  ⟨0x064, 0, 8, .ro, 0, 1, 4, 1, 0, false, .ok, 0, 255, 256, .none⟩
/-- 0x068 VDS_CNT [15:0]: VDS latches; saturates -/
def VDS_CNT : Field :=
  ⟨0x068, 0, 16, .rc, 0, 1, 4, 1, 0, false, .ok, 0, 65535, 65536, .none⟩
/-- 0x06C REFRESH_CNT [15:0]: Gaps under R298; saturates -/
def REFRESH_CNT : Field :=
  ⟨0x06C, 0, 16, .rc, 0, 1, 4, 1, 0, false, .ok, 0, 65535, 65536, .none⟩
/-- 0x100 SUP_CFG [9:0]: 0.1 V; 90 for 12–24 V, 180 for 24–60 V; 0 fails with ZERO_INVALID -/
def SUP_CFG_UV : Field :=
  ⟨0x100, 0, 10, .st, 0, 1, 4, 1, 0, false, .invalid, 0, 1023, 1024, .supUv⟩
/-- 0x100 SUP_CFG [25:16]: 0.1 V; 300 for 12–24 V, 650 for 24–60 V; 0 fails with ZERO_INVALID -/
def SUP_CFG_OV : Field :=
  ⟨0x100, 16, 10, .st, 0, 1, 4, 1, 0, false, .invalid, 0, 1023, 1024, .supOv⟩
/-- 0x104 SUP_STAT [9:0]: Latest VBR[b], 0.1 V -/
def SUP_STAT_VBR : Field :=
  ⟨0x104, 0, 10, .ro, 0, 1, 4, 1, 0, false, .ok, 0, 1023, 1024, .none⟩
/-- 0x104 SUP_STAT [16]: Below UV -/
def SUP_STAT_UV : Field :=
  ⟨0x104, 16, 1, .ro, 0, 1, 4, 1, 0, false, .ok, 0, 1, 2, .none⟩
/-- 0x104 SUP_STAT [17]: Above OV -/
def SUP_STAT_OV : Field :=
  ⟨0x104, 17, 1, .ro, 0, 1, 4, 1, 0, false, .ok, 0, 1, 2, .none⟩
/-- 0x104 SUP_STAT [18]: Latched ACT_SUPPLY_RANGE; strap-fixed -/
def SUP_STAT_RANGE : Field :=
  ⟨0x104, 18, 1, .ro, 0, 1, 4, 1, 0, false, .ok, 0, 1, 2, .bits 12 1⟩

/-- Every field of the BRG table, in table order. -/
def fields : List Field :=
    [ BRG_CFG_MODE, BRG_CFG_SRC_I, BRG_CFG_SNK_I, DT, VDS_CFG_TH, VDS_CFG_BLANK, BST_CFG_BST_UV,
    BST_CFG_REFRESH_N, PWM_PERIOD, DIRECT_DSTATE, DIRECT_DUTY, BRG_CTRL_VDS_CLR,
    BRG_CTRL_SELFTEST, BRG_CTRL_REARM, BRG_STAT_GATE_H, BRG_STAT_GATE_L, BRG_STAT_VDS_H,
    BRG_STAT_VDS_L, BRG_STAT_BST_UV, BRG_STAT_CP_FAULT, BRG_STAT_CAPPED, BRG_STAT_SHUT_HOLD,
    BRG_STAT_SHUTTER_CLOSED, BRG_STAT_SOURCE, BRG_STAT_ST_PASS, BRG_STAT_ST_FAIL, ST_RESULT,
    VBST, VDS_CNT, REFRESH_CNT, SUP_CFG_UV, SUP_CFG_OV, SUP_STAT_VBR, SUP_STAT_UV, SUP_STAT_OV,
    SUP_STAT_RANGE]

end BRG

namespace SSC

/-- 0x040 SSC_CFG [3:0]: BRG index of phase A -/
def SSC_CFG_CELL_A : Field :=
  ⟨0x040, 0, 4, .st, 0, 1, 4, 1, 0, false, .ok, 0, 15, 16, .none⟩
/-- 0x040 SSC_CFG [7:4]: Phase B -/
def SSC_CFG_CELL_B : Field :=
  ⟨0x040, 4, 4, .st, 0, 1, 4, 1, 0, false, .ok, 0, 15, 16, .none⟩
/-- 0x040 SSC_CFG [11:8]: Phase C -/
def SSC_CFG_CELL_C : Field :=
  ⟨0x040, 8, 4, .st, 0, 1, 4, 1, 0, false, .ok, 0, 15, 16, .none⟩
/-- 0x040 SSC_CFG [12]: Commanded direction, R308 -/
def SSC_CFG_DIR : Field :=
  ⟨0x040, 12, 1, .st, 0, 1, 4, 1, 0, false, .ok, 0, 1, 2, .none⟩
/-- 0x040 SSC_CFG [17:13]: 1 to 31; 0 fails with ZERO_INVALID -/
def SSC_CFG_POLE_PAIRS : Field :=
  ⟨0x040, 13, 5, .st, 0, 1, 4, 1, 0, false, .invalid, 0, 31, 32, .none⟩
/-- 0x040 SSC_CFG [18]: 0 coast, 1 short-circuit brake -/
def SSC_CFG_STOP_MODE : Field :=
  ⟨0x040, 18, 1, .st, 0, 1, 4, 1, 0, false, .ok, 0, 1, 2, .none⟩
/-- 0x040 SSC_CFG [19]: R318 -/
def SSC_CFG_KE_ACTION : Field :=
  ⟨0x040, 19, 1, .st, 0, 1, 4, 1, 0, false, .ok, 0, 1, 2, .none⟩
/-- 0x044 SSC_PWM [21:0]: 25,000 to 250,000 ticks; 0 fails with ZERO_INVALID -/
def SSC_PWM_PERIOD : Field :=
  ⟨0x044, 0, 22, .st, 62500, 1, 4, 1, 0, false, .invalid, 25000, 250000, 4194304, .none⟩
/-- 0x044 SSC_PWM [31:24]: R310; 0 hard commutation -/
def SSC_PWM_SOFT : Field :=
  ⟨0x044, 24, 8, .st, 2, 1, 4, 1, 0, false, .ok, 0, 255, 256, .none⟩
/-- 0x048 SPD_CMD [15:0]: Mechanical rpm; 0 stops, R313 -/
def SPD_CMD : Field :=
  ⟨0x048, 0, 16, .st, 0, 1, 4, 1, 0, false, .ok, 0, 65535, 65536, .none⟩
/-- 0x04C SPD_REG [15:0]: 2^−24 duty per rpm; 0 gives no proportional term -/
def SPD_REG_KP : Field :=
  ⟨0x04C, 0, 16, .st, 0, 1, 4, 1, 0, false, .ok, 0, 65535, 65536, .none⟩
/-- 0x04C SPD_REG [31:16]: 2^−24 duty per rpm per step; 0 gives no integral term -/
def SPD_REG_KI : Field :=
  ⟨0x04C, 16, 16, .st, 0, 1, 4, 1, 0, false, .ok, 0, 65535, 65536, .none⟩
/-- 0x050 DUTY_LIM [16:0]: 2^−16, 0 to 65,536; 0 holds the duty at 0 -/
def DUTY_LIM : Field :=
  ⟨0x050, 0, 17, .st, 65536, 1, 4, 1, 0, false, .ok, 0, 65536, 131072, .none⟩
/-- 0x054 ZC_CFG [11:0]: Ticks after each gate edge; 0 samples at once -/
def ZC_CFG_ZC_BLANK : Field :=
  ⟨0x054, 0, 12, .st, 250, 1, 4, 1, 0, false, .ok, 0, 4095, 4096, .none⟩
/-- 0x054 ZC_CFG [22:16]: 1/256 of T_s, 1 to 127; 0 fails with ZERO_INVALID -/
def ZC_CFG_DEMAG : Field :=
  ⟨0x054, 16, 7, .st, 32, 1, 4, 1, 0, false, .invalid, 1, 127, 128, .none⟩
/-- 0x058–0x074 ADV0–7 [15:0]: Entry i at 0x058 + 4i, rpm, non-decreasing in i -/
def ADV_SPEED : Field :=
  ⟨0x058, 0, 16, .st, 0, 8, 4, 1, 0, false, .ok, 0, 65535, 65536, .none⟩
/-- 0x058–0x074 ADV0–7 [22:16]: 1/256 of a step, 0 to 64; above 64 fails with RANGE -/
def ADV_ADV : Field :=
  ⟨0x058, 16, 7, .st, 0, 8, 4, 1, 0, false, .ok, 0, 64, 128, .none⟩
/-- 0x078 START_A [15:0]: rpm; 0 fails with ZERO_INVALID; R314 -/
def START_A_DET_SPEED : Field :=
  ⟨0x078, 0, 16, .st, 0, 1, 4, 1, 0, false, .invalid, 0, 65535, 65536, .none⟩
/-- 0x078 START_A [31:16]: rpm; 0 sends every reverse listen to WAIT -/
def START_A_REV_SC_MAX : Field :=
  ⟨0x078, 16, 16, .st, 0, 1, 4, 1, 0, false, .ok, 0, 65535, 65536, .none⟩
/-- 0x07C START_B [15:0]: 1 to 65,535; 0 fails with ZERO_INVALID -/
def START_B_ALIGN_MS : Field :=
  ⟨0x07C, 0, 16, .st, 100, 1, 4, 1, 0, false, .invalid, 0, 65535, 65536, .none⟩
/-- 0x07C START_B [31:16]: 1 to 65,535; 0 fails with ZERO_INVALID -/
def START_B_BRAKE_MS : Field :=
  ⟨0x07C, 16, 16, .st, 50, 1, 4, 1, 0, false, .invalid, 0, 65535, 65536, .none⟩
/-- 0x080 START_C [15:0]: 2^−16; 0 fails with ZERO_INVALID -/
def START_C_ALIGN_DUTY : Field :=
  ⟨0x080, 0, 16, .st, 6554, 1, 4, 1, 0, false, .invalid, 0, 65535, 65536, .none⟩
/-- 0x080 START_C [31:16]: rpm, above DET_SPEED; 0 fails with ZERO_INVALID -/
def START_C_OL_MAX : Field :=
  ⟨0x080, 16, 16, .st, 0, 1, 4, 1, 0, false, .invalid, 0, 65535, 65536, .none⟩
/-- 0x084 START_D [15:0]: rpm per s; 0 fails with ZERO_INVALID -/
def START_D_OL_ACCEL : Field :=
  ⟨0x084, 0, 16, .st, 10000, 1, 4, 1, 0, false, .invalid, 0, 65535, 65536, .none⟩
/-- 0x084 START_D [23:16]: 2 to 255; 0 fails with ZERO_INVALID, 1 with RANGE -/
def START_D_LOCK_STEPS : Field :=
  ⟨0x084, 16, 8, .st, 6, 1, 4, 1, 0, false, .invalid, 2, 255, 256, .none⟩
/-- 0x084 START_D [31:24]: 1 to 255; 0 fails with ZERO_INVALID -/
def START_D_LOST_STEPS : Field :=
  ⟨0x084, 24, 8, .st, 6, 1, 4, 1, 0, false, .invalid, 0, 255, 256, .none⟩
/-- 0x088 START_E [7:0]: Windows of WAIT and BRAKE, 1 to 255; 0 fails with ZERO_INVALID -/
def START_E_BRAKE_MAX : Field :=
  ⟨0x088, 0, 8, .st, 5, 1, 4, 1, 0, false, .invalid, 0, 255, 256, .none⟩
/-- 0x088 START_E [31:16]: 2^−16 duty per 1,000 rpm; 0 starts a synchronisation at duty 0 -/
def START_E_FF : Field :=
  ⟨0x088, 16, 16, .st, 0, 1, 4, 1, 0, false, .ok, 0, 65535, 65536, .none⟩
/-- 0x08C KE_CFG [15:0]: mV per 1,000 rpm; 0 fails with ZERO_INVALID when KE_WIN is not 0 -/
def KE_CFG_KE_REF : Field :=
  ⟨0x08C, 0, 16, .st, 0, 1, 4, 1, 0, false, .ok, 0, 65535, 65536, .none⟩
/-- 0x08C KE_CFG [31:16]: Samples per window; 0 disables the check -/
def KE_CFG_KE_WIN : Field :=
  ⟨0x08C, 16, 16, .st, 0, 1, 4, 1, 0, false, .ok, 0, 65535, 65536, .none⟩
/-- 0x090 KE_BAND [15:0]: Q12 -/
def KE_BAND_KE_LO : Field :=
  ⟨0x090, 0, 16, .st, 3277, 1, 4, 1, 0, false, .ok, 0, 65535, 65536, .none⟩
/-- 0x090 KE_BAND [31:16]: Q12, above KE_LO -/
def KE_BAND_KE_HI : Field :=
  ⟨0x090, 16, 16, .st, 4915, 1, 4, 1, 0, false, .ok, 0, 65535, 65536, .none⟩
/-- 0x094 SSC_CTRL [0]: R314 -/
def SSC_CTRL_START : Field :=
  ⟨0x094, 0, 1, .w1s, 0, 1, 4, 1, 0, false, .ok, 0, 1, 2, .none⟩
/-- 0x094 SSC_CTRL [1]: R319 -/
def SSC_CTRL_STOP : Field :=
  ⟨0x094, 1, 1, .w1s, 0, 1, 4, 1, 0, false, .ok, 0, 1, 2, .none⟩
/-- 0x094 SSC_CTRL [2]: R319 -/
def SSC_CTRL_FAULT_CLR : Field :=
  ⟨0x094, 2, 1, .w1s, 0, 1, 4, 1, 0, false, .ok, 0, 1, 2, .none⟩
/-- 0x098 SSC_STAT [3:0]: Table 11-8 -/
def SSC_STAT_STATE : Field :=
  ⟨0x098, 0, 4, .ro, 0, 1, 4, 1, 0, false, .ok, 0, 15, 16, .none⟩
/-- 0x098 SSC_STAT [4]: Closed-loop commutation -/
def SSC_STAT_LOCKED : Field :=
  ⟨0x098, 4, 1, .ro, 0, 1, 4, 1, 0, false, .ok, 0, 1, 2, .none⟩
/-- 0x098 SSC_STAT [5]: R318 -/
def SSC_STAT_KE_ABNORMAL : Field :=
  ⟨0x098, 5, 1, .ro, 0, 1, 4, 1, 0, false, .ok, 0, 1, 2, .none⟩
/-- 0x098 SSC_STAT [8:6]: Present step -/
def SSC_STAT_STEP : Field :=
  ⟨0x098, 6, 3, .ro, 0, 1, 4, 1, 0, false, .ok, 0, 7, 8, .none⟩
/-- 0x098 SSC_STAT [15:12]: 0 NONE, 1 COMMAND, 2 SYNC, 3 STILL, 4 LOCK, 5 STALL, 6 START, 7 REVERSE, 8 VDS, 9 SUPPLY, 10 SHUTTER, 11 KE, 12 C... -/
def SSC_STAT_CAUSE : Field :=
  ⟨0x098, 12, 4, .ro, 0, 1, 4, 1, 0, false, .ok, 0, 15, 16, .none⟩
/-- 0x098 SSC_STAT [19:16]: Bit 0 A, 1 B, 2 C: latched under R303 -/
def SSC_STAT_VDS_CELLS : Field :=
  ⟨0x098, 16, 4, .ro, 0, 1, 4, 1, 0, false, .ok, 0, 15, 16, .none⟩
/-- 0x098 SSC_STAT [23:20]: BRG index of the first VDS latch -/
def SSC_STAT_FIRST_CELL : Field :=
  ⟨0x098, 20, 4, .ro, 0, 1, 4, 1, 0, false, .ok, 0, 15, 16, .none⟩
/-- 0x09C SPEED [15:0]: R312 -/
def SPEED : Field :=
  ⟨0x09C, 0, 16, .ro, 0, 1, 4, 1, 0, false, .ok, 0, 65535, 65536, .none⟩
/-- 0x0A0 STEP_TICKS [23:0]: T_s, saturates -/
def STEP_TICKS : Field :=
  ⟨0x0A0, 0, 24, .ro, 0, 1, 4, 1, 0, false, .ok, 0, 16777215, 16777216, .none⟩
/-- 0x0A4 DUTY [16:0]: Applied duty, R313 -/
def DUTY : Field :=
  ⟨0x0A4, 0, 17, .ro, 0, 1, 4, 1, 0, false, .ok, 0, 131071, 131072, .none⟩
/-- 0x0A8 KE_MEAS [15:0]: R318 -/
def KE_MEAS_MV : Field :=
  ⟨0x0A8, 0, 16, .ro, 0, 1, 4, 1, 0, false, .ok, 0, 65535, 65536, .none⟩
/-- 0x0A8 KE_MEAS [31:16]: KE_RATIO, Q12 -/
def KE_MEAS_RATIO : Field :=
  ⟨0x0A8, 16, 16, .ro, 0, 1, 4, 1, 0, false, .ok, 0, 65535, 65536, .none⟩
/-- 0x0AC LOST_CNT [15:0]: Lost steps; saturates -/
def LOST_CNT : Field :=
  ⟨0x0AC, 0, 16, .rc, 0, 1, 4, 1, 0, false, .ok, 0, 65535, 65536, .none⟩

/-- Every field of the SSC table, in table order. -/
def fields : List Field :=
    [ SSC_CFG_CELL_A, SSC_CFG_CELL_B, SSC_CFG_CELL_C, SSC_CFG_DIR, SSC_CFG_POLE_PAIRS,
    SSC_CFG_STOP_MODE, SSC_CFG_KE_ACTION, SSC_PWM_PERIOD, SSC_PWM_SOFT, SPD_CMD, SPD_REG_KP,
    SPD_REG_KI, DUTY_LIM, ZC_CFG_ZC_BLANK, ZC_CFG_DEMAG, ADV_SPEED, ADV_ADV, START_A_DET_SPEED,
    START_A_REV_SC_MAX, START_B_ALIGN_MS, START_B_BRAKE_MS, START_C_ALIGN_DUTY, START_C_OL_MAX,
    START_D_OL_ACCEL, START_D_LOCK_STEPS, START_D_LOST_STEPS, START_E_BRAKE_MAX, START_E_FF,
    KE_CFG_KE_REF, KE_CFG_KE_WIN, KE_BAND_KE_LO, KE_BAND_KE_HI, SSC_CTRL_START, SSC_CTRL_STOP,
    SSC_CTRL_FAULT_CLR, SSC_STAT_STATE, SSC_STAT_LOCKED, SSC_STAT_KE_ABNORMAL, SSC_STAT_STEP,
    SSC_STAT_CAUSE] ++
    [ SSC_STAT_VDS_CELLS, SSC_STAT_FIRST_CELL, SPEED, STEP_TICKS, DUTY, KE_MEAS_MV,
    KE_MEAS_RATIO, LOST_CNT]

end SSC

end Sys2Proof.Reg
end

