-- ==== Sys2Proof/Machine/RegQuay.lean ====
section
/-! DEFINITION. Register fields of the engines and Quays (Tables 7-13 to 7-15, 12-7 to 12-10) and the parameter and status blocks of the law images (Tables 8-3, 8-6, 10-8, 10-11), whose offset is a word index.
One field a definition, with the offset, bits, access and reset value of its row; the docstring is the row. -/

namespace Sys2Proof.Reg

namespace ENG

/-- 0x040 ENG_STAT [7:0]: Bit l: lane l running -/
def ENG_STAT_BUSY : Field :=
  ⟨0x040, 0, 8, .ro, 0, 1, 4, 1, 0, false, .ok, 0, 255, 256, .none⟩
/-- 0x040 ENG_STAT [8]: Bank copy of R191 in progress -/
def ENG_STAT_COPY_BUSY : Field :=
  ⟨0x040, 8, 1, .ro, 0, 1, 4, 1, 0, false, .ok, 0, 1, 2, .none⟩
/-- 0x040 ENG_STAT [9]: Physical bank now active -/
def ENG_STAT_BANK : Field :=
  ⟨0x040, 9, 1, .ro, 0, 1, 4, 1, 0, false, .ok, 0, 1, 2, .none⟩
/-- 0x040 ENG_STAT [10]: This engine takes LAUNCH actions -/
def ENG_STAT_LAUNCHING : Field :=
  ⟨0x040, 10, 1, .ro, 0, 1, 4, 1, 0, false, .ok, 0, 1, 2, .none⟩
/-- 0x044 COEF_SIG [31:0]: CRC-32 of IEEE 802.3 over the active bank, words in index order, bytes 0 to 7; updated at each exchange -/
def COEF_SIG : Field :=
  ⟨0x044, 0, 32, .ro, 0, 1, 4, 1, 0, false, .ok, 0, 4294967295, 4294967296, .none⟩
/-- 0x048 LAWMEM_SIG [31:0]: CRC-32 of law memory, computed on SIG_REQ -/
def LAWMEM_SIG : Field :=
  ⟨0x048, 0, 32, .ro, 0, 1, 4, 1, 0, false, .ok, 0, 4294967295, 4294967296, .none⟩
/-- 0x04C SIG_CTRL [0]: Compute LAWMEM_SIG; reads 1 until SIG_DONE -/
def SIG_CTRL : Field :=
  ⟨0x04C, 0, 1, .w1s, 0, 1, 4, 1, 0, false, .ok, 0, 1, 2, .none⟩
/-- 0x050 LAWMEM_WR_REJ [15:0]: Writes refused under R206; saturates -/
def LAWMEM_WR_REJ : Field :=
  ⟨0x050, 0, 16, .rc, 0, 1, 4, 1, 0, false, .ok, 0, 65535, 65536, .none⟩
/-- 0x100–0x4FC SLOT_MAP0–255 [7:0]: Source block type, Table 2-2; slot s at 0x100 + 4s -/
def SLOT_MAP_TYPE : Field :=
  ⟨0x100, 0, 8, .st, 0, 256, 4, 1, 0, false, .ok, 0, 255, 256, .none⟩
/-- 0x100–0x4FC SLOT_MAP0–255 [14:8]: Source instance -/
def SLOT_MAP_INST : Field :=
  ⟨0x100, 8, 7, .st, 0, 256, 4, 1, 0, false, .ok, 0, 127, 128, .none⟩
/-- 0x100–0x4FC SLOT_MAP0–255 [19:15]: Source channel -/
def SLOT_MAP_CHAN : Field :=
  ⟨0x100, 15, 5, .st, 0, 256, 4, 1, 0, false, .ok, 0, 31, 32, .none⟩
/-- 0x100–0x4FC SLOT_MAP0–255 [22:20]: Word of a multi-word source -/
def SLOT_MAP_WORD : Field :=
  ⟨0x100, 20, 3, .st, 0, 256, 4, 1, 0, false, .ok, 0, 7, 8, .none⟩
/-- 0x100–0x4FC SLOT_MAP0–255 [31]: Slot enabled; TYPE to WORD are checked only when EN is 1 -/
def SLOT_MAP_EN : Field :=
  ⟨0x100, 31, 1, .st, 0, 256, 4, 1, 0, false, .ok, 0, 1, 2, .none⟩

/-- Every field of the ENG table, in table order. -/
def fields : List Field :=
    [ ENG_STAT_BUSY, ENG_STAT_COPY_BUSY, ENG_STAT_BANK, ENG_STAT_LAUNCHING, COEF_SIG,
    LAWMEM_SIG, SIG_CTRL, LAWMEM_WR_REJ, SLOT_MAP_TYPE, SLOT_MAP_INST, SLOT_MAP_CHAN,
    SLOT_MAP_WORD, SLOT_MAP_EN]

end ENG

namespace LANE

/-- 0x040 LANE_STAT [0]: Run in progress -/
def LANE_STAT_RUNNING : Field :=
  ⟨0x040, 0, 1, .ro, 0, 1, 4, 1, 0, false, .ok, 0, 1, 2, .none⟩
/-- 0x040 LANE_STAT [1]: LDS waiting -/
def LANE_STAT_STALLED : Field :=
  ⟨0x040, 1, 1, .ro, 0, 1, 4, 1, 0, false, .ok, 0, 1, 2, .none⟩
/-- 0x040 LANE_STAT [4:2]: Requests waiting, 0 to 4 -/
def LANE_STAT_QUEUED : Field :=
  ⟨0x040, 2, 3, .ro, 0, 1, 4, 1, 0, false, .ok, 0, 7, 8, .none⟩
/-- 0x040 LANE_STAT [25:16]: Descriptor of the current or last run -/
def LANE_STAT_LAW : Field :=
  ⟨0x040, 16, 10, .ro, 0, 1, 4, 1, 0, false, .ok, 0, 1023, 1024, .none⟩
/-- 0x044 LAST_LAUNCH_LO [31:0]: t_L bits [31:0] of the current or last run -/
def LAST_LAUNCH_LO : Field :=
  ⟨0x044, 0, 32, .ro, 0, 1, 4, 1, 0, false, .ok, 0, 4294967295, 4294967296, .none⟩
/-- 0x048 LAST_LAUNCH_HI [31:0]: Bits [63:32], under the holding rule of R48 -/
def LAST_LAUNCH_HI : Field :=
  ⟨0x048, 0, 32, .ro, 0, 1, 4, 1, 0, false, .ok, 0, 4294967295, 4294967296, .none⟩
/-- 0x04C RUN_CYC_MAX [19:0]: Most cycles executed by one run since last read -/
def RUN_CYC_MAX : Field :=
  ⟨0x04C, 0, 20, .rc, 0, 1, 4, 1, 0, false, .ok, 0, 1048575, 1048576, .none⟩
/-- 0x050 RUN_TICKS_MAX [23:0]: Longest time from t_L to END; saturates -/
def RUN_TICKS_MAX : Field :=
  ⟨0x050, 0, 24, .rc, 0, 1, 4, 1, 0, false, .ok, 0, 16777215, 16777216, .none⟩
/-- 0x054 STALL_MAX [21:0]: Longest single stall; saturates -/
def STALL_MAX : Field :=
  ⟨0x054, 0, 22, .rc, 0, 1, 4, 1, 0, false, .ok, 0, 4194303, 4194304, .none⟩
/-- 0x058 ABORT [3:0]: Last abort: 0 none, 1 OVERTIME, 2 STALL_TIMEOUT, 3 ILLEGAL, 4 UNCORR, 5 SOFTWARE -/
def ABORT_CAUSE : Field :=
  ⟨0x058, 0, 4, .ro, 0, 1, 4, 1, 0, false, .ok, 0, 15, 16, .none⟩
/-- 0x058 ABORT [17:8]: Its descriptor -/
def ABORT_LAW : Field :=
  ⟨0x058, 8, 10, .ro, 0, 1, 4, 1, 0, false, .ok, 0, 1023, 1024, .none⟩
/-- 0x05C ABORT_CNT [15:0]: Aborted runs; saturates -/
def ABORT_CNT : Field :=
  ⟨0x05C, 0, 16, .rc, 0, 1, 4, 1, 0, false, .ok, 0, 65535, 65536, .none⟩
/-- 0x060 DROP_CNT [15:0]: Requests dropped under R183; saturates -/
def DROP_CNT : Field :=
  ⟨0x060, 0, 16, .rc, 0, 1, 4, 1, 0, false, .ok, 0, 65535, 65536, .none⟩
/-- 0x064 SAT_CNT [15:0]: Runs that ended with S set; saturates -/
def SAT_CNT : Field :=
  ⟨0x064, 0, 16, .rc, 0, 1, 4, 1, 0, false, .ok, 0, 65535, 65536, .none⟩
/-- 0x068 SLOT_LOST_CNT [15:0]: Under R190; saturates -/
def SLOT_LOST_CNT : Field :=
  ⟨0x068, 0, 16, .rc, 0, 1, 4, 1, 0, false, .ok, 0, 65535, 65536, .none⟩
/-- 0x06C DIVZ_CNT [15:0]: Under R197; saturates -/
def DIVZ_CNT : Field :=
  ⟨0x06C, 0, 16, .rc, 0, 1, 4, 1, 0, false, .ok, 0, 65535, 65536, .none⟩
/-- 0x070 REC_CFG [0]: Under R204 -/
def REC_CFG_REC : Field :=
  ⟨0x070, 0, 1, .rw, 0, 1, 4, 1, 0, false, .ok, 0, 1, 2, .none⟩
/-- 0x070 REC_CFG [4:1]: Tap of the recording -/
def REC_CFG_TAP : Field :=
  ⟨0x070, 1, 4, .rw, 0, 1, 4, 1, 0, false, .ok, 0, 15, 16, .none⟩

/-- Every field of the LANE table, in table order. -/
def fields : List Field :=
    [ LANE_STAT_RUNNING, LANE_STAT_STALLED, LANE_STAT_QUEUED, LANE_STAT_LAW, LAST_LAUNCH_LO,
    LAST_LAUNCH_HI, RUN_CYC_MAX, RUN_TICKS_MAX, STALL_MAX, ABORT_CAUSE, ABORT_LAW, ABORT_CNT,
    DROP_CNT, SAT_CNT, SLOT_LOST_CNT, DIVZ_CNT, REC_CFG_REC, REC_CFG_TAP]

end LANE

namespace INJ

/-- +0x00 INJ_CFG [1:0]: 0 OFF, 1 SINE, 2 PRBS, 3 STEP -/
def INJ_CFG_MODE : Field :=
  ⟨0x040, 0, 2, .st, 0, 4, 32, 1, 0, false, .ok, 0, 3, 4, .none⟩
/-- +0x00 INJ_CFG [30:16]: PRBS start state; 0 fails with ZERO_INVALID when MODE is 2 -/
def INJ_CFG_SEED : Field :=
  ⟨0x040, 16, 15, .st, 1, 4, 32, 1, 0, false, .ok, 0, 32767, 32768, .none⟩
/-- +0x04 AMPL [30:0]: Amplitude, positive Q31; 0 gives a zero signal -/
def AMPL : Field :=
  ⟨0x044, 0, 31, .st, 0, 4, 32, 1, 0, false, .ok, 0, 2147483647, 2147483648, .none⟩
/-- +0x08 INC [31:0]: SINE: phase step per tick, 0 gives a constant; PRBS: ticks per bit, 0 fails with ZERO_INVALID; otherwise ignored -/
def INC : Field :=
  ⟨0x048, 0, 32, .st, 0, 4, 32, 1, 0, false, .ok, 0, 4294967295, 4294967296, .none⟩
/-- +0x0C PHASE0 [31:0]: SINE start phase, fraction of a turn -/
def PHASE0 : Field :=
  ⟨0x04C, 0, 32, .st, 0, 4, 32, 1, 0, false, .ok, 0, 4294967295, 4294967296, .none⟩
/-- +0x10 START_LO [31:0]: Window start, bits [31:0] -/
def START_LO : Field :=
  ⟨0x050, 0, 32, .st, 0, 4, 32, 1, 0, false, .ok, 0, 4294967295, 4294967296, .none⟩
/-- +0x14 START_HI [31:0]: Bits [63:32] -/
def START_HI : Field :=
  ⟨0x054, 0, 32, .st, 0, 4, 32, 1, 0, false, .ok, 0, 4294967295, 4294967296, .none⟩
/-- +0x18 DURATION [31:0]: Window length; 0 fails with ZERO_INVALID when MODE is not OFF -/
def DURATION : Field :=
  ⟨0x058, 0, 32, .st, 0, 4, 32, 1, 0, false, .ok, 0, 4294967295, 4294967296, .none⟩
/-- +0x1C INJ_STAT [0]: The Tide lies inside the window -/
def INJ_STAT : Field :=
  ⟨0x05C, 0, 1, .ro, 0, 4, 32, 1, 0, false, .ok, 0, 1, 2, .none⟩
/-- 0x0C0–0x0CC LIMIT0–3 [30:0]: Largest AMPL of generator g at 0x0C0 + 4g; LOCK-protected -/
def LIMIT : Field :=
  ⟨0x0C0, 0, 31, .st, 0, 4, 4, 1, 0, true, .ok, 0, 2147483647, 2147483648, .none⟩

/-- Every field of the INJ table, in table order. -/
def fields : List Field :=
    [ INJ_CFG_MODE, INJ_CFG_SEED, AMPL, INC, PHASE0, START_LO, START_HI, DURATION, INJ_STAT,
    LIMIT]

end INJ

namespace QCTL

/-- 0x040 Q_STAT [2:0]: Table 12-2 -/
def Q_STAT_QSTATE : Field :=
  ⟨0x040, 0, 3, .ro, 0, 1, 4, 1, 0, false, .ok, 0, 7, 8, .none⟩
/-- 0x040 Q_STAT [3]: This Quay holds the token -/
def Q_STAT_OWNER : Field :=
  ⟨0x040, 3, 1, .ro, 0, 1, 4, 1, 0, false, .ok, 0, 1, 2, .none⟩
/-- 0x040 Q_STAT [4]: Under R340 -/
def Q_STAT_IN_STEP : Field :=
  ⟨0x040, 4, 1, .ro, 0, 1, 4, 1, 0, false, .ok, 0, 1, 2, .none⟩
/-- 0x040 Q_STAT [5]: Latched CORE_SPLIT; strap-fixed -/
def Q_STAT_SPLIT : Field :=
  ⟨0x040, 5, 1, .ro, 0, 1, 4, 1, 0, false, .ok, 0, 1, 2, .bits 3 1⟩
/-- 0x040 Q_STAT [6]: 0 A, 1 B -/
def Q_STAT_QUAY : Field :=
  ⟨0x040, 6, 1, .ro, 0, 1, 4, 1, 0, false, .ok, 0, 1, 2, .none⟩
/-- 0x040 Q_STAT [11:8]: Code of Table 12-1 of the last release or loss, of either Quay -/
def Q_STAT_LAST_CAUSE : Field :=
  ⟨0x040, 8, 4, .ro, 0, 1, 4, 1, 0, false, .ok, 0, 15, 16, .none⟩
/-- 0x040 Q_STAT [13:12]: Quay faults of this Quay since power-on; saturates at 3 -/
def Q_STAT_FAULTS : Field :=
  ⟨0x040, 12, 2, .ro, 0, 1, 4, 1, 0, false, .ok, 0, 3, 4, .none⟩
/-- 0x044 RED_STAT [2:0]: Table 12-3; 5 to 7 not used -/
def RED_STAT_RSTATE : Field :=
  ⟨0x044, 0, 3, .ro, 4, 1, 4, 1, 0, false, .ok, 0, 7, 8, .none⟩
/-- 0x044 RED_STAT [3]: 0 A, 1 B -/
def RED_STAT_OWNER_Q : Field :=
  ⟨0x044, 3, 1, .ro, 0, 1, 4, 1, 0, false, .ok, 0, 1, 2, .bits 2 1⟩
/-- 0x044 RED_STAT [4]: Under R349 -/
def RED_STAT_EXPIRED : Field :=
  ⟨0x044, 4, 1, .ro, 0, 1, 4, 1, 0, false, .ok, 0, 1, 2, .none⟩
/-- 0x044 RED_STAT [31:16]: Seconds left in SINGLE; the full limit otherwise -/
def RED_STAT_REMAIN : Field :=
  ⟨0x044, 16, 16, .ro, 0, 1, 4, 1, 0, false, .ok, 0, 65535, 65536, .none⟩
/-- 0x048 SW_CTRL [0]: Under R345; LOCK-protected -/
def SW_CTRL : Field :=
  ⟨0x048, 0, 1, .w1s, 0, 1, 4, 1, 0, true, .ok, 0, 1, 2, .none⟩
/-- 0x04C LAST_BT_LO [31:0]: B_T of the last takeover, bits [31:0] -/
def LAST_BT_LO : Field :=
  ⟨0x04C, 0, 32, .ro, 0, 1, 4, 1, 0, false, .ok, 0, 4294967295, 4294967296, .none⟩
/-- 0x050 LAST_BT_HI [31:0]: Bits [63:32], holding rule of R48 -/
def LAST_BT_HI : Field :=
  ⟨0x050, 0, 32, .ro, 0, 1, 4, 1, 0, false, .ok, 0, 4294967295, 4294967296, .none⟩
/-- 0x054 LAST_REL [31:0]: t_r of the last release, bits [31:0] -/
def LAST_REL : Field :=
  ⟨0x054, 0, 32, .ro, 0, 1, 4, 1, 0, false, .ok, 0, 4294967295, 4294967296, .none⟩
/-- 0x058 SW_CNT [15:0]: Takeovers since power-on; saturates -/
def SW_CNT : Field :=
  ⟨0x058, 0, 16, .ro, 0, 1, 4, 1, 0, false, .ok, 0, 65535, 65536, .none⟩
/-- 0x05C SNAP_AGE [7:0]: Under R343 -/
def SNAP_AGE : Field :=
  ⟨0x05C, 0, 8, .ro, 0, 1, 4, 1, 0, false, .ok, 0, 255, 256, .none⟩
/-- 0x080–0x08C WD_CFG0–3 [15:0]: Watchdog w at 0x080 + 4w, µs, 100 to 65,535; 0 fails with ZERO_INVALID -/
def WD_CFG_PERIOD : Field :=
  ⟨0x080, 0, 16, .st, 50000, 4, 4, 1, 0, true, .invalid, 100, 65535, 65536, .none⟩
/-- 0x080–0x08C WD_CFG0–3 [31:16]: µs; 0 means no lower bound -/
def WD_CFG_MIN : Field :=
  ⟨0x080, 16, 16, .st, 0, 4, 4, 1, 0, true, .ok, 0, 65535, 65536, .none⟩
/-- 0x090–0x09C WD_KICK0–3 [31:0]: Under R333 -/
def WD_KICK : Field :=
  ⟨0x090, 0, 32, .wo, 0, 4, 4, 1, 0, false, .ok, 0, 4294967295, 4294967296, .none⟩
/-- 0x0A0–0x0AC WD_STAT0–3 [7:0]: Expected sequence value -/
def WD_STAT_NEXT : Field :=
  ⟨0x0A0, 0, 8, .ro, 1, 4, 4, 1, 0, false, .ok, 0, 255, 256, .none⟩
/-- 0x0A0–0x0AC WD_STAT0–3 [8]: Started -/
def WD_STAT_RUNNING : Field :=
  ⟨0x0A0, 8, 1, .ro, 0, 4, 4, 1, 0, false, .ok, 0, 1, 2, .none⟩
/-- 0x0A0–0x0AC WD_STAT0–3 [9]: Under R332 -/
def WD_STAT_FROZEN : Field :=
  ⟨0x0A0, 9, 1, .ro, 0, 4, 4, 1, 0, false, .ok, 0, 1, 2, .none⟩
/-- 0x0A0–0x0AC WD_STAT0–3 [31:16]: µs to timeout, saturating -/
def WD_STAT_REMAIN : Field :=
  ⟨0x0A0, 16, 16, .ro, 0, 4, 4, 1, 0, false, .ok, 0, 65535, 65536, .none⟩

/-- Every field of the QCTL table, in table order. -/
def fields : List Field :=
    [ Q_STAT_QSTATE, Q_STAT_OWNER, Q_STAT_IN_STEP, Q_STAT_SPLIT, Q_STAT_QUAY, Q_STAT_LAST_CAUSE,
    Q_STAT_FAULTS, RED_STAT_RSTATE, RED_STAT_OWNER_Q, RED_STAT_EXPIRED, RED_STAT_REMAIN,
    SW_CTRL, LAST_BT_LO, LAST_BT_HI, LAST_REL, SW_CNT, SNAP_AGE, WD_CFG_PERIOD, WD_CFG_MIN,
    WD_KICK, WD_STAT_NEXT, WD_STAT_RUNNING, WD_STAT_FROZEN, WD_STAT_REMAIN]

end QCTL

namespace IRQ

/-- 0x040–0x054 IRQ_EN0–5 [31:0]: Bit j of word i enables input 32i + j -/
def IRQ_EN : Field :=
  ⟨0x040, 0, 32, .rw, 0, 6, 4, 1, 0, false, .ok, 0, 4294967295, 4294967296, .none⟩
/-- 0x060–0x074 IRQ_LEVEL0–5 [31:0]: Bit j of word i: input 32i + j asserted -/
def IRQ_LEVEL : Field :=
  ⟨0x060, 0, 32, .ro, 0, 6, 4, 1, 0, false, .ok, 0, 4294967295, 4294967296, .none⟩
/-- 0x080–0x0DC IRQ_PRIO0–23 [4j+3:4j]: Input 8i + j: 0 never delivered, 1 lowest to 15 highest -/
def IRQ_PRIO : Field :=
  ⟨0x080, 0, 4, .rw, 0, 192, 4, 8, 4, false, .ok, 0, 15, 16, .none⟩
/-- 0x100–0x15C IRQ_TGT0–23 [4j+3:4j]: Input 8i + j: bit c delivers to core c -/
def IRQ_TGT : Field :=
  ⟨0x100, 0, 4, .rw, 1, 192, 4, 8, 4, false, .ok, 0, 15, 16, .none⟩
/-- 0x180–0x18C IRQ_THR0–3 [3:0]: Core c receives only priorities above THR -/
def IRQ_THR : Field :=
  ⟨0x180, 0, 4, .rw, 0, 4, 4, 1, 0, false, .ok, 0, 15, 16, .none⟩
/-- 0x1A0–0x1AC IRQ_CLAIM0–3 [7:0]: Core c: the highest-priority asserted, enabled input targeted at it and above THR -/
def IRQ_CLAIM_INPUT : Field :=
  ⟨0x1A0, 0, 8, .ro, 0, 4, 4, 1, 0, false, .ok, 0, 255, 256, .none⟩
/-- 0x1A0–0x1AC IRQ_CLAIM0–3 [8]: No such input -/
def IRQ_CLAIM_NONE : Field :=
  ⟨0x1A0, 8, 1, .ro, 1, 4, 4, 1, 0, false, .ok, 0, 1, 2, .none⟩

/-- Every field of the IRQ table, in table order. -/
def fields : List Field :=
    [ IRQ_EN, IRQ_LEVEL, IRQ_PRIO, IRQ_TGT, IRQ_THR, IRQ_CLAIM_INPUT, IRQ_CLAIM_NONE]

end IRQ

namespace LCK

/-- 0x040 LCK_STAT [0]: No mismatch -/
def LCK_STAT_PAIR0_OK : Field :=
  ⟨0x040, 0, 1, .ro, 1, 1, 4, 1, 0, false, .ok, 0, 1, 2, .none⟩
/-- 0x040 LCK_STAT [1]: No mismatch -/
def LCK_STAT_PAIR1_OK : Field :=
  ⟨0x040, 1, 1, .ro, 1, 1, 4, 1, 0, false, .ok, 0, 1, 2, .none⟩
/-- 0x040 LCK_STAT [2]: No lane mismatch -/
def LCK_STAT_LANES_OK : Field :=
  ⟨0x040, 2, 1, .ro, 1, 1, 4, 1, 0, false, .ok, 0, 1, 2, .none⟩
/-- 0x040 LCK_STAT [3]: As Q_STAT.SPLIT -/
def LCK_STAT_SPLIT : Field :=
  ⟨0x040, 3, 1, .ro, 0, 1, 4, 1, 0, false, .ok, 0, 1, 2, .bits 3 1⟩
/-- 0x040 LCK_STAT [7:4]: 0 none, 1 CORE, 2 LANE, 3 COMP_TEST, 4 SCRUB, 5 FORCED -/
def LCK_STAT_LAST_CAUSE : Field :=
  ⟨0x040, 4, 4, .ro, 0, 1, 4, 1, 0, false, .ok, 0, 15, 16, .none⟩
/-- 0x040 LCK_STAT [11:8]: Pair 0 or 1, or lane 0 to 7 -/
def LCK_STAT_LAST_UNIT : Field :=
  ⟨0x040, 8, 4, .ro, 0, 1, 4, 1, 0, false, .ok, 0, 15, 16, .none⟩
/-- 0x044 LAST_TIDE_LO [31:0]: Stamp of the last detection, bits [31:0] -/
def LAST_TIDE_LO : Field :=
  ⟨0x044, 0, 32, .ro, 0, 1, 4, 1, 0, false, .ok, 0, 4294967295, 4294967296, .none⟩
/-- 0x048 LAST_TIDE_HI [31:0]: Bits [63:32], holding rule of R48 -/
def LAST_TIDE_HI : Field :=
  ⟨0x048, 0, 32, .ro, 0, 1, 4, 1, 0, false, .ok, 0, 4294967295, 4294967296, .none⟩
/-- 0x04C TEST_CNT [31:0]: Comparator tests passed; wraps -/
def TEST_CNT : Field :=
  ⟨0x04C, 0, 32, .ro, 0, 1, 4, 1, 0, false, .ok, 0, 4294967295, 4294967296, .none⟩
/-- 0x050 SCRUB_CNT [31:0]: Scrubs passed, pairs and lanes; wraps -/
def SCRUB_CNT : Field :=
  ⟨0x050, 0, 32, .ro, 0, 1, 4, 1, 0, false, .ok, 0, 4294967295, 4294967296, .none⟩
/-- 0x054 REPLAY_STAT [6:0]: Replay entries of pair 0, 0 to 64 -/
def REPLAY_STAT_FILL0 : Field :=
  ⟨0x054, 0, 7, .ro, 0, 1, 4, 1, 0, false, .ok, 0, 127, 128, .none⟩
/-- 0x054 REPLAY_STAT [14:8]: Replay entries of pair 1 -/
def REPLAY_STAT_FILL1 : Field :=
  ⟨0x054, 8, 7, .ro, 0, 1, 4, 1, 0, false, .ok, 0, 127, 128, .none⟩
/-- 0x054 REPLAY_STAT [31:16]: Writes refused under R331; saturates -/
def REPLAY_STAT_FULL_CNT : Field :=
  ⟨0x054, 16, 16, .rc, 0, 1, 4, 1, 0, false, .ok, 0, 65535, 65536, .none⟩
/-- 0x058 LCK_CTRL [0]: LOCK-protected -/
def LCK_CTRL : Field :=
  ⟨0x058, 0, 1, .w1s, 0, 1, 4, 1, 0, true, .ok, 0, 1, 2, .none⟩

/-- Every field of the LCK table, in table order. -/
def fields : List Field :=
    [ LCK_STAT_PAIR0_OK, LCK_STAT_PAIR1_OK, LCK_STAT_LANES_OK, LCK_STAT_SPLIT,
    LCK_STAT_LAST_CAUSE, LCK_STAT_LAST_UNIT, LAST_TIDE_LO, LAST_TIDE_HI, TEST_CNT, SCRUB_CNT,
    REPLAY_STAT_FILL0, REPLAY_STAT_FILL1, REPLAY_STAT_FULL_CNT, LCK_CTRL]

end LCK

namespace GWY

/-- 0x040 GWY_STAT [0]: Sends snapshots -/
def GWY_STAT_SENDING : Field :=
  ⟨0x040, 0, 1, .ro, 0, 1, 4, 1, 0, false, .ok, 0, 1, 2, .none⟩
/-- 0x040 GWY_STAT [1]: Receives snapshots -/
def GWY_STAT_RECEIVING : Field :=
  ⟨0x040, 1, 1, .ro, 0, 1, 4, 1, 0, false, .ok, 0, 1, 2, .none⟩
/-- 0x040 GWY_STAT [2]: Mirror running, under R341 -/
def GWY_STAT_MIRROR : Field :=
  ⟨0x040, 2, 1, .ro, 0, 1, 4, 1, 0, false, .ok, 0, 1, 2, .none⟩
/-- 0x040 GWY_STAT [3]: Bulk copy in progress -/
def GWY_STAT_RESYNC_BUSY : Field :=
  ⟨0x040, 3, 1, .ro, 0, 1, 4, 1, 0, false, .ok, 0, 1, 2, .none⟩
/-- 0x040 GWY_STAT [4]: Under R340 -/
def GWY_STAT_IN_STEP : Field :=
  ⟨0x040, 4, 1, .ro, 0, 1, 4, 1, 0, false, .ok, 0, 1, 2, .none⟩
/-- 0x040 GWY_STAT [5]: Both ends out of reset and trained -/
def GWY_STAT_LINK_OK : Field :=
  ⟨0x040, 5, 1, .ro, 0, 1, 4, 1, 0, false, .ok, 0, 1, 2, .none⟩
/-- 0x044 SNAP_SEQ [31:0]: FG[0] COUNT of the latest accepted snapshot -/
def SNAP_SEQ : Field :=
  ⟨0x044, 0, 32, .ro, 0, 1, 4, 1, 0, false, .ok, 0, 4294967295, 4294967296, .none⟩
/-- 0x048 SNAP_TIDE_LO [31:0]: Its B_(n+1), bits [31:0] -/
def SNAP_TIDE_LO : Field :=
  ⟨0x048, 0, 32, .ro, 0, 1, 4, 1, 0, false, .ok, 0, 4294967295, 4294967296, .none⟩
/-- 0x04C SNAP_TIDE_HI [31:0]: Bits [63:32], holding rule of R48 -/
def SNAP_TIDE_HI : Field :=
  ⟨0x04C, 0, 32, .ro, 0, 1, 4, 1, 0, false, .ok, 0, 4294967295, 4294967296, .none⟩
/-- 0x050 SNAP_BYTES_MAX [17:0]: Largest snapshot since last read -/
def SNAP_BYTES_MAX : Field :=
  ⟨0x050, 0, 18, .rc, 0, 1, 4, 1, 0, false, .ok, 0, 262143, 262144, .none⟩
/-- 0x054 SNAP_MARGIN_MIN [21:0]: Least margin from acceptance to B_(n+2); saturates -/
def SNAP_MARGIN_MIN : Field :=
  ⟨0x054, 0, 22, .rc, 4194303, 1, 4, 1, 0, false, .ok, 0, 4194303, 4194304, .none⟩
/-- 0x058 SNAP_LATE_CNT [15:0]: Under R340; saturates -/
def SNAP_LATE_CNT : Field :=
  ⟨0x058, 0, 16, .rc, 0, 1, 4, 1, 0, false, .ok, 0, 65535, 65536, .none⟩
/-- 0x05C CRC_ERR_CNT [15:0]: Snapshots with a failed CRC or byte count; saturates -/
def CRC_ERR_CNT : Field :=
  ⟨0x05C, 0, 16, .rc, 0, 1, 4, 1, 0, false, .ok, 0, 65535, 65536, .none⟩
/-- 0x060 MIRROR_BLOCKED [15:0]: Under R341; saturates -/
def MIRROR_BLOCKED : Field :=
  ⟨0x060, 0, 16, .rc, 0, 1, 4, 1, 0, false, .ok, 0, 65535, 65536, .none⟩
/-- 0x064 RESYNC_TICKS [31:0]: Length of the last resynchronisation -/
def RESYNC_TICKS : Field :=
  ⟨0x064, 0, 32, .ro, 0, 1, 4, 1, 0, false, .ok, 0, 4294967295, 4294967296, .none⟩
/-- 0x080–0x09C MSG_TX0–7 [31:0]: Message to send -/
def MSG_TX : Field :=
  ⟨0x080, 0, 32, .rw, 0, 8, 4, 1, 0, false, .ok, 0, 4294967295, 4294967296, .none⟩
/-- 0x0A0 MSG_CTRL [0]: Under R342 -/
def MSG_CTRL_SEND : Field :=
  ⟨0x0A0, 0, 1, .w1s, 0, 1, 4, 1, 0, false, .ok, 0, 1, 2, .none⟩
/-- 0x0A0 MSG_CTRL [1]: Discard the head received message -/
def MSG_CTRL_POP : Field :=
  ⟨0x0A0, 1, 1, .w1s, 0, 1, 4, 1, 0, false, .ok, 0, 1, 2, .none⟩
/-- 0x0A4 MSG_STAT [4:0]: Free entries towards the other Quay -/
def MSG_STAT_TX_FREE : Field :=
  ⟨0x0A4, 0, 5, .ro, 16, 1, 4, 1, 0, false, .ok, 0, 31, 32, .none⟩
/-- 0x0A4 MSG_STAT [12:8]: Messages received and not popped -/
def MSG_STAT_RX_COUNT : Field :=
  ⟨0x0A4, 8, 5, .ro, 0, 1, 4, 1, 0, false, .ok, 0, 31, 32, .none⟩
/-- 0x0C0–0x0DC MSG_RX0–7 [31:0]: Head received message -/
def MSG_RX : Field :=
  ⟨0x0C0, 0, 32, .ro, 0, 8, 4, 1, 0, false, .ok, 0, 4294967295, 4294967296, .none⟩

/-- Every field of the GWY table, in table order. -/
def fields : List Field :=
    [ GWY_STAT_SENDING, GWY_STAT_RECEIVING, GWY_STAT_MIRROR, GWY_STAT_RESYNC_BUSY,
    GWY_STAT_IN_STEP, GWY_STAT_LINK_OK, SNAP_SEQ, SNAP_TIDE_LO, SNAP_TIDE_HI, SNAP_BYTES_MAX,
    SNAP_MARGIN_MIN, SNAP_LATE_CNT, CRC_ERR_CNT, MIRROR_BLOCKED, RESYNC_TICKS, MSG_TX,
    MSG_CTRL_SEND, MSG_CTRL_POP, MSG_STAT_TX_FREE, MSG_STAT_RX_COUNT, MSG_RX]

end GWY

namespace TRAC

/-- +0 MODE_REQ [2:0]: 0 DISABLE, 1 RUN, 2 ASC, 3 IDENT, 4 RESUME_LOW, 5 RESUME_OFF; 6 and 7 invalid -/
def MODE_REQ : Field :=
  ⟨0x000, 0, 3, .st, 0, 1, 4, 1, 0, false, .ok, 0, 7, 8, .none⟩
/-- +1 CMD_SEQ [31:0]: Changed by the host with each new command -/
def CMD_SEQ : Field :=
  ⟨0x001, 0, 32, .st, 0, 1, 4, 1, 0, false, .ok, 0, 4294967295, 4294967296, .none⟩
/-- +2 TQ_REQ [31:0]: Signed torque request, 0.01 N·m -/
def TQ_REQ : Field :=
  ⟨0x002, 0, 32, .st, 0, 1, 4, 1, 0, false, .ok, 0, 4294967295, 4294967296, .none⟩
/-- +3 TQ_RATE [31:0]: Ramp limit of the torque reference, 0.01 N·m per ms; 0 applies steps at once -/
def TQ_RATE : Field :=
  ⟨0x003, 0, 32, .st, 0, 1, 4, 1, 0, false, .ok, 0, 4294967295, 4294967296, .none⟩
/-- +4 TQ_LIM [15:0]: Motoring torque limit; 0 permits no motoring torque -/
def TQ_LIM_MOT : Field :=
  ⟨0x004, 0, 16, .st, 0, 1, 4, 1, 0, false, .ok, 0, 65535, 65536, .none⟩
/-- +4 TQ_LIM [31:16]: Generating torque limit; 0 permits no generating torque -/
def TQ_LIM_GEN : Field :=
  ⟨0x004, 16, 16, .st, 0, 1, 4, 1, 0, false, .ok, 0, 65535, 65536, .none⟩
/-- +5 LIMITS [15:0]: Speed limit, 1 to 65,535 -/
def LIMITS_SPD_LIM : Field :=
  ⟨0x005, 0, 16, .st, 0, 1, 4, 1, 0, false, .ok, 0, 65535, 65536, .none⟩
/-- +5 LIMITS [31:16]: Frames, under R217; 0 disables the timeout -/
def LIMITS_CMD_TIMEOUT : Field :=
  ⟨0x005, 16, 16, .st, 0, 1, 4, 1, 0, false, .ok, 0, 65535, 65536, .none⟩
/-- +6 TOPO [1:0]: Number of sets − 1 -/
def TOPO_SETS : Field :=
  ⟨0x006, 0, 2, .st, 0, 1, 4, 1, 0, false, .ok, 0, 3, 4, .none⟩
/-- +6 TOPO [6:2]: First leg block, 0 to 23 -/
def TOPO_FIRST_BLK : Field :=
  ⟨0x006, 2, 5, .st, 0, 1, 4, 1, 0, false, .ok, 0, 31, 32, .none⟩
/-- +6 TOPO [7]: Under R213 -/
def TOPO_INTERLEAVE : Field :=
  ⟨0x006, 7, 1, .st, 0, 1, 4, 1, 0, false, .ok, 0, 1, 2, .none⟩
/-- +6 TOPO [8]: An absolute angle source is bound to SLOT_POS -/
def TOPO_ENC_PRESENT : Field :=
  ⟨0x006, 8, 1, .st, 0, 1, 4, 1, 0, false, .ok, 0, 1, 2, .none⟩
/-- +6 TOPO [9]: Encoder is the primary angle source -/
def TOPO_ENC_PRIMARY : Field :=
  ⟨0x006, 9, 1, .st, 0, 1, 4, 1, 0, false, .ok, 0, 1, 2, .none⟩
/-- +6 TOPO [10]: Flux observer in use -/
def TOPO_OBS_EN : Field :=
  ⟨0x006, 10, 1, .st, 0, 1, 4, 1, 0, false, .ok, 0, 1, 2, .none⟩
/-- +6 TOPO [11]: Law may apply the active short circuit -/
def TOPO_ASC_EN : Field :=
  ⟨0x006, 11, 1, .st, 0, 1, 4, 1, 0, false, .ok, 0, 1, 2, .none⟩
/-- +6 TOPO [15:12]: Capture tap of the transition records -/
def TOPO_TAP : Field :=
  ⟨0x006, 12, 4, .st, 0, 1, 4, 1, 0, false, .ok, 0, 15, 16, .none⟩
/-- +6 TOPO [31:16]: As LEG[4k].EARLIEST of the machine's blocks -/
def TOPO_EARLIEST : Field :=
  ⟨0x006, 16, 16, .st, 0, 1, 4, 1, 0, false, .ok, 0, 65535, 65536, .none⟩
/-- +7 SLOTS [7:0]: First current slot -/
def SLOTS_SLOT_I : Field :=
  ⟨0x007, 0, 8, .st, 0, 1, 4, 1, 0, false, .ok, 0, 255, 256, .none⟩
/-- +7 SLOTS [15:8]: DC-link voltage slot -/
def SLOTS_SLOT_VDC : Field :=
  ⟨0x007, 8, 8, .st, 0, 1, 4, 1, 0, false, .ok, 0, 255, 256, .none⟩
/-- +7 SLOTS [23:16]: Angle slot; ignored when ENC_PRESENT is 0 -/
def SLOTS_SLOT_POS : Field :=
  ⟨0x007, 16, 8, .st, 0, 1, 4, 1, 0, false, .ok, 0, 255, 256, .none⟩
/-- +7 SLOTS [31:24]: 1 to 32 -/
def SLOTS_POLE_PAIRS : Field :=
  ⟨0x007, 24, 8, .st, 0, 1, 4, 1, 0, false, .ok, 0, 255, 256, .none⟩
/-- +8 SET_SHIFT [31:0]: Electrical angle between consecutive sets -/
def SET_SHIFT : Field :=
  ⟨0x008, 0, 32, .st, 0, 1, 4, 1, 0, false, .ok, 0, 4294967295, 4294967296, .none⟩
/-- +9 ENC_OFFSET [31:0]: Electrical angle of the d-axis at encoder angle 0 -/
def ENC_OFFSET : Field :=
  ⟨0x009, 0, 32, .st, 0, 1, 4, 1, 0, false, .ok, 0, 4294967295, 4294967296, .none⟩
/-- +10 RS [31:0]: Phase resistance, µΩ -/
def RS : Field :=
  ⟨0x00A, 0, 32, .st, 0, 1, 4, 1, 0, false, .ok, 0, 4294967295, 4294967296, .none⟩
/-- +11 LD [31:0]: d-axis inductance, nH -/
def LD : Field :=
  ⟨0x00B, 0, 32, .st, 0, 1, 4, 1, 0, false, .ok, 0, 4294967295, 4294967296, .none⟩
/-- +12 LQ [31:0]: q-axis inductance, nH -/
def LQ : Field :=
  ⟨0x00C, 0, 32, .st, 0, 1, 4, 1, 0, false, .ok, 0, 4294967295, 4294967296, .none⟩
/-- +13 PSI [31:0]: Nominal magnet flux linkage, peak, µV·s -/
def PSI : Field :=
  ⟨0x00D, 0, 32, .st, 0, 1, 4, 1, 0, false, .ok, 0, 4294967295, 4294967296, .none⟩
/-- +14 CURRENT [15:0]: Peak phase current limit -/
def CURRENT_I_MAX : Field :=
  ⟨0x00E, 0, 16, .st, 0, 1, 4, 1, 0, false, .ok, 0, 65535, 65536, .none⟩
/-- +14 CURRENT [31:16]: Phase-sum limit, under R228; 0 disables the check -/
def CURRENT_I_SUM_LIM : Field :=
  ⟨0x00E, 16, 16, .st, 0, 1, 4, 1, 0, false, .ok, 0, 65535, 65536, .none⟩
/-- +15 LOOP [15:0]: Current-loop bandwidth, rad/s -/
def LOOP : Field :=
  ⟨0x00F, 0, 16, .st, 0, 1, 4, 1, 0, false, .ok, 0, 65535, 65536, .none⟩
/-- +16 SPEEDS_A [15:0]: Under R223 -/
def SPEEDS_A_ASC_SPEED : Field :=
  ⟨0x010, 0, 16, .st, 0, 1, 4, 1, 0, false, .ok, 0, 65535, 65536, .none⟩
/-- +16 SPEEDS_A [31:16]: Lowest speed at which the observer is used -/
def SPEEDS_A_OBS_MIN_SPEED : Field :=
  ⟨0x010, 16, 16, .st, 0, 1, 4, 1, 0, false, .ok, 0, 65535, 65536, .none⟩
/-- +17 SPEEDS_B [15:0]: Below this, a catch finds standstill -/
def SPEEDS_B_CATCH_MIN_SPEED : Field :=
  ⟨0x011, 0, 16, .st, 0, 1, 4, 1, 0, false, .ok, 0, 65535, 65536, .none⟩
/-- +17 SPEEDS_B [31:16]: Open-loop acceleration, rpm per s -/
def SPEEDS_B_IF_ACCEL : Field :=
  ⟨0x011, 16, 16, .st, 0, 1, 4, 1, 0, false, .ok, 0, 65535, 65536, .none⟩
/-- +18 START [15:0]: Open-loop current amplitude -/
def START_IF_CURRENT : Field :=
  ⟨0x012, 0, 16, .st, 0, 1, 4, 1, 0, false, .ok, 0, 65535, 65536, .none⟩
/-- +18 START [31:16]: Zero-vector pulse length, 100 to 65,535 ticks -/
def START_CATCH_PULSE : Field :=
  ⟨0x012, 16, 16, .st, 0, 1, 4, 1, 0, false, .ok, 0, 65535, 65536, .none⟩
/-- +19 CONF_TH [15:0]: Q15 -/
def CONF_TH_CONF_LOSS : Field :=
  ⟨0x013, 0, 16, .st, 0, 1, 4, 1, 0, false, .ok, 0, 65535, 65536, .none⟩
/-- +19 CONF_TH [31:16]: Q15; above CONF_LOSS -/
def CONF_TH_CONF_OK : Field :=
  ⟨0x013, 16, 16, .st, 0, 1, 4, 1, 0, false, .ok, 0, 65535, 65536, .none⟩
/-- +20 FRAMES_A [7:0]: Frames below CONF_LOSS that mean loss -/
def FRAMES_A_LOSS_FRAMES : Field :=
  ⟨0x014, 0, 8, .st, 0, 1, 4, 1, 0, false, .ok, 0, 255, 256, .none⟩
/-- +20 FRAMES_A [15:8]: Frames of zero torque before ASC or freewheel -/
def FRAMES_A_ZERO_FRAMES : Field :=
  ⟨0x014, 8, 8, .st, 0, 1, 4, 1, 0, false, .ok, 0, 255, 256, .none⟩
/-- +20 FRAMES_A [23:16]: Frames needed to lock an angle -/
def FRAMES_A_LOCK_FRAMES : Field :=
  ⟨0x014, 16, 8, .st, 0, 1, 4, 1, 0, false, .ok, 0, 255, 256, .none⟩
/-- +20 FRAMES_A [31:24]: Catch attempts after a loss; 0 goes to FAULT without one -/
def FRAMES_A_RECATCH_MAX : Field :=
  ⟨0x014, 24, 8, .st, 0, 1, 4, 1, 0, false, .ok, 0, 255, 256, .none⟩
/-- +21 FRAMES_B [15:0]: Frames in ASC before re-catch; 0 re-catches at once -/
def FRAMES_B_ASC_SETTLE : Field :=
  ⟨0x015, 0, 16, .st, 0, 1, 4, 1, 0, false, .ok, 0, 65535, 65536, .none⟩
/-- +21 FRAMES_B [23:16]: Under R232; 0 re-catches after every gap -/
def FRAMES_B_GAP_MAX : Field :=
  ⟨0x015, 16, 8, .st, 0, 1, 4, 1, 0, false, .ok, 0, 255, 256, .none⟩
/-- +21 FRAMES_B [27:24]: Confidence filter, 0 to 8 -/
def FRAMES_B_CONF_SHIFT : Field :=
  ⟨0x015, 24, 4, .st, 0, 1, 4, 1, 0, false, .ok, 0, 15, 16, .none⟩
/-- +22 OBS_TOL [15:0]: Q15 -/
def OBS_TOL_MAG_TOL : Field :=
  ⟨0x016, 0, 16, .st, 0, 1, 4, 1, 0, false, .ok, 0, 65535, 65536, .none⟩
/-- +22 OBS_TOL [23:16]: Under R222; 0 disables the cross-check -/
def OBS_TOL_XCHK_FRAMES : Field :=
  ⟨0x016, 16, 8, .st, 0, 1, 4, 1, 0, false, .ok, 0, 255, 256, .none⟩
/-- +23 RATE_TOL [31:0]: Angle error per frame at confidence 0 -/
def RATE_TOL : Field :=
  ⟨0x017, 0, 32, .st, 0, 1, 4, 1, 0, false, .ok, 0, 4294967295, 4294967296, .none⟩
/-- +24 ANG_XCHK [31:0]: Encoder against observer tolerance -/
def ANG_XCHK : Field :=
  ⟨0x018, 0, 32, .st, 0, 1, 4, 1, 0, false, .ok, 0, 4294967295, 4294967296, .none⟩
/-- +25 PSI_TH [15:0]: Q14, 16,384 = 1.0 -/
def PSI_TH_PSI_WARN : Field :=
  ⟨0x019, 0, 16, .st, 0, 1, 4, 1, 0, false, .ok, 0, 65535, 65536, .none⟩
/-- +25 PSI_TH [31:16]: Q14, below PSI_WARN -/
def PSI_TH_PSI_FAULT : Field :=
  ⟨0x019, 16, 16, .st, 0, 1, 4, 1, 0, false, .ok, 0, 65535, 65536, .none⟩
/-- +26 PSI_WIN [15:0]: Q14, above 16,384 -/
def PSI_WIN_PSI_HIGH : Field :=
  ⟨0x01A, 0, 16, .st, 0, 1, 4, 1, 0, false, .ok, 0, 65535, 65536, .none⟩
/-- +26 PSI_WIN [31:16]: Qualifying frames per estimate -/
def PSI_WIN_WIN : Field :=
  ⟨0x01A, 16, 16, .st, 0, 1, 4, 1, 0, false, .ok, 0, 65535, 65536, .none⟩
/-- +27 IDENT [15:0]: Lowest speed for ψ monitoring; 0 monitors at every speed at which the law runs closed-loop -/
def IDENT_ID_SPEED_MIN : Field :=
  ⟨0x01B, 0, 16, .st, 0, 1, 4, 1, 0, false, .ok, 0, 65535, 65536, .none⟩
/-- +27 IDENT [17:16]: Injection generator -/
def IDENT_INJ_GEN : Field :=
  ⟨0x01B, 16, 2, .st, 0, 1, 4, 1, 0, false, .ok, 0, 3, 4, .none⟩
/-- +27 IDENT [18]: Law adds the generator value -/
def IDENT_INJ_EN : Field :=
  ⟨0x01B, 18, 1, .st, 0, 1, 4, 1, 0, false, .ok, 0, 1, 2, .none⟩
/-- +27 IDENT [19]: 0 d-axis, 1 q-axis -/
def IDENT_INJ_AXIS : Field :=
  ⟨0x01B, 19, 1, .st, 0, 1, 4, 1, 0, false, .ok, 0, 1, 2, .none⟩
/-- +27 IDENT [20]: Observer uses RS_EST -/
def IDENT_ADAPT_RS : Field :=
  ⟨0x01B, 20, 1, .st, 0, 1, 4, 1, 0, false, .ok, 0, 1, 2, .none⟩
/-- +28 SLOTS_C [7:0]: First of 3 × (SETS + 1) slots; slot SLOT_TEL + 3s + p is bound to the TEL_SUP word (WORD 2) of the leg of set s, phase... -/
def SLOTS_C : Field :=
  ⟨0x01C, 0, 8, .st, 0, 1, 4, 1, 0, false, .ok, 0, 255, 256, .none⟩

/-- Every field of the TRAC table, in table order. -/
def fields : List Field :=
    [ MODE_REQ, CMD_SEQ, TQ_REQ, TQ_RATE, TQ_LIM_MOT, TQ_LIM_GEN, LIMITS_SPD_LIM,
    LIMITS_CMD_TIMEOUT, TOPO_SETS, TOPO_FIRST_BLK, TOPO_INTERLEAVE, TOPO_ENC_PRESENT,
    TOPO_ENC_PRIMARY, TOPO_OBS_EN, TOPO_ASC_EN, TOPO_TAP, TOPO_EARLIEST, SLOTS_SLOT_I,
    SLOTS_SLOT_VDC, SLOTS_SLOT_POS, SLOTS_POLE_PAIRS, SET_SHIFT, ENC_OFFSET, RS, LD, LQ, PSI,
    CURRENT_I_MAX, CURRENT_I_SUM_LIM, LOOP, SPEEDS_A_ASC_SPEED, SPEEDS_A_OBS_MIN_SPEED,
    SPEEDS_B_CATCH_MIN_SPEED, SPEEDS_B_IF_ACCEL, START_IF_CURRENT, START_CATCH_PULSE,
    CONF_TH_CONF_LOSS, CONF_TH_CONF_OK, FRAMES_A_LOSS_FRAMES, FRAMES_A_ZERO_FRAMES] ++
    [ FRAMES_A_LOCK_FRAMES, FRAMES_A_RECATCH_MAX, FRAMES_B_ASC_SETTLE, FRAMES_B_GAP_MAX,
    FRAMES_B_CONF_SHIFT, OBS_TOL_MAG_TOL, OBS_TOL_XCHK_FRAMES, RATE_TOL, ANG_XCHK,
    PSI_TH_PSI_WARN, PSI_TH_PSI_FAULT, PSI_WIN_PSI_HIGH, PSI_WIN_WIN, IDENT_ID_SPEED_MIN,
    IDENT_INJ_GEN, IDENT_INJ_EN, IDENT_INJ_AXIS, IDENT_ADAPT_RS, SLOTS_C]

end TRAC

namespace TRACST

/-- +0 STATUS [3:0]: Table 8-5 -/
def STATUS_STATE : Field :=
  ⟨0x000, 0, 4, .ro, 0, 1, 4, 1, 0, false, .ok, 0, 15, 16, .none⟩
/-- +0 STATUS [7:4]: 0 none, 1 observer, 2 encoder, 3 open loop, 4 ASC current, 5 catch pulses -/
def STATUS_ANGLE_SRC : Field :=
  ⟨0x000, 4, 4, .ro, 0, 1, 4, 1, 0, false, .ok, 0, 15, 16, .none⟩
/-- +0 STATUS [15:8]: Of the last transition, Table 8-7 -/
def STATUS_CAUSE : Field :=
  ⟨0x000, 8, 8, .ro, 0, 1, 4, 1, 0, false, .ok, 0, 255, 256, .none⟩
/-- +0 STATUS [16]: Under R216 -/
def STATUS_PARAM_BAD : Field :=
  ⟨0x000, 16, 1, .ro, 0, 1, 4, 1, 0, false, .ok, 0, 1, 2, .none⟩
/-- +0 STATUS [17]: Under R217 -/
def STATUS_CMD_STALE : Field :=
  ⟨0x000, 17, 1, .ro, 0, 1, 4, 1, 0, false, .ok, 0, 1, 2, .none⟩
/-- +0 STATUS [18]: Under R218 -/
def STATUS_TQ_LIMITED : Field :=
  ⟨0x000, 18, 1, .ro, 0, 1, 4, 1, 0, false, .ok, 0, 1, 2, .none⟩
/-- +0 STATUS [19]: Under R222 -/
def STATUS_ANGLE_XCHK : Field :=
  ⟨0x000, 19, 1, .ro, 0, 1, 4, 1, 0, false, .ok, 0, 1, 2, .none⟩
/-- +0 STATUS [20]: Under R233 -/
def STATUS_PSI_WARN : Field :=
  ⟨0x000, 20, 1, .ro, 0, 1, 4, 1, 0, false, .ok, 0, 1, 2, .none⟩
/-- +0 STATUS [21]: Under R233 -/
def STATUS_PSI_FAULT : Field :=
  ⟨0x000, 21, 1, .ro, 0, 1, 4, 1, 0, false, .ok, 0, 1, 2, .none⟩
/-- +0 STATUS [22]: Under R223 -/
def STATUS_ENC_LOST : Field :=
  ⟨0x000, 22, 1, .ro, 0, 1, 4, 1, 0, false, .ok, 0, 1, 2, .none⟩
/-- +0 STATUS [23]: Under R234 -/
def STATUS_IDENT_REFUSED : Field :=
  ⟨0x000, 23, 1, .ro, 0, 1, 4, 1, 0, false, .ok, 0, 1, 2, .none⟩
/-- +0 STATUS [31:24]: Attempts since the last loss -/
def STATUS_RECATCH_CNT : Field :=
  ⟨0x000, 24, 8, .ro, 0, 1, 4, 1, 0, false, .ok, 0, 255, 256, .none⟩
/-- +1 SEQ_ECHO [31:0]: CMD_SEQ of the block in use -/
def SEQ_ECHO : Field :=
  ⟨0x001, 0, 32, .ro, 0, 1, 4, 1, 0, false, .ok, 0, 4294967295, 4294967296, .none⟩
/-- +2 TQ_EST [31:0]: Estimated torque, 0.01 N·m -/
def TQ_EST : Field :=
  ⟨0x002, 0, 32, .ro, 0, 1, 4, 1, 0, false, .ok, 0, 4294967295, 4294967296, .none⟩
/-- +3 SPEED [31:0]: Signed, 0.1 rpm -/
def SPEED : Field :=
  ⟨0x003, 0, 32, .ro, 0, 1, 4, 1, 0, false, .ok, 0, 4294967295, 4294967296, .none⟩
/-- +4 I_D [31:0]: Mean over the sets, mA -/
def I_D : Field :=
  ⟨0x004, 0, 32, .ro, 0, 1, 4, 1, 0, false, .ok, 0, 4294967295, 4294967296, .none⟩
/-- +5 I_Q [31:0]: Mean over the sets, mA -/
def I_Q : Field :=
  ⟨0x005, 0, 32, .ro, 0, 1, 4, 1, 0, false, .ok, 0, 4294967295, 4294967296, .none⟩
/-- +6 CONF [15:0]: Under R220 -/
def CONF : Field :=
  ⟨0x006, 0, 16, .ro, 0, 1, 4, 1, 0, false, .ok, 0, 65535, 65536, .none⟩
/-- +7 ANGLE [31:0]: Electrical angle at B + P/2 of the pattern written -/
def ANGLE : Field :=
  ⟨0x007, 0, 32, .ro, 0, 1, 4, 1, 0, false, .ok, 0, 4294967295, 4294967296, .none⟩
/-- +8 PSI_EST [31:0]: Under R233 -/
def PSI_EST : Field :=
  ⟨0x008, 0, 32, .ro, 0, 1, 4, 1, 0, false, .ok, 0, 4294967295, 4294967296, .none⟩
/-- +9 PSI_RATIO [15:0]: Under R233 -/
def PSI_RATIO : Field :=
  ⟨0x009, 0, 16, .ro, 0, 1, 4, 1, 0, false, .ok, 0, 65535, 65536, .none⟩
/-- +10 RS_EST [31:0]: Under R234 -/
def RS_EST : Field :=
  ⟨0x00A, 0, 32, .ro, 0, 1, 4, 1, 0, false, .ok, 0, 4294967295, 4294967296, .none⟩
/-- +11 LD_EST [31:0]: Under R234 -/
def LD_EST : Field :=
  ⟨0x00B, 0, 32, .ro, 0, 1, 4, 1, 0, false, .ok, 0, 4294967295, 4294967296, .none⟩
/-- +12 LQ_EST [31:0]: Under R234 -/
def LQ_EST : Field :=
  ⟨0x00C, 0, 32, .ro, 0, 1, 4, 1, 0, false, .ok, 0, 4294967295, 4294967296, .none⟩
/-- +13 ID_STAT [2:0]: Bit 0 RS, 1 LD, 2 LQ -/
def ID_STAT_OK : Field :=
  ⟨0x00D, 0, 3, .ro, 0, 1, 4, 1, 0, false, .ok, 0, 7, 8, .none⟩
/-- +13 ID_STAT [31:16]: Qualifying frames in the current ψ window -/
def ID_STAT_QUAL : Field :=
  ⟨0x00D, 16, 16, .ro, 0, 1, 4, 1, 0, false, .ok, 0, 65535, 65536, .none⟩
/-- +14 TRANS_LO [31:0]: t_L of the run that made the last transition, bits [31:0] -/
def TRANS_LO : Field :=
  ⟨0x00E, 0, 32, .ro, 0, 1, 4, 1, 0, false, .ok, 0, 4294967295, 4294967296, .none⟩
/-- +15 TRANS_HI [31:0]: Bits [63:32] -/
def TRANS_HI : Field :=
  ⟨0x00F, 0, 32, .ro, 0, 1, 4, 1, 0, false, .ok, 0, 4294967295, 4294967296, .none⟩
/-- +16 TQ_REF [31:0]: Applied torque reference, 0.01 N·m -/
def TQ_REF : Field :=
  ⟨0x010, 0, 32, .ro, 0, 1, 4, 1, 0, false, .ok, 0, 4294967295, 4294967296, .none⟩
/-- +17 VDC [31:0]: DC-link sample of the run -/
def VDC : Field :=
  ⟨0x011, 0, 32, .ro, 0, 1, 4, 1, 0, false, .ok, 0, 4294967295, 4294967296, .none⟩

/-- Every field of the TRACST table, in table order. -/
def fields : List Field :=
    [ STATUS_STATE, STATUS_ANGLE_SRC, STATUS_CAUSE, STATUS_PARAM_BAD, STATUS_CMD_STALE,
    STATUS_TQ_LIMITED, STATUS_ANGLE_XCHK, STATUS_PSI_WARN, STATUS_PSI_FAULT, STATUS_ENC_LOST,
    STATUS_IDENT_REFUSED, STATUS_RECATCH_CNT, SEQ_ECHO, TQ_EST, SPEED, I_D, I_Q, CONF, ANGLE,
    PSI_EST, PSI_RATIO, RS_EST, LD_EST, LQ_EST, ID_STAT_OK, ID_STAT_QUAL, TRANS_LO, TRANS_HI,
    TQ_REF, VDC]

end TRACST

namespace CPAR

/-- +0 TOPO [4:0]: As CNV_CFG -/
def TOPO_FIRST_BLK : Field :=
  ⟨0x000, 0, 5, .st, 0, 1, 4, 1, 0, false, .ok, 0, 31, 32, .none⟩
/-- +0 TOPO [9:5]: As CNV_CFG -/
def TOPO_PHASES : Field :=
  ⟨0x000, 5, 5, .st, 0, 1, 4, 1, 0, false, .ok, 0, 31, 32, .none⟩
/-- +0 TOPO [10]: Per-phase current slots present -/
def TOPO_I_PHASE_SENSED : Field :=
  ⟨0x000, 10, 1, .st, 0, 1, 4, 1, 0, false, .ok, 0, 1, 2, .none⟩
/-- +0 TOPO [31:16]: As LEG[4k].EARLIEST of the converter blocks -/
def TOPO_EARLIEST : Field :=
  ⟨0x000, 16, 16, .st, 0, 1, 4, 1, 0, false, .ok, 0, 65535, 65536, .none⟩
/-- +1 SLOTS_A [7:0]: Link voltage -/
def SLOTS_A_SLOT_VDC : Field :=
  ⟨0x001, 0, 8, .st, 0, 1, 4, 1, 0, false, .ok, 0, 255, 256, .none⟩
/-- +1 SLOTS_A [15:8]: Battery voltage -/
def SLOTS_A_SLOT_VBAT : Field :=
  ⟨0x001, 8, 8, .st, 0, 1, 4, 1, 0, false, .ok, 0, 255, 256, .none⟩
/-- +1 SLOTS_A [23:16]: First of PHASES phase-current slots -/
def SLOTS_A_SLOT_I : Field :=
  ⟨0x001, 16, 8, .st, 0, 1, 4, 1, 0, false, .ok, 0, 255, 256, .none⟩
/-- +1 SLOTS_A [31:24]: Total current, used when I_PHASE_SENSED is 0 -/
def SLOTS_A_SLOT_ISUM : Field :=
  ⟨0x001, 24, 8, .st, 0, 1, 4, 1, 0, false, .ok, 0, 255, 256, .none⟩
/-- +2 SLOTS_B [7:0]: First of four slots bound to CNV WORD 0 to 3 -/
def SLOTS_B_SLOT_CNV : Field :=
  ⟨0x002, 0, 8, .st, 0, 1, 4, 1, 0, false, .ok, 0, 255, 256, .none⟩
/-- +2 SLOTS_B [15:8]: Master rail of R275 -/
def SLOTS_B_SLOT_MASTER : Field :=
  ⟨0x002, 8, 8, .st, 0, 1, 4, 1, 0, false, .ok, 0, 255, 256, .none⟩
/-- +3 TRACK [1:0]: R275; 3 invalid -/
def TRACK_TRACK_MODE : Field :=
  ⟨0x003, 0, 2, .st, 0, 1, 4, 1, 0, false, .ok, 0, 3, 4, .none⟩
/-- +3 TRACK [15:8]: 1 to 255 -/
def TRACK_TRACK_FRAMES : Field :=
  ⟨0x003, 8, 8, .st, 0, 1, 4, 1, 0, false, .ok, 0, 255, 256, .none⟩
/-- +3 TRACK [31:16]: 0.1 V -/
def TRACK_MASTER_FINAL : Field :=
  ⟨0x003, 16, 16, .st, 0, 1, 4, 1, 0, false, .ok, 0, 65535, 65536, .none⟩
/-- +4 TRACK_TGT [15:0]: 0.1 V -/
def TRACK_TGT_TRACK_TARGET : Field :=
  ⟨0x004, 0, 16, .st, 0, 1, 4, 1, 0, false, .ok, 0, 65535, 65536, .none⟩
/-- +4 TRACK_TGT [31:16]: 0.1 V, 1 to 65,535 -/
def TRACK_TGT_BAND : Field :=
  ⟨0x004, 16, 16, .st, 0, 1, 4, 1, 0, false, .ok, 0, 65535, 65536, .none⟩
/-- +5 LOOP [15:0]: Voltage-loop bandwidth, rad/s -/
def LOOP_V_BW : Field :=
  ⟨0x005, 0, 16, .st, 0, 1, 4, 1, 0, false, .ok, 0, 65535, 65536, .none⟩
/-- +5 LOOP [31:16]: Current-loop bandwidth, rad/s -/
def LOOP_I_BW : Field :=
  ⟨0x005, 16, 16, .st, 0, 1, 4, 1, 0, false, .ok, 0, 65535, 65536, .none⟩
/-- +6 LPH [31:0]: L_PHASE, nH -/
def LPH : Field :=
  ⟨0x006, 0, 32, .st, 0, 1, 4, 1, 0, false, .ok, 0, 4294967295, 4294967296, .none⟩
/-- +7 DUTY [15:0]: Q15, at most 31,130 (0.95) -/
def DUTY_D_MAX : Field :=
  ⟨0x007, 0, 16, .st, 0, 1, 4, 1, 0, false, .ok, 0, 65535, 65536, .none⟩
/-- +7 DUTY [31:16]: 0.1 A per phase -/
def DUTY_I_PH_MAX : Field :=
  ⟨0x007, 16, 16, .st, 0, 1, 4, 1, 0, false, .ok, 0, 65535, 65536, .none⟩
/-- +8 STEP [15:0]: 0.1 A -/
def STEP_STEP_I : Field :=
  ⟨0x008, 0, 16, .st, 0, 1, 4, 1, 0, false, .ok, 0, 65535, 65536, .none⟩
/-- +8 STEP [31:16]: 0.1 V -/
def STEP_STEP_V : Field :=
  ⟨0x008, 16, 16, .st, 0, 1, 4, 1, 0, false, .ok, 0, 65535, 65536, .none⟩
/-- +9 OT [15:0]: 0.1 A total -/
def OT_OT_I_LIM : Field :=
  ⟨0x009, 0, 16, .st, 0, 1, 4, 1, 0, false, .ok, 0, 65535, 65536, .none⟩
/-- +9 OT [31:16]: Q15 -/
def OT_IMB_WARN : Field :=
  ⟨0x009, 16, 16, .st, 0, 1, 4, 1, 0, false, .ok, 0, 65535, 65536, .none⟩
/-- +10 IMB [15:0]: Frames, 1 to 65,535 -/
def IMB : Field :=
  ⟨0x00A, 0, 16, .st, 0, 1, 4, 1, 0, false, .ok, 0, 65535, 65536, .none⟩

/-- Every field of the CPAR table, in table order. -/
def fields : List Field :=
    [ TOPO_FIRST_BLK, TOPO_PHASES, TOPO_I_PHASE_SENSED, TOPO_EARLIEST, SLOTS_A_SLOT_VDC,
    SLOTS_A_SLOT_VBAT, SLOTS_A_SLOT_I, SLOTS_A_SLOT_ISUM, SLOTS_B_SLOT_CNV, SLOTS_B_SLOT_MASTER,
    TRACK_TRACK_MODE, TRACK_TRACK_FRAMES, TRACK_MASTER_FINAL, TRACK_TGT_TRACK_TARGET,
    TRACK_TGT_BAND, LOOP_V_BW, LOOP_I_BW, LPH, DUTY_D_MAX, DUTY_I_PH_MAX, STEP_STEP_I,
    STEP_STEP_V, OT_OT_I_LIM, OT_IMB_WARN, IMB]

end CPAR

namespace CHP

/-- +0 TOPO [4:0]: PFC leg block -/
def TOPO_PFC_BLK : Field :=
  ⟨0x000, 0, 5, .st, 0, 1, 4, 1, 0, false, .ok, 0, 31, 32, .none⟩
/-- +0 TOPO [9:5]: DC/DC leg block -/
def TOPO_DAB_BLK : Field :=
  ⟨0x000, 5, 5, .st, 0, 1, 4, 1, 0, false, .ok, 0, 31, 32, .none⟩
/-- +0 TOPO [10]: 0 single-phase, 1 three-phase -/
def TOPO_THREE_PHASE : Field :=
  ⟨0x000, 10, 1, .st, 0, 1, 4, 1, 0, false, .ok, 0, 1, 2, .none⟩
/-- +0 TOPO [31:16]: As the charger blocks -/
def TOPO_EARLIEST : Field :=
  ⟨0x000, 16, 16, .st, 0, 1, 4, 1, 0, false, .ok, 0, 65535, 65536, .none⟩
/-- +1 SLOTS_A [7:0]: First of three grid voltages -/
def SLOTS_A_SLOT_VAC : Field :=
  ⟨0x001, 0, 8, .st, 0, 1, 4, 1, 0, false, .ok, 0, 255, 256, .none⟩
/-- +1 SLOTS_A [15:8]: First of three input currents -/
def SLOTS_A_SLOT_IAC : Field :=
  ⟨0x001, 8, 8, .st, 0, 1, 4, 1, 0, false, .ok, 0, 255, 256, .none⟩
/-- +1 SLOTS_A [23:16]: Intermediate bus -/
def SLOTS_A_SLOT_VBUS : Field :=
  ⟨0x001, 16, 8, .st, 0, 1, 4, 1, 0, false, .ok, 0, 255, 256, .none⟩
/-- +1 SLOTS_A [31:24]: Two slots: CPL WORD 3, then WORD 4 -/
def SLOTS_A_SLOT_CPL : Field :=
  ⟨0x001, 24, 8, .st, 0, 1, 4, 1, 0, false, .ok, 0, 255, 256, .none⟩
/-- +2 SLOTS_B [7:0]: Output voltage -/
def SLOTS_B_SLOT_VOUT : Field :=
  ⟨0x002, 0, 8, .st, 0, 1, 4, 1, 0, false, .ok, 0, 255, 256, .none⟩
/-- +2 SLOTS_B [15:8]: Output current -/
def SLOTS_B_SLOT_IOUT : Field :=
  ⟨0x002, 8, 8, .st, 0, 1, 4, 1, 0, false, .ok, 0, 255, 256, .none⟩
/-- +2 SLOTS_B [31:16]: 0.1 V -/
def SLOTS_B_V_BUS_REF : Field :=
  ⟨0x002, 16, 16, .st, 0, 1, 4, 1, 0, false, .ok, 0, 65535, 65536, .none⟩
/-- +3 LIMITS [15:0]: 0.1 A per phase -/
def LIMITS_HOST_I_LIM : Field :=
  ⟨0x003, 0, 16, .st, 0, 1, 4, 1, 0, false, .ok, 0, 65535, 65536, .none⟩
/-- +3 LIMITS [31:16]: 0.1 A per phase -/
def LIMITS_I_HW_MAX : Field :=
  ⟨0x003, 16, 16, .st, 0, 1, 4, 1, 0, false, .ok, 0, 65535, 65536, .none⟩
/-- +4 OUT [15:0]: 0.1 V -/
def OUT_V_OUT_REQ : Field :=
  ⟨0x004, 0, 16, .st, 0, 1, 4, 1, 0, false, .ok, 0, 65535, 65536, .none⟩
/-- +4 OUT [31:16]: 0.1 A -/
def OUT_I_OUT_REQ : Field :=
  ⟨0x004, 16, 16, .st, 0, 1, 4, 1, 0, false, .ok, 0, 65535, 65536, .none⟩
/-- +5 MODE [0]: 0 STOP, 1 CHARGE -/
def MODE_MODE : Field :=
  ⟨0x005, 0, 1, .st, 0, 1, 4, 1, 0, false, .ok, 0, 1, 2, .none⟩
/-- +5 MODE [1]: State D permitted -/
def MODE_VENT_OK : Field :=
  ⟨0x005, 1, 1, .st, 0, 1, 4, 1, 0, false, .ok, 0, 1, 2, .none⟩
/-- +5 MODE [2]: ISO 15118 session established -/
def MODE_DIGITAL_OK : Field :=
  ⟨0x005, 2, 1, .st, 0, 1, 4, 1, 0, false, .ok, 0, 1, 2, .none⟩
/-- +5 MODE [31:16]: 0.1 A per ms, 1 to 65,535 -/
def MODE_I_RAMP : Field :=
  ⟨0x005, 16, 16, .st, 0, 1, 4, 1, 0, false, .ok, 0, 65535, 65536, .none⟩

/-- Every field of the CHP table, in table order. -/
def fields : List Field :=
    [ TOPO_PFC_BLK, TOPO_DAB_BLK, TOPO_THREE_PHASE, TOPO_EARLIEST, SLOTS_A_SLOT_VAC,
    SLOTS_A_SLOT_IAC, SLOTS_A_SLOT_VBUS, SLOTS_A_SLOT_CPL, SLOTS_B_SLOT_VOUT, SLOTS_B_SLOT_IOUT,
    SLOTS_B_V_BUS_REF, LIMITS_HOST_I_LIM, LIMITS_I_HW_MAX, OUT_V_OUT_REQ, OUT_I_OUT_REQ,
    MODE_MODE, MODE_VENT_OK, MODE_DIGITAL_OK, MODE_I_RAMP]

end CHP

end Sys2Proof.Reg
end

