-- ==== Sys2Proof/Machine/RegSense.lean ====
section
/-! DEFINITION. Register fields of sensing and position (Tables 6-2, 6-3, 6-4, 6-7, 9-6, 9-8).
One field a definition, with the offset, bits, access and reset value of its row; the docstring is the row. -/

namespace Sys2Proof.Reg

namespace ADC

/-- 0x040–0x04C IN_CFG0–3 [0]: Input c at 0x040 + 4c; under R156 -/
def IN_CFG_BIPOLAR : Field :=
  ⟨0x040, 0, 1, .st, 0, 4, 4, 1, 0, false, .ok, 0, 1, 2, .none⟩
/-- 0x040–0x04C IN_CFG0–3 [1]: Limit violation drives the fault wire, under R157; LOCK-protected -/
def IN_CFG_LIMIT_FAULT : Field :=
  ⟨0x040, 1, 1, .st, 0, 4, 4, 1, 0, true, .ok, 0, 1, 2, .none⟩
/-- 0x050–0x05C LIMIT0–3 [13:0]: Low limit of input c; 0 never triggers; LOCK-protected -/
def LIMIT_LO : Field :=
  ⟨0x050, 0, 14, .st, 0, 4, 4, 1, 0, true, .ok, 0, 16383, 16384, .none⟩
/-- 0x050–0x05C LIMIT0–3 [29:16]: High limit; 0x3FFF never triggers; LOCK-protected -/
def LIMIT_HI : Field :=
  ⟨0x050, 16, 14, .st, 16383, 4, 4, 1, 0, true, .ok, 0, 16383, 16384, .none⟩
/-- 0x060–0x06C RESULT0–3 [13:0]: Latest result of input c -/
def RESULT_CODE : Field :=
  ⟨0x060, 0, 14, .ro, 0, 4, 4, 1, 0, false, .ok, 0, 16383, 16384, .none⟩
/-- 0x060–0x06C RESULT0–3 [15]: Under R156 -/
def RESULT_VALID : Field :=
  ⟨0x060, 15, 1, .ro, 0, 4, 4, 1, 0, false, .ok, 0, 1, 2, .none⟩
/-- 0x060–0x06C RESULT0–3 [16]: Under R157 -/
def RESULT_LIMIT_LO : Field :=
  ⟨0x060, 16, 1, .ro, 0, 4, 4, 1, 0, false, .ok, 0, 1, 2, .none⟩
/-- 0x060–0x06C RESULT0–3 [17]: Under R157 -/
def RESULT_LIMIT_HI : Field :=
  ⟨0x060, 17, 1, .ro, 0, 4, 4, 1, 0, false, .ok, 0, 1, 2, .none⟩
/-- 0x060–0x06C RESULT0–3 [18]: CODE is 0 or 16,383 -/
def RESULT_RAIL : Field :=
  ⟨0x060, 18, 1, .ro, 0, 4, 4, 1, 0, false, .ok, 0, 1, 2, .none⟩
/-- 0x070–0x07C RES_TIDE0–3 [31:0]: Due tick bits [31:0] of RESULT c -/
def RES_TIDE : Field :=
  ⟨0x070, 0, 32, .ro, 0, 4, 4, 1, 0, false, .ok, 0, 4294967295, 4294967296, .none⟩
/-- 0x080 ADC_STAT [0]: Under R158 -/
def ADC_STAT_REF_FAULT : Field :=
  ⟨0x080, 0, 1, .ro, 0, 1, 4, 1, 0, false, .ok, 0, 1, 2, .none⟩
/-- 0x080 ADC_STAT [1]: Conversion in progress -/
def ADC_STAT_CONVERTING : Field :=
  ⟨0x080, 1, 1, .ro, 0, 1, 4, 1, 0, false, .ok, 0, 1, 2, .none⟩
/-- 0x084 CONV_CNT [31:0]: Conversions completed; wraps -/
def CONV_CNT : Field :=
  ⟨0x084, 0, 32, .ro, 0, 1, 4, 1, 0, false, .ok, 0, 4294967295, 4294967296, .none⟩
/-- 0x088 BUSY_CNT [15:0]: Strobes refused under R155; saturates -/
def BUSY_CNT : Field :=
  ⟨0x088, 0, 16, .rc, 0, 1, 4, 1, 0, false, .ok, 0, 65535, 65536, .none⟩

/-- Every field of the ADC table, in table order. -/
def fields : List Field :=
    [ IN_CFG_BIPOLAR, IN_CFG_LIMIT_FAULT, LIMIT_LO, LIMIT_HI, RESULT_CODE, RESULT_VALID,
    RESULT_LIMIT_LO, RESULT_LIMIT_HI, RESULT_RAIL, RES_TIDE, ADC_STAT_REF_FAULT,
    ADC_STAT_CONVERTING, CONV_CNT, BUSY_CNT]

end ADC

namespace DSF

/-- 0x040 DSF_CFG [1:0]: Clock pin DSM_CLK[c] -/
def DSF_CFG_CLK_PIN : Field :=
  ⟨0x040, 0, 2, .st, 0, 1, 4, 1, 0, false, .ok, 0, 3, 4, .none⟩
/-- 0x040 DSF_CFG [3:2]: K, 1 to 3; 0 fails with RANGE -/
def DSF_CFG_ORDER : Field :=
  ⟨0x040, 2, 2, .st, 3, 1, 4, 1, 0, false, .asRange, 1, 3, 4, .none⟩
/-- 0x040 DSF_CFG [12:4]: M, 4 to 256; 0 fails with ZERO_INVALID, 1 to 3 and above 256 with RANGE -/
def DSF_CFG_OSR : Field :=
  ⟨0x040, 4, 9, .st, 64, 1, 4, 1, 0, false, .invalid, 4, 256, 512, .none⟩
/-- 0x040 DSF_CFG [31:16]: Equal consecutive bits that set STUCK, 16 to 65,535; 0 means no check; 1 to 15 fail with RANGE -/
def DSF_CFG_STUCK : Field :=
  ⟨0x040, 16, 16, .st, 256, 1, 4, 1, 0, false, .ok, 16, 65535, 65536, .none⟩
/-- 0x044 COMP_CFG [5:0]: 4 to 32; 0 fails with ZERO_INVALID, other values outside the range with RANGE -/
def COMP_CFG_COMP_OSR : Field :=
  ⟨0x044, 0, 6, .st, 16, 1, 4, 1, 0, false, .invalid, 4, 32, 64, .none⟩
/-- 0x044 COMP_CFG [7:6]: 1 or 2; 0 and 3 fail with RANGE -/
def COMP_CFG_COMP_ORDER : Field :=
  ⟨0x044, 6, 2, .st, 2, 1, 4, 1, 0, false, .asRange, 1, 2, 4, .none⟩
/-- 0x044 COMP_CFG [8]: Under R164; LOCK-protected -/
def COMP_CFG_COMP_FAULT : Field :=
  ⟨0x044, 8, 1, .st, 0, 1, 4, 1, 0, true, .ok, 0, 1, 2, .none⟩
/-- 0x048 COMP_LIM [15:0]: Signed low limit; LOCK-protected -/
def COMP_LIM_LO : Field :=
  ⟨0x048, 0, 16, .st, 32768, 1, 4, 1, 0, true, .ok, 0, 65535, 65536, .none⟩
/-- 0x048 COMP_LIM [31:16]: Signed high limit; LOCK-protected -/
def COMP_LIM_HI : Field :=
  ⟨0x048, 16, 16, .st, 32767, 1, 4, 1, 0, true, .ok, 0, 65535, 65536, .none⟩
/-- 0x04C CLKGEN [0]: DSF[0] to DSF[3] only, for pin n; 0 output, 1 input; on other pages the register reads 0 and ignores writes -/
def CLKGEN_DIR : Field :=
  ⟨0x04C, 0, 1, .st, 0, 1, 4, 1, 0, false, .ok, 0, 1, 2, .none⟩
/-- 0x04C CLKGEN [9:1]: Ticks per bit, 100 to 500; 0 fails with ZERO_INVALID -/
def CLKGEN_DIV : Field :=
  ⟨0x04C, 1, 9, .st, 125, 1, 4, 1, 0, false, .invalid, 100, 500, 512, .none⟩
/-- 0x04C CLKGEN [21:16]: 0 to 63 ticks; 0 samples at the edge -/
def CLKGEN_DATA_DELAY : Field :=
  ⟨0x04C, 16, 6, .st, 20, 1, 4, 1, 0, false, .ok, 0, 63, 64, .none⟩
/-- 0x050 RESULT [31:0]: Signed, under R162 -/
def RESULT : Field :=
  ⟨0x050, 0, 32, .ro, 0, 1, 4, 1, 0, false, .ok, 0, 4294967295, 4294967296, .none⟩
/-- 0x054 RES_STAT [0]: Under R165 -/
def RES_STAT_VALID : Field :=
  ⟨0x054, 0, 1, .ro, 0, 1, 4, 1, 0, false, .ok, 0, 1, 2, .none⟩
/-- 0x054 RES_STAT [1]: Under R165 -/
def RES_STAT_SETTLING : Field :=
  ⟨0x054, 1, 1, .ro, 1, 1, 4, 1, 0, false, .ok, 0, 1, 2, .none⟩
/-- 0x054 RES_STAT [2]: Under R163 -/
def RES_STAT_CLK_LOST : Field :=
  ⟨0x054, 2, 1, .ro, 0, 1, 4, 1, 0, false, .ok, 0, 1, 2, .none⟩
/-- 0x054 RES_STAT [3]: Under R165 -/
def RES_STAT_STUCK : Field :=
  ⟨0x054, 3, 1, .ro, 0, 1, 4, 1, 0, false, .ok, 0, 1, 2, .none⟩
/-- 0x054 RES_STAT [4]: Under R164 -/
def RES_STAT_COMP_LO : Field :=
  ⟨0x054, 4, 1, .ro, 0, 1, 4, 1, 0, false, .ok, 0, 1, 2, .none⟩
/-- 0x054 RES_STAT [5]: Under R164 -/
def RES_STAT_COMP_HI : Field :=
  ⟨0x054, 5, 1, .ro, 0, 1, 4, 1, 0, false, .ok, 0, 1, 2, .none⟩
/-- 0x058 RES_TIDE [31:0]: Due tick bits [31:0] of RESULT -/
def RES_TIDE : Field :=
  ⟨0x058, 0, 32, .ro, 0, 1, 4, 1, 0, false, .ok, 0, 4294967295, 4294967296, .none⟩
/-- 0x05C COMP_VALUE [15:0]: Signed, latest comparator filter output -/
def COMP_VALUE : Field :=
  ⟨0x05C, 0, 16, .ro, 0, 1, 4, 1, 0, false, .ok, 0, 65535, 65536, .none⟩

/-- Every field of the DSF table, in table order. -/
def fields : List Field :=
    [ DSF_CFG_CLK_PIN, DSF_CFG_ORDER, DSF_CFG_OSR, DSF_CFG_STUCK, COMP_CFG_COMP_OSR,
    COMP_CFG_COMP_ORDER, COMP_CFG_COMP_FAULT, COMP_LIM_LO, COMP_LIM_HI, CLKGEN_DIR, CLKGEN_DIV,
    CLKGEN_DATA_DELAY, RESULT, RES_STAT_VALID, RES_STAT_SETTLING, RES_STAT_CLK_LOST,
    RES_STAT_STUCK, RES_STAT_COMP_LO, RES_STAT_COMP_HI, RES_TIDE, COMP_VALUE]

end DSF

namespace CPL

/-- 0x040 CPL_TH0 [7:0]: A/B threshold, 10.5 V -/
def CPL_TH0_AB : Field :=
  ⟨0x040, 0, 8, .st, 105, 1, 4, 1, 0, false, .ok, 0, 255, 256, .none⟩
/-- 0x040 CPL_TH0 [15:8]: B/C threshold, 7.5 V -/
def CPL_TH0_BC : Field :=
  ⟨0x040, 8, 8, .st, 75, 1, 4, 1, 0, false, .ok, 0, 255, 256, .none⟩
/-- 0x040 CPL_TH0 [23:16]: C/D threshold, 4.5 V -/
def CPL_TH0_CD : Field :=
  ⟨0x040, 16, 8, .st, 45, 1, 4, 1, 0, false, .ok, 0, 255, 256, .none⟩
/-- 0x040 CPL_TH0 [31:24]: D/E threshold, 1.5 V -/
def CPL_TH0_DE : Field :=
  ⟨0x040, 24, 8, .st, 15, 1, 4, 1, 0, false, .ok, 0, 255, 256, .none⟩
/-- 0x044 CPL_TH1 [7:0]: E/F threshold, −10.5 V -/
def CPL_TH1_EF : Field :=
  ⟨0x044, 0, 8, .st, 151, 1, 4, 1, 0, false, .ok, 0, 255, 256, .none⟩
/-- 0x044 CPL_TH1 [15:8]: VLOW must lie below this, −10.5 V -/
def CPL_TH1_DIODE : Field :=
  ⟨0x044, 8, 8, .st, 151, 1, 4, 1, 0, false, .ok, 0, 255, 256, .none⟩
/-- 0x048 CPL_CTRL [0]: 1 closes S2, under R170 -/
def CPL_CTRL : Field :=
  ⟨0x048, 0, 1, .rw, 0, 1, 4, 1, 0, false, .ok, 0, 1, 2, .none⟩
/-- 0x04C CPL_STAT [2:0]: 0 A, 1 B, 2 C, 3 D, 4 E, 5 F, 6 none yet; 7 not used -/
def CPL_STAT_STATE : Field :=
  ⟨0x04C, 0, 3, .ro, 6, 1, 4, 1, 0, false, .ok, 0, 7, 8, .none⟩
/-- 0x04C CPL_STAT [3]: PWM present -/
def CPL_STAT_OSC : Field :=
  ⟨0x04C, 3, 1, .ro, 0, 1, 4, 1, 0, false, .ok, 0, 1, 2, .none⟩
/-- 0x04C CPL_STAT [4]: Under R169 -/
def CPL_STAT_FREQ_OK : Field :=
  ⟨0x04C, 4, 1, .ro, 0, 1, 4, 1, 0, false, .ok, 0, 1, 2, .none⟩
/-- 0x04C CPL_STAT [5]: Under R169 -/
def CPL_STAT_DIODE_FAIL : Field :=
  ⟨0x04C, 5, 1, .ro, 0, 1, 4, 1, 0, false, .ok, 0, 1, 2, .none⟩
/-- 0x04C CPL_STAT [6]: CP_S2 pin state -/
def CPL_STAT_S2 : Field :=
  ⟨0x04C, 6, 1, .ro, 0, 1, 4, 1, 0, false, .ok, 0, 1, 2, .none⟩
/-- 0x050 PERIOD [21:0]: Under R167 -/
def PERIOD : Field :=
  ⟨0x050, 0, 22, .ro, 0, 1, 4, 1, 0, false, .ok, 0, 4194303, 4194304, .none⟩
/-- 0x054 HIGH_TIME [21:0]: Under R167 -/
def HIGH_TIME : Field :=
  ⟨0x054, 0, 22, .ro, 0, 1, 4, 1, 0, false, .ok, 0, 4194303, 4194304, .none⟩
/-- 0x058 LEVELS [15:0]: Signed, mV -/
def LEVELS_VHIGH : Field :=
  ⟨0x058, 0, 16, .ro, 0, 1, 4, 1, 0, false, .ok, 0, 65535, 65536, .none⟩
/-- 0x058 LEVELS [31:16]: Signed, mV -/
def LEVELS_VLOW : Field :=
  ⟨0x058, 16, 16, .ro, 0, 1, 4, 1, 0, false, .ok, 0, 65535, 65536, .none⟩
/-- 0x05C DUTY [13:0]: 0.01 % units, 0 to 10,000 -/
def DUTY : Field :=
  ⟨0x05C, 0, 14, .ro, 0, 1, 4, 1, 0, false, .ok, 0, 16383, 16384, .none⟩
/-- 0x060 RES_TIDE [31:0]: Stamp of the latched set, bits [31:0] -/
def RES_TIDE : Field :=
  ⟨0x060, 0, 32, .ro, 0, 1, 4, 1, 0, false, .ok, 0, 4294967295, 4294967296, .none⟩

/-- Every field of the CPL table, in table order. -/
def fields : List Field :=
    [ CPL_TH0_AB, CPL_TH0_BC, CPL_TH0_CD, CPL_TH0_DE, CPL_TH1_EF, CPL_TH1_DIODE, CPL_CTRL,
    CPL_STAT_STATE, CPL_STAT_OSC, CPL_STAT_FREQ_OK, CPL_STAT_DIODE_FAIL, CPL_STAT_S2, PERIOD,
    HIGH_TIME, LEVELS_VHIGH, LEVELS_VLOW, DUTY, RES_TIDE]

end CPL

namespace TSN

/-- 0x040 EVAL [15:0]: 100 to 10,000 µs; 0 fails with ZERO_INVALID -/
def EVAL_SLOW_US : Field :=
  ⟨0x040, 0, 16, .st, 1000, 1, 4, 1, 0, false, .invalid, 100, 10000, 65536, .none⟩
/-- 0x040 EVAL [31:16]: 50 to 1,000 µs; 0 fails with ZERO_INVALID -/
def EVAL_FAST_US : Field :=
  ⟨0x040, 16, 16, .st, 100, 1, 4, 1, 0, false, .invalid, 50, 1000, 65536, .none⟩
/-- 0x044 MARGIN [7:0]: 0.125 K; 0 gives FAST only at or above a threshold -/
def MARGIN_NEAR : Field :=
  ⟨0x044, 0, 8, .st, 40, 1, 4, 1, 0, false, .ok, 0, 255, 256, .none⟩
/-- 0x044 MARGIN [15:8]: 0.125 K, 8 to 255; 0 fails with ZERO_INVALID -/
def MARGIN_XCHK_TOL : Field :=
  ⟨0x044, 8, 8, .st, 64, 1, 4, 1, 0, false, .invalid, 8, 255, 256, .none⟩
/-- 0x048 BANDTH_A [11:0]: Region band threshold, 60 °C -/
def BANDTH_A_TH1 : Field :=
  ⟨0x048, 0, 12, .st, 480, 1, 4, 1, 0, false, .ok, 0, 4095, 4096, .none⟩
/-- 0x048 BANDTH_A [27:16]: 90 °C -/
def BANDTH_A_TH2 : Field :=
  ⟨0x048, 16, 12, .st, 720, 1, 4, 1, 0, false, .ok, 0, 4095, 4096, .none⟩
/-- 0x04C BANDTH_B [11:0]: 120 °C -/
def BANDTH_B : Field :=
  ⟨0x04C, 0, 12, .st, 960, 1, 4, 1, 0, false, .ok, 0, 4095, 4096, .none⟩
/-- 0x050 LIMITS [11:0]: 145 °C -/
def LIMITS_WARN : Field :=
  ⟨0x050, 0, 12, .st, 1160, 1, 4, 1, 0, false, .ok, 0, 4095, 4096, .none⟩
/-- 0x050 LIMITS [27:16]: 155 °C; LOCK-protected -/
def LIMITS_TRIP : Field :=
  ⟨0x050, 16, 12, .st, 1240, 1, 4, 1, 0, true, .ok, 0, 4095, 4096, .none⟩
/-- 0x054–0x05C DIE0–2 [11:0]: Latest reading of sensor c -/
def DIE_TEMP : Field :=
  ⟨0x054, 0, 12, .ro, 0, 3, 4, 1, 0, false, .ok, 0, 4095, 4096, .none⟩
/-- 0x054–0x05C DIE0–2 [12]: Under R172 -/
def DIE_VALID : Field :=
  ⟨0x054, 12, 1, .ro, 0, 3, 4, 1, 0, false, .ok, 0, 1, 2, .none⟩
/-- 0x054–0x05C DIE0–2 [13]: Under R178 -/
def DIE_XFAIL : Field :=
  ⟨0x054, 13, 1, .ro, 0, 3, 4, 1, 0, false, .ok, 0, 1, 2, .none⟩
/-- 0x060 REGION [11:0]: Region temperature -/
def REGION_TEMP : Field :=
  ⟨0x060, 0, 12, .ro, 0, 1, 4, 1, 0, false, .ok, 0, 4095, 4096, .none⟩
/-- 0x060 REGION [13:12]: Under R174 -/
def REGION_BAND : Field :=
  ⟨0x060, 12, 2, .ro, 3, 1, 4, 1, 0, false, .ok, 0, 3, 4, .none⟩
/-- 0x060 REGION [14]: Under R175 -/
def REGION_FAST : Field :=
  ⟨0x060, 14, 1, .ro, 0, 1, 4, 1, 0, false, .ok, 0, 1, 2, .none⟩
/-- 0x060 REGION [15]: Under R175 -/
def REGION_WARN : Field :=
  ⟨0x060, 15, 1, .ro, 0, 1, 4, 1, 0, false, .ok, 0, 1, 2, .none⟩
/-- 0x060 REGION [16]: Under R175 -/
def REGION_TRIP : Field :=
  ⟨0x060, 16, 1, .ro, 0, 1, 4, 1, 0, false, .ok, 0, 1, 2, .none⟩
/-- 0x060 REGION [17]: Cross-check fault active -/
def REGION_XCHK : Field :=
  ⟨0x060, 17, 1, .ro, 0, 1, 4, 1, 0, false, .ok, 0, 1, 2, .none⟩
/-- 0x064 TSN_CTRL [0]: Clears every TRIP of the page that meets R175 -/
def TSN_CTRL : Field :=
  ⟨0x064, 0, 1, .w1s, 0, 1, 4, 1, 0, false, .ok, 0, 1, 2, .none⟩
/-- 0x100 + 16k NTC_BAND_A[k] [11:0]: Leg block k, 60 °C -/
def NTC_BAND_A_TH1 : Field :=
  ⟨0x100, 0, 12, .st, 480, 24, 16, 1, 0, false, .ok, 0, 4095, 4096, .none⟩
/-- 0x100 + 16k NTC_BAND_A[k] [27:16]: 90 °C -/
def NTC_BAND_A_TH2 : Field :=
  ⟨0x100, 16, 12, .st, 720, 24, 16, 1, 0, false, .ok, 0, 4095, 4096, .none⟩
/-- 0x104 + 16k NTC_BAND_B[k] [11:0]: 110 °C -/
def NTC_BAND_B : Field :=
  ⟨0x104, 0, 12, .st, 880, 24, 16, 1, 0, false, .ok, 0, 4095, 4096, .none⟩
/-- 0x108 + 16k NTC_LIM[k] [11:0]: 115 °C -/
def NTC_LIM_WARN : Field :=
  ⟨0x108, 0, 12, .st, 920, 24, 16, 1, 0, false, .ok, 0, 4095, 4096, .none⟩
/-- 0x108 + 16k NTC_LIM[k] [27:16]: 125 °C; LOCK-protected -/
def NTC_LIM_TRIP : Field :=
  ⟨0x108, 16, 12, .st, 1000, 24, 16, 1, 0, true, .ok, 0, 4095, 4096, .none⟩
/-- 0x10C + 16k NTC_STAT[k] [7:0]: Band of leg 4k + i at [2i+1:2i] -/
def NTC_STAT_BAND : Field :=
  ⟨0x10C, 0, 8, .ro, 255, 24, 16, 1, 0, false, .ok, 0, 255, 256, .none⟩
/-- 0x10C + 16k NTC_STAT[k] [11:8]: Per leg -/
def NTC_STAT_WARN : Field :=
  ⟨0x10C, 8, 4, .ro, 0, 24, 16, 1, 0, false, .ok, 0, 15, 16, .none⟩
/-- 0x10C + 16k NTC_STAT[k] [15:12]: Per leg -/
def NTC_STAT_TRIP : Field :=
  ⟨0x10C, 12, 4, .ro, 0, 24, 16, 1, 0, false, .ok, 0, 15, 16, .none⟩
/-- 0x10C + 16k NTC_STAT[k] [19:16]: Per leg -/
def NTC_STAT_FAST : Field :=
  ⟨0x10C, 16, 4, .ro, 0, 24, 16, 1, 0, false, .ok, 0, 15, 16, .none⟩

/-- Every field of the TSN table, in table order. -/
def fields : List Field :=
    [ EVAL_SLOW_US, EVAL_FAST_US, MARGIN_NEAR, MARGIN_XCHK_TOL, BANDTH_A_TH1, BANDTH_A_TH2,
    BANDTH_B, LIMITS_WARN, LIMITS_TRIP, DIE_TEMP, DIE_VALID, DIE_XFAIL, REGION_TEMP,
    REGION_BAND, REGION_FAST, REGION_WARN, REGION_TRIP, REGION_XCHK, TSN_CTRL, NTC_BAND_A_TH1,
    NTC_BAND_A_TH2, NTC_BAND_B, NTC_LIM_WARN, NTC_LIM_TRIP, NTC_STAT_BAND, NTC_STAT_WARN,
    NTC_STAT_TRIP, NTC_STAT_FAST]

end TSN

namespace POS

/-- 0x040 POS_CFG [1:0]: 0 SERIAL, 1 QUAD, 2 HALL; 3 fails with RESERVED_VALUE -/
def POS_CFG_MODE : Field :=
  ⟨0x040, 0, 2, .st, 1, 1, 4, 1, 0, false, .ok, 0, 3, 3, .none⟩
/-- 0x040 POS_CFG [2]: Under R247 and R250 -/
def POS_CFG_DIR_INV : Field :=
  ⟨0x040, 2, 1, .st, 0, 1, 4, 1, 0, false, .ok, 0, 1, 2, .none⟩
/-- 0x040 POS_CFG [6:3]: Extra samples of the filter, 0 to 15; 0 takes a level after one sample -/
def POS_CFG_FILT : Field :=
  ⟨0x040, 3, 4, .st, 2, 1, 4, 1, 0, false, .ok, 0, 15, 16, .none⟩
/-- 0x040 POS_CFG [7]: ENC_FAULT drives the fault wire; LOCK-protected -/
def POS_CFG_FAULT_EN : Field :=
  ⟨0x040, 7, 1, .st, 0, 1, 4, 1, 0, true, .ok, 0, 1, 2, .none⟩
/-- 0x040 POS_CFG [8]: Under R243 -/
def POS_CFG_GRAY : Field :=
  ⟨0x040, 8, 1, .st, 0, 1, 4, 1, 0, false, .ok, 0, 1, 2, .none⟩
/-- 0x040 POS_CFG [9]: 0 PLAIN, 1 HEADER, under R242 -/
def POS_CFG_FRAMING : Field :=
  ⟨0x040, 9, 1, .st, 1, 1, 4, 1, 0, false, .ok, 0, 1, 2, .none⟩
/-- 0x040 POS_CFG [12:10]: 0 to 4; 0 means no status bits; 5 to 7 fail with RANGE -/
def POS_CFG_STAT_BITS : Field :=
  ⟨0x040, 10, 3, .st, 2, 1, 4, 1, 0, false, .ok, 0, 4, 8, .none⟩
/-- 0x040 POS_CFG [17:14]: Bit j: level at which status bit j is active -/
def POS_CFG_STAT_POL : Field :=
  ⟨0x040, 14, 4, .st, 0, 1, 4, 1, 0, false, .ok, 0, 15, 16, .none⟩
/-- 0x040 POS_CFG [21:18]: Bit j: status bit j, when active, means an error; 0 means no error bits -/
def POS_CFG_ERR_MASK : Field :=
  ⟨0x040, 18, 4, .st, 1, 1, 4, 1, 0, false, .ok, 0, 15, 16, .none⟩
/-- 0x040 POS_CFG [25:22]: Bit j: status bit j, when active, means a warning; 0 means no warning bits -/
def POS_CFG_WARN_MASK : Field :=
  ⟨0x040, 22, 4, .st, 2, 1, 4, 1, 0, false, .ok, 0, 15, 16, .none⟩
/-- 0x040 POS_CFG [27:26]: Header length minus 1: 1 to 4 bits -/
def POS_CFG_HDR_LEN : Field :=
  ⟨0x040, 26, 2, .st, 2, 1, 4, 1, 0, false, .ok, 0, 3, 4, .none⟩
/-- 0x040 POS_CFG [31:28]: Header in its low HDR_LEN bits, sent most significant first; the reset value gives 010 -/
def POS_CFG_HDR : Field :=
  ⟨0x040, 28, 4, .st, 2, 1, 4, 1, 0, false, .ok, 0, 15, 16, .none⟩
/-- 0x044 SER_LEN [5:0]: 8 to 32; 0 fails with ZERO_INVALID, 1 to 7 and above 32 with RANGE -/
def SER_LEN_ST_BITS : Field :=
  ⟨0x044, 0, 6, .st, 23, 1, 4, 1, 0, false, .invalid, 8, 32, 64, .none⟩
/-- 0x044 SER_LEN [12:8]: 0 to 24; 0 means no multiturn; above 24 fails with RANGE -/
def SER_LEN_MT_BITS : Field :=
  ⟨0x044, 8, 5, .st, 12, 1, 4, 1, 0, false, .ok, 0, 24, 32, .none⟩
/-- 0x044 SER_LEN [19:16]: 0 to 8; 0 means no CRC; above 8 fails with RANGE -/
def SER_LEN_CRC_LEN : Field :=
  ⟨0x044, 16, 4, .st, 8, 1, 4, 1, 0, false, .ok, 0, 8, 16, .none⟩
/-- 0x044 SER_LEN [31:24]: Last sample searched for the header, 2 to 255, at least HDR_LEN + 1 under R242; 0 fails with ZERO_INVALID, 1 with ... -/
def SER_LEN_HDR_MAX : Field :=
  ⟨0x044, 24, 8, .st, 16, 1, 4, 1, 0, false, .invalid, 2, 255, 256, .none⟩
/-- 0x048 SER_CRC [7:0]: Polynomial below x^L -/
def SER_CRC_POLY : Field :=
  ⟨0x048, 0, 8, .st, 47, 1, 4, 1, 0, false, .ok, 0, 255, 256, .none⟩
/-- 0x048 SER_CRC [15:8]: Initial value -/
def SER_CRC_INIT : Field :=
  ⟨0x048, 8, 8, .st, 255, 1, 4, 1, 0, false, .ok, 0, 255, 256, .none⟩
/-- 0x048 SER_CRC [16]: Invert the result -/
def SER_CRC_INV : Field :=
  ⟨0x048, 16, 1, .st, 1, 1, 4, 1, 0, false, .ok, 0, 1, 2, .none⟩
/-- 0x04C SER_TIME [13:0]: Clock half period, 125 to 12,500 ticks; 0 fails with ZERO_INVALID -/
def SER_TIME_HALF : Field :=
  ⟨0x04C, 0, 14, .st, 125, 1, 4, 1, 0, false, .invalid, 125, 12500, 16384, .none⟩
/-- 0x04C SER_TIME [27:16]: 0 to 4,095 ticks; 0 samples at the falling edge -/
def SER_TIME_LINE_DELAY : Field :=
  ⟨0x04C, 16, 12, .st, 0, 1, 4, 1, 0, false, .ok, 0, 4095, 4096, .none⟩
/-- 0x050 SER_CHK [15:0]: Ticks; 0 means none -/
def SER_CHK_RECOVERY : Field :=
  ⟨0x050, 0, 16, .st, 5000, 1, 4, 1, 0, false, .ok, 0, 65535, 65536, .none⟩
/-- 0x050 SER_CHK [31:16]: Units of 2^16 of ANGLE; 0 disables the check -/
def SER_CHK_JUMP_MAX : Field :=
  ⟨0x050, 16, 16, .st, 0, 1, 4, 1, 0, false, .ok, 0, 65535, 65536, .none⟩
/-- 0x054 CPT [31:0]: Counts per turn in QUAD; 0 means no angle -/
def CPT : Field :=
  ⟨0x054, 0, 32, .st, 0, 1, 4, 1, 0, false, .ok, 0, 4294967295, 4294967296, .none⟩
/-- 0x058 INDEX_CFG [1:0]: Under R249 -/
def INDEX_CFG_Z_MODE : Field :=
  ⟨0x058, 0, 2, .st, 0, 1, 4, 1, 0, false, .ok, 0, 3, 4, .none⟩
/-- 0x058 INDEX_CFG [3:2]: A at [3], B at [2] -/
def INDEX_CFG_Z_QUAL : Field :=
  ⟨0x058, 2, 2, .st, 3, 1, 4, 1, 0, false, .ok, 0, 3, 4, .none⟩
/-- 0x058 INDEX_CFG [4]: Qualify the index -/
def INDEX_CFG_Z_QUAL_EN : Field :=
  ⟨0x058, 4, 1, .st, 1, 1, 4, 1, 0, false, .ok, 0, 1, 2, .none⟩
/-- 0x058 INDEX_CFG [5]: 0 rising, 1 falling -/
def INDEX_CFG_Z_POL : Field :=
  ⟨0x058, 5, 1, .st, 0, 1, 4, 1, 0, false, .ok, 0, 1, 2, .none⟩
/-- 0x05C Z_VALUE [31:0]: Loaded at a reference index -/
def Z_VALUE : Field :=
  ⟨0x05C, 0, 32, .st, 0, 1, 4, 1, 0, false, .ok, 0, 4294967295, 4294967296, .none⟩
/-- 0x060 HALL_MAP [17:0]: Sector of code c at [3c − 1 : 3c − 3], c = 1 to 6; the reset value gives sectors 0 to 5 to codes 1, 3, 2, 6, 4, 5 -/
def HALL_MAP : Field :=
  ⟨0x060, 0, 18, .st, 120912, 1, 4, 1, 0, false, .ok, 0, 262143, 262144, .none⟩
/-- 0x064 HALL_OFS [31:0]: Added to hall angles -/
def HALL_OFS : Field :=
  ⟨0x064, 0, 32, .st, 0, 1, 4, 1, 0, false, .ok, 0, 4294967295, 4294967296, .none⟩
/-- 0x068 SPD_WIN [23:0]: 2,500 to 16,777,215; 0 fails with ZERO_INVALID, 1 to 2,499 with RANGE -/
def SPD_WIN : Field :=
  ⟨0x068, 0, 24, .st, 250000, 1, 4, 1, 0, false, .invalid, 2500, 16777215, 16777216, .none⟩
/-- 0x06C STILL [27:0]: 2,500 to 250,000,000; 0 fails with ZERO_INVALID, other values outside the range with RANGE -/
def STILL : Field :=
  ⟨0x06C, 0, 28, .st, 2500000, 1, 4, 1, 0, false, .invalid, 2500, 250000000, 268435456, .none⟩
/-- 0x070 POS_CTRL [0]: Under R248 -/
def POS_CTRL_FAULT_CLR : Field :=
  ⟨0x070, 0, 1, .w1s, 0, 1, 4, 1, 0, false, .ok, 0, 1, 2, .none⟩
/-- 0x070 POS_CTRL [1]: Under R249 -/
def POS_CTRL_ZARM : Field :=
  ⟨0x070, 1, 1, .w1s, 0, 1, 4, 1, 0, false, .ok, 0, 1, 2, .none⟩
/-- 0x074 POS_STAT [0]: Latest ANGLE valid -/
def POS_STAT_ANGLE_VALID : Field :=
  ⟨0x074, 0, 1, .ro, 0, 1, 4, 1, 0, false, .ok, 0, 1, 2, .none⟩
/-- 0x074 POS_STAT [1]: Under R249 -/
def POS_STAT_REFERENCED : Field :=
  ⟨0x074, 1, 1, .ro, 0, 1, 4, 1, 0, false, .ok, 0, 1, 2, .none⟩
/-- 0x074 POS_STAT [2]: Under R245 and R248 -/
def POS_STAT_ENC_FAULT : Field :=
  ⟨0x074, 2, 1, .ro, 0, 1, 4, 1, 0, false, .ok, 0, 1, 2, .none⟩
/-- 0x074 POS_STAT [3]: Under R252 -/
def POS_STAT_STILL : Field :=
  ⟨0x074, 3, 1, .ro, 1, 1, 4, 1, 0, false, .ok, 0, 1, 2, .none⟩
/-- 0x074 POS_STAT [4]: Direction of the run: 0 forward, 1 reverse -/
def POS_STAT_DIR : Field :=
  ⟨0x074, 4, 1, .ro, 0, 1, 4, 1, 0, false, .ok, 0, 1, 2, .none⟩
/-- 0x074 POS_STAT [5]: Under R253 -/
def POS_STAT_SPD_VALID : Field :=
  ⟨0x074, 5, 1, .ro, 0, 1, 4, 1, 0, false, .ok, 0, 1, 2, .none⟩
/-- 0x074 POS_STAT [6]: Under R251 -/
def POS_STAT_WIN_PARTIAL : Field :=
  ⟨0x074, 6, 1, .ro, 0, 1, 4, 1, 0, false, .ok, 0, 1, 2, .none⟩
/-- 0x074 POS_STAT [7]: A warning status bit was active in the latest valid frame -/
def POS_STAT_WARN : Field :=
  ⟨0x074, 7, 1, .ro, 0, 1, 4, 1, 0, false, .ok, 0, 1, 2, .none⟩
/-- 0x074 POS_STAT [8]: Hall angle taken at a boundary -/
def POS_STAT_EXACT : Field :=
  ⟨0x074, 8, 1, .ro, 0, 1, 4, 1, 0, false, .ok, 0, 1, 2, .none⟩
/-- 0x074 POS_STAT [11:9]: Filtered H3 H2 H1 -/
def POS_STAT_HALL_CODE : Field :=
  ⟨0x074, 9, 3, .ro, 0, 1, 4, 1, 0, false, .ok, 0, 7, 8, .none⟩
/-- 0x074 POS_STAT [15:12]: 0 none, 1 LINE_LOW, 2 NO_RESPONSE, 3 NO_HEADER, 4 CRC, 5 ERR_BIT, 6 JUMP, 7 ILLEGAL -/
def POS_STAT_LAST_ERR : Field :=
  ⟨0x074, 12, 4, .ro, 0, 1, 4, 1, 0, false, .ok, 0, 15, 16, .none⟩
/-- 0x078 ANGLE [31:0]: Word 0 of the latest sample -/
def ANGLE : Field :=
  ⟨0x078, 0, 32, .ro, 0, 1, 4, 1, 0, false, .ok, 0, 4294967295, 4294967296, .none⟩
/-- 0x07C COUNT [31:0]: Word 1 of the latest sample -/
def COUNT : Field :=
  ⟨0x07C, 0, 32, .ro, 0, 1, 4, 1, 0, false, .ok, 0, 4294967295, 4294967296, .none⟩
/-- 0x080 SPEED [31:0]: Word 2 of the latest sample -/
def SPEED : Field :=
  ⟨0x080, 0, 32, .ro, 0, 1, 4, 1, 0, false, .ok, 0, 4294967295, 4294967296, .none⟩
/-- 0x084 EDGE_AGE [31:0]: Word 3 of the latest sample -/
def EDGE_AGE : Field :=
  ⟨0x084, 0, 32, .ro, 0, 1, 4, 1, 0, false, .ok, 0, 4294967295, 4294967296, .none⟩
/-- 0x088 RES_TIDE [31:0]: Due tick bits [31:0] of the latest sample -/
def RES_TIDE : Field :=
  ⟨0x088, 0, 32, .ro, 0, 1, 4, 1, 0, false, .ok, 0, 4294967295, 4294967296, .none⟩
/-- 0x08C ZPOS [31:0]: COUNT at the last index, before any reload -/
def ZPOS : Field :=
  ⟨0x08C, 0, 32, .ro, 0, 1, 4, 1, 0, false, .ok, 0, 4294967295, 4294967296, .none⟩
/-- 0x090 LIVE_COUNT [31:0]: COUNT now, in QUAD and HALL -/
def LIVE_COUNT : Field :=
  ⟨0x090, 0, 32, .ro, 0, 1, 4, 1, 0, false, .ok, 0, 4294967295, 4294967296, .none⟩
/-- 0x094 ILLEGAL_CNT [15:0]: Illegal transitions; saturates -/
def ILLEGAL_CNT : Field :=
  ⟨0x094, 0, 16, .rc, 0, 1, 4, 1, 0, false, .ok, 0, 65535, 65536, .none⟩
/-- 0x098 FRAME_ERR_CNT [15:0]: Invalid frames; saturates -/
def FRAME_ERR_CNT : Field :=
  ⟨0x098, 0, 16, .rc, 0, 1, 4, 1, 0, false, .ok, 0, 65535, 65536, .none⟩
/-- 0x09C BUSY_CNT [15:0]: Refused SAMPLE actions; saturates -/
def BUSY_CNT : Field :=
  ⟨0x09C, 0, 16, .rc, 0, 1, 4, 1, 0, false, .ok, 0, 65535, 65536, .none⟩

/-- Every field of the POS table, in table order. -/
def fields : List Field :=
    [ POS_CFG_MODE, POS_CFG_DIR_INV, POS_CFG_FILT, POS_CFG_FAULT_EN, POS_CFG_GRAY,
    POS_CFG_FRAMING, POS_CFG_STAT_BITS, POS_CFG_STAT_POL, POS_CFG_ERR_MASK, POS_CFG_WARN_MASK,
    POS_CFG_HDR_LEN, POS_CFG_HDR, SER_LEN_ST_BITS, SER_LEN_MT_BITS, SER_LEN_CRC_LEN,
    SER_LEN_HDR_MAX, SER_CRC_POLY, SER_CRC_INIT, SER_CRC_INV, SER_TIME_HALF,
    SER_TIME_LINE_DELAY, SER_CHK_RECOVERY, SER_CHK_JUMP_MAX, CPT, INDEX_CFG_Z_MODE,
    INDEX_CFG_Z_QUAL, INDEX_CFG_Z_QUAL_EN, INDEX_CFG_Z_POL, Z_VALUE, HALL_MAP, HALL_OFS,
    SPD_WIN, STILL, POS_CTRL_FAULT_CLR, POS_CTRL_ZARM, POS_STAT_ANGLE_VALID,
    POS_STAT_REFERENCED, POS_STAT_ENC_FAULT, POS_STAT_STILL, POS_STAT_DIR] ++
    [ POS_STAT_SPD_VALID, POS_STAT_WIN_PARTIAL, POS_STAT_WARN, POS_STAT_EXACT,
    POS_STAT_HALL_CODE, POS_STAT_LAST_ERR, ANGLE, COUNT, SPEED, EDGE_AGE, RES_TIDE, ZPOS,
    LIVE_COUNT, ILLEGAL_CNT, FRAME_ERR_CNT, BUSY_CNT]

end POS

namespace EMU

/-- 0x040 EMU_CFG [1:0]: 0 OFF, 1 EMULATE, 2 PASS; 3 fails with RESERVED_VALUE -/
def EMU_CFG_MODE : Field :=
  ⟨0x040, 0, 2, .st, 0, 1, 4, 1, 0, false, .ok, 0, 3, 3, .none⟩
/-- 0x040 EMU_CFG [4:2]: Source POS[SRC] -/
def EMU_CFG_SRC : Field :=
  ⟨0x040, 2, 3, .st, 0, 1, 4, 1, 0, false, .ok, 0, 7, 8, .none⟩
/-- 0x040 EMU_CFG [5]: Swap A and B -/
def EMU_CFG_DIR_INV : Field :=
  ⟨0x040, 5, 1, .st, 0, 1, 4, 1, 0, false, .ok, 0, 1, 2, .none⟩
/-- 0x040 EMU_CFG [6]: Drive the index in EMULATE -/
def EMU_CFG_Z_EN : Field :=
  ⟨0x040, 6, 1, .st, 1, 1, 4, 1, 0, false, .ok, 0, 1, 2, .none⟩
/-- 0x044 LINES [23:0]: Lines per turn, 1 to 16,777,215; 0 fails with ZERO_INVALID when MODE is 1 -/
def LINES : Field :=
  ⟨0x044, 0, 24, .st, 1024, 1, 4, 1, 0, false, .ok, 0, 16777215, 16777216, .none⟩
/-- 0x048 MIN_GAP [15:0]: Least spacing of output counts, 50 to 65,535; 0 fails with ZERO_INVALID, 1 to 49 with RANGE -/
def MIN_GAP : Field :=
  ⟨0x048, 0, 16, .st, 50, 1, 4, 1, 0, false, .invalid, 50, 65535, 65536, .none⟩
/-- 0x04C Z_POS [25:0]: Index position, below 4 × LINES, else RANGE -/
def Z_POS : Field :=
  ⟨0x04C, 0, 26, .st, 0, 1, 4, 1, 0, false, .ok, 0, 67108863, 67108864, .none⟩
/-- 0x050 LAG_MAX [23:0]: Under R255; 0 fails with ZERO_INVALID -/
def LAG_MAX : Field :=
  ⟨0x050, 0, 24, .st, 1024, 1, 4, 1, 0, false, .invalid, 0, 16777215, 16777216, .none⟩
/-- 0x054 EMU_STAT [0]: Under R255 -/
def EMU_STAT_LAG : Field :=
  ⟨0x054, 0, 1, .ro, 0, 1, 4, 1, 0, false, .ok, 0, 1, 2, .none⟩
/-- 0x054 EMU_STAT [1]: Under R254 and R256 -/
def EMU_STAT_SRC_INVALID : Field :=
  ⟨0x054, 1, 1, .ro, 0, 1, 4, 1, 0, false, .ok, 0, 1, 2, .none⟩
/-- 0x054 EMU_STAT [2]: Output level -/
def EMU_STAT_A : Field :=
  ⟨0x054, 2, 1, .ro, 0, 1, 4, 1, 0, false, .ok, 0, 1, 2, .none⟩
/-- 0x054 EMU_STAT [3]: Output level -/
def EMU_STAT_B : Field :=
  ⟨0x054, 3, 1, .ro, 0, 1, 4, 1, 0, false, .ok, 0, 1, 2, .none⟩
/-- 0x054 EMU_STAT [4]: Output level -/
def EMU_STAT_Z : Field :=
  ⟨0x054, 4, 1, .ro, 0, 1, 4, 1, 0, false, .ok, 0, 1, 2, .none⟩
/-- 0x058 OUT_COUNT [25:0]: Output position modulo 4 × LINES -/
def OUT_COUNT : Field :=
  ⟨0x058, 0, 26, .ro, 0, 1, 4, 1, 0, false, .ok, 0, 67108863, 67108864, .none⟩
/-- 0x05C LAG_NOW [31:0]: Signed T − OUT_COUNT, saturating -/
def LAG_NOW : Field :=
  ⟨0x05C, 0, 32, .ro, 0, 1, 4, 1, 0, false, .ok, 0, 4294967295, 4294967296, .none⟩
/-- 0x060 RESYNC_CNT [15:0]: Under R256; saturates -/
def RESYNC_CNT : Field :=
  ⟨0x060, 0, 16, .rc, 0, 1, 4, 1, 0, false, .ok, 0, 65535, 65536, .none⟩

/-- Every field of the EMU table, in table order. -/
def fields : List Field :=
    [ EMU_CFG_MODE, EMU_CFG_SRC, EMU_CFG_DIR_INV, EMU_CFG_Z_EN, LINES, MIN_GAP, Z_POS, LAG_MAX,
    EMU_STAT_LAG, EMU_STAT_SRC_INVALID, EMU_STAT_A, EMU_STAT_B, EMU_STAT_Z, OUT_COUNT, LAG_NOW,
    RESYNC_CNT]

end EMU

end Sys2Proof.Reg
end

