-- ==== Sys2Proof/Machine/PageMap.lean ====
section
/-! DEFINITION. The address map (Tables 1-10, 3-10, 7-12), the fixed header words of each page (Tables 2-1, 2-2), the fields each page holds, and what a register reads at reset. -/

namespace Sys2Proof

/-- Block type code of Table 2-2. -/
def Blk.type : Blk → Nat
  | .tide | .fg | .act | .evs => 0x01
  | .leg => 0x02
  | .llp => 0x03
  | .sht => 0x04
  | .cnv => 0x05
  | .vcl => 0x06
  | .adc => 0x07
  | .dsf => 0x08
  | .tsn => 0x09
  | .pos => 0x0A
  | .emu => 0x0B
  | .cpl => 0x0C
  | .brg => 0x0D
  | .ssc => 0x0E
  | .qctl | .irq => 0x0F
  | .eng | .lane | .inj => 0x10
  | .lck => 0x11
  | .gwy => 0x12
  | .bsn => 0x13
  | .que => 0x14
  | .cap => 0x15
  | .can | .obj => 0x16
  | .eth => 0x17
  | .xsp => 0x18
  | .dbg => 0x19
  | .saf => 0x1A
  | .sio => 0x1B
  | .seal => 0x1C
  | .sbc => 0x1D
  | .fltr | .flt8 => 0x1E
  | .pwr => 0x1F
  | .clk => 0x20
  | .rst => 0x21
  | .strp => 0x22

/-- How many pages of the kind the chip has (Table 1-10). -/
def Blk.count : Blk → Nat
  | .fg => 8
  | .leg => 96
  | .llp => 24
  | .adc => 12
  | .dsf => 32
  | .tsn => 8
  | .pos => 8
  | .emu => 4
  | .brg => 16
  | .ssc => 5
  | .qctl | .irq | .eng | .inj | .lck | .gwy => 2
  | .lane => 16
  | .que => 64
  | .can => 6
  | .eth => 2
  | .fltr => 8
  | .obj => 768
  | _ => 1

/-- Address of page `n` of the kind. Object windows are keyed above the 32-bit address space, since R413 gives them no address of their own. -/
def Blk.base (b : Blk) (n : Nat) : Nat :=
  match b with
  | .tide => 0x42010000
  | .fg => 0x42011000 + n * 0x1000
  | .act => 0x42019000
  | .evs => 0x4201C000
  | .leg => 0x42100000 + n * 0x1000
  | .llp => 0x42200000 + n * 0x1000
  | .sht => 0x42020000
  | .cnv => 0x42030000
  | .vcl => 0x42040000
  | .adc => 0x43100000 + n * 0x1000
  | .dsf => 0x43200000 + n * 0x1000
  | .tsn => 0x43300000 + n * 0x1000
  | .pos => 0x43400000 + n * 0x1000
  | .emu => 0x43500000 + n * 0x1000
  | .cpl => 0x43600000
  | .brg => 0x44100000 + n * 0x1000
  | .ssc => 0x44200000 + n * 0x1000
  | .qctl => 0x40010000 + n * 0x01000000
  | .irq => 0x40011000 + n * 0x01000000
  | .eng => 0x40020000 + n * 0x01000000
  | .lane => 0x40021000 + n / 8 * 0x01000000 + n % 8 * 0x1000
  | .inj => 0x40029000 + n * 0x01000000
  | .lck => 0x40030000 + n * 0x01000000
  | .gwy => 0x40040000 + n * 0x01000000
  | .bsn => 0x46010000
  | .que => 0x46100000 + n * 0x1000
  | .cap => 0x46200000
  | .can => 0x45100000 + n * 0x1000
  | .eth => 0x45200000 + n * 0x1000
  | .xsp => 0x45300000
  | .dbg => 0x45400000
  | .saf => 0x47020000
  | .sio => 0x47030000
  | .seal => 0x47040000
  | .sbc => 0x47050000
  | .fltr => 0x40000000 + n * 0x01000000
  | .flt8 => 0x47010000
  | .pwr => 0x47080000
  | .clk => 0x47090000
  | .rst => 0x470A0000
  | .strp => 0x470B0000
  | .obj => 0x100000000 + n * 0x1000

/-- Every kind of page. -/
def Blk.all : List Blk :=
  [.tide, .fg, .act, .evs, .leg, .llp, .sht, .cnv, .vcl, .adc, .dsf, .tsn, .pos, .emu, .cpl,
    .brg, .ssc] ++
  [.qctl, .irq, .eng, .lane, .inj, .lck, .gwy, .bsn, .que, .cap, .can, .eth, .xsp, .dbg,
    .saf, .sio, .seal, .sbc, .fltr, .flt8, .pwr, .clk, .rst, .strp, .obj]

/-- Address of the page. -/
def Page.base (p : Page) : Nat := p.blk.base p.idx

/-- The page exists. -/
def Page.valid (p : Page) : Bool := decide (p.idx < p.blk.count)

/-- Region index r of the page (Table 1-10). -/
def Page.region (p : Page) : Nat :=
  match p.blk with
  | .obj => 5
  | .fltr => p.idx
  | _ => p.base / 0x01000000 % 16

/-- SUBPAGE of the page (Tables 3-10, 7-12; QCTL). -/
def Page.subpage (p : Page) : Nat :=
  match p.blk with
  | .fg => 1 + p.idx
  | .act => 9
  | .evs => 10
  | .irq => 1
  | .lane => 1 + p.idx % 8
  | .inj => 9
  | _ => 0

/-- INSTANCE of the page: the index of a replicated block, 0 for single-instance blocks and for the pages of a Quay, whose REGION tells the Quay (R46). -/
def Page.inst (p : Page) : Nat :=
  match p.blk with
  | .leg | .llp | .adc | .dsf | .tsn | .pos | .emu | .brg | .ssc | .que | .can | .eth | .fltr => p.idx
  | .flt8 => 8
  | _ => 0

/-- NUM_EVT of the page, from the chapter that owns it. -/
def Page.numEvt (p : Page) : Nat :=
  match p.blk with
  | .tide => 6
  | .fg => 3
  | .act => 6
  | .evs => 1
  | .leg => 14
  | .llp => 8
  | .cnv => 9
  | .vcl => 5
  | .adc => 4
  | .dsf => 4
  | .tsn => 5
  | .pos => 8
  | .emu => 3
  | .cpl => 4
  | .brg => 7
  | .ssc => 5
  | .qctl => 4
  | .eng => 3
  | .lane => 8
  | .inj => 2
  | .lck => 1
  | .gwy => 5
  | .bsn => 4
  | .que => 6
  | .cap => 2
  | .can => 9
  | .eth => 4
  | .xsp => 3
  | .dbg => 3
  | .saf => 5
  | .sio => 5
  | .seal => 3
  | .sbc => 4
  | .flt8 => 3
  | .pwr => 4
  | .clk => 3
  | .strp => 2
  | _ => 0

/-- BLOCK_CAP of the page (Chapters 4 and 5 give the only bits). -/
def Page.blockCap (p : Page) : Nat :=
  match p.blk with
  | .leg => 128
  | .llp => 7
  | _ => 0

/-- The page is in a commit group (R122). -/
def Page.grouped (p : Page) : Bool := p.blk == .leg

/-- The page leads its commit group (R122). -/
def Page.groupLead (p : Page) : Bool := p.blk == .leg && p.idx % 4 == 0

/-- The members of the page's commit group, or the page alone. -/
def Page.group (p : Page) : List Page :=
  if p.blk = .leg then [⟨.leg, p.idx / 4 * 4⟩, ⟨.leg, p.idx / 4 * 4 + 1⟩, ⟨.leg, p.idx / 4 * 4 + 2⟩, ⟨.leg, p.idx / 4 * 4 + 3⟩]
  else [p]

/-- Mirrors of the Shutter distribution on the SHT page (R385). -/
def Reg.SHT.SHT_LEG : Field := ⟨0x040, 0, 24, .ro, 0xFFFFFF, 1, 4, 1, 0, false, .ok, 0, 16777215, 16777216, .none⟩
/-- 0x044 SHT_BRG: closed per bridge block. -/
def Reg.SHT.SHT_BRG : Field := ⟨0x044, 0, 4, .ro, 0xF, 1, 4, 1, 0, false, .ok, 0, 15, 16, .none⟩
/-- 0x048 SHT_MODE: SHORT-LOW per leg block. -/
def Reg.SHT.SHT_MODE : Field := ⟨0x048, 0, 24, .ro, 0, 1, 4, 1, 0, false, .ok, 0, 16777215, 16777216, .none⟩

/-- The block-specific fields of the page. Registers that exist on some pages of a kind only are listed on those pages only (R124, R179, R321, R352, Table 6-3). -/
def Page.blockFields (p : Page) : List Field :=
  match p.blk with
  | .tide => Reg.TIDE.fields
  | .fg => Reg.FG.fields
  | .act => Reg.ACT.fields
  | .evs => Reg.EVS.fields
  | .leg => if p.idx % 4 = 0 then Reg.LEG.fields ++ Reg.LEGL.fields else Reg.LEG.fields
  | .llp => Reg.LLP.fields
  | .sht => [Reg.SHT.SHT_LEG, Reg.SHT.SHT_BRG, Reg.SHT.SHT_MODE]
  | .cnv => Reg.CNV.fields
  | .vcl => Reg.VCL.fields
  | .adc => Reg.ADC.fields
  | .dsf => if p.idx < 4 then Reg.DSF.fields else Reg.DSF.fields.filter fun f => f.off != 0x04C
  | .tsn => if p.idx = 2 then Reg.TSN.fields else Reg.TSN.fields.filter fun f => decide (f.off < 0x100)
  | .pos => Reg.POS.fields
  | .emu => Reg.EMU.fields
  | .cpl => Reg.CPL.fields
  | .brg => if p.idx % 4 = 0 then Reg.BRG.fields else Reg.BRG.fields.filter fun f => decide (f.off < 0x100)
  | .ssc => Reg.SSC.fields
  | .qctl => Reg.QCTL.fields
  | .irq => Reg.IRQ.fields
  | .eng => Reg.ENG.fields
  | .lane => Reg.LANE.fields
  | .inj => Reg.INJ.fields
  | .lck => Reg.LCK.fields
  | .gwy => Reg.GWY.fields
  | .bsn => Reg.BSN.fields
  | .que => Reg.QUE.fields
  | .cap => Reg.CAP.fields
  | .can => Reg.CAN.fields
  | .eth => Reg.ETH.fields
  | .xsp => Reg.XSP.fields
  | .dbg => Reg.DBG.fields
  | .saf => Reg.SAF.fields
  | .sio => Reg.SIO.fields
  | .seal => Reg.SEAL.fields
  | .sbc => Reg.SBC.fields
  | .fltr => Reg.FLTR.fields
  | .flt8 => Reg.FLT8.fields
  | .pwr => Reg.PWR.fields
  | .clk => Reg.CLK.fields
  | .rst => Reg.RST.fields
  | .strp => Reg.STRP.fields
  | .obj => Reg.OBJ.fields

/-- Every field of the page. -/
def Page.fields (p : Page) : List Field := Reg.HDR.fields ++ p.blockFields

/-- The field has an element in the word at offset `off`. -/
def Field.covers (f : Field) (off : Nat) : Bool :=
  decide (f.off ≤ off) && decide ((off - f.off) % f.stride = 0) && decide ((off - f.off) / f.stride * f.per < f.count)

/-- How many elements of the field lie in its word at offset `off`. -/
def Field.inWord (f : Field) (off : Nat) : Nat := Nat.min f.per (f.count - (off - f.off) / f.stride * f.per)

/-- The mask of the field's bits in its word at `off`. -/
def Field.mask (f : Field) (off : Nat) : Word :=
  (List.range (f.inWord off)).foldl (fun w j => w ||| BitVec.ofNat 32 ((2 ^ f.width - 1) * 2 ^ (f.lo + f.step * j))) 0

/-- The field's reset value in its word at `off`. -/
def Field.resetWord (strap : Nat) (f : Field) (off : Nat) : Word :=
  (List.range (f.inWord off)).foldl (fun w j => w ||| BitVec.ofNat 32 (f.resetVal strap * 2 ^ (f.lo + f.step * j))) 0

/-- The bits of the word at `off` that lie in fields which `q` selects. -/
def Page.mask (p : Page) (q : Field → Bool) (off : Nat) : Word :=
  p.fields.foldl (fun w f => if f.covers off && q f then w ||| f.mask off else w) 0

/-- The page holds ST fields (PAGE_CAP.HAS_ST). -/
def Page.hasSt (p : Page) : Bool := p.blk == .act || p.blockFields.any fun f => f.acc == .st

/-- The page holds LOCK-protected fields (PAGE_CAP.HAS_LOCK). The ISO_REQ of FLT[r] is protected for TD and SN only (Table 1-5). -/
def Page.hasLock (p : Page) : Bool :=
  match p.blk with
  | .fltr => p.idx == 2 || p.idx == 3
  | .flt8 => true
  | _ => p.blockFields.any fun f => f.lock

/-- PAGE_ID (Tables 2-1, 2-2). -/
def Page.pageId (p : Page) : Nat := p.blk.type + p.inst * 2 ^ 8 + p.region * 2 ^ 16 + p.subpage * 2 ^ 20 + 0x21 * 2 ^ 24

/-- PAGE_CAP (Table 2-1). -/
def Page.pageCap (p : Page) : Nat :=
  (if p.hasSt then 1 else 0) + (if p.hasLock then 2 else 0) + (if p.grouped then 4 else 0) + (if p.groupLead then 8 else 0) +
    p.numEvt * 2 ^ 8 + p.blockCap * 2 ^ 16

/-- PAGE_CTRL.EN resets to 1 on TIDE subpage 0, FG[0] and the lane pages (R91, R92, R207). -/
def Page.enReset (p : Page) : Nat :=
  match p.blk with
  | .tide | .lane => 1
  | .fg => if p.idx = 0 then 1 else 0
  | _ => 0

/-- The page that an address lies in. -/
def pageOf (a : Nat) : Option Page :=
  Blk.all.findSome? fun b =>
    let q := a / 0x01000000
    match b with
    | .qctl | .irq | .eng | .inj | .lck | .gwy =>
      if a / 4096 * 4096 = b.base 0 then some ⟨b, 0⟩
      else if a / 4096 * 4096 = b.base 1 then some ⟨b, 1⟩ else none
    | .fltr => if q / 16 = 4 ∧ a % 0x01000000 < 4096 ∧ q % 16 < 8 then some ⟨b, q % 16⟩ else none
    | .lane =>
      if q = 0x40 ∨ q = 0x41 then
        let o := a % 0x01000000
        if 0x21000 ≤ o ∧ o < 0x29000 then some ⟨b, q % 16 * 8 + (o - 0x21000) / 4096⟩ else none
      else none
    | _ => if b.base 0 ≤ a ∧ (a - b.base 0) / 4096 < b.count then some ⟨b, (a - b.base 0) / 4096⟩ else none

/-- What the word at address `a` reads at reset: its fields' reset values, with S fields from the strap latch; an active-value alias as its register; words of the windows 0. -/
def resetWord (strap : Nat) (a : Nat) : Word :=
  match pageOf a with
  | none => 0
  | some p =>
    let o := a % 4096
    if o = 0x000 then BitVec.ofNat 32 p.pageId
    else if o = 0x004 then BitVec.ofNat 32 p.pageCap
    else if o = 0x008 then BitVec.ofNat 32 p.enReset
    else if o < 0x800 then
      p.fields.foldl (fun w f => if f.covers o then w ||| f.resetWord strap o else w) 0
    else
      p.blockFields.foldl (fun w f => if f.covers (o - 0x800) && f.acc == .st then w ||| f.resetWord strap (o - 0x800) else w) 0

/-- The addresses of the word windows that hold whole words: action table banks, mailbox words, law memory and coefficient store (Tables 3-10, 7-12). -/
def inWindow (a : Nat) : Bool :=
  (decide (0x4201A000 ≤ a) && decide (a < 0x4201C000)) ||
    ((a / 0x01000000 == 0x40 || a / 0x01000000 == 0x41) &&
      (let o := a % 0x01000000
       (decide (0x2A000 ≤ o) && decide (o < 0x2A800)) || (decide (0x800000 ≤ o) && decide (o < 0x840000)) ||
         (decide (0xC00000 ≤ o) && decide (o < 0xC10000))))

/-- The bits that can hold a value at address `a`; every other bit reads 0 for ever (R47). PAGE_ID and PAGE_CAP are fixed. -/
def implMask (a : Nat) : Word :=
  if inWindow a then BitVec.allOnes 32
  else match pageOf a with
    | none => 0
    | some p =>
      let o := a % 4096
      if o < 0x008 then 0
      else if o < 0x800 then p.mask (fun _ => true) o
      else p.blockFields.foldl (fun w f => if f.covers (o - 0x800) && f.acc == .st then w ||| f.mask (o - 0x800) else w) 0

/-- Block index of the page in its region (Table 1-10). -/
def Page.blockIndex (p : Page) : Nat :=
  match p.blk with
  | .qctl | .irq => 0
  | .eng | .lane | .inj => 1
  | .lck => 2
  | .gwy => 3
  | .tide | .fg | .act | .evs => 24
  | .sht => 25
  | .cnv | .vcl => 26
  | .leg => p.idx / 4
  | .llp => p.idx
  | .adc => 0
  | .dsf => 1
  | .tsn => 2
  | .pos => 3
  | .emu => 4
  | .cpl => 5
  | .brg => p.idx / 4
  | .ssc => 4
  | .can | .obj => 0
  | .eth => 1
  | .xsp => 2
  | .dbg => 3
  | .bsn => 0
  | .que => 1
  | .cap => 2
  | .saf => 0
  | .sio => 1
  | .seal => 2
  | .sbc => 3
  | .flt8 => 4
  | .pwr => 5
  | .clk => 6
  | .rst => 7
  | .strp => 8
  | .fltr => 31

/-- INST of the page's records: its instance, the subpage of a Tide source, the region of a Quay's source (Table 3-6, R209). -/
def Page.recInst (p : Page) : Nat :=
  match p.blk with
  | .tide | .fg | .act | .evs => p.subpage
  | .qctl | .irq | .eng | .inj | .lck | .gwy | .lane => p.region
  | _ => p.inst

/-- SRC_ID of a source: word 0 bits [19:0] (Table 3-6). -/
def Page.srcId (p : Page) (chan : Nat) : Nat := p.blk.type + p.recInst * 2 ^ 8 + chan * 2 ^ 15

/-- Element of EVS.ROUTE for the page's block (Table 3-14). -/
def Page.route (p : Page) : Nat := 32 * p.region + p.blockIndex

/-- Base address of a Quay's region. -/
def Quay.origin (q : Quay) : Nat := 0x40000000 + 0x01000000 * q.idx

/-- Power domain of the page (Table 17-2). -/
def Page.domain (p : Page) : Nat :=
  match p.blk with
  | .tide | .fg | .act | .evs | .leg | .sht | .cnv | .vcl => 5
  | .llp => if p.idx < 12 then 6 else 7
  | .adc | .dsf | .tsn | .cpl => 8
  | .pos | .emu | .can | .obj => 10
  | .brg | .ssc => 9
  | .qctl | .irq | .eng | .lane | .inj | .lck | .gwy => 2 + p.region
  | .eth | .xsp => 11
  | .dbg => 13
  | .bsn | .que | .cap => 4
  | .fltr => 0
  | .saf | .sio | .seal | .sbc | .flt8 | .pwr | .clk | .rst | .strp => 1

end Sys2Proof
end

