-- ==== Sys2Proof/Machine/SMap.lean ====
section
/-! DEFINITION. Sparse maps in one canonical form: keys strictly rising, and no entry equal to what an unlisted key reads as. -/

namespace Sys2Proof

/-- What key `a` holds: its entry, or the default where none is listed. -/
def SMap.get {α : Type} (d : Nat → α) : SMap α → Nat → α
  | [], a => d a
  | (k, v) :: m, a => if k = a then v else SMap.get d m a

/-- The map without the keys that `p` selects. -/
def SMap.erase {α : Type} (p : Nat → Bool) : SMap α → SMap α
  | [] => []
  | (k, v) :: m => if p k then SMap.erase p m else (k, v) :: SMap.erase p m

/-- The map with an entry for `a`, which it does not list, in its place. -/
def SMap.insert {α : Type} (a : Nat) (v : α) : SMap α → SMap α
  | [] => [(a, v)]
  | (k, w) :: m => if a < k then (a, v) :: (k, w) :: m else (k, w) :: SMap.insert a v m

/-- The map with key `a` holding `v`; writing the default removes the entry. -/
def SMap.put {α : Type} [DecidableEq α] (d : Nat → α) (m : SMap α) (a : Nat) (v : α) : SMap α :=
  if v = d a then SMap.erase (fun k => k == a) m else SMap.insert a v (SMap.erase (fun k => k == a) m)

/-- Every key of the map is above `b`, keys rise strictly, and no entry is the default. -/
def SMap.wfAbove {α : Type} [DecidableEq α] (d : Nat → α) : Option Nat → SMap α → Bool
  | _, [] => true
  | b, (k, v) :: m => (match b with | none => true | some x => decide (x < k)) && decide (v ≠ d k) && SMap.wfAbove d (some k) m

/-- The canonical form. -/
def SMap.wf {α : Type} [DecidableEq α] (d : Nat → α) (m : SMap α) : Bool := SMap.wfAbove d none m

/-- The keys listed. -/
def SMap.keys {α : Type} (m : SMap α) : List Nat := m.map Prod.fst

end Sys2Proof
end

