-- ==== Sys2Proof/Machine/Act.lean ====
section
/-! DEFINITION. How a command changes the chip: an effect is a tree of primitive writes and of choices made from the chip as it then is. Only a primitive writes the chip, so what every primitive keeps, every command keeps. -/

namespace Sys2Proof.Machine

open Sys2Proof

/-- What the register store holds for a write of `v` at address `a`: bits that cannot hold a value keep what they read at reset, so that reserved bits read 0 and PAGE_ID never changes (R47), and neither a leg cell nor a bridge cell ever commands both of its gates on together (R95, R294). -/
def regNorm (strap a : Nat) (v : Word) : Word :=
  let w := (v &&& implMask a) ||| (resetWord strap a &&& ~~~implMask a)
  if (0x42100000 ≤ a ∧ a < 0x42160000 ∧ a % 4096 = 0x05C) ∧ w &&& 0xC#32 = 0xC#32 then w &&& 0xFFFFFFF3#32
  else if (0x44100000 ≤ a ∧ a < 0x44110000 ∧ a % 4096 = 0x05C) ∧ w &&& 3#32 = 3#32 then w &&& 0xFFFFFFFC#32
  else w

/-- The primitive writes. -/
inductive Prim
  /-- `n` ticks pass. -/
  | elapse (n : Nat)
  /-- Time passes until the Tide reads `t`, if it lies ahead. -/
  | until_ (t : Nat)
  /-- The Tide starts to count from 0, or stops. -/
  | tideRun (on : Bool)
  /-- The strap latch is loaded; every register word takes its reset value. -/
  | strap (v : BitVec 16)
  /-- Power-on reset: everything returns to its reset value but the time of the model, the free values, the fuses and the strap latch (R463). -/
  | por
  | owner (q : Option Quay)
  | answer (resp : Nat) (data : Word)
  /-- The next free value is taken. -/
  | freeNext
  /-- A register or window word. -/
  | reg (a : Nat) (v : Word)
  /-- The register and window words at addresses that `p` selects take their reset values. -/
  | regsReset (lo hi : Nat)
  | byte (a : Nat) (v : Byte)
  | memReset (lo hi : Nat)
  | page (k : Nat) (v : PageSt)
  | arb (k : Nat) (v : ArbSt)
  | stream (k : Nat) (v : StreamSt)
  | leg (k : Nat) (v : LegSt)
  | blk (k : Nat) (v : BlkSt)
  | link (k : Nat) (v : LinkSt)
  | fault (k : Nat) (v : FaultSt)
  | adc (k : Nat) (v : AdcSt)
  | dsf (k : Nat) (v : DsfSt)
  | tsn (k : Nat) (v : TsnSt)
  | temp (k : Nat) (v : TempSt)
  | lane (k : Nat) (v : LaneSt)
  | slot (k : Nat) (v : SlotSt)
  | tap (k : Nat) (v : TapSt)
  | eng (k : Nat) (v : EngSt)
  | gwy (k : Nat) (v : GwySt)
  | trac (k : Nat) (v : TracSt)
  | conv (k : Nat) (v : ConvSt)
  | chg (k : Nat) (v : ChgSt)
  | pos (k : Nat) (v : PosSt)
  | emu (k : Nat) (v : EmuSt)
  | brg (k : Nat) (v : BrgSt)
  | ssc (k : Nat) (v : SscSt)
  | que (k : Nat) (v : QueSt)
  | store (k : Nat) (v : StoreSt)
  | port (k : Nat) (v : PortSt)
  | can (k : Nat) (v : CanSt)
  | obj (k : Nat) (v : ObjSt)
  | eth (k : Nat) (v : EthSt)
  | sin (k : Nat) (v : SinSt)
  | quay (k : Nat) (v : QuaySt)
  | tideS (v : TideSt)
  | cplS (v : CplSt)
  | deliveries (v : List Sample)
  | outbox (v : List Entry)
  | vcmds (v : List (Quay × Nat × Word × Nat))
  | capWins (v : List (Nat × Nat × Nat))
  | cnvS (v : CnvSt)
  | bootS (v : BootSt)
  | fuseS (v : FuseSt)
  | dbgS (v : DbgSt)
  | safS (v : SafSt)
  | brakeS (v : BrakeSt)
  | sealS (v : SealSt)
  | seqS (v : SeqSt)
  | redS (v : RedSt)

/-- What a primitive writes. -/
def Prim.run (c : Chip) : Prim → Chip
  | .elapse n => { c with now := c.now + n, tide := if c.tideOn then c.tide + BitVec.ofNat 64 n else c.tide }
  | .until_ t => if c.tideOn && decide (c.tide.toNat < t) then { c with now := c.now + (t - c.tide.toNat), tide := BitVec.ofNat 64 t } else c
  | .tideRun on => { c with tideOn := on, tide := 0 }
  | .strap v => { c with strap := v, regs := [] }
  | .por => { now := c.now, free := c.free, fuse := c.fuse, strap := c.strap }
  | .owner q => { c with owner := q }
  | .answer r d => { c with resp := r, rdata := d }
  | .freeNext => { c with free := c.free + 1 }
  | .reg a v => { c with regs := SMap.put (resetWord c.strap.toNat) c.regs a (regNorm c.strap.toNat a v) }
  | .regsReset lo hi => { c with regs := SMap.erase (fun a => decide (lo ≤ a) && decide (a < hi)) c.regs }
  | .byte a v => { c with mem := SMap.put (fun _ => 0) c.mem a v }
  | .memReset lo hi => { c with mem := SMap.erase (fun a => decide (lo ≤ a) && decide (a < hi)) c.mem }
  | .page k v => { c with pages := SMap.put (fun _ => {}) c.pages k v }
  | .arb k v => { c with arbs := SMap.put (fun _ => {}) c.arbs k v }
  | .stream k v => { c with streams := SMap.put (fun _ => {}) c.streams k v }
  | .leg k v => { c with legs := SMap.put (fun _ => {}) c.legs k v }
  | .blk k v => { c with blks := SMap.put (fun _ => {}) c.blks k v }
  | .link k v => { c with links := SMap.put (fun _ => {}) c.links k v }
  | .fault k v => { c with faults := SMap.put (fun _ => {}) c.faults k v }
  | .adc k v => { c with adcs := SMap.put (fun _ => {}) c.adcs k v }
  | .dsf k v => { c with dsfs := SMap.put (fun _ => {}) c.dsfs k v }
  | .tsn k v => { c with tsns := SMap.put (fun _ => {}) c.tsns k v }
  | .temp k v => { c with temps := SMap.put (fun _ => {}) c.temps k v }
  | .lane k v => { c with lanes := SMap.put (fun _ => {}) c.lanes k v }
  | .slot k v => { c with slotMem := SMap.put (fun _ => {}) c.slotMem k v }
  | .tap k v => { c with taps := SMap.put (fun _ => {}) c.taps k v }
  | .eng k v => { c with engs := SMap.put (fun _ => {}) c.engs k v }
  | .gwy k v => { c with gwys := SMap.put (fun _ => {}) c.gwys k v }
  | .trac k v => { c with tracs := SMap.put (fun _ => {}) c.tracs k v }
  | .conv k v => { c with convs := SMap.put (fun _ => {}) c.convs k v }
  | .chg k v => { c with chgs := SMap.put (fun _ => {}) c.chgs k v }
  | .pos k v => { c with poss := SMap.put (fun _ => {}) c.poss k v }
  | .emu k v => { c with emus := SMap.put (fun _ => {}) c.emus k v }
  | .brg k v => { c with brgs := SMap.put (fun _ => {}) c.brgs k v }
  | .ssc k v => { c with sscs := SMap.put (fun _ => {}) c.sscs k v }
  | .que k v => { c with ques := SMap.put (fun _ => {}) c.ques k v }
  | .store k v => { c with stores := SMap.put (fun _ => {}) c.stores k v }
  | .port k v => { c with ports := SMap.put (fun _ => {}) c.ports k v }
  | .can k v => { c with cans := SMap.put (fun _ => {}) c.cans k v }
  | .obj k v => { c with objs := SMap.put (fun _ => {}) c.objs k v }
  | .eth k v => { c with eths := SMap.put (fun _ => {}) c.eths k v }
  | .sin k v => { c with sins := SMap.put (fun _ => {}) c.sins k v }
  | .quay k v => { c with quays := SMap.put (fun _ => {}) c.quays k v }
  | .tideS v => { c with tideSt := v }
  | .cplS v => { c with cplSt := v }
  | .deliveries v => { c with deliveries := v }
  | .outbox v => { c with outbox := v }
  | .vcmds v => { c with vcmds := v }
  | .capWins v => { c with capWins := v }
  | .cnvS v => { c with cnvSt := v }
  | .bootS v => { c with bootSt := v }
  | .fuseS v => { c with fuse := v }
  | .dbgS v => { c with dbgSt := v }
  | .safS v => { c with safSt := v }
  | .brakeS v => { c with brakeSt := v }
  | .sealS v => { c with sealSt := v }
  | .seqS v => { c with seqSt := v }
  | .redS v => { c with redSt := v }

/-- An effect. -/
inductive Act
  | skip
  | prim (p : Prim)
  | seq (a b : Act)
  | dyn (f : Chip → Act)

/-- The chip after the effect. -/
def Act.run : Act → Chip → Chip
  | .skip, c => c
  | .prim p, c => p.run c
  | .seq a b, c => b.run (a.run c)
  | .dyn f, c => (f c).run c

/-- Effects one after the other. -/
def seqs : List Act → Act
  | [] => .skip
  | a :: as => .seq a (seqs as)

/-- The effect if the condition holds. -/
def when (b : Bool) (a : Act) : Act := if b then a else .skip

/-- The effect for each element in turn. -/
def each {α : Type} (l : List α) (f : α → Act) : Act := seqs (l.map f)

/-- The effect if the condition holds of the chip as it then is. -/
def whenC (b : Chip → Bool) (a : Act) : Act := .dyn fun c => when (b c) a

/-- The outcome of a command that comes `dt` ticks after the previous one: time passes, then the effect. -/
def State.act (s : State) (dt : Nat) (a : Act) : Host.Outcome State Fault Refusal :=
  .next { s with chip := (Act.seq (.prim (.elapse dt)) a).run s.chip }

/-- What each page holds beyond its registers, by page address. -/
def Chip.page (c : Chip) (k : Nat) : PageSt := SMap.get (fun _ => {}) c.pages k

/-- Changes what `Chip.page` reads at `k`. -/
def modPage (k : Nat) (f : PageSt → PageSt) : Act := .dyn fun c => .prim (.page k (f (c.page k)))

/-- Arbiters: r for the arbiter of region r, 16 + r for the chip arbiter at its entry. -/
def Chip.arb (c : Chip) (k : Nat) : ArbSt := SMap.get (fun _ => {}) c.arbs k

/-- Changes what `Chip.arb` reads at `k`. -/
def modArb (k : Nat) (f : ArbSt → ArbSt) : Act := .dyn fun c => .prim (.arb k (f (c.arb k)))

/-- Event-stream sources, by SRC_ID. -/
def Chip.stream (c : Chip) (k : Nat) : StreamSt := SMap.get (fun _ => {}) c.streams k

/-- Changes what `Chip.stream` reads at `k`. -/
def modStream (k : Nat) (f : StreamSt → StreamSt) : Act := .dyn fun c => .prim (.stream k (f (c.stream k)))

/-- Leg cells, by n. -/
def Chip.leg (c : Chip) (k : Nat) : LegSt := SMap.get (fun _ => {}) c.legs k

/-- Changes what `Chip.leg` reads at `k`. -/
def modLeg (k : Nat) (f : LegSt → LegSt) : Act := .dyn fun c => .prim (.leg k (f (c.leg k)))

/-- Leg blocks, by k. -/
def Chip.blk (c : Chip) (k : Nat) : BlkSt := SMap.get (fun _ => {}) c.blks k

/-- Changes what `Chip.blk` reads at `k`. -/
def modBlk (k : Nat) (f : BlkSt → BlkSt) : Act := .dyn fun c => .prim (.blk k (f (c.blk k)))

/-- Leg-link ports, by k. -/
def Chip.link (c : Chip) (k : Nat) : LinkSt := SMap.get (fun _ => {}) c.links k

/-- Changes what `Chip.link` reads at `k`. -/
def modLink (k : Nat) (f : LinkSt → LinkSt) : Act := .dyn fun c => .prim (.link k (f (c.link k)))

/-- Reports at FLT[8], by fault ID. -/
def Chip.fault (c : Chip) (k : Nat) : FaultSt := SMap.get (fun _ => {}) c.faults k

/-- Changes what `Chip.fault` reads at `k`. -/
def modFault (k : Nat) (f : FaultSt → FaultSt) : Act := .dyn fun c => .prim (.fault k (f (c.fault k)))

/-- SAR converters. -/
def Chip.adc (c : Chip) (k : Nat) : AdcSt := SMap.get (fun _ => {}) c.adcs k

/-- Changes what `Chip.adc` reads at `k`. -/
def modAdc (k : Nat) (f : AdcSt → AdcSt) : Act := .dyn fun c => .prim (.adc k (f (c.adc k)))

/-- Delta-sigma inputs. -/
def Chip.dsf (c : Chip) (k : Nat) : DsfSt := SMap.get (fun _ => {}) c.dsfs k

/-- Changes what `Chip.dsf` reads at `k`. -/
def modDsf (k : Nat) (f : DsfSt → DsfSt) : Act := .dyn fun c => .prim (.dsf k (f (c.dsf k)))

/-- Temperature pages. -/
def Chip.tsn (c : Chip) (k : Nat) : TsnSt := SMap.get (fun _ => {}) c.tsns k

/-- Changes what `Chip.tsn` reads at `k`. -/
def modTsn (k : Nat) (f : TsnSt → TsnSt) : Act := .dyn fun c => .prim (.tsn k (f (c.tsn k)))

/-- Temperature sources: r for region r, 8 + n for leg n. -/
def Chip.temp (c : Chip) (k : Nat) : TempSt := SMap.get (fun _ => {}) c.temps k

/-- Changes what `Chip.temp` reads at `k`. -/
def modTemp (k : Nat) (f : TempSt → TempSt) : Act := .dyn fun c => .prim (.temp k (f (c.temp k)))

/-- Lanes: 8 × Quay + lane. -/
def Chip.lane (c : Chip) (k : Nat) : LaneSt := SMap.get (fun _ => {}) c.lanes k

/-- Changes what `Chip.lane` reads at `k`. -/
def modLane (k : Nat) (f : LaneSt → LaneSt) : Act := .dyn fun c => .prim (.lane k (f (c.lane k)))

/-- Input slots: 256 × Quay + slot. -/
def Chip.slot (c : Chip) (k : Nat) : SlotSt := SMap.get (fun _ => {}) c.slotMem k

/-- Changes what `Chip.slot` reads at `k`. -/
def modSlot (k : Nat) (f : SlotSt → SlotSt) : Act := .dyn fun c => .prim (.slot k (f (c.slot k)))

/-- Tap FIFOs: 16 × Quay + tap. -/
def Chip.tap (c : Chip) (k : Nat) : TapSt := SMap.get (fun _ => {}) c.taps k

/-- Changes what `Chip.tap` reads at `k`. -/
def modTap (k : Nat) (f : TapSt → TapSt) : Act := .dyn fun c => .prim (.tap k (f (c.tap k)))

/-- Engines, by Quay. -/
def Chip.eng (c : Chip) (k : Nat) : EngSt := SMap.get (fun _ => {}) c.engs k

/-- Changes what `Chip.eng` reads at `k`. -/
def modEng (k : Nat) (f : EngSt → EngSt) : Act := .dyn fun c => .prim (.eng k (f (c.eng k)))

/-- Gangway ends, by Quay. -/
def Chip.gwy (c : Chip) (k : Nat) : GwySt := SMap.get (fun _ => {}) c.gwys k

/-- Changes what `Chip.gwy` reads at `k`. -/
def modGwy (k : Nat) (f : GwySt → GwySt) : Act := .dyn fun c => .prim (.gwy k (f (c.gwy k)))

/-- Traction machines: 4 × Quay + machine. -/
def Chip.trac (c : Chip) (k : Nat) : TracSt := SMap.get (fun _ => {}) c.tracs k

/-- Changes what `Chip.trac` reads at `k`. -/
def modTrac (k : Nat) (f : TracSt → TracSt) : Act := .dyn fun c => .prim (.trac k (f (c.trac k)))

/-- The converter law, by Quay. -/
def Chip.conv (c : Chip) (k : Nat) : ConvSt := SMap.get (fun _ => {}) c.convs k

/-- Changes what `Chip.conv` reads at `k`. -/
def modConv (k : Nat) (f : ConvSt → ConvSt) : Act := .dyn fun c => .prim (.conv k (f (c.conv k)))

/-- State of the charger law, by Quay (R288). -/
def Chip.chg (c : Chip) (k : Nat) : ChgSt := SMap.get (fun _ => {}) c.chgs k

/-- Changes what `Chip.chg` reads at `k`. -/
def modChg (k : Nat) (f : ChgSt → ChgSt) : Act := .dyn fun c => .prim (.chg k (f (c.chg k)))

/-- Position interfaces. -/
def Chip.pos (c : Chip) (k : Nat) : PosSt := SMap.get (fun _ => {}) c.poss k

/-- Changes what `Chip.pos` reads at `k`. -/
def modPos (k : Nat) (f : PosSt → PosSt) : Act := .dyn fun c => .prim (.pos k (f (c.pos k)))

/-- Encoder outputs. -/
def Chip.emu (c : Chip) (k : Nat) : EmuSt := SMap.get (fun _ => {}) c.emus k

/-- Changes what `Chip.emu` reads at `k`. -/
def modEmu (k : Nat) (f : EmuSt → EmuSt) : Act := .dyn fun c => .prim (.emu k (f (c.emu k)))

/-- Bridge cells. -/
def Chip.brg (c : Chip) (k : Nat) : BrgSt := SMap.get (fun _ => {}) c.brgs k

/-- Changes what `Chip.brg` reads at `k`. -/
def modBrg (k : Nat) (f : BrgSt → BrgSt) : Act := .dyn fun c => .prim (.brg k (f (c.brg k)))

/-- Six-step units. -/
def Chip.ssc (c : Chip) (k : Nat) : SscSt := SMap.get (fun _ => {}) c.sscs k

/-- Changes what `Chip.ssc` reads at `k`. -/
def modSsc (k : Nat) (f : SscSt → SscSt) : Act := .dyn fun c => .prim (.ssc k (f (c.ssc k)))

/-- Basin queues. -/
def Chip.que (c : Chip) (k : Nat) : QueSt := SMap.get (fun _ => {}) c.ques k

/-- Changes what `Chip.que` reads at `k`. -/
def modQue (k : Nat) (f : QueSt → QueSt) : Act := .dyn fun c => .prim (.que k (f (c.que k)))

/-- Cell stores: 0 pool, 1 capture store. -/
def Chip.store (c : Chip) (k : Nat) : StoreSt := SMap.get (fun _ => {}) c.stores k

/-- Changes what `Chip.store` reads at `k`. -/
def modStore (k : Nat) (f : StoreSt → StoreSt) : Act := .dyn fun c => .prim (.store k (f (c.store k)))

/-- Hardware producer ports, by producer code (Table 14-2). -/
def Chip.port (c : Chip) (k : Nat) : PortSt := SMap.get (fun _ => {}) c.ports k

/-- Changes what `Chip.port` reads at `k`. -/
def modPort (k : Nat) (f : PortSt → PortSt) : Act := .dyn fun c => .prim (.port k (f (c.port k)))

/-- CAN controllers. -/
def Chip.can (c : Chip) (k : Nat) : CanSt := SMap.get (fun _ => {}) c.cans k

/-- Changes what `Chip.can` reads at `k`. -/
def modCan (k : Nat) (f : CanSt → CanSt) : Act := .dyn fun c => .prim (.can k (f (c.can k)))

/-- Message objects: 128 × controller + object. -/
def Chip.obj (c : Chip) (k : Nat) : ObjSt := SMap.get (fun _ => {}) c.objs k

/-- Changes what `Chip.obj` reads at `k`. -/
def modObj (k : Nat) (f : ObjSt → ObjSt) : Act := .dyn fun c => .prim (.obj k (f (c.obj k)))

/-- Ethernet ports. -/
def Chip.eth (c : Chip) (k : Nat) : EthSt := SMap.get (fun _ => {}) c.eths k

/-- Changes what `Chip.eth` reads at `k`. -/
def modEth (k : Nat) (f : EthSt → EthSt) : Act := .dyn fun c => .prim (.eth k (f (c.eth k)))

/-- Safe input pairs. -/
def Chip.sin (c : Chip) (k : Nat) : SinSt := SMap.get (fun _ => {}) c.sins k

/-- Changes what `Chip.sin` reads at `k`. -/
def modSin (k : Nat) (f : SinSt → SinSt) : Act := .dyn fun c => .prim (.sin k (f (c.sin k)))

/-- The Quays, by index. -/
def Chip.quay (c : Chip) (k : Nat) : QuaySt := SMap.get (fun _ => {}) c.quays k

/-- Changes what `Chip.quay` reads at `k`. -/
def modQuay (k : Nat) (f : QuaySt → QuaySt) : Act := .dyn fun c => .prim (.quay k (f (c.quay k)))

/-- Changes `Chip.tideSt`. -/
def modTideS (f : TideSt → TideSt) : Act := .dyn fun c => .prim (.tideS (f c.tideSt))

/-- Changes `Chip.cplSt`. -/
def modCplS (f : CplSt → CplSt) : Act := .dyn fun c => .prim (.cplS (f c.cplSt))

/-- Changes `Chip.deliveries`. -/
def modDeliveries (f : List Sample → List Sample) : Act := .dyn fun c => .prim (.deliveries (f c.deliveries))

/-- Changes `Chip.outbox`. -/
def modOutbox (f : List Entry → List Entry) : Act := .dyn fun c => .prim (.outbox (f c.outbox))

/-- Changes `Chip.vcmds`. -/
def modVcmds (f : List (Quay × Nat × Word × Nat) → List (Quay × Nat × Word × Nat)) : Act := .dyn fun c => .prim (.vcmds (f c.vcmds))

/-- Changes `Chip.capWins`. -/
def modCapWins (f : List (Nat × Nat × Nat) → List (Nat × Nat × Nat)) : Act := .dyn fun c => .prim (.capWins (f c.capWins))

/-- Changes `Chip.cnvSt`. -/
def modCnvS (f : CnvSt → CnvSt) : Act := .dyn fun c => .prim (.cnvS (f c.cnvSt))

/-- Changes `Chip.bootSt`. -/
def modBootS (f : BootSt → BootSt) : Act := .dyn fun c => .prim (.bootS (f c.bootSt))

/-- Changes `Chip.fuse`. -/
def modFuseS (f : FuseSt → FuseSt) : Act := .dyn fun c => .prim (.fuseS (f c.fuse))

/-- Changes `Chip.dbgSt`. -/
def modDbgS (f : DbgSt → DbgSt) : Act := .dyn fun c => .prim (.dbgS (f c.dbgSt))

/-- Changes `Chip.safSt`. -/
def modSafS (f : SafSt → SafSt) : Act := .dyn fun c => .prim (.safS (f c.safSt))

/-- Changes `Chip.brakeSt`. -/
def modBrakeS (f : BrakeSt → BrakeSt) : Act := .dyn fun c => .prim (.brakeS (f c.brakeSt))

/-- Changes `Chip.sealSt`. -/
def modSealS (f : SealSt → SealSt) : Act := .dyn fun c => .prim (.sealS (f c.sealSt))

/-- Changes `Chip.seqSt`. -/
def modSeqS (f : SeqSt → SeqSt) : Act := .dyn fun c => .prim (.seqS (f c.seqSt))

/-- Changes `Chip.redSt`. -/
def modRedS (f : RedSt → RedSt) : Act := .dyn fun c => .prim (.redS (f c.redSt))

end Sys2Proof.Machine
end

