-- ==== Sys2Proof/Machine/Ops.lean ====
section
/-! DEFINITION. The named operations every command is built from: register fields, events, errors, event records, frame generators, and the interconnect access with its checks. -/

namespace Sys2Proof.Machine

open Sys2Proof

/-! ### Register words and fields -/

/-- The stored word at an address. -/
def Chip.word (c : Chip) (a : Nat) : Word := SMap.get (resetWord c.strap.toNat) c.regs a

/-- Element `k` of a field as stored: the staged value of an ST field (Table 2-3). -/
def Chip.fld (c : Chip) (p : Page) (f : Field) (k : Nat := 0) : Nat := (c.word (p.base + f.word k)).bits (f.bit k) f.width

/-- Element `k` of a field as the block acts on it: the active value of an ST field (R46). -/
def Chip.act (c : Chip) (p : Page) (f : Field) (k : Nat := 0) : Nat :=
  (c.word (p.base + f.word k + if f.acc = .st then 0x800 else 0)).bits (f.bit k) f.width

/-- A one-bit field as stored reads 1. -/
def Chip.flag (c : Chip) (p : Page) (f : Field) (k : Nat := 0) : Bool := c.fld p f k == 1

/-- A one-bit field reads 1 in the active set. -/
def Chip.actFlag (c : Chip) (p : Page) (f : Field) (k : Nat := 0) : Bool := c.act p f k == 1

/-- A 64-bit value held in two words, low word first. -/
def Chip.wide (c : Chip) (p : Page) (lo hi : Field) (k : Nat := 0) : Nat := c.fld p lo k + 2 ^ 32 * c.fld p hi k

/-- The active value of a 64-bit value held in two ST words. -/
def Chip.actWide (c : Chip) (p : Page) (lo hi : Field) (k : Nat := 0) : Nat := c.act p lo k + 2 ^ 32 * c.act p hi k

/-- The Tide as a number. -/
def Chip.t (c : Chip) : Nat := c.tide.toNat

/-- Writes a stored word. -/
def setWord (a : Nat) (v : Word) : Act := .prim (.reg a v)

/-- Writes element `k` of a field: the staged value of an ST field. -/
def put (p : Page) (f : Field) (v : Nat) (k : Nat := 0) : Act :=
  .dyn fun c => setWord (p.base + f.word k) ((c.word (p.base + f.word k)).setBits (f.bit k) f.width v)

/-- Writes element `k` of the active copy of an ST field. -/
def putActive (p : Page) (f : Field) (v : Nat) (k : Nat := 0) : Act :=
  .dyn fun c => setWord (p.base + 0x800 + f.word k) ((c.word (p.base + 0x800 + f.word k)).setBits (f.bit k) f.width v)

/-- Writes a one-bit field. -/
def putFlag (p : Page) (f : Field) (b : Bool) (k : Nat := 0) : Act := put p f (if b then 1 else 0) k

/-- Writes a 64-bit value into two words, low word first. -/
def putWide (p : Page) (lo hi : Field) (v : Nat) (k : Nat := 0) : Act :=
  .seq (put p lo (v % 2 ^ 32) k) (put p hi (v / 2 ^ 32) k)

/-- Adds to a counter that saturates at its maximum. -/
def bump (p : Page) (f : Field) (n : Nat := 1) (k : Nat := 0) : Act :=
  .dyn fun c => put p f (Nat.min (c.fld p f k + n) (2 ^ f.width - 1)) k

/-- Adds 1 to a counter that wraps. -/
def bumpWrap (p : Page) (f : Field) (k : Nat := 0) : Act := .dyn fun c => put p f (c.fld p f k + 1) k

/-- Raises a field that holds a maximum, saturating. -/
def putMax (p : Page) (f : Field) (v : Nat) (k : Nat := 0) : Act :=
  .dyn fun c => put p f (Nat.max (c.fld p f k) (Nat.min v (2 ^ f.width - 1))) k

/-- Lowers a field that holds a minimum, saturating. -/
def putMin (p : Page) (f : Field) (v : Nat) (k : Nat := 0) : Act :=
  .dyn fun c => put p f (Nat.min (c.fld p f k) v) k

/-- Time passes until tick `t` of the Tide. -/
def atTick (t : Nat) : Act := .prim (.until_ t)

/-! ### Events and errors -/

/-- Block event `b` occurs (R49). -/
def evt (p : Page) (b : Nat) : Act :=
  .dyn fun c => put p Reg.HDR.EVT_RAW (c.fld p Reg.HDR.EVT_RAW ||| 2 ^ b)

/-- LEVEL events of a page set their bits (R49). -/
def raiseLevels (p : Page) (levels : Chip → Nat) : Act :=
  .dyn fun c => put p Reg.HDR.EVT_RAW (c.fld p Reg.HDR.EVT_RAW ||| levels c)

/-- Bit ERR of the event registers (R50). -/
def evERR : Nat := 31
/-- Bit COMMIT_DONE of the event registers (R50). -/
def evDONE : Nat := 30
/-- Bit COMMIT_REJ of the event registers (R50). -/
def evREJ : Nat := 29

/-! ### Pages -/

/-- PAGE_CTRL.EN reads 1 (R52). -/
def Chip.en (c : Chip) (p : Page) : Bool := c.flag p Reg.HDR.PAGE_CTRL_EN

def pgPWR : Page := ⟨.pwr, 0⟩

/-- The domain is switched on. -/
def Chip.domainOn (c : Chip) (d : Nat) : Bool := c.seqSt.on.testBit d

/-- The domain is on and in range (R456). -/
def Chip.domainIsGood (c : Chip) (d : Nat) : Bool := c.seqSt.good.testBit d

/-- Sets or clears bit `i` of a number. -/
def withBit (v i : Nat) (b : Bool) : Nat := if b then v ||| 2 ^ i else if v.testBit i then v - 2 ^ i else v

/-- Sets or clears bit `d` of a PWR vector. -/
def putDom (f : Field) (d : Nat) (b : Bool) : Act := .dyn fun c => put pgPWR f (withBit (c.fld pgPWR f) d b)

/-- Domain `d` is switched on or off; DOM_STAT shows it (Table 17-9). -/
def domainOnTo (d : Nat) (b : Bool) : Act := .seq (modSeqS fun s => { s with on := withBit s.on d b }) (putDom Reg.PWR.DOM_STAT d b)

/-- Domain `d` becomes good, or is no more; DOM_GOOD shows it (Table 17-9). -/
def domainGoodTo (d : Nat) (b : Bool) : Act := .seq (modSeqS fun s => { s with good := withBit s.good d b }) (putDom Reg.PWR.DOM_GOOD d b)

/-- The page runs: PAGE_STAT.ENABLED reads 1, EN = 1 having taken effect, and its domain is powered (R52, R457). -/
def Chip.on (c : Chip) (p : Page) : Bool := c.flag p Reg.HDR.PAGE_STAT_ENABLED && c.domainOn p.domain

/-- What the page holds beyond its registers. -/
def Chip.pst (c : Chip) (p : Page) : PageSt := c.page p.base

/-- Changes what the page holds beyond its registers. -/
def modPst (p : Page) (f : PageSt → PageSt) : Act := modPage p.base f

/-- What ERR_CODE.LAST shows once an error with `code` has occurred: of the errors of one cycle the lowest code, else the latest (R66). Errors of one tick are of one cycle (log entry 93). -/
def Chip.lastErr (c : Chip) (p : Page) (code : Nat) : Nat :=
  if (c.pst p).errAt = some c.now ∧ c.fld p Reg.HDR.ERR_CODE_LAST ≠ 0 then Nat.min (c.fld p Reg.HDR.ERR_CODE_LAST) code else code

/-- An error is recorded with its code and the requester that caused it, 0xFF for the page itself (R66, Table 2-1); SRC goes with LAST. -/
def err (p : Page) (code : Nat) (src : Nat := 0xFF) : Act :=
  .dyn fun c => seqs [put p Reg.HDR.ERR_CODE_LAST (c.lastErr p code),
    when (c.fld p Reg.HDR.ERR_CODE_FIRST == 0) (put p Reg.HDR.ERR_CODE_FIRST code),
    when (c.lastErr p code == code) (put p Reg.HDR.ERR_CODE_SRC src), bump p Reg.HDR.ERR_CNT, evt p evERR,
    modPst p fun s => { s with errAt := some c.now }]

/-! ### Single pages -/

def pgTIDE : Page := ⟨.tide, 0⟩
def pgFG (g : Nat) : Page := ⟨.fg, g⟩
def pgACT : Page := ⟨.act, 0⟩
def pgEVS : Page := ⟨.evs, 0⟩
def pgLEG (n : Nat) : Page := ⟨.leg, n⟩
/-- The lead page of leg block `k` (R19). -/
def pgLead (k : Nat) : Page := ⟨.leg, 4 * k⟩
def pgLLP (k : Nat) : Page := ⟨.llp, k⟩
def pgSHT : Page := ⟨.sht, 0⟩
def pgCNV : Page := ⟨.cnv, 0⟩
def pgVCL : Page := ⟨.vcl, 0⟩
def pgSAF : Page := ⟨.saf, 0⟩
def pgFLT (r : Nat) : Page := ⟨.fltr, r⟩
def pgFLT8 : Page := ⟨.flt8, 0⟩
def pgQCTL (q : Quay) : Page := ⟨.qctl, q.idx⟩
def pgENG (q : Quay) : Page := ⟨.eng, q.idx⟩
def pgLANE (q : Quay) (l : Nat) : Page := ⟨.lane, 8 * q.idx + l⟩
def pgINJ (q : Quay) : Page := ⟨.inj, q.idx⟩
def pgDBG : Page := ⟨.dbg, 0⟩
def pgBSN : Page := ⟨.bsn, 0⟩
def pgCAP : Page := ⟨.cap, 0⟩

/-! ### Round robin -/

/-- The least of some numbers. -/
def leastOf (l : List Nat) : Option Nat :=
  l.foldl (fun m p => match m with
    | some n => some (Nat.min n p)
    | none => some p) none

/-- Round robin: the least candidate above the one granted last, else the least of all (R17, R29). -/
def roundRobin (last : Option Nat) (l : List Nat) : Option Nat :=
  match leastOf (l.filter fun p => match last with | some n => decide (n < p) | none => true) with
  | some p => some p
  | none => leastOf l

/-! ### Frame generators -/

/-- The frame generator that the page follows (Table 3-2). -/
def Chip.fgOf (c : Chip) (p : Page) : Nat :=
  match p.blk with
  | .fg => p.idx
  | .leg => c.act pgTIDE Reg.TIDE.FRAME_MAP (p.idx / 4)
  | .llp => c.act pgTIDE Reg.TIDE.FRAME_MAP p.idx
  | .cnv | .vcl => c.act pgTIDE Reg.TIDE.FRAME_MAP3_CNV_VCL
  | .brg | .ssc => c.act pgTIDE Reg.TIDE.FRAME_MAP3_AC
  | .adc | .dsf | .tsn | .pos | .emu | .cpl => c.act pgTIDE Reg.TIDE.FRAME_MAP3_SN
  | .fltr => if p.idx = 3 then c.act pgTIDE Reg.TIDE.FRAME_MAP3_SN else if p.idx = 4 then c.act pgTIDE Reg.TIDE.FRAME_MAP3_AC else 0
  | _ => 0

/-- The generator runs. -/
def Chip.fgOn (c : Chip) (g : Nat) : Bool := c.on (pgFG g)

/-- Its next boundary. -/
def Chip.fgNext (c : Chip) (g : Nat) : Nat := c.wide (pgFG g) Reg.FG.NEXT_LO Reg.FG.NEXT_HI

/-- Its active period. -/
def Chip.fgPeriod (c : Chip) (g : Nat) : Nat := c.act (pgFG g) Reg.FG.PERIOD

/-- Number of its current frame. -/
def Chip.fgCount (c : Chip) (g : Nat) : Nat := c.fld (pgFG g) Reg.FG.COUNT

/-- Its latest boundary. -/
def Chip.fgLast (c : Chip) (g : Nat) : Nat := c.fgNext g - c.fgPeriod g

/-- Boundaries of its generator that a change accepted now waits for: the next one when at least 250 ticks remain, else the one after (R52, R55). -/
def Chip.boundaryWait (c : Chip) (p : Page) : Nat := if c.t + 250 ≤ c.fgNext (c.fgOf p) then 1 else 2

/-- Every page. -/
def allPages : List Page := (Blk.all.filter fun b => b != .obj).flatMap fun b => (List.range b.count).map fun i => ⟨b, i⟩

/-! ### Event records -/

/-- Ticks for which the deglitch count of R300 runs: a VDS record is stamped that long before its detection. -/
def vdsCount : Nat := 625

/-- Stamp of a record (Table 3-6). -/
def Rec.stamp (r : Rec) : Nat := (r.words.getD 1 0).toNat + 2 ^ 32 * (r.words.getD 2 0).toNat

/-- A record in the place of another: SEQ, LOST and LOST_CNT belong to the place (R85). -/
def Rec.atPlace (r x : Rec) : Rec :=
  { r with words := (r.words.set 0 ((r.words.getD 0 0).setBits 31 1 ((x.words.getD 0 0).bits 31 1))).set 3 (x.words.getD 3 0) }

/-- A record joins the FIFO of its source behind those stamped not later; later ones move one place back, so that stamps do not decrease with SEQ (R87). -/
def joinFifo (fifo : List Rec) (r : Rec) : List Rec :=
  match fifo with
  | [] => [r]
  | x :: rest => if r.stamp < x.stamp then r.atPlace x :: joinFifo rest (x.atPlace r) else x :: joinFifo rest r

/-- An event record is due at its source: it joins the source's FIFO of eight, or is dropped whole (R34, R85, R87, R90).

The stamp is the tick of the event: the model's stamp error is 0, within Table 3-7 (log entry 15). EVS takes records whatever its own PAGE_CTRL.EN is (log entry 16). -/
def record (p : Page) (chan code stamp d0 d1 : Nat) (fine : Nat := 0) : Act :=
  .dyn fun c =>
    if c.actFlag pgEVS Reg.EVS.ROUTE_EN p.route then
      let id := p.srcId chan
      let st := c.stream id
      if st.fifo.length < 8 then
        let w0 := id + code % 256 * 2 ^ 20 + fine % 8 * 2 ^ 28 + (if st.lost = 0 then 0 else 2 ^ 31)
        let ws := [w0, stamp % 2 ^ 32, stamp / 2 ^ 32, st.seq % 2 ^ 16 + st.lost * 2 ^ 16, d0, d1]
        let r : Rec := ⟨ws.map (BitVec.ofNat 32), c.act pgEVS Reg.EVS.ROUTE_QUEUE p.route⟩
        .prim (.stream id { st with seq := (st.seq + 1) % 2 ^ 16, lost := 0, fifo := joinFifo st.fifo r })
      else
        seqs [.prim (.stream id { st with seq := (st.seq + 1) % 2 ^ 16, lost := Nat.min (st.lost + 1) 65535 }),
          bump pgEVS Reg.EVS.DROP_CNT, evt pgEVS 0]
    else .skip

/-- A sample starts whose records, stamped `t`, are still to come (R87, R89). -/
def recordPend (p : Page) (chan t : Nat) : Act := modStream (p.srcId chan) fun s => { s with pend := s.pend ++ [t] }

/-- A record of a source whose earlier samples may still write records: it waits behind them, so that stamps never decrease (R87). -/
def recordInOrder (p : Page) (chan code stamp d0 d1 : Nat) : Act :=
  .dyn fun c =>
    if (c.stream (p.srcId chan)).pend.any fun t => decide (t ≤ stamp) then
      modStream (p.srcId chan) fun s => { s with later := s.later ++ [(code, stamp, d0, d1)] }
    else record p chan code stamp d0 d1

/-- The records of the sample stamped `t` have been written: the records that waited behind it follow (R87). -/
def recordSettle (p : Page) (chan t : Nat) : Act :=
  .seq (modStream (p.srcId chan) fun s => { s with pend := s.pend.erase t })
    (.dyn fun c =>
      let st := c.stream (p.srcId chan)
      let free := fun (e : Nat × Nat × Nat × Nat) => st.pend.all fun x => decide (e.2.1 < x)
      .seq (modStream (p.srcId chan) fun s => { s with later := s.later.filter fun e => !free e })
        (each (st.later.filter free) fun e => record p chan e.1 e.2.1 e.2.2.1 e.2.2.2))

end Sys2Proof.Machine
end

