-- ==== Sys2Proof/Machine/Cells.lean ====
section
/-! DEFINITION. The Basin's cells, the packets made of them, and the software producer (Chapter 14, R391 to R396). -/

namespace Sys2Proof.Machine

open Sys2Proof

/-- The region is isolated (R23). -/
def Chip.isolated (c : Chip) (r : Nat) : Bool := c.flag (pgFLT r) Reg.FLTR.REG_STAT_ISOLATED

/-- The region is isolated or restarting, so that only FLT[r] answers (R494). -/
def Chip.regionDown (c : Chip) (r : Nat) : Bool :=
  c.isolated r || c.flag (pgFLT r) Reg.FLTR.REG_STAT_RESTARTING

/-! ### Cells -/

def pgQUE (n : Nat) : Page := ⟨.que, n⟩

/-- Store of a cell number: 0 pool, 1 capture store. -/
def cellStore (i : Nat) : Nat := if i < 65536 then 0 else 1

/-- Cell numbers of a store: first and count (R391). -/
def storeRange (st : Nat) : Nat × Nat := if st = 0 then (0, 65536) else (65536, 32768)

/-- Address of word `w` of a cell (R391). -/
def cellAddr (i w : Nat) : Nat := (if i < 65536 then 0x60000000 + 64 * i else 0x68000000 + 64 * (i - 65536)) + 4 * w

/-- Writes a 32-bit word into byte memory, least significant byte first. -/
def memWord (a : Nat) (v : Word) : Act :=
  seqs [.prim (.byte a (BitVec.ofNat 8 v.toNat)), .prim (.byte (a + 1) (BitVec.ofNat 8 (v.toNat / 2 ^ 8))),
    .prim (.byte (a + 2) (BitVec.ofNat 8 (v.toNat / 2 ^ 16))), .prim (.byte (a + 3) (BitVec.ofNat 8 (v.toNat / 2 ^ 24)))]

/-- A byte of memory. -/
def Chip.byteAt (c : Chip) (a : Nat) : Byte := SMap.get (fun _ => 0) c.mem a

/-- A 32-bit word of byte memory. -/
def Chip.memAt (c : Chip) (a : Nat) : Word :=
  BitVec.ofNat 32 ((c.byteAt a).toNat + 2 ^ 8 * (c.byteAt (a + 1)).toNat + 2 ^ 16 * (c.byteAt (a + 2)).toNat +
    2 ^ 24 * (c.byteAt (a + 3)).toNat)

/-- Cells that a queue holds. -/
def QueSt.cells (q : QueSt) : List Nat :=
  q.done.flatMap Pkt.cells ++ (match q.opened with | some p => p.cells | none => []) ++ q.dead

/-- Cells of a store that queues hold. -/
def Chip.usedCells (c : Chip) (st : Nat) : List Nat := (c.ques.flatMap fun e => e.2.cells).filter fun i => cellStore i == st

/-- Free cells of a store, in ascending order. -/
def Chip.freeCells (c : Chip) (st : Nat) : List Nat :=
  let r := storeRange st
  ((List.range r.2).map fun i => r.1 + i).filter fun i => !(c.usedCells st).contains i && !(c.store st).quarantine.contains i

/-- Number of free cells of a store (R394). -/
def Chip.freeCount (c : Chip) (st : Nat) : Nat :=
  (storeRange st).2 - ((c.usedCells st) ++ (c.store st).quarantine.filter fun i => !(c.usedCells st).contains i).length

/-- The cell that the free list hands over next; the manual gives the list no order (log entry 6). -/
def Chip.nextCell (c : Chip) (st : Nat) : Nat :=
  let l := c.freeCells st
  l.getD (Config.freeValue c.free % l.length) 0

/-- Store of a queue. -/
def Chip.storeOf (c : Chip) (n : Nat) : Nat := c.act (pgQUE n) Reg.QUE.QUE_CFG_STORE

/-- CELLS of a queue. -/
def Chip.cellsOf (c : Chip) (n : Nat) : Nat := (c.que n).cells.length

/-- The conditions of R394 hold for the queue. -/
def Chip.quota (c : Chip) (n : Nat) : Bool :=
  let st := c.storeOf n
  let limit := c.act (pgQUE n) Reg.QUE.QUE_LIM
  let others := ((List.range 64).filter fun m => m != n && c.storeOf m == st).map fun m => c.act (pgQUE m) Reg.QUE.QUE_RSV - c.cellsOf m
  (limit == 0 || decide (c.cellsOf n < limit)) &&
    (decide (c.cellsOf n < c.act (pgQUE n) Reg.QUE.QUE_RSV) || decide (others.sum < c.freeCount st)) && decide (0 < c.freeCount st)

/-- The power domain of a store is on and BS is reachable (R391, Table 1-4). -/
def Chip.storeOn (c : Chip) (st : Nat) : Bool := c.domainOn (if st = 0 then 4 else 12) && !c.regionDown 6

/-- The queue takes a cell when its write side needs one (R394, R402, R403). -/
def Chip.canTake (c : Chip) (n : Nat) : Bool :=
  c.quota n && !(c.que n).resetting && (c.store (c.storeOf n)).rebuild.isNone && c.storeOn (c.storeOf n)

/-- The queue may open a packet: its EN is 1 too (R395). -/
def Chip.canOpen (c : Chip) (n : Nat) : Bool := c.en (pgQUE n) && c.canTake n

/-! ### Registers that follow the queues -/

/-- LEVEL events of a queue and of BSN (R406, R407). -/
def Chip.queLevels (c : Chip) (n : Nat) : Nat := if c.flag (pgQUE n) Reg.QUE.QUE_STAT_FULL then 2 else 0

def Chip.bsnLevels (c : Chip) : Nat :=
  (if c.freeCount 0 < c.act pgBSN Reg.BSN.LOW_MARK then 1 else 0) + (if c.freeCount 1 < c.act pgBSN Reg.BSN.LOW_MARK_C then 2 else 0) +
    (if (c.store 0).rebuild.isSome || (c.store 1).rebuild.isSome then 4 else 0)

/-- The status registers of queue `n` show its state. -/
def queRefresh (n : Nat) : Act :=
  .dyn fun c =>
    let q := c.que n
    let p := pgQUE n
    seqs [put p Reg.QUE.QUE_STAT_CELLS q.cells.length, putFlag p Reg.QUE.QUE_STAT_OPEN q.opened.isSome,
      putFlag p Reg.QUE.QUE_STAT_READING (q.read != 0), putFlag p Reg.QUE.QUE_STAT_FULL (!c.quota n),
      putFlag p Reg.QUE.QUE_STAT_FLUSH_PEND q.flush, putFlag p Reg.QUE.QUE_STAT_RESETTING q.resetting,
      putFlag p Reg.HDR.PAGE_STAT_SAFE q.resetting, put p Reg.QUE.PKT_COUNT q.done.length,
      putMax p Reg.QUE.PEAK_CELLS q.cells.length, raiseLevels p fun c => c.queLevels n]

/-- BSN and every queue show the stores as they are. -/
def basinRefresh : Act :=
  .seq (.dyn fun c =>
      let rsv := fun st => (((List.range 64).filter fun m => c.storeOf m == st).map fun m => c.act (pgQUE m) Reg.QUE.QUE_RSV).sum
      seqs [put pgBSN Reg.BSN.POOL_STAT_FREE (c.freeCount 0), put pgBSN Reg.BSN.CAPT_STAT_FREE (c.freeCount 1),
        putFlag pgBSN Reg.BSN.POOL_STAT_REBUILD (c.store 0).rebuild.isSome, putFlag pgBSN Reg.BSN.CAPT_STAT_REBUILD (c.store 1).rebuild.isSome,
        put pgBSN Reg.BSN.POOL_RSV (rsv 0), put pgBSN Reg.BSN.CAPT_RSV (rsv 1),
        put pgBSN Reg.BSN.QUARANTINE ((c.store 0).quarantine.length + (c.store 1).quarantine.length)])
    (.seq (each (List.range 64) queRefresh)
      (.dyn fun c => put pgBSN Reg.HDR.EVT_RAW (c.fld pgBSN Reg.HDR.EVT_RAW ||| c.bsnLevels)))

/-! ### Packets -/

/-- Writes word `i` of a packet whose cells are known. -/
def pktWord (cells : List Nat) (i : Nat) (v : Word) : Act := memWord (cellAddr (cells.getD (i / 16) 0) (i % 16)) v

/-- Opens a packet of producer `prod` in a new cell (R392). -/
def pktOpen (n prod : Nat) (holder : Option Src) : Act :=
  .dyn fun c =>
    .seq (.prim .freeNext) (modQue n fun q => { q with opened := some ⟨[c.nextCell (c.storeOf n)], 0, false, holder, prod, false⟩, withheld := false })

/-- The next payload word needs a new cell. -/
def OpenPkt.needsCell (p : OpenPkt) : Bool := p.len + 1 == 16 * p.cells.length

/-- Appends a payload word; a word beyond the 65,535th is discarded and sets TRUNC (R392). The queue can take a cell where one is needed. -/
def pktAppend (n : Nat) (v : Word) : Act :=
  .dyn fun c =>
    match (c.que n).opened with
    | none => .skip
    | some p =>
      if p.discard || decide (65535 ≤ p.len) then
        .seq (modQue n fun q => { q with opened := some { p with trunc := true } }) (evt (pgQUE n) 4)
      else
        let cells := if p.needsCell then p.cells ++ [c.nextCell (c.storeOf n)] else p.cells
        seqs [when p.needsCell (.prim .freeNext), pktWord cells (p.len + 1) v,
          modQue n fun q => { q with opened := some { p with cells := cells, len := p.len + 1 }, withheld := false }]

/-- The flush point: every complete packet is discarded (R401). A head skipped in this cycle counts as flushed, and a packet closed in it raises no NOTICE (Table 14-3). -/
def flushPoint (n : Nat) : Act :=
  .dyn fun c =>
    let p := pgQUE n
    let q := c.que n
    let skipped := q.skipAt == some c.t
    seqs [bump p Reg.QUE.DROP_CNT (q.done.length + if skipped then 1 else 0),
      when skipped (put p Reg.QUE.PKT_OUT_CNT ((c.fld p Reg.QUE.PKT_OUT_CNT + 2 ^ 32 - 1) % 2 ^ 32)),
      when (q.closeAt == some c.t) (put p Reg.HDR.EVT_RAW ((c.fld p Reg.HDR.EVT_RAW) / 2 * 2)),
      modQue n fun q => { q with done := [], read := 0, flush := false, skipAt := none, closeAt := none,
                                 flushed := (q.done.head?.filter fun h => q.read + 1 == h.len).map fun h => (c.t, h),
                                 flushAt := some (c.t, !(c.fld p Reg.HDR.EVT_RAW).testBit 3) },
      evt p 3]

/-- The packet open on the write side closes: its length word is written, and it completes or is the flush point (R392, R393, R401). -/
def pktClose (n : Nat) : Act :=
  .dyn fun c =>
    match (c.que n).opened with
    | none => .skip
    | some p =>
      let w := p.len + 2 ^ 16 * p.prod + (if p.trunc then 2 ^ 24 else 0)
      seqs [pktWord p.cells 0 (BitVec.ofNat 32 w), bumpWrap (pgQUE n) Reg.QUE.PKT_IN_CNT, when p.trunc (bump (pgQUE n) Reg.QUE.TRUNC_CNT),
        modQue n fun q => { q with done := q.done ++ [⟨p.cells, p.len⟩], opened := none },
        if (c.que n).flush then flushPoint n
        else .seq (whenC (fun c => c.fld (pgQUE n) Reg.HDR.EVT_RAW % 2 == 0) (modQue n fun q => { q with closeAt := some c.t })) (evt (pgQUE n) 0)]

/-- The head packet retires and its cells return to the free list. -/
def pktRetire (n : Nat) : Act :=
  .seq (modQue n fun q => { q with done := q.done.drop 1, read := 0 }) (bumpWrap (pgQUE n) Reg.QUE.PKT_OUT_CNT)

/-! ### Requests for cells -/

/-- The handshake is withheld: counted once per wait (R397, FULL_CNT). -/
def withhold (n : Nat) : Act :=
  .dyn fun c => when (!(c.que n).withheld) (.seq (modQue n fun q => { q with withheld := true }) (bump (pgQUE n) Reg.QUE.FULL_CNT))

/-- An OPEN is refused (R396). -/
def openRefused (n : Nat) (src : Src) : Act := .seq (bump (pgQUE n) Reg.QUE.FULL_CNT) (err (pgQUE n) 0x40 src.code)

/-- Words that an operation on queue `n` may change: those of its page, and TAP_REC_CNT. -/
def queWords (n : Nat) : List Nat := (pgCAP.base + 0x0C4) :: (List.range 36).map fun i => (pgQUE n).base + 4 * i

/-- The operation `k` of queue `n`, with what takes it back (Table 14-3). -/
def undoable (n : Nat) (k : Act) (keep : QueUndo → Act) : Act :=
  .dyn fun c => .seq k (.dyn fun c' => keep ⟨c.t, n, c.que n, (queWords n).map fun a => (a, c.word a), c'.que n⟩)

/-- The queue is as it was before the operation. -/
def undoQue (u : QueUndo) : Act := .seq (each u.words fun e => setWord e.1 e.2) (.prim (.que u.queue u.before))

/-- The operation belongs to this tick, and nothing has changed its queue since. -/
def Chip.undoes (c : Chip) (u : QueUndo) : Bool := u.at_ == c.t && decide (c.que u.queue = u.after)

/-- The operation that took the last free cell finds its queue full instead. -/
def giveBack (u : QueUndo) (k : Taker) : Act :=
  .seq (undoQue u) (match k with
    | .opens src => openRefused u.queue src
    | .data v t => modQue u.queue fun q => { q with held := some (v, t) }
    | .port code st => .seq (.prim (.port code st)) (withhold u.queue)
    | .stream id st => .seq (.prim (.stream id st)) (withhold u.queue)
    | .tap i st => .seq (.prim (.tap i st)) (withhold u.queue))

/-- Of two queues that request the last free cell in one cycle the lower index takes it, whichever command came first (Table 14-3). -/
def reclaim (n : Nat) : Act :=
  .dyn fun c =>
    let st := c.storeOf n
    match (c.store st).take with
    | some (u, k) =>
      when (!c.canTake n && c.undoes u && decide (n < u.queue) && ((giveBack u k).run c).canTake n)
        (.seq (giveBack u k) (modStore st fun s => { s with take := none }))
    | none => .skip

/-- Queue `n` requests a cell, which it takes or does not get (R394, R402, R403). -/
def takeCell (n : Nat) (by_ : Taker) (yes no : Act) : Act :=
  .seq (reclaim n) (.dyn fun c =>
    let st := c.storeOf n
    if !c.canTake n then no
    else if c.freeCount st = 1 then undoable n yes fun u => modStore st fun s => { s with take := some (u, by_) }
    else yes)

/-! ### PUSH -/

/-- A PUSH write is served if the requester may produce (R396). -/
def pushBy (n : Nat) (src : Src) (k : Act) : Act :=
  .dyn fun c =>
    let other := match (c.que n).opened with | some p => p.holder != some src | none => false
    if c.act (pgQUE n) Reg.QUE.QUE_CFG_PROD != 0 || other then err (pgQUE n) 0x47 src.code else k

/-- PUSH_CTRL.OPEN, PUSH_DATA and PUSH_CTRL.CLOSE (R396). -/
def pushOp (n : Nat) (src : Src) (op : PushOp) : Act :=
  pushBy n src (.dyn fun c =>
    match op, (c.que n).opened with
    | .open_, some _ | .data _, none | .close, none => err (pgQUE n) 0x44 src.code
    | .open_, none => if c.en (pgQUE n) then takeCell n (.opens src) (pktOpen n 0 (some src)) (openRefused n src) else openRefused n src
    | .data v, some p =>
      if p.needsCell && !p.discard && decide (p.len < 65535) then
        takeCell n (.data v c.t) (pktAppend n v) (modQue n fun q => { q with held := some (v, c.t) })
      else pktAppend n v
    | .close, some _ => pktClose n)

/-- The PUSH writes that wait are served in the order of their arrival, until one of them is held (R396). -/
def serveWaits (n : Nat) : Nat → Act
  | 0 => .skip
  | k + 1 => .dyn fun c => match (c.que n).held, (c.que n).waits with
    | none, e :: rest => seqs [modQue n fun q => { q with waits := rest }, pushOp n e.1 e.2, serveWaits n k]
    | _, _ => .skip

/-- All of them. -/
def serveAllWaits (n : Nat) : Act := .dyn fun c => serveWaits n (c.que n).waits.length

/-- A held PUSH_DATA write whose cell a pop frees in the cycle in which the write was given up completes after all (Table 14-3). -/
def unGiveUp (st : Nat) : Act :=
  .dyn fun c => each (c.store st).gave fun u => .dyn fun c =>
    when (c.undoes u && ((undoQue u).run c).canTake u.queue) (undoQue u)

/-- Held PUSH_DATA writes that can take their cell complete, the lowest queue first, and the writes behind them follow. -/
def settleHeld : Nat → Act
  | 0 => .skip
  | k + 1 => .dyn fun c =>
    match (List.range 64).find? fun n => (c.que n).held.isSome && c.canTake n with
    | none => .skip
    | some n => match (c.que n).held with
      | none => .skip
      | some (v, t) =>
        seqs [takeCell n (.data v t) (.seq (modQue n fun q => { q with held := none }) (pktAppend n v)) .skip, serveAllWaits n, settleHeld k]

/-- Held PUSH_DATA writes that can now take their cell complete (R396, Table 14-3); then the status registers follow. -/
def basinSettle : Act :=
  seqs [unGiveUp 0, unGiveUp 1,
    .dyn fun c => settleHeld ((c.ques.map fun e => e.2.waits.length + (if e.2.held.isSome then 1 else 0)).sum), basinRefresh]

/-- A PUSH_DATA write that has been held for 1,024 SYS cycles (2,560 ticks) gives up: the word and the rest of the packet are discarded; the writes behind it follow (R396). -/
def pushGiveUp (n : Nat) : Act :=
  .dyn fun c => match (c.que n).held with
    | none => .skip
    | some (_, t) =>
      seqs [atTick (t + 2560),
        .dyn fun c => undoable n
          (seqs [modQue n fun q => { q with held := none, opened := q.opened.map fun o => { o with trunc := true, discard := true } }, evt (pgQUE n) 4, serveAllWaits n])
          fun u => modStore (c.storeOf n) fun s => { s with gave := (s.gave.filter fun x => x.at_ == c.t) ++ [u] },
        basinSettle]

/-- The requester holds the packet of the queue and one of its PUSH_DATA writes is held (R396). -/
def Chip.heldBy (c : Chip) (n : Nat) (src : Src) : Bool :=
  (c.que n).held.isSome && (match (c.que n).opened with | some o => o.holder == some src | none => false)

/-- Time passes until no PUSH_DATA write of the requester is held at the queue. -/
def waitHeld (n : Nat) (src : Src) : Nat → Act
  | 0 => .skip
  | k + 1 => .dyn fun c => when (c.heldBy n src) (.seq (pushGiveUp n) (waitHeld n src k))

end Sys2Proof.Machine
end

