-- ==== Sys2Proof/Machine/Access.lean ====
section
/-! DEFINITION. The interconnect: what an address names, how an access is answered, and how a page serves it (Chapter 1, R21 to R38; R53, R63 to R65). -/

namespace Sys2Proof.Machine

open Sys2Proof

/-- The response codes of Table 1-3. -/
inductive Resp
  | ok | isolated | unmapped | width | notOwner | uncorr | timeout
  deriving DecidableEq, Repr

/-- Code of the response (Table 1-3). -/
def Resp.code : Resp → Nat
  | .ok => 0
  | .isolated => 1
  | .unmapped => 2
  | .width => 3
  | .notOwner => 4
  | .uncorr => 5
  | .timeout => 6

/-- What an address names (Table 1-10). -/
inductive Target
  | page (p : Page)
  | window
  | sram (q : Quay)
  | pool
  | capture
  | none
  deriving DecidableEq, Repr

/-- The Quay a requester belongs to; the debug port counts as the core it is attached to (Table 1-9). -/
def Chip.quayOf (c : Chip) : Src → Option Quay
  | .core q _ => some q
  | .engine q => some q
  | .debug => some (if c.fld pgDBG Reg.DBG.DBG_ATTACH < 4 then .A else .B)
  | _ => Option.none

/-- What the requester's address names; Quay-local SRAM is in each Quay's own view. -/
def Chip.target (c : Chip) (src : Src) (a : Nat) : Target :=
  match pageOf a with
  | some p => .page p
  | Option.none =>
    if inWindow a then .window
    else if a < 0x00800000 then (match c.quayOf src with | some q => .sram q | Option.none => .none)
    else if 0x60000000 ≤ a ∧ a < 0x60400000 then .pool
    else if 0x68000000 ≤ a ∧ a < 0x68200000 then .capture
    else .none

/-- Region index of the address, if any region holds it. -/
def Chip.regionOf (c : Chip) (src : Src) (a : Nat) : Option Nat :=
  if 0x40000000 ≤ a ∧ a < 0x48000000 then some (a / 0x01000000 % 16)
  else match c.target src a with
    | .sram q => some q.idx
    | .pool | .capture => some 6
    | _ => Option.none

/-- Region that holds the requester (Tables 0-2 and 1-10): a Quay's own for its cores and its engine, SF for the safety pair, CM for the Ethernet DMA, the xSPI boot controller and the debug port; the writers of Table 1-7, class 0, sit with their sources (log entry 14). -/
def homeOf : Src → Option Nat
  | .core q _ | .engine q => some q.idx
  | .safety => some 7
  | .debug | .ethDma _ | .xspBoot => some 5
  | .taps => Option.none

/-- Region `r` answers the requester with ISOLATED: it restarts, or it is isolated and the requester lies outside it (R494). -/
def Chip.shutTo (c : Chip) (src : Src) (r : Nat) : Bool :=
  c.flag (pgFLT r) Reg.FLTR.REG_STAT_RESTARTING || (c.isolated r && homeOf src != some r)

/-- A requester inside an isolated region is stopped at its own boundary, and no target sees the access (R494). -/
def Chip.stoppedAtHome (c : Chip) (src : Src) (a : Nat) : Bool :=
  match homeOf src with
  | some h => c.isolated h && c.regionOf src a != some h
  | Option.none => false

/-- The access ends with ISOLATED: its requester is stopped at home, or the region, the page or the memory it names does not answer it (Table 1-3, code 1; R494). -/
def Chip.targetIsolated (c : Chip) (src : Src) (a : Nat) : Bool :=
  c.stoppedAtHome src a ||
  (match c.target src a with
    | .page p => p.blk != .fltr && (c.shutTo src p.region || !c.domainOn p.domain)
    | .window => (match c.regionOf src a with | some r => c.shutTo src r || !c.domainOn (if r < 2 then 2 + r else 5) | Option.none => false)
    | .pool => c.shutTo src 6 || !c.domainOn 4
    | .capture => c.shutTo src 6 || !c.domainOn 12
    | .sram q => c.shutTo src q.idx || !c.domainOn (2 + q.idx)
    | .none => (match c.regionOf src a with | some r => r < 8 && c.shutTo src r | Option.none => false))

/-- The requester may read the address (R37). -/
def Chip.mayRead (c : Chip) (src : Src) (a : Nat) : Bool :=
  match c.regionOf src a with
  | Option.none => true
  | some r =>
    if r < 2 then
      (match c.quayOf src with | some q => q.idx == r | Option.none => false) ||
        ((match src with | .ethDma _ | .xspBoot | .taps => false | _ => true) &&
          (match c.target src a with
            | .page p => p.blk == .fltr || p.blk == .qctl || p.blk == .irq
            | .window => a % 0x01000000 / 0x10000 == 2
            | _ => false))
    else true

/-- The requester may write into region `r` (Table 1-9, R36). -/
def Chip.mayWrite (c : Chip) (src : Src) (r : Nat) : Bool :=
  let asQuay (q : Quay) : Bool :=
    if r < 2 then q.idx == r
    else if r = 2 ∨ r = 3 ∨ r = 4 ∨ r = 7 then c.owner == some q
    else true
  match src with
  | .core q _ | .engine q => asQuay q
  | .safety => r == 7 || r == 5 || r == 6
  | .debug =>
    match c.quayOf src with
    | some q => r != 7 && asQuay q && (r < 2 || c.strap.getLsbD 11)
    | Option.none => false
  | _ => false

/-- The response to an access (R21): the lowest code that applies. An access that is not aligned to its width counts as WIDTH (log entry 9). -/
def Chip.respond (c : Chip) (src : Src) (a width : Nat) (write : Bool) : Resp :=
  if c.targetIsolated src a then .isolated
  else match c.target src a with
    | .none => .unmapped
    | t =>
      if !write && !c.mayRead src a then .unmapped
      else if (match t with | .page _ | .window => width != 32 | _ => false) || a % (width / 8) != 0 then .width
      else if write && !(match c.regionOf src a with | some r => c.mayWrite src r | Option.none => false) then .notOwner
      else .ok

/-- The target region records a rejected access in its FLT page (R21, Table 1-5). -/
def busError (src : Src) (a : Nat) (r : Resp) : Act :=
  .dyn fun c =>
    .seq (.prim (.answer r.code 0))
      (match c.regionOf src a with
        | some n =>
          when (!c.stoppedAtHome src a && n < 8)
            (seqs [put (pgFLT n) Reg.FLTR.BUS_ERR_CODE r.code, put (pgFLT n) Reg.FLTR.BUS_ERR_SRC src.code,
              bump (pgFLT n) Reg.FLTR.BUS_ERR_COUNT, put (pgFLT n) Reg.FLTR.BUS_ERR_ADDR a])
        | Option.none => .skip)

/-- The interconnect port of a core: that of a pair in its pair safe state is closed (R326), and the outputs of a checker core go only to the comparator (R325). -/
def Chip.portOpen (c : Chip) : Src → Bool
  | .core q n => c.strap.getLsbD 3 || (n.val % 2 == 0 && (c.word ((⟨.lck, q.idx⟩ : Page).base + 0x040)).getLsbD (n.val / 2))
  | _ => true

/-- An access goes to its target if the interconnect lets it, and ends as a bus error otherwise. The debugger reaches the interconnect only while its port is open; its accesses and its refused accesses count (R448, R449, Table 16-6). -/
def access (src : Src) (a width : Nat) (write : Bool) (k : Act) : Act :=
  .dyn fun c =>
    when ((src != .debug || c.flag pgDBG Reg.DBG.DBG_STAT_PORT_OPEN) && c.portOpen src)
      (.seq (when (src == .debug) (bumpWrap pgDBG Reg.DBG.ACCESS_CNT))
        (match c.respond src a width write with
          | .ok => .seq (.prim (.answer 0 0)) k
          | r => .seq (when (src == .debug) (.seq (bump pgDBG Reg.DBG.REFUSED_CNT) (evt pgDBG 2))) (busError src a r)))

/-- The armed key sequence of a requester disarms (R63). -/
def disarm (p : Page) (src : Src) : Act :=
  .dyn fun c =>
    let rest := (c.pst p).armed.filter fun e => e.1 != src.code
    .seq (modPst p fun s => { s with armed := rest }) (putFlag p Reg.HDR.LOCK_ARMED (!rest.isEmpty))

/-- A soft reset of the page completes (R53). -/
def srstDone (p : Page) : Act :=
  seqs [putFlag p Reg.HDR.PAGE_STAT_BUSY false, putFlag p Reg.HDR.PAGE_CTRL_SRST false, modPst p fun s => { s with srstDue := none }]

/-- A soft reset has completed when its 64 SYS cycles have passed (R53). -/
def srstExpire (p : Page) : Act :=
  .dyn fun c => match (c.pst p).srstDue with
    | some d => when (decide (d ≤ c.now)) (srstDone p)
    | Option.none => .skip

/-- An access to a page in soft reset is held by it until the reset completes (R53), within 64 SYS cycles: the reset completes as the page serves the access, so that no access delays what the chip does meanwhile (log entry 5). -/
def afterSrst (p : Page) (k : Act) : Act := .seq (whenC (fun c => (c.pst p).srstDue.isSome) (srstDone p)) k

/-- Reads by a requester whose clear of EVT_PEND removed the last cause of a line complete only after the line has fallen at the interrupt controller (R45): it has fallen when the page serves the read. -/
def lineFallen (src : Src) (p : Page) : Act := modPst p fun s => { s with irqFall := s.irqFall.filter fun e => e != src.code }

/-- An access waits behind a soft reset of the page (R53) and behind a held PUSH_DATA write of the same requester (R396). A command stands where it takes effect, so that write has found no cell: time passes until it gives up (log entry 60). -/
def served (src : Src) (p : Page) (k : Act) : Act :=
  afterSrst p (.seq (.dyn fun c => when (p.blk == .que) (waitHeld p.idx src ((c.que p.idx).waits.length + 1))) k)

/-- A 32-bit access to a register of a page. An access to another offset than LOCK disarms the requester's key sequence (R63). -/
def onPage (src : Src) (p : Page) (off : Nat) (write : Bool) (k : Act) : Act :=
  access src (p.base + off) 32 write (served src p (.seq (when (off != 0x024) (disarm p src)) k))

/-- A 32-bit read of a register of a page with an effect of its own. -/
def onRead (src : Src) (p : Page) (off : Nat) (k : Act) : Act :=
  access src (p.base + off) 32 false (served src p (seqs [lineFallen src p, when (off != 0x024) (disarm p src), k]))

/-- The requester holds the open key window of the page, or needs none: the safety pair writes the SF pages without one (Chapter 13). A window ends 8,192 SYS cycles (20,480 ticks) after it opened (R64). -/
def Chip.windowHeld (c : Chip) (p : Page) (src : Src) : Bool :=
  (p.region == 7 && src == .safety) ||
    (match (c.pst p).holder with
      | some (h, t) => h == src.code && decide (c.now < t + 20480)
      | Option.none => false)

/-- A write that needs the key window: without it the field stays and LOCK_CLOSED is recorded (R65). -/
def locked (src : Src) (p : Page) (k : Act) : Act :=
  .dyn fun c => if c.windowHeld p src then k else err p 0x0B src.code

end Sys2Proof.Machine
end

