-- ==== Sys2Proof/Machine/Basin.lean ====
section
/-! DEFINITION. The Basin's producers, consumers, flushes and resets of its queues (Chapter 14, R396 to R408), and the event streams that feed it. -/

namespace Sys2Proof.Machine

open Sys2Proof

/-- SECDED corrects `k` words of a queue: payload, length words, its control record or link entries of its cells (R404). -/
def corrected (n k : Nat) : Act :=
  when (k != 0) (seqs [bump (pgQUE n) Reg.QUE.CORR_CNT k, bump pgBSN Reg.BSN.CORR_CNT k, bump (pgFLT 6) Reg.FLTR.CORR_CNT k])

/-- SECDED finds `k` words of the Basin beyond correction (R404). -/
def uncorrected (k : Nat) : Act := when (k != 0) (.seq (bump pgBSN Reg.BSN.UNCORR_CNT k) (bump (pgFLT 6) Reg.FLTR.UNCORR_CNT k))

/-- A PUSH write: it waits behind a held one of the same requester, or is served (R396). -/
def onPush (src : Src) (n off corr : Nat) (op : PushOp) : Act :=
  let p := pgQUE n
  access src (p.base + off) 32 true (afterSrst p (seqs [disarm p src, corrected n corr, .dyn fun c =>
    if c.heldBy n src then modQue n fun q => { q with waits := q.waits ++ [(src, op)] } else .seq (pushOp n src op) basinSettle]))

/-- PUSH_OPEN (R396). In this and every other command of a queue, `corr` counts the words of its control record and link entries that SECDED corrects (R404). -/
def execPushOpen (dt : Nat) (src : Src) (n : Fin 64) (corr : Nat) (s : State) : Host.Outcome State Fault Refusal :=
  s.act dt (onPush src n 0x058 corr .open_)

/-- PUSH_DATA (R396). -/
def execPushData (dt : Nat) (src : Src) (n : Fin 64) (v : Word) (corr : Nat) (s : State) : Host.Outcome State Fault Refusal :=
  s.act dt (onPush src n 0x05C corr (.data v))

/-- PUSH_HOLD_EXPIRE: a PUSH_DATA held for 1,024 SYS cycles (R396). -/
def execPushHoldExpire (dt : Nat) (n : Fin 64) (s : State) : Host.Outcome State Fault Refusal := s.act dt (pushGiveUp n)

/-- PUSH_CLOSE (R396). -/
def execPushClose (dt : Nat) (src : Src) (n : Fin 64) (corr : Nat) (s : State) : Host.Outcome State Fault Refusal :=
  s.act dt (onPush src n 0x058 corr .close)

/-! ### Hardware producers and records -/

/-- The queue whose active PROD is `code` (R395). -/
def Chip.queueOfProd (c : Chip) (code : Nat) : Option Nat := (List.range 64).find? fun n => c.act (pgQUE n) Reg.QUE.QUE_CFG_PROD == code

/-- The queue whose active CONS is `code`. -/
def Chip.queueOfCons (c : Chip) (code : Nat) : Option Nat := (List.range 64).find? fun n => c.act (pgQUE n) Reg.QUE.QUE_CFG_CONS == code

/-- Producer codes of the hardware ports: CAN[n] and ETH[n] receive (Table 14-2). -/
def portCode (i : Nat) : Nat := if i < 6 then 0x20 + i else 0x28 + (i - 6)

/-- The first frame of a port has entered its queue. -/
def portNext (code : Nat) : Act := modPort code fun p => { p with frames := p.frames.drop 1, pos := 0, discard := false }

/-- A whole record enters a RECORDS queue as one packet (R398). -/
def pushRecord (n : Nat) (ws : List Word) : Act := seqs [pktOpen n 1 none, each ws fun w => pktAppend n w, pktClose n]

/-- A record may leave its source: no record of the source with an earlier stamp can follow it. One of a bridge cell waits for a count under way (R87, R300). -/
def Chip.ripe (c : Chip) (r : Rec) : Bool :=
  if (r.words.getD 0 0).bits 0 8 = 0x0D then decide (r.stamp + vdsCount ≤ c.t) else decide (r.stamp ≤ c.t)

/-- The page of an event-stream source (Table 3-6). -/
def sourcePage (id : Nat) : Option Page := allPages.find? fun p => p.srcId 0 == id % 2 ^ 15

/-- Block of an event-stream source, numbered as in EVS.ROUTE: 32 × region + block index (R17, R90, Table 1-10). -/
def sourceBlock (id : Nat) : Nat := ((sourcePage id).map Page.route).getD 0

/-- How long after its event a source of a block may write its record: the watermark allowance of SIO, 1,050 µs, and the count of a bridge cell's VDS comparison (R89, R300, R369). -/
def stageDelay (b : Nat) : Nat := if b = (⟨.sio, 0⟩ : Page).route then 2625000 else if 128 ≤ b ∧ b < 132 then vdsCount else 0

/-- How far in the past a source of a block stamps a record (R300). -/
def backStamp (b : Nat) : Nat := if 128 ≤ b ∧ b < 132 then vdsCount else 0

/-- The watermark of a queue: the oldest stamp that waits for it or may still come from a source routed to it, or the Tide with a lag that the manual does not fix, at most 4,096 ticks and the longest later stage of those sources; it never moves back (R89, log entry 6). -/
def watermark (n : Nat) : Act :=
  .dyn fun c =>
    let old := c.wide pgEVS Reg.EVS.WM_LO Reg.EVS.WM_HI n
    let routed := fun b => c.actFlag pgEVS Reg.EVS.ROUTE_EN b && c.act pgEVS Reg.EVS.ROUTE_QUEUE b == n
    let waits := ((c.streams.flatMap fun e => e.2.fifo).filter fun r => r.queue == n).map Rec.stamp
    let due := (c.streams.filter fun e => !e.2.pend.isEmpty && routed (sourceBlock e.1)).flatMap fun e => e.2.pend
    let blocks := (List.range 256).filter fun b => stageDelay b != 0 && routed b
    let delay := (blocks.map stageDelay).foldl Nat.max 0
    let back := (blocks.map backStamp).foldl Nat.max 0
    let bound := (leastOf (waits ++ due)).getD c.t
    let w := if waits.isEmpty then Nat.min bound (c.t - back - Config.freeValue c.free % (4097 + delay - back)) else bound
    .seq (when waits.isEmpty (.prim .freeNext)) (putWide pgEVS Reg.EVS.WM_LO Reg.EVS.WM_HI (Nat.max old w) n)

/-- A word whose bits [lo + n - 1 : lo], a count that saturates, grow by `k`. -/
def countUp (w : Word) (lo n k : Nat) : Word := w.setBits lo n (Nat.min (w.bits lo n + k) (2 ^ n - 1))

/-- The next record delivered carries the lost flag and `n` more losses: the next that waits, else the next of the source (R34, Table 3-9, Table 7-10). -/
def markLost (rest : List Rec) (waiting n at_ lo width : Nat) : List Rec × Nat :=
  match rest with
  | [] => ([], Nat.min (waiting + n) (2 ^ width - 1))
  | r :: rs =>
    let ws := r.words.set at_ (countUp (r.words.getD at_ 0) lo width n)
    ({ r with words := ws.set 0 ((ws.getD 0 0).setBits 31 1 1) } :: rs, waiting)

/-- Block and cell of an event-stream source: each page of a block is a cell, and each lane of an engine (R17, R19). -/
def sourceCell (id : Nat) : Nat × Nat := (sourceBlock id, if id % 2 ^ 8 = 0x10 then id else id % 2 ^ 15)

/-- The queue takes a record, or the record is dropped because the queue takes none (R34, R398). -/
def Chip.drains (c : Chip) (fifo : List Rec) : Bool :=
  match fifo with
  | [] => false
  | r :: _ => c.act (pgQUE r.queue) Reg.QUE.QUE_CFG_PROD != 1 || ((c.que r.queue).opened.isNone && c.canOpen r.queue)

/-- The arbiter of block `b` grants the cells whose records can drain in round-robin order, beginning after the one granted last (R17): the next is `cell`. -/
def Chip.turnOf (c : Chip) (key : Nat) (cells : List Nat) (cell : Nat) : Bool :=
  roundRobin (c.arb key).granted cells == some cell

/-- Key of the arbiter of a block of event-stream sources. -/
def blockKey (b : Nat) : Nat := 256 + b

/-- Key of the arbiter over the capture taps of an engine. -/
def tapKey (q : Nat) : Nat := 768 + q

/-- The queue that takes the words of a port: that of its open packet, else the one that names it (R395, Table 14-3). -/
def Chip.portQueue (c : Chip) (code : Nat) : Option Nat :=
  match (List.range 64).find? fun n => (c.que n).opened.any fun o => o.holder.isNone && o.prod == code with
  | some n => some n
  | none => c.queueOfProd code

/-- Block and cell of a hardware port (R17, Table 1-10). -/
def portCell (i : Nat) : Nat × Nat :=
  let p : Page := if i < 6 then ⟨.can, i⟩ else ⟨.eth, i - 6⟩
  (p.route, p.srcId 0)

/-- The port has a word that its queue can take, or that is discarded (R397, R402). -/
def Chip.portReady (c : Chip) (i : Nat) : Bool :=
  let p := c.port (portCode i)
  !p.frames.isEmpty && (match c.portQueue (portCode i) with
    | none => false
    | some n => p.discard || (match (c.que n).opened with
      | none => c.canOpen n
      | some o => o.holder.isNone && o.prod == portCode i && (!o.needsCell || decide (65535 ≤ o.len) || c.canTake n)))

/-- The cells of a block with a request at its arbiter that can be served: those whose oldest record can drain, and its ports (R17). -/
def Chip.drainCells (c : Chip) (b : Nat) : List Nat :=
  (c.streams.filterMap fun e => if c.drains e.2.fifo ∧ e.2.fifo.head?.all c.ripe ∧ sourceBlock e.1 = b then some (sourceCell e.1).2 else none) ++
    (((List.range 8).filter fun i => c.portReady i && (portCell i).1 == b).map fun i => (portCell i).2)

/-- The arbiter of a block grants a cell in its turn (R17). -/
def inTurn (at_ : Nat × Nat) (k : Act) : Act :=
  .dyn fun c => when (c.turnOf (blockKey at_.1) (c.drainCells at_.1) at_.2) (.seq (modArb (blockKey at_.1) fun a => { a with granted := some at_.2 }) k)

/-- PORT_WORD_WRITE: the next word of a hardware port enters its queue in the port's turn at the arbiter of its block, or waits (R17, R392, R397). -/
def execPortWordWrite (dt : Nat) (i : Fin 8) (corr : Nat) (s : State) : Host.Outcome State Fault Refusal :=
  s.act dt (.dyn fun c =>
    let code := portCode i
    match c.portQueue code, (c.port code).frames with
    | some n, f :: _ =>
      let p := c.port code
      let v := f.getD p.pos 0
      let last := p.pos + 1 == f.length
      let step := modPort code fun p => { p with pos := p.pos + 1 }
      let done := if last then .seq (pktClose n) (portNext code) else step
      if p.discard then inTurn (portCell i) (if last then portNext code else step)
      else
        .seq (corrected n corr) (match (c.que n).opened with
        | none =>
          if c.en (pgQUE n) then
            .seq (reclaim n) (.dyn fun c' => if c'.canTake n then inTurn (portCell i) (.seq (takeCell n (.port code p) (seqs [pktOpen n code none, pktAppend n v, done]) .skip) basinSettle) else withhold n)
          else withhold n
        | some o =>
          if o.holder.isSome || o.prod != code then withhold n
          else if o.needsCell && decide (o.len < 65535) then
            .seq (reclaim n) (.dyn fun c' => if c'.canTake n then inTurn (portCell i) (.seq (takeCell n (.port code p) (.seq (pktAppend n v) done) .skip) basinSettle) else withhold n)
          else inTurn (portCell i) (seqs [pktAppend n v, done, basinSettle]))
    | _, _ => .skip)

/-- The latest last cell of the queue's store went to an earlier record of this same source, so the two did not request it in one cycle. -/
def Chip.tookBefore (c : Chip) (n : Nat) (mine : Taker → Bool) : Bool := (c.store (c.storeOf n)).take.any fun e => mine e.2

/-- A source requests a cell for a record of a RECORDS queue (R398, Table 14-3). -/
def recordAsks (n : Nat) (mine : Taker → Bool) : Act :=
  whenC (fun c => c.en (pgQUE n) && (c.que n).opened.isNone && !c.tookBefore n mine) (reclaim n)

/-- EVS_FIFO_DRAIN: the oldest record of a source enters its queue, or is dropped if the queue takes no records, in the turn of its cell at the arbiter of its block; or it waits (R17, R34, R89, R398). -/
def execEvsFifoDrain (dt : Nat) (src : BitVec 20) (corr : Nat) (s : State) : Host.Outcome State Fault Refusal :=
  s.act dt (.dyn fun c =>
    let id := src.toNat
    match (c.stream id).fifo with
    | [] => .skip
    | r :: rest =>
      let n := r.queue
      if !c.ripe r then watermark n
      else if c.act (pgQUE n) Reg.QUE.QUE_CFG_PROD != 1 then
        inTurn (sourceCell id) (seqs [modStream id fun s =>
            let m := markLost rest s.lost (1 + (r.words.getD 3 0).bits 16 16) 3 16 16
            { s with fifo := m.1, lost := m.2 },
          bump pgEVS Reg.EVS.DROP_CNT, evt pgEVS 0, watermark n])
      else
        seqs [recordAsks n (fun k => match k with | .stream i _ => i == id | _ => false), .dyn fun c' =>
          if !c'.drains (r :: rest) then .seq (withhold n) (watermark n)
          else inTurn (sourceCell id)
            (seqs [corrected n corr, takeCell n (.stream id (c.stream id)) (.seq (modStream id fun s => { s with fifo := rest }) (pushRecord n r.words)) .skip,
              basinSettle, watermark n])])

/-- TAP_FIFO_DRAIN: the oldest record of a tap enters the queue that TAP_CFG named at its launch, in the tap's turn among those of its engine (R17, R203, R398, R408). -/
def execTapFifoDrain (dt : Nat) (q : Quay) (tap : Fin 16) (corr : Nat) (s : State) : Host.Outcome State Fault Refusal :=
  s.act dt (.dyn fun c =>
    let k := 16 * q.idx + tap.val
    match (c.tap k).fifo with
    | [] => .skip
    | r :: rest =>
      let n := r.queue
      let turn := fun (a : Act) => .dyn fun c => when (c.turnOf (tapKey q.idx) ((List.range 16).filter fun i => c.drains (c.tap (16 * q.idx + i)).fifo) tap)
        (.seq (modArb (tapKey q.idx) fun a => { a with granted := some tap.val }) a)
      if c.act (pgQUE n) Reg.QUE.QUE_CFG_PROD != 1 then
        turn (seqs [modTap k fun s =>
            let m := markLost rest s.lost (1 + (r.words.getD 0 0).bits 20 11) 0 20 11
            { s with fifo := m.1, lost := m.2 }, bump pgCAP Reg.CAP.TAP_DROP 1 tap, evt pgCAP 0])
      else
        .seq (recordAsks n fun x => match x with | .tap i _ => i == k | _ => false) (.dyn fun c' =>
          if !c'.drains (r :: rest) then withhold n
          else turn (seqs [corrected n corr, takeCell n (.tap k (c.tap k))
            (seqs [modTap k fun s => { s with fifo := rest }, pushRecord n r.words, bumpWrap pgCAP Reg.CAP.TAP_REC_CNT]) .skip, basinSettle])))

/-! ### Consumers -/

/-- What SECDED finds in the word read (R404). -/
def eccCorrected : Nat := 1
def eccBad : Nat := 2

/-- The requester may consume (R38, R400). -/
def Chip.consumes (c : Chip) (n : Nat) (src : Src) : Bool :=
  let cs := c.act (pgQUE n) Reg.QUE.QUE_CFG_CONS_SRC
  c.mayWrite src 6 && c.act (pgQUE n) Reg.QUE.QUE_CFG_CONS == 0 &&
    (cs == 0xFF || cs == src.code || (cs == 0xFE && (match src with | .core q _ => c.owner == some q | _ => false)))

/-- POP_LEN: the length word of the head packet (R399). -/
def Chip.popLen (c : Chip) (n : Nat) : Word :=
  match (c.que n).done with
  | h :: _ => if (c.que n).resetting then 0xFFFFFFFF else c.memAt (cellAddr (h.cells.getD 0 0) 0)
  | [] => 0xFFFFFFFF

/-- A read of POP_DATA: the next payload word of the head packet; `ecc` is 0 good, 1 corrected, 2 uncorrectable (R399, R400, R404). The read of the last word in the cycle of the flush point returns it (Table 14-3). -/
def popData (src : Src) (n ecc : Nat) : Act :=
  .dyn fun c =>
    let p := pgQUE n
    let q := c.que n
    match (if q.resetting then none else q.done.head?) with
    | none =>
      if !c.consumes n src then err p 0x41 src.code
      else match q.flushed.filter fun e => e.1 == c.t with
        | some (_, h) =>
          seqs [.prim (.answer 0 (c.memAt (cellAddr (h.cells.getD (h.len / 16) 0) (h.len % 16)))), modQue n fun q => { q with flushed := none },
            put p Reg.QUE.DROP_CNT (c.fld p Reg.QUE.DROP_CNT - 1), bumpWrap p Reg.QUE.PKT_OUT_CNT]
        | none => err p 0x45 src.code
    | some h =>
      let i := q.read + 1
      let v := if q.read < h.len then c.memAt (cellAddr (h.cells.getD (i / 16) 0) (i % 16)) else 0
      if !c.consumes n src then .seq (.prim (.answer 0 v)) (err p 0x41 src.code)
      else if h.len = 0 then seqs [err p 0x45 src.code, pktRetire n, basinSettle]
      else
        seqs [
          (if ecc = eccBad then seqs [busError src (p.base + 0x064) .uncorr, evt p 5, uncorrected 1] else .prim (.answer 0 v)),
          when (ecc == eccCorrected) (corrected n 1),
          if i = h.len then pktRetire n else modQue n fun q => { q with read := i },
          basinSettle]

/-- POP_DATA (R399, R400, R404). -/
def execPopData (dt : Nat) (src : Src) (n : Fin 64) (ecc : Fin 3) (corr : Nat) (s : State) : Host.Outcome State Fault Refusal :=
  s.act dt (onRead src (pgQUE n) 0x064 (.seq (corrected n corr) (popData src n ecc)))

/-- POP_SKIP: the head packet retires whole (R399, R400). -/
def execPopSkip (dt : Nat) (src : Src) (n : Fin 64) (corr : Nat) (s : State) : Host.Outcome State Fault Refusal :=
  s.act dt (onPage src (pgQUE n) 0x068 true (.seq (corrected n corr) (.dyn fun c =>
    if !c.consumes n src then err (pgQUE n) 0x41 src.code
    else when (!(c.que n).resetting && !(c.que n).done.isEmpty) (seqs [pktRetire n, modQue n fun q => { q with skipAt := some c.t }, basinSettle]))))

/-- QUE_FLUSH: the flush point is the close of the open packet, or now (R401). -/
def execQueFlush (dt : Nat) (src : Src) (n : Fin 64) (corr : Nat) (s : State) : Host.Outcome State Fault Refusal :=
  s.act dt (onPage src (pgQUE n) 0x06C true (.seq (corrected n corr) (.dyn fun c =>
    when (!(c.que n).flush)
      (if (c.que n).opened.isSome || (c.que n).resetting then .seq (modQue n fun q => { q with flush := true }) basinRefresh
       else .seq (flushPoint n) basinSettle))))

/-- Payload of the head packet of a queue, for a hardware consumer. -/
def Chip.headWords (c : Chip) (n : Nat) : Option (List Word) :=
  if (c.que n).resetting then none
  else (c.que n).done.head?.map fun h => (List.range h.len).map fun i => c.memAt (cellAddr (h.cells.getD ((i + 1) / 16) 0) ((i + 1) % 16))

/-- A hardware consumer has read a packet in which SECDED corrected `corr` words and found `bad` beyond correction: those are passed with an error flag (R404). -/
def packetErrors (n corr bad : Nat) : Act := seqs [corrected n corr, uncorrected bad, when (bad != 0) (.seq (evt (pgQUE n) 5) (.prim .freeNext))]

/-- DESIGN CHOICE: no chapter states what its consumer does with a word that carries the error flag; the model leaves open whether the packet is sent or counts as a bad one (log entry 97). -/
def Chip.flaggedDropped (c : Chip) (bad : Nat) : Bool := bad != 0 && Config.freeValue c.free % 2 == 0

/-- The token passes (R400, Table 14-3): packets held open by the old owner close with TRUNC, and partly read heads of CONS_SRC 0xFE return to their first word. -/
def basinTokenPass (c0 : Chip) (old : Quay) : Act :=
  .seq (each (List.range 64) fun n => .dyn fun c =>
      let ofOld := match (c.que n).opened with
        | some p => (match p.holder with | some s => c0.quayOf s == some old | none => false)
        | none => false
      .seq (when ofOld
          (seqs [modQue n fun q => { q with held := none, opened := q.opened.map fun p => { p with trunc := true } }, evt (pgQUE n) 4, pktClose n, serveAllWaits n]))
        (when (c.act (pgQUE n) Reg.QUE.QUE_CFG_CONS_SRC == 0xFE) (modQue n fun q => { q with read := 0 })))
    basinSettle

/-! ### Queue resets and rebuilds -/

/-- SYS cycles of a sweep in ticks (R402). -/
def sweepTicks (st : Nat) : Nat := if st = 0 then 163840 else 81920

/-- A sweep of the store begins if queues wait for one and none runs. -/
def sweepStart (st : Nat) : Act :=
  .dyn fun c =>
    let ns := (List.range 64).filter fun n => (c.que n).resetting && (c.que n).deadStore == st
    when ((c.store st).sweep.isNone && !ns.isEmpty)
      (.seq (modStore st fun s => { s with sweep := some c.t }) (each ns fun n => modQue n fun q => { q with swept := true }))

/-- The queue's cell safe reaction (R16, R402). A flush point of the same cycle yields to it: FLUSH_DONE occurs when the reset ends (Table 14-3). -/
def queReset (n : Nat) : Act :=
  .dyn fun c =>
    let q := c.que n
    let p := pgQUE n
    seqs [err p 0x48, bump p Reg.QUE.DROP_CNT (q.done.length + (if q.opened.isSome then 1 else 0)),
      (match q.flushAt with
        | some (t, fresh) => when (t == c.t)
          (.seq (modQue n fun q => { q with flush := true, flushAt := none }) (when fresh (put p Reg.HDR.EVT_RAW (c.fld p Reg.HDR.EVT_RAW - 8))))
        | none => .skip),
      modQue n fun q => { q with done := [], read := 0, opened := none, held := none, dead := q.cells, resetting := true, swept := false,
                                 deadStore := if q.resetting then q.deadStore else c.storeOf n },
      (match q.opened with
        | some o => when o.holder.isNone (modPort o.prod fun x => { x with discard := true })
        | none => .skip),
      evt p 2, evt pgBSN 3, bump p Reg.QUE.RESET_CNT,
      (if n < 32 then .dyn fun c => put pgBSN Reg.BSN.QRESET_LO (c.fld pgBSN Reg.BSN.QRESET_LO ||| 2 ^ n)
       else .dyn fun c => put pgBSN Reg.BSN.QRESET_HI (c.fld pgBSN Reg.BSN.QRESET_HI ||| 2 ^ (n - 32))),
      serveAllWaits n, sweepStart (if q.resetting then q.deadStore else c.storeOf n), basinRefresh]

/-- QUE_RESET: a difference between the copies, or `uncorr` words that SECDED cannot correct, resets the queue (R402, R404). -/
def execQueReset (dt : Nat) (n : Fin 64) (uncorr : Nat) (s : State) : Host.Outcome State Fault Refusal :=
  s.act dt (.seq (uncorrected uncorr) (queReset n))

/-- A sweep corrects link entries, each of the queue that owns its cell or of a free cell, and finds others beyond correction (R404). -/
def sweepErrors (corr : List (Option (Fin 64))) (uncorr : Nat) : Act :=
  .seq (each corr fun o => match o with
    | some n => corrected n 1
    | none => .seq (bump pgBSN Reg.BSN.CORR_CNT) (bump (pgFLT 6) Reg.FLTR.CORR_CNT)) (uncorrected uncorr)

/-- Cells whose link entry differs in a sweep are quarantined (R403). -/
def quarantine (st : Nat) (bad : List Nat) : Act :=
  modStore st fun s =>
    { s with quarantine := s.quarantine ++ (bad.eraseDups.filter fun i => cellStore i == st && decide (i < 98304) && !s.quarantine.contains i) }

/-- SWEEP_DONE: the queues that the sweep serves are empty again; `bad` are the cells whose link entry differs (R402 to R404). -/
def execSweepDone (dt : Nat) (st : Fin 2) (bad : List Nat) (corr : List (Option (Fin 64))) (uncorr : Nat) (s : State) : Host.Outcome State Fault Refusal :=
  s.act dt (.dyn fun c =>
    match (c.store st).sweep with
    | none => .skip
    | some t =>
      let ns := (List.range 64).filter fun n => (c.que n).swept && (c.que n).deadStore == st.val
      seqs [atTick (t + sweepTicks st), modStore st fun s => { s with sweep := none }, sweepErrors corr uncorr, quarantine st bad,
        each ns fun n => .seq (when (c.que n).flush (evt (pgQUE n) 3))
          (modQue n fun q => { q with dead := [], resetting := false, swept := false, flush := false }),
        sweepStart st, basinSettle])

/-- FREELIST_REBUILD: the copies of a store's free-list pointers differ (R403). -/
def execFreelistRebuild (dt : Nat) (st : Fin 2) (s : State) : Host.Outcome State Fault Refusal :=
  s.act dt (.dyn fun c =>
    .seq (modStore st fun s => { s with rebuild := some (s.rebuild.getD c.t) }) basinRefresh)

/-- REBUILD_DONE: the rebuild sweep completes (R403). -/
def execRebuildDone (dt : Nat) (st : Fin 2) (bad : List Nat) (corr : List (Option (Fin 64))) (uncorr : Nat) (s : State) : Host.Outcome State Fault Refusal :=
  s.act dt (.dyn fun c =>
    match (c.store st).rebuild with
    | none => .skip
    | some t => seqs [atTick (t + sweepTicks st), modStore st fun s => { s with rebuild := none }, sweepErrors corr uncorr, quarantine st bad, basinSettle])

/-- Every packet and cell of a queue is gone: its page or BS is reset (R24, R53). PUSH writes that wait are served then. -/
def queClear (n : Nat) : Act := .dyn fun c => .seq (.prim (.que n { waits := (c.que n).waits })) (serveAllWaits n)

end Sys2Proof.Machine
end

