-- ==== Sys2Proof/Machine/Crc.lean ====
section
/-! DEFINITION. The checksums of the chip: CRC-8 of the leg link and the VCL (R129, R271), CRC-32 of IEEE 802.3 (Table 7-13), and the position-word CRC of R244. -/

namespace Sys2Proof

/-- One bit step of a left-shifting CRC of `n` bits. -/
def crcBit (n poly : Nat) (crc : Nat) (bit : Bool) : Nat :=
  let top := crc / 2 ^ (n - 1) % 2 == 1
  let sh := crc * 2 % 2 ^ n
  if top != bit then sh ^^^ poly else sh

/-- The bits of a number, most significant first. -/
def bitsMsb (n v : Nat) : List Bool := (List.range n).map fun i => v.testBit (n - 1 - i)

/-- A left-shifting CRC over a list of bits. -/
def crcBits (n poly init : Nat) (l : List Bool) : Nat := l.foldl (crcBit n poly) init

/-- CRC-8 with polynomial x^8 + x^2 + x + 1, initial value 0 (R129). -/
def crc8 (bytes : List Nat) : Nat := crcBits 8 0x07 0 (bytes.flatMap (bitsMsb 8))

/-- One byte step of the reflected CRC-32 of IEEE 802.3. -/
def crc32Byte (crc byte : Nat) : Nat :=
  (List.range 8).foldl (fun x _ => if x % 2 = 1 then (x / 2) ^^^ 0xEDB88320 else x / 2) (crc ^^^ byte)

/-- CRC-32 of IEEE 802.3 over bytes. -/
def crc32 (bytes : List Nat) : Nat := (bytes.foldl crc32Byte 0xFFFFFFFF) ^^^ 0xFFFFFFFF

/-- The four bytes of a word, least significant first. -/
def wordBytes (w : Word) : List Nat := [w.bits 0 8, w.bits 8 8, w.bits 16 8, w.bits 24 8]

end Sys2Proof
end

