-- ==== Sys2Proof/Machine/Coding.lean ====
section
/-! DEFINITION. The 8b/10b line code of the leg link (R127): the code tables that R127 takes from IEEE 802.3 Clause 36, as sub-block codes with running disparity, and the six-symbol frames of R128. Symbols are written first transmitted bit first. The tables are PRESUMED: the spec names them and does not print them (log entry 45). -/

namespace Sys2Proof

/-- Ones among the low `n` bits. -/
def onesOf (n v : Nat) : Nat := ((List.range n).filter fun i => v.testBit i).length

/-- Running disparity after a sub-block of `n` bits: positive when true. -/
def disparity (n v : Nat) (rd : Bool) : Bool :=
  if n < 2 * onesOf n v then true else if 2 * onesOf n v < n then false else rd

/-- The six-bit codes abcdei of D.0 to D.31 at negative disparity. -/
def code6 : List Nat :=
  [0b100111, 0b011101, 0b101101, 0b110001, 0b110101, 0b101001, 0b011001, 0b111000,
    0b111001, 0b100101, 0b010101, 0b110100, 0b001101, 0b101100, 0b011100, 0b010111,
    0b011011, 0b100011, 0b010011, 0b110010, 0b001011, 0b101010, 0b011010, 0b111010,
    0b110011, 0b100110, 0b010110, 0b110110, 0b001110, 0b101110, 0b011110, 0b101011]

/-- The four-bit codes fghj of the data characters D.x.0 to D.x.7 at negative disparity. -/
def code4 : List Nat := [0b1011, 0b1001, 0b0101, 0b1100, 0b1101, 0b1010, 0b0110, 0b1110]

/-- The six-bit code of D.x: inverted at positive disparity where it is unbalanced, and for D.7. -/
def enc6 (rd : Bool) (x : Nat) : Nat :=
  let v := code6.getD x 0
  if rd && (onesOf 6 v != 3 || x == 7) then 63 - v else v

/-- D.x.7 takes its alternate code. -/
def altSeven (rd : Bool) (x : Nat) : Bool :=
  if rd then x == 11 || x == 13 || x == 14 else x == 17 || x == 18 || x == 20

/-- The four-bit code of D.x.y; `rd` is the disparity after the six-bit code. -/
def enc4 (rd : Bool) (x y : Nat) : Nat :=
  let v := if y = 7 ∧ altSeven rd x then 0b0111 else code4.getD y 0
  if rd && (onesOf 4 v != 2 || y == 3) then 15 - v else v

/-- The ten-bit code of a data character. -/
def encData (rd : Bool) (b : Nat) : Nat :=
  let h := enc6 rd (b % 32)
  2 ^ 4 * h + enc4 (disparity 6 h rd) (b % 32) (b / 32)

/-- The ten-bit codes at negative disparity of the K-characters K28.0 to K28.6 and K27.7; those at positive disparity are their inverses. -/
def kCodes : List (Nat × Nat) :=
  [(0x1C, 0b0011110100), (0x3C, 0b0011111001), (0x5C, 0b0011110101), (0x7C, 0b0011110011), (0x9C, 0b0011110010),
    (0xBC, 0b0011111010), (0xDC, 0b0011110110), (0xFB, 0b1101101000)]

/-- The ten-bit code of a K-character. -/
def encK (rd : Bool) (k : Nat) : Nat :=
  let v := ((kCodes.find? fun e => e.1 == k).map Prod.snd).getD 0
  if rd then 1023 - v else v

/-- The data character with a ten-bit code at the running disparity. -/
def decData (rd : Bool) (v : Nat) : Option Nat :=
  let h := v / 16
  match (List.range 32).find? fun x => enc6 rd x == h with
  | none => none
  | some x =>
    let rd1 := disparity 6 h rd
    match (List.range 8).find? fun y => enc4 rd1 x y == v % 16 with
    | none => none
    | some y => some (32 * y + x)

/-- The K-character with a ten-bit code at the running disparity. -/
def decK (rd : Bool) (v : Nat) : Option Nat := (kCodes.find? fun e => encK rd e.1 == v).map Prod.fst

/-- Running disparity after a ten-bit code. -/
def disparity10 (v : Nat) (rd : Bool) : Bool := disparity 4 (v % 16) (disparity 6 (v / 16) rd)

/-- The CRC symbol of a frame: over the K-character and the payload bytes in wire order (R128, R129). -/
def frameCrc (k : Nat) (payload : Word) : Nat := crc8 (k :: wordBytes payload)

/-- The six symbols of a frame (R128) from a running disparity, and the disparity after them. -/
def encFrame (rd : Bool) (k : Nat) (payload : Word) : List Nat × Bool :=
  (wordBytes payload ++ [frameCrc k payload]).foldl
    (fun (acc : List Nat × Bool) b => let v := encData acc.2 b; (acc.1 ++ [v], disparity10 v acc.2))
    ([encK rd k], disparity10 (encK rd k) rd)

/-- The symbols of a received frame, first transmitted bit most significant. -/
def frameSymbols (f : BitVec 60) : List Nat := (List.range 6).map fun i => f.toNat / 2 ^ (10 * (5 - i)) % 1024

/-- The frame with the given symbols. -/
def symbolsFrame (l : List Nat) : BitVec 60 := BitVec.ofNat 60 (l.foldl (fun v s => v * 1024 + s) 0)

/-- Running disparity after the symbols of a frame. -/
def frameDisparity (rd : Bool) (f : BitVec 60) : Bool := (frameSymbols f).foldl (fun r v => disparity10 v r) rd

/-- The K-character and the payload of a frame that is valid on the line: six valid codes with correct running disparity, a K-character and five data characters, and a matching CRC (R128). -/
def decFrame (rd : Bool) (f : BitVec 60) : Option (Nat × Word) :=
  match frameSymbols f with
  | [s0, s1, s2, s3, s4, s5] =>
    let r1 := disparity10 s0 rd
    let r2 := disparity10 s1 r1
    let r3 := disparity10 s2 r2
    let r4 := disparity10 s3 r3
    let r5 := disparity10 s4 r4
    match decK rd s0, decData r1 s1, decData r2 s2, decData r3 s3, decData r4 s4, decData r5 s5 with
    | some k, some b0, some b1, some b2, some b3, some crc =>
      let w := BitVec.ofNat 32 (b0 + 2 ^ 8 * b1 + 2 ^ 16 * b2 + 2 ^ 24 * b3)
      if crc = frameCrc k w then some (k, w) else none
    | _, _, _, _, _, _ => none
  | _ => none

end Sys2Proof
end

