-- ==== Sys2Proof/Machine/Faults.lean ====
section
/-! DEFINITION. The fault lines into FLT[8] (R18, R375, Table 13-5). -/

namespace Sys2Proof.Machine

open Sys2Proof

/-- Bit `i` of an array of 32-bit words. -/
def Chip.bitAt (c : Chip) (p : Page) (f : Field) (i : Nat) : Bool := (c.fld p f (i / 32)).testBit (i % 32)

/-- Sets or clears bit `i` of an array of 32-bit words. -/
def putBit (p : Page) (f : Field) (i : Nat) (b : Bool) : Act :=
  .dyn fun c =>
    let v := c.fld p f (i / 32)
    put p f (if b then v ||| 2 ^ (i % 32) else if v.testBit (i % 32) then v - 2 ^ (i % 32) else v) (i / 32)

/-- A fault line asserts, or a report arrives, with its cause; `pulse` when its condition ends with the report. The collector latches a line that has asserted even if it falls first (R375). -/
def raiseFault (id : Nat) (cause : Nat := 0) (pulse : Bool := false) : Act :=
  .dyn fun c => .seq (putBit pgFLT8 Reg.FLT8.RAW id true)
    (modFault id fun x => { cause := cause, pulse := pulse, pend := x.pend || !c.bitAt pgFLT8 Reg.FLT8.ACTIVE id })

/-- A fault line falls. -/
def dropFault (id : Nat) : Act := putBit pgFLT8 Reg.FLT8.RAW id false

/-- Fault IDs of Table 13-5. -/
def fLEG_BLK (k : Nat) : Nat := k
def fLINK (k : Nat) : Nat := 0x18 + k
def fADC_LIMIT (n : Nat) : Nat := 0x30 + n
def fDSF_COMP (n : Nat) : Nat := 0x3C + n
def fPOS_FAULT (n : Nat) : Nat := 0x5C + n
def fTSN_TRIP (r : Nat) : Nat := 0x64 + r
def fNTC_TRIP (k : Nat) : Nat := 0x6C + k
def fTSN_XCHK (r : Nat) : Nat := 0x84 + r
def fBRG_VDS (n : Nat) : Nat := 0x8C + n
def fCNV_FAULT : Nat := 0x9C
def fQ_FAULT (q : Quay) : Nat := 0x9D + q.idx
def fNO_OWNER : Nat := 0x9F
def fSINGLE_EXPIRED : Nat := 0xA0
def fXTAL_LOSS : Nat := 0xA1
def fTIDE_UNLOCK : Nat := 0xA2
def fPWR_DOM (d : Nat) : Nat := 0xA3 + d
def fCLK_FAULT : Nat := 0xB1
def fREGION_ISO (r : Nat) : Nat := 0xB2 + r
def fSEAL : Nat := 0xB9
def fPROFILE : Nat := 0xBA
def fSTRAP_SEAL : Nat := 0xBB
def fLOCKOUT : Nat := 0xBC
def fSIN_EXPIRED (i : Nat) : Nat := 0xBD + i
def fSOUT_FAULT (j : Nat) : Nat := 0xCD + j
def fSBC_FAULT : Nat := 0xD5
def fBRAKE_TEST : Nat := 0xD6
def fSF_INTERNAL : Nat := 0xD7
def fFC_TEST : Nat := 0xD8
def fSHT_WIRE : Nat := 0xD9
def fADC_REF (n : Nat) : Nat := 0xDA + n

end Sys2Proof.Machine
end

