-- ==== Sys2Proof/Machine/Shaping.lean ====
section
/-! DEFINITION. Shaping of a leg's edge list and its gate edges, as functions of lists (R105 to R111). Times are in fine steps. -/

namespace Sys2Proof.Machine

open Sys2Proof

/-- What shaping makes of a list. -/
structure Shaped where
  edges : List LegEdge
  /-- Edges removed by R106. -/
  collide : List LegEdge
  /-- Removals of R107. -/
  noop : Nat
  /-- Edges removed by R108 and R109 and the interval to the edge that followed. -/
  minpulse : List (LegEdge × Nat)
  /-- Edges moved by R109 and by how much. -/
  stretch : List (LegEdge × Nat)
  deriving DecidableEq, Repr

/-- Same-tick collision: of edges with one time the last written is kept (R106). -/
def keepLast : List LegEdge → List LegEdge × List LegEdge
  | [] => ([], [])
  | [e] => ([e], [])
  | e :: f :: rest =>
    let r := keepLast (f :: rest)
    if e.t = f.t then (r.1, e :: r.2) else (e :: r.1, r.2)

/-- No-op and minimum pulse inside the pattern (R107, R108): kept edges, no-op count, removed edges with their intervals. -/
def scanPulses (mp : Nat) : LegState → List LegEdge → List LegEdge × Nat × List (LegEdge × Nat)
  | _, [] => ([], 0, [])
  | before, [e] => if e.state = before then ([], 1, []) else ([e], 0, [])
  | before, e :: f :: rest =>
    if e.state = before then
      let r := scanPulses mp before (f :: rest)
      (r.1, r.2.1 + 1, r.2.2)
    else if f.t - e.t < mp then
      let r := scanPulses mp before (f :: rest)
      (r.1, r.2.1, (e, f.t - e.t) :: r.2.2)
    else
      let r := scanPulses mp e.state (f :: rest)
      (e :: r.1, r.2.1, r.2.2)

/-- Minimum pulse at the boundary (R109): kept edges, no-op count, removed edges, moved edges. -/
def scanBoundary (mp tl : Nat) (s0 : LegState) : List LegEdge → List LegEdge × Nat × List (LegEdge × Nat) × List (LegEdge × Nat)
  | [] => ([], 0, [], [])
  | [e] => if tl + mp ≤ e.t then ([e], 0, [], []) else ([{ e with t := tl + mp }], 0, [], [(e, tl + mp - e.t)])
  | e :: f :: rest =>
    if tl + mp ≤ e.t then (e :: f :: rest, 0, [], [])
    else if f.t < tl + 2 * mp then
      if f.state = s0 then
        let r := scanBoundary mp tl s0 rest
        (r.1, r.2.1 + 1, (e, f.t - e.t) :: r.2.2.1, r.2.2.2)
      else
        let r := scanBoundary mp tl s0 (f :: rest)
        (r.1, r.2.1, (e, f.t - e.t) :: r.2.2.1, r.2.2.2)
    else ({ e with t := tl + mp } :: f :: rest, 0, [], [(e, tl + mp - e.t)])

/-- The four steps of R105, with `mp` = MIN_PULSE in fine steps. -/
def shape (mp tl : Nat) (s0 : LegState) (l : List LegEdge) : Shaped :=
  let a := keepLast l
  let b := scanPulses mp s0 a.1
  let d := scanBoundary mp tl s0 b.1
  { edges := d.1, collide := a.2, noop := b.2.1 + d.2.1, minpulse := b.2.2 ++ d.2.2.1, stretch := d.2.2.2 }

/-- Gate edges of a leg while they are placed. -/
structure GatePlan where
  /-- Edges not yet executed, in time order. -/
  edges : List GateEdge
  /-- Levels of H and L after them. -/
  onH : Bool
  onL : Bool
  /-- Times of the latest OFF edges of H and L, 0 when there was none. -/
  offH : Nat
  offL : Nat
  /-- ON edges under R111: gate, time before the delay, and the delay, none when the edge was not placed. -/
  log : List (Bool × Nat × Option Nat)
  deriving DecidableEq, Repr

/-- The level of a gate after the planned edges. -/
def GatePlan.on (g : GatePlan) (high : Bool) : Bool := if high then g.onH else g.onL

/-- A gate's level after the planned edges changes. -/
def GatePlan.setOn (g : GatePlan) (high b : Bool) : GatePlan := if high then { g with onH := b } else { g with onL := b }

/-- An OFF edge of a gate that is on. An ON edge of the gate that would come at or after it is withdrawn with it, and the pair counts once (R111). -/
def GatePlan.off (g : GatePlan) (high : Bool) (t : Nat) : GatePlan :=
  if !g.on high then g
  else match g.edges.find? fun e => e.high == high && e.on && decide (t ≤ e.t) with
    | some e =>
      let mine := fun (x : Bool × Nat × Option Nat) => x.1 == high && x.2.2 == some (e.t - x.2.1)
      let base := ((g.log.find? mine).map fun x => x.2.1).getD e.t
      { g.setOn high false with edges := g.edges.erase e, log := g.log.filter (fun x => !mine x) ++ [(high, base, none)] }
    | none =>
      let g1 : GatePlan := { g.setOn high false with edges := g.edges ++ [(⟨t, high, false⟩ : GateEdge)] }
      if high then { g1 with offH := t } else { g1 with offL := t }

/-- An ON edge of a gate asked for at `base`: never earlier than the other gate's latest OFF edge plus the dead time (R111). DATA0 of its INTERLOCK record is the time before the delay (log entry 40). -/
def GatePlan.turnOn (g : GatePlan) (high : Bool) (base dead : Nat) : GatePlan :=
  let off := if high then g.offL else g.offH
  let t := if off = 0 then base else Nat.max base (off + dead)
  { g.setOn high true with
    edges := g.edges ++ [(⟨t, high, true⟩ : GateEdge)],
    log := if base < t then g.log ++ [(high, base, some (t - base))] else g.log }

/-- One leg edge becomes gate edges (Table 4-4). -/
def GatePlan.edge (dtHL dtLH : Nat) (from_ : LegState) (g : GatePlan) (e : LegEdge) : GatePlan :=
  let g1 := if from_ = .high then g.off true e.t else if from_ = .low then g.off false e.t else g
  match e.state with
  | .off => g1
  | .high => g1.turnOn true (if from_ = .low then e.t + dtLH else e.t) dtLH
  | .low => g1.turnOn false (if from_ = .high then e.t + dtHL else e.t) dtHL

/-- Dead time and interlock for a list of leg edges (R110, R111). -/
def placeGates (dtHL dtLH : Nat) : LegState → GatePlan → List LegEdge → GatePlan
  | _, g, [] => g
  | from_, g, e :: rest => placeGates dtHL dtLH e.state (g.edge dtHL dtLH from_ e) rest

end Sys2Proof.Machine
end

