-- ==== Sys2Proof/Machine/LegOps.lean ====
section
/-! DEFINITION. Operations of the leg cells, leg blocks and leg-link ports that several commands share (Chapters 4 and 5). -/

namespace Sys2Proof.Machine

open Sys2Proof

/-- Code of a leg state in LEG_STAT.STATE. -/
def LegState.code : LegState → Nat
  | .off => 0
  | .high => 1
  | .low => 2

/-- KIND of an edge into the state (Table 4-2). -/
def LegState.kind : LegState → Nat
  | .high => 1
  | .low => 2
  | .off => 3

/-- The legs of block `k`. -/
def legsOf (k : Nat) : List Nat := [4 * k, 4 * k + 1, 4 * k + 2, 4 * k + 3]

/-- BSTATE of Table 4-6. -/
def Chip.bstate (c : Chip) (k : Nat) : Nat := c.fld (pgLead k) Reg.LEGL.BLK_STAT_BSTATE

/-- The leg's EN = 1 has taken effect and the lead page runs (R120). -/
def Chip.legRuns (c : Chip) (n : Nat) : Bool := c.on (pgLEG n) && c.on (pgLead (n / 4))

/-- LSTATE of Table 5-9. -/
def Chip.lstate (c : Chip) (k : Nat) : Nat := c.fld (pgLLP k) Reg.LLP.LINK_STAT_LSTATE

/-- The port is powered: PD_LINKN or PD_LINKS is on (Table 17-2). -/
def Chip.portOn (c : Chip) (k : Nat) : Bool := c.domainOn (pgLLP k).domain

/-- The link of block `k` is UP. -/
def Chip.linkUp (c : Chip) (k : Nat) : Bool := c.lstate k == 4

/-- The Shutter mode of block `k` is SHORT-LOW. -/
def Chip.shortLow (c : Chip) (k : Nat) : Bool := (c.fld pgSHT Reg.SHT.SHT_MODE).testBit k

/-- State of the leg safe state (R117). -/
def Chip.safeState (c : Chip) (n : Nat) : LegState := if c.actFlag (pgLEG n) Reg.LEG.LEG_CFG_SAFE_MODE then .low else .off

/-- State that the Shutter imposes on block `k`. -/
def Chip.shutState (c : Chip) (k : Nat) : LegState := if c.shortLow k then .low else .off

/-- The source of rank 1 to 4 that acts on leg `n`, with the state it drives (Table 4-5). -/
def Chip.forced (c : Chip) (n : Nat) : Option (Nat × LegState) :=
  let k := n / 4
  if c.flag (pgLEG n) Reg.LEG.LEG_STAT_DESAT_OFF then some (1, .off)
  else if c.flag (pgLead k) Reg.LEGL.BLK_STAT_SHUTTER_CLOSED then some (2, c.shutState k)
  else if (c.blk k).imposed || c.flag (pgLead k) Reg.LEGL.BLK_STAT_SHUTTER_HOLD then some (3, c.shutState k)
  else if c.bstate k = 2 ∨ c.bstate k = 3 then
    if c.legRuns n && !c.flag (pgLEG n) Reg.HDR.PAGE_STAT_SAFE then none else some (4, c.safeState n)
  else some (4, c.safeState n)

/-- Gate-drive strength code of the leg's band (R112). -/
def Chip.drv (c : Chip) (n : Nat) : Nat := c.act (pgLEG n) Reg.LEG.DRV_STR (c.fld (pgLEG n) Reg.LEG.LEG_STAT_BAND)

/-- LEVEL events of a leg page (R125). -/
def Chip.legLevels (c : Chip) (n : Nat) : Nat :=
  let k := n / 4
  (if c.flag (pgLEG n) Reg.LEG.LEG_STAT_DESAT_OFF then 2 ^ 5 else 0) +
    (if c.bstate k = 4 ∨ c.flag (pgLEG n) Reg.HDR.PAGE_STAT_SAFE then 2 ^ 6 else 0) +
    (if n % 4 = 0 then
      (if c.bstate k = 4 then 2 ^ 9 else 0) +
        (if c.flag (pgLead k) Reg.LEGL.BLK_STAT_SWITCH_HOLD then 2 ^ 10 else 0) +
        (if c.flag (pgLead k) Reg.LEGL.BLK_STAT_SHUTTER_CLOSED then 2 ^ 11 else 0)
    else 0)

/-- LEVEL events of the four leg pages of block `k`. -/
def blkLevels (k : Nat) : Act := each (legsOf k) fun n => raiseLevels (pgLEG n) fun c => c.legLevels n

/-- The acting rank changes (R497): SOURCE and its record. -/
def setSource (n rank stamp : Nat) : Act :=
  .dyn fun c =>
    let old := c.fld (pgLEG n) Reg.LEG.LEG_STAT_SOURCE
    when (old != rank - 1)
      (.seq (put (pgLEG n) Reg.LEG.LEG_STAT_SOURCE (rank - 1)) (record (pgLEG n) 0 0x07 stamp old (rank - 1)))

/-- The gates and the state of leg `n` as now commanded. -/
def setGates (n : Nat) (h l : Bool) : Act :=
  seqs [putFlag (pgLEG n) Reg.LEG.LEG_STAT_GATE_H false, putFlag (pgLEG n) Reg.LEG.LEG_STAT_GATE_L false,
    putFlag (pgLEG n) Reg.LEG.LEG_STAT_GATE_H h, putFlag (pgLEG n) Reg.LEG.LEG_STAT_GATE_L (l && !h),
    put (pgLEG n) Reg.LEG.LEG_STAT_STATE (if h then 1 else if l then 2 else 0)]

/-- The latest time of an OFF edge of a gate among the edges not yet executed, else that of the one executed last. -/
def LegSt.lastOff (s : LegSt) (high : Bool) : Nat :=
  ((s.gates.filter fun e => e.high == high && !e.on).getLast?.map GateEdge.t).getD (if high then s.offH else s.offL)

/-- The level of a gate after the edges not yet executed; `now` is its present level. -/
def LegSt.lastOn (s : LegSt) (high now : Bool) : Bool :=
  ((s.gates.filter fun e => e.high == high).getLast?.map GateEdge.on).getD now

/-- The gate edges of leg `n` not yet executed, with the levels and OFF times after them. -/
def Chip.gatePlan (c : Chip) (n : Nat) : GatePlan :=
  let s := c.leg n
  ⟨s.gates, s.lastOn true (c.flag (pgLEG n) Reg.LEG.LEG_STAT_GATE_H), s.lastOn false (c.flag (pgLEG n) Reg.LEG.LEG_STAT_GATE_L),
    s.lastOff true, s.lastOff false, []⟩

/-- ON edges under R111 count INTERLOCK and write their records. -/
def interlocked (n stamp : Nat) (l : List (Bool × Nat × Option Nat)) : Act :=
  .seq (when (!l.isEmpty) (.seq (bump (pgLEG n) Reg.LEG.INTERLOCK_CNT l.length) (evt (pgLEG n) 3)))
    (each l fun e => record (pgLEG n) 0 0x04 stamp (e.2.1 / 8) (match e.2.2 with | some d => d | none => 0xFFFFFFFF))

/-- Every gate edge of leg `n` not yet executed is discarded, in the leg cell and in the port (R115, R136). -/
def dropEdges (n : Nat) : Act :=
  .seq (modLeg n fun l => { l with gates := [] })
    (modLink (n / 4) fun l => { l with edges := l.edges.filter fun e => e.1 != n % 4 })

/-- DT_HL of the governing set: as it stood at the latest C_F, or the active one where none has come since the lead's start (R105; log entry 99). -/
def Chip.governDt (c : Chip) (n : Nat) : Nat := (c.leg n).gov.getD (c.act (pgLEG n) Reg.LEG.DT_HL (c.fld (pgLEG n) Reg.LEG.LEG_STAT_BAND))

/-- An immediate command on leg `n` (R115): the new state, at once; from HIGH, L turns on DT_HL after H turned off, and from another state at once, subject to R111. -/
def immediate (n : Nat) (target : LegState) : Act :=
  .seq (dropEdges n) (.dyn fun c =>
    let p := pgLEG n
    let h := c.flag p Reg.LEG.LEG_STAT_GATE_H
    let l := c.flag p Reg.LEG.LEG_STAT_GATE_L
    let t8 := 8 * c.t
    let dt := c.governDt n
    let offs := fun (s : LegSt) => { s with offH := if h then t8 else s.offH, offL := if l && target != LegState.low then t8 else s.offL }
    match target with
    | .off => .seq (setGates n false false) (modLeg n fun s => { offs s with s0 := .off, tl := t8 })
    | .low =>
      if l then .seq (setGates n false true) (modLeg n fun s => { offs s with s0 := .low, tl := t8 })
      else
        let plan := (c.gatePlan n).edge dt dt (if h then .high else .off) ⟨t8, .low⟩
        let wait := plan.edges.filter fun e => decide (t8 < e.t)
        seqs [setGates n false wait.isEmpty, modLeg n fun s => { offs s with s0 := .low, tl := t8, gates := wait }, interlocked n c.t plan.log]
    | .high => .skip)

/-! ### The downlink -/

/-- K-characters of the downlink (Table 5-2). -/
def kIDLE : Nat := 0xBC
def kSYNC : Nat := 0x3C
def kEDGE : Nat := 0x1C
def kIMM : Nat := 0x5C
def kCAL : Nat := 0x7C
def kCFG : Nat := 0x9C

/-- The duration U of a frame in fine steps: 150, 75 or 37.5 ticks (Table 5-1). -/
def Chip.frame8 (c : Chip) (k : Nat) : Nat :=
  match c.act (pgLLP k) Reg.LLP.LINK_CFG_RATE with
  | 0 => 1200
  | 1 => 600
  | _ => 300

/-- Frame slots that pass from the latest frame to the first one that starts at or after `from8`: slots follow each other without a gap while the downlink is not in electrical idle (R128). -/
def LinkSt.slotsTo (l : LinkSt) (u from8 : Nat) : Nat :=
  match l.sent with
  | some f => if l.idle then 1 else Nat.max 1 ((from8 - f.at8 + u - 1) / u)
  | none => 1

/-- Start of the first free frame slot at or after `from8`, in fine steps. -/
def LinkSt.slotAt (l : LinkSt) (u from8 : Nat) : Nat :=
  match l.sent with
  | some f => if l.idle then from8 else f.at8 + u * l.slotsTo u from8
  | none => from8

/-- Consecutive frames without a comma before that slot; a slot in which nothing else was sent carried IDLE, which holds one (R130). -/
def LinkSt.gapAt (l : LinkSt) (u from8 : Nat) : Nat := if l.idle || decide (1 < l.slotsTo u from8) then 0 else l.commaGap

/-- Running disparity at that slot, after the IDLE frames in between. -/
def LinkSt.disparityAt (l : LinkSt) (u from8 : Nat) : Bool :=
  let n := if l.idle then 0 else l.slotsTo u from8 - 1
  (List.range (if n ≤ 2 then n else 1 + (n - 1) % 2)).foldl (fun rd _ => (encFrame rd kIDLE 0).2) l.rdDn

/-- A frame starts on the wire in the first free slot at or after `from8` (R128, R129). -/
def sendFrame (k kchar payload from8 : Nat) : Act :=
  .dyn fun c =>
    let u := c.frame8 k
    let w := BitVec.ofNat 32 payload
    modLink k fun l =>
      let e := encFrame (l.disparityAt u from8) kchar w
      { l with
        sent := some ⟨kchar, w, frameCrc kchar w, e.1, l.slotAt u from8⟩, idle := false, rdDn := e.2,
        commaGap := if kchar = kIDLE ∨ kchar = kSYNC then 0 else l.gapAt u from8 + 1 }

/-- The link sends frames of the kind SYNC (Table 5-9). -/
def Chip.syncs (c : Chip) (k : Nat) : Bool := c.portOn k && (c.lstate k == 2 || c.lstate k == 3 || c.lstate k == 4)

/-- A SYNC frame is due at a time in fine steps (R137). -/
def Chip.syncDue (c : Chip) (k at8 : Nat) : Bool := c.syncs k && decide ((c.link k).syncAt + 4096 ≤ at8 / 8)

/-- A SYNC frame: the Tide at which its first bit reaches the board (R137). -/
def sendSync (k from8 : Nat) : Act :=
  .dyn fun c =>
    let at8 := (c.link k).slotAt (c.frame8 k) from8
    .seq (sendFrame k kSYNC ((at8 + c.fld (pgLLP k) Reg.LLP.DOWN_DELAY) % 2 ^ 32) from8) (modLink k fun l => { l with syncAt := at8 / 8 })

/-- A comma frame: SYNC when one is due, else IDLE (R130, R137). -/
def sendComma (k from8 : Nat) : Act :=
  .dyn fun c => if c.syncDue k ((c.link k).slotAt (c.frame8 k) from8) then sendSync k from8 else sendFrame k kIDLE 0 from8

/-- A frame without a comma: after 63 of them a comma frame takes the slot first (R130). -/
def sendPlain (k kchar payload from8 : Nat) : Act :=
  .seq (whenC (fun c => decide (63 ≤ (c.link k).gapAt (c.frame8 k) from8)) (sendComma k from8)) (sendFrame k kchar payload from8)

/-- Start of the slot that `sendPlain` takes. -/
def Chip.plainAt (c : Chip) (k from8 : Nat) : Nat :=
  (c.link k).slotAt (c.frame8 k) from8 + if 63 ≤ (c.link k).gapAt (c.frame8 k) from8 then c.frame8 k else 0

/-- Payload of an IMM frame (Table 5-2) for the states of the legs named. -/
def immPayload (c : Chip) (legs : List (Nat × LegState)) : Nat :=
  let code := fun s => match s with | LegState.off => 1 | .low => 2 | .high => 0
  let dts := legs.filterMap fun e => if e.2 = .low then some (c.governDt e.1) else none
  (legs.map fun e => code e.2 * 4 ^ (e.1 % 4)).sum + 2 ^ 8 * dts.foldl Nat.max 0

/-- The port sends an IMM frame three times in succession ahead of every other frame, and the named legs' sequences return to 0 (R133, R136). A comma frame due within them goes first (R130). -/
def immSend (k : Nat) (legs : List (Nat × LegState)) : Act :=
  .dyn fun c => when (c.linkUp k && c.portOn k && !legs.isEmpty)
    (let w := immPayload c legs
     let now := 8 * c.t
     seqs [when (decide (60 < (c.link k).gapAt (c.frame8 k) now)) (sendComma k now),
      sendFrame k kIMM w now, sendFrame k kIMM w now, sendFrame k kIMM w now,
      modLink k fun l => { l with imm := some (w, 3), eseq := l.eseq.filter fun e => !(legs.any fun x => x.1 % 4 == e.1) }])

/-- A source of rank 1 to 4 takes leg `n` over and drives its state (R114, R115). -/
def seize (n rank : Nat) (state : LegState) : Act :=
  .dyn fun c => seqs [modLeg n fun l => { l with rank := some rank }, setSource n rank c.t, immediate n state]

/-- Sources of rank 1 to 4 that start to act on the legs of block `k` take them over at once (R114, R115, R136); a leg that they release follows the rank that drives the block (R497). -/
def refreshBlk (k : Nat) : Act :=
  .dyn fun c =>
    let started := (legsOf k).filterMap fun n =>
      match c.forced n with
      | some (r, s) => if (c.leg n).rank = some r then none else some (n, r, s)
      | none => none
    let released := (legsOf k).filter fun n => (c.forced n).isNone && (c.leg n).rank.isSome
    seqs [each started fun e => seize e.1 e.2.1 e.2.2,
      each released fun n => .seq (modLeg n fun l => { l with rank := none }) (when ((c.blk k).rank != 0) (setSource n (c.blk k).rank c.t)),
      immSend k (started.map fun e => (e.1, e.2.2)), blkLevels k]

/-- Block `k` leaves RUN and HOLD: SWITCH_HOLD ends and SW_HELD returns to 0 (R104). -/
def endSwitchHold (k : Nat) : Act :=
  .seq (putFlag (pgLead k) Reg.LEGL.BLK_STAT_SWITCH_HOLD false) (put (pgLead k) Reg.LEGL.BLK_STAT_SW_HELD 0)

/-- Causes of SAFE_CAUSE (Table 4-12). -/
def scMISS : Nat := 1
def scLINK : Nat := 2
def scREG_PARITY : Nat := 3
def scDESAT : Nat := 4
def scSWITCH : Nat := 5
def scPATTERN_ECC : Nat := 6

/-- Block `k` enters SAFE with its cause, if its lead EN = 1 has taken effect and it is not SAFE already (R121, R498). -/
def enterSafe (k cause : Nat) : Act :=
  .dyn fun c => when (c.bstate k == 1 || c.bstate k == 2 || c.bstate k == 3)
    (seqs [put (pgLead k) Reg.LEGL.BLK_STAT_BSTATE 4, put (pgLead k) Reg.LEGL.BLK_STAT_SAFE_CAUSE cause, endSwitchHold k,
      modBlk k fun b => { b with takeover := none, rank := 0 },
      raiseFault (fLEG_BLK k) cause (cause == scMISS || cause == scSWITCH),
      record (pgLead k) 1 0x12 c.t cause 0, refreshBlk k])

/-- The wires of block `k` are reported closed: SHUTTER_HOLD sets, and RUN or HOLD becomes ARMED (R116). -/
def shutterClosed (k : Nat) : Act :=
  .dyn fun c =>
    seqs [putFlag (pgLead k) Reg.LEGL.BLK_STAT_SHUTTER_CLOSED true, putFlag (pgLead k) Reg.LEGL.BLK_STAT_SHUTTER_HOLD true,
      modBlk k fun b => { b with imposed := true, takeover := none, rank := 0 },
      when (c.bstate k == 2 || c.bstate k == 3)
        (seqs [put (pgLead k) Reg.LEGL.BLK_STAT_BSTATE 1, put (pgLead k) Reg.LEGL.BLK_STAT_MISS_RUN 0, endSwitchHold k]),
      when (!c.flag (pgLead k) Reg.LEGL.BLK_STAT_SHUTTER_CLOSED)
        (record (pgLead k) 1 0x16 c.t 1 (if c.shortLow k then 1 else 0)),
      refreshBlk k]

/-- The wires of block `k` run again; SHUTTER_HOLD stays (R116). -/
def shutterRun (k : Nat) : Act :=
  .dyn fun c =>
    when (c.flag (pgLead k) Reg.LEGL.BLK_STAT_SHUTTER_CLOSED)
      (seqs [putFlag (pgLead k) Reg.LEGL.BLK_STAT_SHUTTER_CLOSED false,
        record (pgLead k) 1 0x16 c.t 0 (if c.shortLow k then 1 else 0), refreshBlk k])

/-- The lead page stops: STOPPED from every state (R120). Open patterns are discarded at their close deadlines (R102). -/
def stopBlk (k : Nat) : Act :=
  seqs [put (pgLead k) Reg.LEGL.BLK_STAT_BSTATE 0, put (pgLead k) Reg.LEGL.BLK_STAT_SAFE_CAUSE 0,
    put (pgLead k) Reg.LEGL.BLK_STAT_MISS_RUN 0, endSwitchHold k, dropFault (fLEG_BLK k),
    modBlk k fun b => { b with takeover := none, rank := 0, next := none }, refreshBlk k, each (legsOf k) fun n => modLeg n fun l => { l with gov := none }]

/-- The first boundary of the generator of block `k` whose close deadline lies ahead, and the EARLIEST fixed for it when the lead EN = 1 takes effect (R99). -/
def Chip.firstDeadline (c : Chip) (k : Nat) : Nat × Nat :=
  let g := c.fgOf (pgLead k)
  let e := c.act (pgLead k) Reg.LEGL.EARLIEST
  let b := c.fgLast g
  let p := c.fgPeriod g
  if c.t + 736 < b + e then (b, e) else if c.t + 736 < b + p + e then (b + p, e) else (b + 2 * p, e)

/-- The lead EN = 1 takes effect: ARMED, or SAFE on a latched desaturation or a link that is not UP (R121, R149). -/
def startBlk (k : Nat) : Act :=
  .dyn fun c =>
    seqs [put (pgLead k) Reg.LEGL.BLK_STAT_BSTATE 1, modBlk k fun b => { b with
        next := some (c.firstDeadline k), pats := b.pats.filter fun p => decide ((c.firstDeadline k).1 ≤ p.bound) },
      if (legsOf k).any fun n => c.flag (pgLEG n) Reg.LEG.LEG_STAT_DESAT_OFF then enterSafe k scDESAT
      else if !c.linkUp k then enterSafe k scLINK
      else refreshBlk k]

/-! ### Links -/

/-- Causes of FAULT_CAUSE (Table 5-10). -/
def lcUP_TIMEOUT : Nat := 1
def lcERR_RATE : Nat := 2
def lcLATE : Nat := 3
def lcCAL_DRIFT : Nat := 4
def lcDRV_TIMEOUT : Nat := 5
def lcSYNC_ERR : Nat := 6
def lcLOST_RATE : Nat := 7
def lcTRAIN_FAIL : Nat := 8
def lcSOFTWARE : Nat := 9
def lcPARITY : Nat := 10

/-- LEVEL events of an LLP page (R152). -/
def Chip.llpLevels (c : Chip) (k : Nat) : Nat :=
  (if c.lstate k = 5 then 2 ^ 1 else 0) + (if c.fld (pgLLP k) Reg.LLP.LINK_STAT_DESAT ≠ 0 then 2 ^ 2 else 0) +
    (if c.fld (pgLLP k) Reg.LLP.LINK_STAT_SUP_FAULT ≠ 0 then 2 ^ 3 else 0) +
    (if c.fld (pgLLP k) Reg.LLP.LINK_STAT_NTC_INVALID ≠ 0 then 2 ^ 7 else 0)

/-- Telemetry reads VALID = 0 until the link is UP again (R148). -/
def telInvalid (k : Nat) : Act :=
  seqs [each (List.range 4) fun i =>
      seqs [putFlag (pgLLP k) Reg.LLP.TEL_NTC_VALID false i, putFlag (pgLLP k) Reg.LLP.TEL_VCE_H_VALID false i,
        putFlag (pgLLP k) Reg.LLP.TEL_VCE_L_VALID false i],
    modLink k fun l => { l with ntc := [], sup := [], vce := [] }]

/-- The link enters a state; frames that wait are dropped with the state it leaves, but CFG copies of CONFIG go on into UP (R145). Outside TRAIN to UP the downlink is in electrical idle (Table 5-9). -/
def linkTo (k st : Nat) : Act :=
  .dyn fun c =>
    seqs [put (pgLLP k) Reg.LLP.LINK_STAT_LSTATE st, putFlag (pgLLP k) Reg.LLP.LINK_CTRL_RECAL false,
      modLink k fun l => { l with
        since := c.t, edges := [], outst := [], cfg := if st = 3 ∨ st = 4 then l.cfg else [],
        idle := l.idle || st == 0 || st == 5 || st == 1, commaGap := if st = 0 ∨ st = 5 ∨ st = 1 then 0 else l.commaGap,
        rdDn := l.rdDn && st != 1, rdUp := l.rdUp && st != 1 }]

/-- A source that has not been evaluated since a start or a pause (R174). -/
def TempSt.restart (s : TempSt) : TempSt := { s with first := true, last := none, dwell := none }

/-- Evaluation of a leg's temperature pauses: its link leaves UP or its EN is 0 (R173, R174). -/
def pauseLegTemp (n : Nat) : Act := modTemp (8 + n) TempSt.restart

/-- On leaving UP the port sends IMM frames that put every leg in its leg safe state, and telemetry is invalid (R148). -/
def leaveUp (k : Nat) (imm : Bool) : Act :=
  .dyn fun c => when (c.linkUp k)
    (seqs [when imm (immSend k ((legsOf k).map fun n => (n, c.safeState n))), telInvalid k, each (legsOf k) pauseLegTemp])

/-- The block of a link that leaves UP enters SAFE with cause LINK if its lead page has EN = 1 (R148). -/
def linkLost (k : Nat) : Act := .dyn fun c => when (c.en (pgLead k)) (enterSafe k scLINK)

/-- The link enters FAULT with a cause: a leg-link fault, reported to FLT[8] (R148, R20). -/
def linkFault (k cause : Nat) : Act :=
  .dyn fun c =>
    let old := c.lstate k
    seqs [leaveUp k true, linkTo k 5, put (pgLLP k) Reg.LLP.LINK_STAT_FAULT_CAUSE cause,
      put (pgLLP k) Reg.LLP.LINK_STAT_RX_LOCK 0, put (pgLLP k) Reg.LLP.LINK_STAT_ALIGNED 0, put (pgLLP k) Reg.LLP.LINK_STAT_CAL_OK 0,
      modLink k fun l => { l with rtts := none, cal := none },
      record (pgLLP k) 0 0x02 c.t cause old, raiseFault (fLINK k) cause, linkLost k,
      raiseLevels (pgLLP k) fun c => c.llpLevels k]

/-- LINK_CTRL.DOWN or EN = 0 (R147, R148): to DOWN; from TRAIN, CAL, CONFIG and UP the cause is SOFTWARE; a soft reset sends no IMM frames. -/
def linkToDown (k : Nat) (imm : Bool) : Act :=
  .dyn fun c =>
    let old := c.lstate k
    when (old != 0)
      (seqs [leaveUp k imm, linkTo k 0, when (old != 5) (put (pgLLP k) Reg.LLP.LINK_STAT_FAULT_CAUSE lcSOFTWARE),
        put (pgLLP k) Reg.LLP.LINK_STAT_RX_LOCK 0, put (pgLLP k) Reg.LLP.LINK_STAT_ALIGNED 0, put (pgLLP k) Reg.LLP.LINK_STAT_CAL_OK 0,
        modLink k fun l => { l with rtts := none, cal := none }, dropFault (fLINK k), when (old == 4) (linkLost k)])

/-- A CFG frame is queued in three copies (R145). -/
def cfgWrite (k addr data : Nat) : Act := modLink k fun l => { l with cfg := l.cfg ++ [(addr, data, 3)] }

/-- A calibration starts: a new set of exchanges (R138). -/
def calStart (k : Nat) : Act := modLink k fun l => { l with rtts := some [], cal := none }

/-- Legs of block `k` whose safe state a commit or a reset changes drive the new one at once (R115, R117). -/
def redrive (k : Nat) : Act :=
  .dyn fun c =>
    let legs := (legsOf k).filterMap fun n => match c.forced n with
      | some (r, s) => if (c.leg n).s0 = s ∧ (c.fld (pgLEG n) Reg.LEG.LEG_STAT_STATE = s.code ∨ (c.leg n).gates ≠ []) then none else some (n, r, s)
      | none => none
    seqs [each legs fun e => seize e.1 e.2.1 e.2.2, immSend k (legs.map fun e => (e.1, e.2.2)), refreshBlk k]

end Sys2Proof.Machine
end

