-- ==== Sys2Proof/Machine/LegCells.lean ====
section
/-! DEFINITION. The commands of the leg cells: edge entries, close deadlines, gate edges, the safe state, the Shutter and REARM (Chapter 4). -/

namespace Sys2Proof.Machine

open Sys2Proof

/-- The full tick of an entry: the value with bits [31:0] equal to TIME_LO in the range from the arrival − 2^31 to the arrival + 2^31 − 1 (R97). -/
def fullTick (arrival lo : Nat) : Int :=
  let d : Int := ((lo : Int) - arrival) % (2 ^ 32 : Int)
  if d < 2 ^ 31 then arrival + d else arrival + d - 2 ^ 32

/-- EARLIEST of the frame that starts at `b`: the value fixed at the previous close deadline, or before it the active one; none when the frame's close deadline has passed (R99). -/
def Chip.earliestOf (c : Chip) (k b : Nat) : Option Nat :=
  match (c.blk k).next with
  | some (nb, e) => if b < nb then none else if nb = b then some e else some (c.act (pgLead k) Reg.LEGL.EARLIEST)
  | none => some (c.act (pgLead k) Reg.LEGL.EARLIEST)

/-- The pattern of the frame that starts at `b`. -/
def BlkSt.pattern (b : BlkSt) (bound : Nat) : Pattern :=
  (b.pats.find? fun p => p.bound == bound).getD ⟨bound, [], false, none⟩

/-- Block state with a pattern replaced. -/
def BlkSt.setPattern (b : BlkSt) (p : Pattern) : BlkSt :=
  { b with pats := (b.pats.filter fun q => q.bound != p.bound) ++ [p] }

/-- Outcome of an entry (Table 4-3). -/
inductive EntryOut
  | late
  | invalid (cause : Nat)
  | closes
  | append (leg : Nat) (e : LegEdge)
  | ignored
  deriving DecidableEq, Repr

/-- Target state of an edge KIND (Table 4-2). -/
def kindState (kind : Nat) : LegState := if kind = 1 then .high else if kind = 2 then .low else .off

/-- Classification of an entry whose full tick is `t`, in the frame that starts at `b` with period `p` (Table 4-3, R100). -/
def Chip.classify (c : Chip) (k : Nat) (arrival t b p : Int) (w1 : Word) (pat : Pattern) (earliest : Nat) : EntryOut :=
  let kind := w1.bits 4 3
  let leg := w1.bits 8 2
  let fine := w1.bits 0 3
  if arrival ≥ b + earliest - 736 ∨ pat.closed then .late
  else if arrival < b - p then .invalid 2
  else if w1 &&& 0xFFFFFC88#32 ≠ 0 ∨ kind ≥ 4 ∨ (kind = 0 ∧ (fine ≠ 0 ∨ leg ≠ 0)) then .invalid 4
  else if kind = 0 then (if t = b then .closes else .invalid 4)
  else if pat.cause.isSome then .ignored
  else if t < b + earliest then .invalid 1
  else if !c.en (pgLEG (4 * k + leg)) then .invalid 5
  else
    let time := t.toNat * 8 + fine
    let mine := pat.edges.filter fun e => e.1 == leg
    if mine.any fun e => decide (time < e.2.t) then .invalid 3
    else if 128 ≤ mine.length then .invalid 6
    else .append leg ⟨time, kindState kind⟩

/-- An entry arrives at the edge port of block `k` from a lane of Quay `q` (R33, R96, R100, R119). While SHUTTER_HOLD holds an ARMED block no late entry counts (R116). -/
def edgePort (q : Quay) (lane k : Nat) (w0 w1 : Word) : Act :=
  .dyn fun c =>
    let lead := pgLead k
    if c.owner ≠ some q ∨ c.isolated 2 then .skip
    else if lane ≠ c.act lead Reg.LEGL.BLK_CFG_LANE then record lead 1 0x15 c.t w0.toNat lane
    else if c.bstate k = 0 ∨ c.bstate k = 4 then bump lead Reg.LEGL.LATE_CNT
    else
      let g := c.fgOf lead
      let p : Int := c.fgPeriod g
      let last : Int := c.fgLast g
      let t := fullTick c.t w0.toNat
      let b := last + (t - last) / p * p
      let pat := (c.blk k).pattern b.toNat
      let bad := fun cause => modBlk k fun s => s.setPattern (if pat.cause.isSome then pat else { pat with cause := some cause })
      match (match c.earliestOf k b.toNat with | some e => c.classify k c.t t b p w1 pat e | none => .late) with
      | .late => when (c.bstate k != 1 || !c.flag lead Reg.LEGL.BLK_STAT_SHUTTER_HOLD)
          (seqs [bump lead Reg.LEGL.LATE_CNT, evt lead 12, record lead 1 0x14 c.t w0.toNat w1.toNat])
      | .invalid cause => bad cause
      | .closes => modBlk k fun s => s.setPattern { pat with closed := true }
      | .append leg e => modBlk k fun s => s.setPattern { pat with edges := pat.edges ++ [(leg, e)] }
      | .ignored => .skip

/-- Band that the temperature page TSN[2] assigns to leg `n` (R177). -/
def Chip.tsnBand (c : Chip) (n : Nat) : Nat := c.fld ⟨.tsn, 2⟩ Reg.TSN.NTC_STAT_BAND (n / 4) / 4 ^ (n % 4) % 4

/-- Band that governs leg `n` (R112): its own, or the highest among the enabled legs of its block. -/
def Chip.governBand (c : Chip) (n : Nat) : Nat :=
  if c.actFlag (pgLEG n) Reg.LEG.LEG_CFG_BAND_SRC then
    ((legsOf (n / 4)).map fun m => if c.en (pgLEG m) then c.tsnBand m else 0).foldl Nat.max 0
  else c.tsnBand n

/-- Leg `n` takes the band that governs its shaping, at a close deadline (R105, R112, R177). -/
def takeBand (n stamp : Nat) : Act :=
  .dyn fun c =>
    let old := c.fld (pgLEG n) Reg.LEG.LEG_STAT_BAND
    let new := c.governBand n
    when (old != new)
      (seqs [put (pgLEG n) Reg.LEG.LEG_STAT_BAND new, evt (pgLEG n) 4, record (pgLEG n) 0 0x05 stamp old new])

/-- The list of leg `n` is shaped, its gate edges placed and handed to the port, with counts and records stamped at C_F (R105 to R113). A pair withdrawn under R111 across patterns leaves the port and EDGE_CNT again (log entry 41). `fresh` when the list comes from a valid pattern of the frame at `b`. -/
def applyLeg (n b stamp : Nat) (fresh : Bool) (list : List LegEdge) : Act :=
  .dyn fun c =>
    let p := pgLEG n
    let st := c.leg n
    let band := c.fld p Reg.LEG.LEG_STAT_BAND
    let r := shape (8 * c.act p Reg.LEG.MIN_PULSE) st.tl st.s0 list
    let g := placeGates (c.act p Reg.LEG.DT_HL band) (c.act p Reg.LEG.DT_LH band) st.s0 (c.gatePlan n) r.edges
    let gone := st.gates.filter fun e => !g.edges.contains e
    let come := g.edges.filter fun e => !st.gates.contains e
    let tail := r.edges.getLast?
    let code := fun (e : LegEdge) => e.t % 8 + 16 * e.state.kind
    seqs [
      when (!r.collide.isEmpty) (.seq (bump p Reg.LEG.COLLIDE_CNT r.collide.length) (evt p 0)),
      each r.collide fun e => record p 0 0x01 stamp (e.t / 8) (code e),
      when (r.noop != 0) (bump p Reg.LEG.NOOP_CNT r.noop),
      when (!r.minpulse.isEmpty) (.seq (bump p Reg.LEG.MINPULSE_CNT r.minpulse.length) (evt p 1)),
      each r.minpulse fun e => record p 0 0x02 stamp (e.1.t / 8) (e.2 / 8),
      when (!r.stretch.isEmpty) (.seq (bump p Reg.LEG.STRETCH_CNT r.stretch.length) (evt p 2)),
      each r.stretch fun e => record p 0 0x03 stamp (e.1.t / 8) e.2,
      interlocked n stamp g.log,
      when fresh (.seq (put p Reg.LEG.PAT_FILL list.length) (putMax p Reg.LEG.PAT_PEAK list.length)),
      (match tail with
        | some e => .seq (putWide p Reg.LEG.LAST_EDGE_LO Reg.LEG.LAST_EDGE_HI (e.t / 8)) (put p Reg.LEG.LAST_EDGE_FINE (e.t % 8))
        | none => .skip),
      put p Reg.LEG.EDGE_CNT (c.fld p Reg.LEG.EDGE_CNT + 2 ^ 32 + come.length - gone.length),
      modLeg n fun s =>
        { s with applied := r.edges, stored := if fresh then r.edges.map fun e => { e with t := e.t - 8 * b } else s.stored,
                 s0 := (tail.map LegEdge.state).getD s.s0, tl := (tail.map LegEdge.t).getD s.tl, gates := g.edges },
      when (c.linkUp (n / 4))
        (modLink (n / 4) fun l => { l with
          edges := l.edges.filter (fun e => !(e.1 == n % 4 && gone.contains e.2.1)) ++ come.map fun e => (n % 4, e, c.drv n) })]

/-- Leg `n` follows the list of the frame at `b`: no source of rank 1 to 4 drives it, or only its EN = 1 is still to take effect, at `b` (R52, R114). -/
def Chip.follows (c : Chip) (n b : Nat) : Bool :=
  let p := pgLEG n
  (c.forced n).isNone ||
    ((c.pst p).enWait.any (fun e => e.1 == 1) && c.fgNext (c.fgOf p) == b && c.on (pgLead (n / 4)) && n % 4 != 0 &&
      (c.bstate (n / 4) == 2 || c.bstate (n / 4) == 3) && !c.flag p Reg.LEG.LEG_STAT_DESAT_OFF && !c.flag p Reg.HDR.PAGE_STAT_SAFE)

/-- The lists of a frame apply: `list n` to each leg that follows it, and an empty one to every other leg (R102, R103). -/
def applyLists (k b cf : Nat) (fresh : Bool) (list : Nat → List LegEdge) : Act :=
  .dyn fun c => each (legsOf k) fun n =>
    if c.follows n b then applyLeg n b cf fresh (list n)
    else modLeg n fun s => { s with applied := [], stored := if fresh then [] else s.stored }

/-- The source of the frame at `b` takes over at the later of B_F and C_F (R497). -/
def planTakeover (k tick rank : Nat) : Act := modBlk k fun s => { s with takeover := some (tick, rank) }

/-- Valid pattern of the frame applies. -/
def applyPattern (k b cf : Nat) (pat : Pattern) : Act :=
  .seq (applyLists k b cf true fun n => (pat.edges.filter fun e => e.1 == n % 4).map Prod.snd) (planTakeover k (Nat.max b cf) 6)

/-- The held list applies: what the block applied in frame F − 1, moved by the period (R102). -/
def applyHeld (k b cf : Nat) : Act :=
  .dyn fun c =>
    let p8 := 8 * c.fgPeriod (c.fgOf (pgLead k))
    seqs [applyLists k b cf false fun n => (c.leg n).applied.map fun e => { e with t := e.t + p8 },
      bump (pgLead k) Reg.LEGL.HELD_CNT, evt (pgLead k) 8, planTakeover k (Nat.max b cf) 5]

/-- The repeated list applies at the offsets of the frame in which the last valid pattern applied (R103). -/
def applyRepeat (k b cf : Nat) : Act :=
  .dyn fun c =>
    .seq (applyLists k b cf false fun n => (c.leg n).stored.map fun e => { e with t := e.t + 8 * b })
      (planTakeover k (Nat.max b cf) 6)

/-- Number of the frame that starts at `b`. -/
def Chip.frameNo (c : Chip) (g b : Nat) : Nat :=
  (((c.fgCount g : Int) + ((b : Int) - c.fgLast g) / (c.fgPeriod g : Int) - (if c.tideSt.firsts.contains g then 1 else 0)) % (2 ^ 32 : Int)).toNat

/-- The decision of R102 for the frame at `b`, at its close deadline `cf`. -/
def closeDecision (k b cf : Nat) : Act :=
  .dyn fun c =>
    let lead := pgLead k
    let pat := (c.blk k).pattern b
    let ok := pat.closed && pat.cause.isNone
    let st := c.bstate k
    let hold := c.flag lead Reg.LEGL.BLK_STAT_SWITCH_HOLD
    let frame := c.frameNo (c.fgOf lead) b
    let cause := if pat.closed then pat.cause.getD 0 else 0
    let late := bump lead Reg.LEGL.LATE_CNT (pat.edges.length + if pat.closed then 1 else 0)
    if st = 0 ∨ st = 4 then late
    else if st = 1 then
      when (ok && !c.flag lead Reg.LEGL.BLK_STAT_SHUTTER_HOLD)
        (seqs [put lead Reg.LEGL.BLK_STAT_BSTATE 2, put lead Reg.LEGL.BLK_STAT_MISS_RUN 0,
          modBlk k fun s => { s with imposed := false }, refreshBlk k, applyPattern k b cf pat])
    else if c.actFlag lead Reg.LEGL.BLK_CFG_MODE && !pat.closed then applyRepeat k b cf
    else if ok then
      seqs [applyPattern k b cf pat, put lead Reg.LEGL.BLK_STAT_BSTATE 2, put lead Reg.LEGL.BLK_STAT_MISS_RUN 0,
        when (hold && c.owner.isSome) (endSwitchHold k)]
    else if hold then
      .seq (applyHeld k b cf)
        (if c.act lead Reg.LEGL.BLK_CFG_SW_HOLD_MAX < c.fld lead Reg.LEGL.BLK_STAT_SW_HELD + 1 then enterSafe k scSWITCH
         else seqs [bump lead Reg.LEGL.BLK_STAT_SW_HELD,
            record lead 1 0x11 cf (c.fld lead Reg.LEGL.BLK_STAT_SW_HELD + 1) frame])
    else
      seqs [applyHeld k b cf, evt lead 7, bump lead Reg.LEGL.MISS_CNT, put lead Reg.LEGL.LAST_MISS_CAUSE cause,
        put lead Reg.LEGL.LAST_MISS_FRAME frame, record lead 1 0x10 cf cause frame,
        if 1 ≤ c.fld lead Reg.LEGL.BLK_STAT_MISS_RUN then enterSafe k scMISS
        else .seq (put lead Reg.LEGL.BLK_STAT_MISS_RUN 1) (put lead Reg.LEGL.BLK_STAT_BSTATE 3)]

/-- The oldest entry on its way from a lane to a leg block reaches the edge port; entries of one lane reach a block in the order of issue (R187). -/
def entryArrive (q : Quay) (lane k : Nat) (w0 w1 : Word) : Act :=
  .dyn fun c =>
    match c.outbox.find? fun e => e.q == q && e.lane == lane && e.block == k with
    | some e => when (e == ⟨q, lane, k, w0, w1⟩) (.seq (modOutbox fun o => o.erase e) (edgePort q lane k w0 w1))
    | none => .skip

/-- EDGE_ENTRY: an entry that left a lane reaches the edge port (R100, R187). -/
def execEdgeEntry (dt : Nat) (q : Quay) (lane : Fin 8) (k : Fin 24) (w0 w1 : Word) (s : State) : Host.Outcome State Fault Refusal :=
  s.act dt (entryArrive q lane k w0 w1)

/-- CLOSE_ENTRY: an entry of KIND 0, with the other bits of word 1 as written. -/
def execCloseEntry (dt : Nat) (q : Quay) (lane : Fin 8) (k : Fin 24) (w0 w1 : Word) (s : State) : Host.Outcome State Fault Refusal :=
  s.act dt (entryArrive q lane k w0 (w1.setBits 4 3 0))

/-- Boundary and EARLIEST of the close deadline that comes next: while the block is STOPPED, of the first frame whose deadline lies ahead (R99, R102). -/
def Chip.nextDeadline (c : Chip) (k : Nat) : Nat × Nat := (c.blk k).next.getD (c.firstDeadline k)

/-- The generator runs and every boundary of it up to the block's next close deadline has been reached, so that the sets and bands in force then are in place (R99, R105). -/
def Chip.deadlineNear (c : Chip) (k : Nat) : Bool :=
  let g := c.fgOf (pgLead k)
  c.tideOn && c.fgOn g && decide ((c.nextDeadline k).1 + (c.nextDeadline k).2 < c.fgNext g + 736)

/-- CLOSE_DEADLINE: at C_F the leg cells take their bands, the block decides (R102, R177), the set that governs the legs is fixed (R105), and so is EARLIEST of the next frame (R99). -/
def execCloseDeadline (dt : Nat) (k : Fin 24) (s : State) : Host.Outcome State Fault Refusal :=
  s.act dt (whenC (fun c => c.deadlineNear k) (.dyn fun c =>
    let b := (c.nextDeadline k).1
    let cf := b + (c.nextDeadline k).2 - 736
    seqs [atTick cf, each (legsOf k) fun n => takeBand n cf,
      .dyn fun c => each (legsOf k) fun n => modLeg n fun l => { l with gov := some (c.act (pgLEG n) Reg.LEG.DT_HL (c.fld (pgLEG n) Reg.LEG.LEG_STAT_BAND)) },
      closeDecision k b cf,
      .dyn fun c => modBlk k fun s =>
        { s with
          pats := s.pats.filter fun x => decide (b < x.bound),
          next := s.next.map fun _ => (b + c.fgPeriod (c.fgOf (pgLead k)), c.act (pgLead k) Reg.LEGL.EARLIEST) }]))

/-- PATTERN_TAKEOVER: SOURCE of each leg that no higher rank holds changes (R497). -/
def execPatternTakeover (dt : Nat) (k : Fin 24) (s : State) : Host.Outcome State Fault Refusal :=
  s.act dt (.dyn fun c =>
    match (c.blk k).takeover with
    | none => .skip
    | some (tick, rank) =>
      seqs [atTick tick, modBlk k fun s => { s with takeover := none, rank := rank },
        .dyn fun c => each ((legsOf k).filter fun n => (c.forced n).isNone) fun n => setSource n rank tick])

/-- GATE_EDGE_DUE: the next gate edge of the leg reaches its tick and fine step; a leg that a source of rank 1 to 4 drives follows only an edge of that source (R114). -/
def execGateEdgeDue (dt : Nat) (n : Fin 96) (s : State) : Host.Outcome State Fault Refusal :=
  s.act dt (.dyn fun c =>
    match (c.leg n).gates with
    | [] => .skip
    | e :: rest =>
      let h := c.flag (pgLEG n) Reg.LEG.LEG_STAT_GATE_H
      let l := c.flag (pgLEG n) Reg.LEG.LEG_STAT_GATE_L
      let obeys := match c.forced n with | some (_, st) => st == .low && !e.high && e.on | none => true
      seqs [atTick (e.t / 8), modLeg n fun s => { s with gates := rest },
        when obeys (.seq (if e.high then setGates n e.on (l && !e.on) else setGates n (h && !e.on) e.on)
          (when (!e.on) (modLeg n fun s => if e.high then { s with offH := e.t } else { s with offL := e.t })))])

/-- PATTERN_ECC_ERROR (Table 4-7). -/
def execPatternEccError (dt : Nat) (k : Fin 24) (s : State) : Host.Outcome State Fault Refusal :=
  s.act dt (.seq (bump (pgFLT 2) Reg.FLTR.UNCORR_CNT) (enterSafe k scPATTERN_ECC))

/-- BLOCK_ENTER_SAFE: the block safe reaction on a fault of Table 4-7, named by its SAFE_CAUSE (R20, R121). -/
def execBlockEnterSafe (dt : Nat) (k : Fin 24) (cause : Fin 7) (s : State) : Host.Outcome State Fault Refusal :=
  s.act dt (when (cause.val != 0) (enterSafe k cause))

/-- SHUTTER_CLOSE_REPORT (R116). -/
def execShutterCloseReport (dt : Nat) (k : Fin 24) (s : State) : Host.Outcome State Fault Refusal :=
  s.act dt (shutterClosed k)

/-- REARM: a SAFE or Shutter-held block becomes ARMED, or REARM_REFUSED is recorded (R118, R119, R498). Where EN reads 1 and has not taken effect yet, the block enters ARMED as it does (R52; log entry 42). SAFE_CAUSE and MISS_RUN keep their values, since only lead EN = 0 returns them to 0 (log entry 43). -/
def execRearm (dt : Nat) (src : Src) (k : Fin 24) (s : State) : Host.Outcome State Fault Refusal :=
  s.act dt (onPage src (pgLead k) 0x108 true (.dyn fun c =>
    let lead := pgLead k
    if c.en lead && !c.flag lead Reg.LEGL.BLK_STAT_SHUTTER_CLOSED &&
        (c.bstate k == 4 || c.flag lead Reg.LEGL.BLK_STAT_SHUTTER_HOLD) &&
        c.fld (pgLLP k) Reg.LLP.LINK_STAT_DESAT == 0 then
      seqs [each (legsOf k) fun n => putFlag (pgLEG n) Reg.LEG.LEG_STAT_DESAT_OFF false,
        when (c.on lead) (put lead Reg.LEGL.BLK_STAT_BSTATE 1), putFlag lead Reg.LEGL.BLK_STAT_SHUTTER_HOLD false,
        when (c.flag lead Reg.LEGL.BLK_STAT_SHUTTER_HOLD) (modBlk k fun b => { b with imposed := true }),
        dropFault (fLEG_BLK k), evt lead 13, record lead 1 0x13 c.t 0 0, refreshBlk k]
    else err lead 0x43 src.code))

end Sys2Proof.Machine
end

