-- ==== Sys2Proof/Machine/LegLink.lean ====
section
/-! DEFINITION. The commands of the leg-link ports: link states, calibration, downlink frames and uplink frames (Chapter 5). -/

namespace Sys2Proof.Machine

open Sys2Proof

/-- An edge has been handed to the port: one that a pattern still to be decided could withdraw is handed over at the next close deadline, at least 736 ticks before its tick (R111, R113; log entry 41). -/
def Chip.handed (c : Chip) (k : Nat) (e : GateEdge) : Bool :=
  match (c.blk k).next with
  | some (b, earliest) => decide (e.t < 8 * (b + earliest))
  | none => true

/-- The gate edge that launches next: earliest in fine steps, then lowest leg (R134). -/
def Chip.nextEdge (c : Chip) (k : Nat) : Option (Nat × GateEdge × Nat) :=
  ((c.link k).edges.filter fun e => c.handed k e.2.1).foldl (fun best e =>
    match best with
    | none => some e
    | some b => if e.2.1.t < b.2.1.t ∨ (e.2.1.t = b.2.1.t ∧ e.1 < b.1) then some e else best) none

/-- Edges of a leg launched and not yet due. -/
def LinkSt.outstanding (l : LinkSt) (leg now8 : Nat) : Nat := (l.outst.filter fun e => e.1 == leg && decide (now8 < e.2)).length

/-- An edge may launch now: it is next, not earlier than its tick − 524,288, and within DEPTH (R134). -/
def Chip.launchable (c : Chip) (k : Nat) : Option (Nat × GateEdge × Nat) :=
  match c.nextEdge k with
  | some e =>
    if e.2.1.t / 8 ≤ c.t + 524288 ∧ (c.link k).outstanding e.1 (8 * c.t) < c.fld (pgLLP k) Reg.LLP.DRV_CAPS1_DEPTH then some e else none
  | none => none

/-- A frame that starts only in a slot in which no edge waits to launch; a SYNC frame that is due goes first (R137, R145). `fine`: fine step of the first bit where the slots begin with it. -/
def sendQuiet (k kchar payload fine : Nat) (k1 : Act) : Act :=
  .dyn fun c =>
    .seq (atTick (c.plainAt k (8 * c.t + fine) / 8))
      (whenC (fun c => (c.launchable k).isNone && c.portOn k) (.dyn fun c1 =>
        let now := 8 * c.t + fine
        seqs [when (c1.syncDue k ((c1.link k).slotAt (c1.frame8 k) now)) (sendSync k now), sendPlain k kchar payload now, k1,
          .dyn fun c => atTick (((c.link k).sent.map SentFrame.at8).getD 0 / 8)]))

/-- GATE of an EDGE frame (Table 5-3). -/
def GateEdge.code (e : GateEdge) : Nat := (if e.on then 2 else 0) + (if e.high then 0 else 1)

/-- Payload of an EDGE frame (Table 5-3). -/
def edgePayload (leg : Nat) (e : GateEdge) (drv eseq : Nat) : Nat :=
  e.t / 8 % 2 ^ 20 + e.t % 8 * 2 ^ 20 + e.code * 2 ^ 23 + leg * 2 ^ 25 + drv % 4 * 2 ^ 27 + eseq % 4 * 2 ^ 29

/-- LINK_TRAIN (R147). -/
def execLinkTrain (dt : Nat) (src : Src) (k : Fin 24) (s : State) : Host.Outcome State Fault Refusal :=
  s.act dt (onPage src (pgLLP k) 0x04C true (.dyn fun c =>
    if (c.lstate k == 0 || c.lstate k == 5) && c.on (pgLLP k) then
      seqs [linkTo k 1, dropFault (fLINK k), putFlag (pgLLP k) Reg.LLP.LINK_STAT_CAPS_OK false,
        putFlag (pgLLP k) Reg.LLP.LINK_STAT_CAL_OK false, modLink k fun l => { l with caps := [], rtts := none, cal := none }]
    else err (pgLLP k) 0x42 src.code))

/-- LINK_DOWN (R147, R148). -/
def execLinkDown (dt : Nat) (src : Src) (k : Fin 24) (s : State) : Host.Outcome State Fault Refusal :=
  s.act dt (onPage src (pgLLP k) 0x04C true (linkToDown k true))

/-- LINK_DESAT_CLR: CFG DESAT_CLR for every latch set; DESAT_CLR reads 1 until its copies are sent (R145, Table 2-3). -/
def execLinkDesatClr (dt : Nat) (src : Src) (k : Fin 24) (s : State) : Host.Outcome State Fault Refusal :=
  s.act dt (onPage src (pgLLP k) 0x04C true (.dyn fun c =>
    when (c.linkUp k && c.fld (pgLLP k) Reg.LLP.LINK_STAT_DESAT != 0) (cfgWrite k 0x03 (c.fld (pgLLP k) Reg.LLP.LINK_STAT_DESAT))))

/-- LINK_RECAL: a calibration starts at once while the link is UP; RECAL reads 1 until it completes (R139, Table 2-3). -/
def execLinkRecal (dt : Nat) (src : Src) (k : Fin 24) (s : State) : Host.Outcome State Fault Refusal :=
  s.act dt (onPage src (pgLLP k) 0x04C true
    (whenC (fun c => c.linkUp k) (.seq (calStart k) (putFlag (pgLLP k) Reg.LLP.LINK_CTRL_RECAL true))))

/-- A value of the CAPS received since the entry to TRAIN (Table 5-7). -/
def LinkSt.cap (l : LinkSt) (i : Nat) : Option Nat := (l.caps.find? fun e => e.1 == i).map Prod.snd

/-- TRAIN_COMPLETE: a locked and aligned receiver with valid CAPS (R147, R149). DESIGN CHOICE: DRV_CAPS0 to DRV_CAPS2 take the received values here, when the CAPS are accepted, and hold those of the training before until then (R151; log entry 110). -/
def execTrainComplete (dt : Nat) (k : Fin 24) (s : State) : Host.Outcome State Fault Refusal :=
  s.act dt (.dyn fun c =>
    let p := pgLLP k
    let l := c.link k
    match l.cap 0, l.cap 1, l.cap 2, l.cap 3, l.cap 4, l.cap 5 with
    | some ver, some legs, some depth, some rates, some vendor, some board =>
      when (c.lstate k == 1 && decide (c.t ≤ l.since + 25000000) && ver == 1 && rates.testBit (c.act p Reg.LLP.LINK_CFG_RATE))
        (seqs [put p Reg.LLP.LINK_STAT_RX_LOCK 1, put p Reg.LLP.LINK_STAT_ALIGNED 1,
          put p Reg.LLP.DRV_CAPS0_PROTO_VER ver, put p Reg.LLP.DRV_CAPS0_LEGS legs, put p Reg.LLP.DRV_CAPS1_DEPTH depth,
          put p Reg.LLP.DRV_CAPS1_RATES rates, put p Reg.LLP.DRV_CAPS2_VENDOR vendor, put p Reg.LLP.DRV_CAPS2_BOARD board,
          putFlag p Reg.LLP.LINK_STAT_CAPS_OK true,
          if (legsOf k).any fun n => decide (legs ≤ n % 4) && c.en (pgLEG n) then linkFault k lcTRAIN_FAIL
          else .seq (linkTo k 2) (calStart k)])
    | _, _, _, _, _, _ => .skip)

/-- TRAIN_TIMEOUT: TRAIN not completed in 10 ms, or CONFIG not completed in 1 ms (Table 5-9). -/
def execTrainTimeout (dt : Nat) (k : Fin 24) (s : State) : Host.Outcome State Fault Refusal :=
  s.act dt (.dyn fun c =>
    if c.lstate k = 1 then .seq (atTick ((c.link k).since + 25000000)) (linkFault k lcTRAIN_FAIL)
    else if c.lstate k = 3 then .seq (atTick ((c.link k).since + 2500000)) (linkFault k lcTRAIN_FAIL)
    else .skip)

/-- CAL_SEND: a CAL frame with a new TAG in a slot where no edge frame waits (R138, R145); where it is the first frame since the downlink left electrical idle, `fine` is the fine step of its first bit, from which the slots run. -/
def execCalSend (dt : Nat) (k : Fin 24) (fine : Fin 8) (s : State) : Host.Outcome State Fault Refusal :=
  s.act dt (.dyn fun c =>
    let l := c.link k
    match l.rtts with
    | some r =>
      when ((c.lstate k == 2 || c.lstate k == 4) && l.cal.isNone && r.length < 2 ^ c.act (pgLLP k) Reg.LLP.CAL_CFG_CAL_LOG2N)
        (sendQuiet k kCAL l.tag fine
          (modLink k fun l => { l with cal := some (l.tag, (l.sent.map SentFrame.at8).getD 0), tag := (l.tag + 1) % 16 }))
    | none => .skip)

/-- CAL_ECHO_TIMEOUT: no valid ECHO within 4,096 ticks; the exchange is repeated with a new TAG (R138). -/
def execCalEchoTimeout (dt : Nat) (k : Fin 24) (s : State) : Host.Outcome State Fault Refusal :=
  s.act dt (.dyn fun c =>
    match (c.link k).cal with
    | some (_, t0) => .seq (atTick (t0 / 8 + 4096)) (modLink k fun l => { l with cal := none })
    | none => .skip)

/-- CAL_COMPLETE: DOWN_DELAY from the exchanges (R138), judged in training and while UP (R139). -/
def execCalComplete (dt : Nat) (k : Fin 24) (s : State) : Host.Outcome State Fault Refusal :=
  s.act dt (.dyn fun c =>
    let p := pgLLP k
    let n := c.act p Reg.LLP.CAL_CFG_CAL_LOG2N
    match (c.link k).rtts with
    | some r =>
      let new := (r.sum + 2 ^ n) / 2 ^ (n + 1)
      let old := c.fld p Reg.LLP.DOWN_DELAY
      let diff := if old ≤ new then new - old else old - new
      let tol := c.act p Reg.LLP.CAL_CFG_CAL_TOL
      let fin := .seq (modLink k fun l => { l with rtts := none, cal := none, calAt := c.t }) (putFlag p Reg.LLP.LINK_CTRL_RECAL false)
      let set := seqs [put p Reg.LLP.DOWN_DELAY new, putFlag p Reg.LLP.LINK_STAT_CAL_OK true, evt p 5,
        record p 0 0x06 c.t (r.getLastD 0) new]
      if r.length < 2 ^ n then .skip
      else if c.lstate k = 2 then
        .seq fin (if 400 < new then linkFault k lcTRAIN_FAIL
          else seqs [set, linkTo k 3, cfgWrite k 0x01 (c.act p Reg.LLP.LINK_CFG_TIMEOUT_MODE),
            cfgWrite k 0x02 (c.act p Reg.LLP.VCE_CFG), cfgWrite k 0x04 1])
      else if c.lstate k = 4 then
        seqs [fin, set, when (tol < diff) (.seq (evt p 6) (record p 0 0x07 c.t new old)),
          when (2 * tol < diff) (linkFault k lcCAL_DRIFT)]
      else .skip
    | none => .skip)

/-- CAL_PERIOD_EXPIRE: a recalibration starts CAL_PERIOD ms after the last one (R139). DESIGN CHOICE: the period counts from the end of the last calibration, or from the entry to UP (log entry 109). -/
def execCalPeriodExpire (dt : Nat) (k : Fin 24) (s : State) : Host.Outcome State Fault Refusal :=
  s.act dt (.dyn fun c =>
    let ms := c.act (pgLLP k) Reg.LLP.CAL_CFG_CAL_PERIOD
    when (c.linkUp k && ms != 0) (.seq (atTick ((c.link k).calAt + 2500000 * ms)) (calStart k)))

/-- CFG_SEND: one copy of the oldest CFG frame, in a slot where no edge frame waits (R145). -/
def execCfgSend (dt : Nat) (k : Fin 24) (s : State) : Host.Outcome State Fault Refusal :=
  s.act dt (.dyn fun c =>
    match (c.link k).cfg with
    | (a, d, n) :: rest =>
      when (c.lstate k == 3 || c.lstate k == 4)
        (sendQuiet k kCFG (a + 2 ^ 8 * d) 0 (modLink k fun l => { l with cfg := if n ≤ 1 then rest else (a, d, n - 1) :: rest }))
    | [] => .skip)

/-- The latest start of an EDGE frame, in fine steps: U and 170 ticks before its tick (R135). -/
def Chip.lastStart (c : Chip) (k : Nat) (e : GateEdge) : Int := 8 * ((e.t / 8 : Nat) : Int) - 1360 - c.frame8 k

/-- The link faults with LATE once the edge can no longer start (R135). -/
def edgeLate (k : Nat) (e : GateEdge) : Act :=
  .dyn fun c => .seq (atTick ((c.lastStart k e / 8).toNat + 1)) (linkFault k lcLATE)

/-- EDGE_FRAME_SEND: the next gate edge launches in the first free slot, or the link faults with LATE when it cannot start in time (R134, R135). -/
def execEdgeFrameSend (dt : Nat) (k : Fin 24) (s : State) : Host.Outcome State Fault Refusal :=
  s.act dt (.dyn fun c =>
    let p := pgLLP k
    match c.launchable k with
    | some (leg, e, drv) =>
      let start := c.plainAt k (8 * c.t)
      if !c.linkUp k || !c.portOn k then .skip
      else if c.lastStart k e < start then edgeLate k e
      else
        let q := ((c.link k).eseq.find? fun x => x.1 == leg).map Prod.snd |>.getD 0
        let arrival := start + c.frame8 k + c.fld p Reg.LLP.DOWN_DELAY
        seqs [sendPlain k kEDGE (edgePayload leg e drv q) (8 * c.t), atTick (start / 8),
          modLink k fun l =>
            { l with edges := l.edges.erase (leg, e, drv),
                     outst := (l.outst.filter fun x => decide (8 * c.t < x.2)) ++ [(leg, e.t)],
                     eseq := (leg, (q + 1) % 4) :: l.eseq.filter fun x => x.1 != leg },
          bumpWrap p Reg.LLP.TX_EDGE_CNT,
          .dyn fun c => putMax p Reg.LLP.OUTST_PEAK ((c.link k).outstanding leg (8 * c.t)),
          putMin p Reg.LLP.SLACK_MIN ((8 * (e.t / 8) - arrival) / 8 - 100)]
    | none => .skip)

/-- EDGE_LATE: an edge that waits and cannot start on the wire by its tick − (170 + U), because frames before it hold the wire or DEPTH holds it back (R134, R135). -/
def execEdgeLate (dt : Nat) (k : Fin 24) (s : State) : Host.Outcome State Fault Refusal :=
  s.act dt (.dyn fun c =>
    match c.nextEdge k with
    | some (_, e, _) =>
      when (c.linkUp k && decide (e.t / 8 ≤ c.t + 524288) && ((c.launchable k).isNone || decide (c.lastStart k e < c.plainAt k (8 * c.t)))) (edgeLate k e)
    | none => .skip)

/-- SYNC_SEND: a SYNC frame in the first slot, 4,096 ticks or more after the start of the previous one, in which no edge frame waits (R137); where it is the first frame since the downlink left electrical idle, `fine` is the fine step of its first bit. -/
def execSyncSend (dt : Nat) (k : Fin 24) (fine : Fin 8) (s : State) : Host.Outcome State Fault Refusal :=
  s.act dt (whenC (fun c => c.syncs k) (.dyn fun c =>
    let from8 := Nat.max (8 * c.t + fine) (8 * ((c.link k).syncAt + 4096))
    .seq (atTick ((c.link k).slotAt (c.frame8 k) from8 / 8)) (whenC (fun c => (c.launchable k).isNone) (sendSync k from8))))

/-- COMMA_SEND: after 63 frames without a comma, an IDLE frame, or a SYNC when due (R130, R137). -/
def execCommaSend (dt : Nat) (k : Fin 24) (s : State) : Host.Outcome State Fault Refusal :=
  s.act dt (.dyn fun c =>
    let now := 8 * c.t
    when (c.portOn k && c.lstate k != 0 && c.lstate k != 5 && decide (63 ≤ (c.link k).gapAt (c.frame8 k) now))
      (.seq (sendComma k now) (atTick ((c.link k).slotAt (c.frame8 k) now / 8))))

/-! ### The uplink -/

/-- K-characters of the uplink (Table 5-5). -/
def kSTATUS : Nat := 0xBC
def kSTATE : Nat := 0x3C
def kNTC : Nat := 0x1C
def kSUPPLY : Nat := 0x5C
def kVCE : Nat := 0xFB
def kECHO : Nat := 0x7C
def kCAPS : Nat := 0x9C

/-- The type and the payload of a valid uplink frame at the running disparity (R128, Table 5-5). -/
def upFrame (rd : Bool) (f : BitVec 60) : Option (Nat × Word) :=
  (decFrame rd f).filter fun e => [kSTATUS, kSTATE, kNTC, kSUPPLY, kVCE, kECHO, kCAPS].contains e.1

/-- The LEG_BLK line of block `k` falls when the condition of its cause has ended (R498). -/
def dropBlkLine (k cause : Nat) : Act :=
  whenC (fun c => c.bstate k == 4 && c.fld (pgLead k) Reg.LEGL.BLK_STAT_SAFE_CAUSE == cause) (dropFault (fLEG_BLK k))

/-- The desaturation flags of an uplink frame reach the leg cells (R118, R140, R142). DESIGN CHOICE: of a leg whose H and L flags come in one frame one DESAT record is written, and it names H (R126; log entry 108). -/
def desatFlags (k desat : Nat) : Act :=
  .dyn fun c =>
    let old := c.fld (pgLLP k) Reg.LLP.LINK_STAT_DESAT
    let hit := (List.range 4).filter fun i => desat / 4 ^ i % 4 != 0 && !c.flag (pgLEG (4 * k + i)) Reg.LEG.LEG_STAT_DESAT_OFF
    seqs [put (pgLLP k) Reg.LLP.LINK_STAT_DESAT desat,
      when (desat ||| old != old) (record (pgLLP k) 0 0x03 c.t desat 0),
      each hit fun i => seqs [putFlag (pgLEG (4 * k + i)) Reg.LEG.LEG_STAT_DESAT_OFF true,
        record (pgLEG (4 * k + i)) 0 0x06 c.t (if desat / 4 ^ i % 2 = 1 then 0 else 1) 0],
      when (!hit.isEmpty) (.seq (enterSafe k scDESAT) (refreshBlk k)),
      when (desat == 0) (dropBlkLine k scDESAT)]

/-- Errors of the last millisecond, with one more now; more than ERR_MAX of them are a fault while UP (Table 5-10). -/
def errRate (k : Nat) : Act :=
  .dyn fun c =>
    let l := (c.link k).errs.filter (fun t => decide (c.t < t + 2500000)) ++ [c.t]
    when (c.linkUp k)
      (.seq (modLink k fun s => { s with errs := l })
        (when (c.act (pgLLP k) Reg.LLP.LINK_CFG_ERR_MAX < l.length) (linkFault k lcERR_RATE)))

/-- An invalid frame is discarded whole and counted (R128, Table 5-10). -/
def invalidFrame (k : Nat) : Act := .seq (bump (pgLLP k) Reg.LLP.ERR_CNT_UP) (errRate k)

/-- A frame arrives from the board: an invalid one is discarded; what every valid one does is DESAT and SUP_FAULT, and the link is heard (R128, R140, R142), and what the type `kind` does besides is `typed` of its payload. A link in use shows its receiver locked and aligned. -/
def uplink (k kind : Nat) (f : BitVec 60) (typed : Word → Act) : Act :=
  .dyn fun c => when (c.portOn k) <|
    .seq (modLink k fun l => { l with rdUp := frameDisparity l.rdUp f })
      (match upFrame (c.link k).rdUp f with
        | none => invalidFrame k
        | some (kc, w) => when (kc == kind)
          (seqs [modLink k fun l => { l with heard := c.t },
            when (c.lstate k != 0 && c.lstate k != 5) (.seq (put (pgLLP k) Reg.LLP.LINK_STAT_RX_LOCK 1) (put (pgLLP k) Reg.LLP.LINK_STAT_ALIGNED 1)),
            put (pgLLP k) Reg.LLP.LINK_STAT_SUP_FAULT (w.bits 8 4), desatFlags k (w.bits 0 8), typed w,
            raiseLevels (pgLLP k) fun c => c.llpLevels k]))

/-- UPLINK_STATUS: the six symbols of a frame, first transmitted bit first. -/
def execUplinkStatus (dt : Nat) (k : Fin 24) (f : BitVec 60) (s : State) : Host.Outcome State Fault Refusal := s.act dt (uplink k kSTATUS f fun _ => .skip)

/-- UPLINK_STATE (Table 5-5): lost edges, faults the board reports, and the step from CONFIG to UP (R147). DESIGN CHOICE: where one frame shows several causes of Table 5-10, FAULT_CAUSE is the first of ERR_RATE, DRV_TIMEOUT, SYNC_ERR and LOST_RATE (R148; log entry 112). -/
def execUplinkState (dt : Nat) (k : Fin 24) (f : BitVec 60) (s : State) : Host.Outcome State Fault Refusal :=
  s.act dt (uplink k kSTATE f (fun w => .dyn fun c =>
    let p := pgLLP k
    let typed := w.bits 12 20
    let lost := w.bits 20 4
    let n := ((List.range 4).filter fun i => lost.testBit i).length
    let seen := w.getLsbD 26
    let syncErr := w.getLsbD 27
    let recent := (c.link k).lost.filter (fun t => decide (c.t < t + 2500000000)) ++ List.replicate n c.t
    seqs [
      when (lost != 0) (seqs [bump p Reg.LLP.LOST_CNT n, evt p 4, record p 0 0x05 c.t lost typed,
        when (c.linkUp k) (modLink k fun l => { l with lost := recent })]),
      when (w.getLsbD 28) (.seq (bump p Reg.LLP.ERR_CNT_DN) (errRate k)),
      whenC (fun c => c.linkUp k) (seqs [
        when seen (whenC (fun c => c.linkUp k) (linkFault k lcDRV_TIMEOUT)),
        when (syncErr && (c.link k).syncErr) (whenC (fun c => c.linkUp k) (linkFault k lcSYNC_ERR)),
        when (lost != 0 && c.act p Reg.LLP.LINK_CFG_LOST_MAX < recent.length) (whenC (fun c => c.linkUp k) (linkFault k lcLOST_RATE))]),
      modLink k fun l => { l with syncErr := syncErr },
      when (c.lstate k == 3 && decide (c.t ≤ (c.link k).since + 2500000) && !seen && w.bits 12 8 == 0)
        (seqs [linkTo k 4, modLink k fun l => { l with eseq := [], heard := c.t, calAt := c.t, errs := [], lost := [] },
          evt p 0,
          record p 0 0x01 c.t (c.fld p Reg.LLP.DOWN_DELAY) (c.act p Reg.LLP.LINK_CFG_RATE), dropBlkLine k scLINK])]))

/-- UPLINK_NTC (Table 5-5). -/
def execUplinkNtc (dt : Nat) (k : Fin 24) (f : BitVec 60) (s : State) : Host.Outcome State Fault Refusal :=
  s.act dt (uplink k kNTC f (fun w => .dyn fun c => modLink k fun l =>
    { l with ntc := (w.bits 12 2, c.t, w.bits 15 12, w.getLsbD 14) :: l.ntc.filter fun e => e.1 != w.bits 12 2 }))

/-- UPLINK_SUPPLY (Table 5-5). -/
def execUplinkSupply (dt : Nat) (k : Fin 24) (f : BitVec 60) (s : State) : Host.Outcome State Fault Refusal :=
  s.act dt (uplink k kSUPPLY f (fun w => .dyn fun c =>
    let key := 2 * w.bits 12 2 + w.bits 14 1
    let flags := w.bits 25 5
    let old := ((c.link k).sup.find? fun e => e.1 == key).map (fun e => e.2.2) |>.getD 0
    .seq (modLink k fun l => { l with sup := (key, w.bits 15 10, flags) :: l.sup.filter fun e => e.1 != key })
      (when (flags ||| old != old) (record (pgLLP k) 0 0x04 c.t (w.bits 12 3) flags))))

/-- UPLINK_VCE (Table 5-5). -/
def execUplinkVce (dt : Nat) (k : Fin 24) (f : BitVec 60) (s : State) : Host.Outcome State Fault Refusal :=
  s.act dt (uplink k kVCE f (fun w => modLink k fun l =>
    let key := 2 * w.bits 12 2 + w.bits 14 1
    { l with vce := (key, w.bits 15 12) :: l.vce.filter fun e => e.1 != key }))

/-- UPLINK_ECHO: one calibration exchange completes; `t1` is the time of the first bit at the receive pin in fine steps (R138). -/
def execUplinkEcho (dt : Nat) (k : Fin 24) (f : BitVec 60) (t1 : Nat) (s : State) : Host.Outcome State Fault Refusal :=
  s.act dt (uplink k kECHO f (fun w => .dyn fun c =>
    match (c.link k).cal with
    | some (tag, t0) =>
      let rtt := t1 - t0 - w.bits 16 16
      when (tag == w.bits 12 4)
        (.seq (put (pgLLP k) Reg.LLP.RTT_LAST rtt)
          (modLink k fun l => { l with cal := none, rtts := l.rtts.map fun r => r ++ [rtt] }))
    | none => .skip))

/-- UPLINK_CAPS: a board capability value, in TRAIN only (R147, Table 5-7). -/
def execUplinkCaps (dt : Nat) (k : Fin 24) (f : BitVec 60) (s : State) : Host.Outcome State Fault Refusal :=
  s.act dt (uplink k kCAPS f (fun w => whenC (fun c => c.lstate k == 1)
    (modLink k fun l => { l with caps := (w.bits 12 6, w.bits 18 14) :: l.caps.filter fun e => e.1 != w.bits 12 6 })))

/-- UPLINK_INVALID: a frame that fails a test of R128 is discarded whole and counted. -/
def execUplinkInvalid (dt : Nat) (k : Fin 24) (f : BitVec 60) (s : State) : Host.Outcome State Fault Refusal :=
  s.act dt (.dyn fun c => when (c.portOn k && (upFrame (c.link k).rdUp f).isNone)
    (.seq (modLink k fun l => { l with rdUp := frameDisparity l.rdUp f }) (invalidFrame k)))

/-- UP_TIMEOUT: no valid uplink frame for 2 µs while UP (R148). -/
def execUpTimeout (dt : Nat) (k : Fin 24) (s : State) : Host.Outcome State Fault Refusal :=
  s.act dt (whenC (fun c => c.linkUp k) (.dyn fun c => .seq (atTick ((c.link k).heard + 5000)) (linkFault k lcUP_TIMEOUT)))

/-- A leg's latched NTC becomes invalid (R142). -/
def ntcInvalid (k i stamp : Nat) : Act :=
  .dyn fun c =>
    let p := pgLLP k
    let old := c.fld p Reg.LLP.LINK_STAT_NTC_INVALID
    seqs [putFlag p Reg.LLP.TEL_NTC_VALID false i,
      when (!old.testBit i) (.seq (put p Reg.LLP.LINK_STAT_NTC_INVALID (old + 2 ^ i)) (record p 0 0x08 stamp i 0)),
      raiseLevels p fun c => c.llpLevels k]

/-- NTC_STALE: no NTC frame for a leg for 200 µs (R142). -/
def execNtcStale (dt : Nat) (k : Fin 24) (i : Fin 4) (s : State) : Host.Outcome State Fault Refusal :=
  s.act dt (.dyn fun c =>
    match (c.link k).ntc.find? fun e => e.1 == i.val with
    | some (_, at_, _, _) => .seq (atTick (at_ + 500000)) (.dyn fun c => ntcInvalid k i c.t)
    | none => ntcInvalid k i c.t)

end Sys2Proof.Machine
end

