-- ==== Sys2Proof/Machine/Sensing.lean ====
section
/-! DEFINITION. The commands of the Sensing region: SAR converters, delta-sigma inputs, the control pilot and temperatures (Chapter 6). -/

namespace Sys2Proof.Machine

open Sys2Proof

def pgADC (n : Nat) : Page := ⟨.adc, n⟩
def pgDSF (n : Nat) : Page := ⟨.dsf, n⟩
def pgTSN (r : Nat) : Page := ⟨.tsn, r⟩
def pgCPL : Page := ⟨.cpl, 0⟩
def pgPOS (n : Nat) : Page := ⟨.pos, n⟩

/-- Slots of an engine that the active SLOT_MAP enables, with their binding (R188). -/
def Chip.slots (c : Chip) (q : Quay) : List (Nat × Word) :=
  let lo := (pgENG q).base + 0x900
  c.regs.filterMap fun e => if lo ≤ e.1 ∧ e.1 < lo + 0x400 ∧ e.2.getLsbD 31 then some ((e.1 - lo) / 4, e.2) else none

/-- A slot is bound to the source of the sample (R188). -/
def Sample.boundTo (x : Sample) (w : Word) : Bool :=
  w.bits 0 8 == x.type && w.bits 8 7 == x.inst && w.bits 15 5 == x.chan && w.bits 20 3 == x.word

/-- A sample sets out for both engines (R154); an engine looks at its bindings when it arrives (R188). A result with VALID = 0 carries the value 0 (R153). Isolation of SN makes all its samples invalid (Table 1-4). -/
def deliver (x : Sample) : Act :=
  .dyn fun c =>
    let good := x.valid && !(c.isolated 3 && (x.type == 0x07 || x.type == 0x08 || x.type == 0x09 || x.type == 0x0A || x.type == 0x0C))
    modDeliveries fun l => l ++ [if good then x else { x with value := 0, valid := false }]

/-! ### SAR converters -/

/-- LEVEL events of an ADC page. -/
def Chip.adcLevels (c : Chip) (n : Nat) : Nat := if c.flag (pgADC n) Reg.ADC.ADC_STAT_REF_FAULT then 8 else 0

/-- A strobe on input `ch` at due tick `t`, from action entry `entry` (R155). -/
def adcStrobe (n ch t entry : Nat) : Act :=
  .dyn fun c =>
    let p := pgADC n
    match (c.adc n).last with
    | some l =>
      if t < l + 500 then seqs [bump p Reg.ADC.BUSY_CNT, evt p 1, recordInOrder p ch 0x02 t entry 0]
      else go c p
    | none => go c p
where
  go (c : Chip) (p : Page) : Act :=
    seqs [recordPend p ch t, modAdc n fun s =>
        { s with last := some t,
                 conv := some ⟨ch, t, c.actFlag p Reg.ADC.IN_CFG_BIPOLAR ch, c.actFlag p Reg.ADC.IN_CFG_LIMIT_FAULT ch,
                   c.act p Reg.ADC.LIMIT_LO ch, c.act p Reg.ADC.LIMIT_HI ch⟩ },
      putFlag p Reg.ADC.ADC_STAT_CONVERTING true]

/-- The converter's fault wire follows the latest results of its inputs (R157). -/
def adcWire (n ch : Nat) (bad : Bool) : Act :=
  .seq (modAdc n fun s => { s with wires := (s.wires.filter fun i => i != ch) ++ if bad then [ch] else [] })
    (.dyn fun c => if (c.adc n).wires.isEmpty then dropFault (fADC_LIMIT n) else raiseFault (fADC_LIMIT n))

/-- ADC_RESULT_READY: 450 ticks after the strobe (R154, R156, R157). -/
def execAdcResultReady (dt : Nat) (n : Fin 12) (code : BitVec 14) (s : State) : Host.Outcome State Fault Refusal :=
  s.act dt (.dyn fun c =>
    match (c.adc n).conv with
    | none => .skip
    | some v =>
      let p := pgADC n
      let ch := v.chan
      .seq (atTick (v.t + 450)) (.dyn fun c =>
        let valid := !c.flag p Reg.ADC.ADC_STAT_REF_FAULT && !c.flag p Reg.HDR.PAGE_STAT_SAFE && c.en p && c.domainOn 8
        let x := if valid then code.toNat else 0
        let below := valid && decide (x < v.lo)
        let above := valid && decide (v.hi < x)
        let rail := valid && (x == 0 || x == 16383)
        seqs [modAdc n fun s => { s with conv := none },
          putFlag p Reg.ADC.ADC_STAT_CONVERTING false, bumpWrap p Reg.ADC.CONV_CNT,
          put p Reg.ADC.RESULT_CODE x ch, putFlag p Reg.ADC.RESULT_VALID valid ch, putFlag p Reg.ADC.RESULT_LIMIT_LO below ch,
          putFlag p Reg.ADC.RESULT_LIMIT_HI above ch, putFlag p Reg.ADC.RESULT_RAIL rail ch,
          put p Reg.ADC.RES_TIDE v.t ch,
          deliver ⟨0x07, n, ch, 0, BitVec.ofInt 32 (if v.bipolar then (x : Int) - 8192 else x), valid, v.t⟩,
          when (below || above) (.seq (evt p 0) (record p ch 0x01 v.t x ((if below then 1 else 0) + if above then 2 else 0))),
          when rail (.seq (evt p 2) (record p ch 0x03 v.t x 0)),
          recordSettle p ch v.t,
          adcWire n ch (v.limitFault && (below || above))]))

/-- ADC_REF_FAULT: the reference outside its window for 1 µs (R158). -/
def execAdcRefFault (dt : Nat) (n : Fin 12) (s : State) : Host.Outcome State Fault Refusal :=
  s.act dt (whenC (fun c => !c.flag (pgADC n) Reg.ADC.ADC_STAT_REF_FAULT)
    (seqs [putFlag (pgADC n) Reg.ADC.ADC_STAT_REF_FAULT true, raiseFault (fADC_REF n),
      .dyn fun c => recordInOrder (pgADC n) 0 0x04 c.t 1 0, raiseLevels (pgADC n) fun c => c.adcLevels n]))

/-- ADC_REF_OK: the reference inside its window for 100 µs (R158). -/
def execAdcRefOk (dt : Nat) (n : Fin 12) (s : State) : Host.Outcome State Fault Refusal :=
  s.act dt (whenC (fun c => c.flag (pgADC n) Reg.ADC.ADC_STAT_REF_FAULT)
    (seqs [putFlag (pgADC n) Reg.ADC.ADC_STAT_REF_FAULT false, dropFault (fADC_REF n), .dyn fun c => recordInOrder (pgADC n) 0 0x04 c.t 0 0]))

/-! ### Delta-sigma inputs -/

/-- LEVEL events of a DSF page. -/
def Chip.dsfLevels (c : Chip) (n : Nat) : Nat :=
  (if c.flag (pgDSF n) Reg.DSF.RES_STAT_CLK_LOST then 2 else 0) + if c.flag (pgDSF n) Reg.DSF.RES_STAT_STUCK then 4 else 0

/-- Sums of `m` consecutive elements: the list convolved with `m` ones. -/
def convOnes (m : Nat) (h : List Int) : List Int :=
  (List.range (h.length + m - 1)).map fun j => ((h.take (j + 1)).drop (j + 1 - m)).sum

/-- Weights of the sinc filter of order `k` and oversampling `m`: the k-fold convolution of `m` ones (R161). -/
def sincWeights (k m : Nat) : List Int := (List.replicate k m).foldl (fun h m => convOnes m h) [1]

/-- Output of the sliding filter over the bits, newest first (R161). -/
def sincValue (k m : Nat) (bits : List Bool) : Int :=
  ((sincWeights k m).zip bits |>.map fun e => if e.2 then e.1 else -e.1).sum

/-- The DSF pages that select clock pin `c`. -/
def Chip.pinPages (c : Chip) (pin : Nat) : List Nat := (List.range 32).filter fun n => c.act (pgDSF n) Reg.DSF.DSF_CFG_CLK_PIN == pin

/-- The page of the clock pin that page `n` selects. -/
def Chip.clkPage (c : Chip) (n : Nat) : Page := pgDSF (c.act (pgDSF n) Reg.DSF.DSF_CFG_CLK_PIN)

/-- Clock pin `pin` is an output and runs (R160). -/
def Chip.clkRuns (c : Chip) (pin : Nat) : Bool :=
  !c.actFlag (pgDSF pin) Reg.DSF.CLKGEN_DIR && (c.pinPages pin).any fun n => c.en (pgDSF n)

/-- Level of an output clock pin at tick `t`: rising edges at multiples of DIV, high for floor(DIV / 2) ticks (R160). -/
def Chip.clkLevel (c : Chip) (pin t : Nat) : Bool :=
  c.clkRuns pin && decide (t % c.act (pgDSF pin) Reg.DSF.CLKGEN_DIV < c.act (pgDSF pin) Reg.DSF.CLKGEN_DIV / 2)

/-- A rising edge at tick `e` clocks a bit of page `n`: on an output pin an edge of its own clock (R160), on an input pin any detected edge (R163), and it comes after the edge of the bit before. -/
def Chip.clocks (c : Chip) (n e : Nat) : Bool :=
  let pin := c.clkPage n
  (c.actFlag pin Reg.DSF.CLKGEN_DIR || (c.clkRuns pin.idx && e % c.act pin Reg.DSF.CLKGEN_DIV == 0)) &&
    (match (c.dsf n).edge with | some e0 => decide (e0 < e) | none => true) && decide (e + c.act pin Reg.DSF.CLKGEN_DATA_DELAY ≤ c.t)

/-- Bits that the filter of page `n` spans: L = K(M − 1) + 1 (R161). -/
def Chip.filterSpan (c : Chip) (n : Nat) : Nat :=
  c.act (pgDSF n) Reg.DSF.DSF_CFG_ORDER * (c.act (pgDSF n) Reg.DSF.DSF_CFG_OSR - 1) + 1

/-- While a condition of R165 holds, RESULT has VALID = 0 and the value 0 (R153, R165). -/
def dsfInvalid (n : Nat) : Act := .seq (put (pgDSF n) Reg.DSF.RESULT 0) (putFlag (pgDSF n) Reg.DSF.RES_STAT_VALID false)

/-- SETTLING sets: the bits counted for it start anew (R165). -/
def dsfSettle (n : Nat) : Act :=
  seqs [putFlag (pgDSF n) Reg.DSF.RES_STAT_SETTLING true, modDsf n fun s => { s with count := 0 }, dsfInvalid n]

/-- The clock of page `n` starts anew, or another one is selected: no bit before counts (R165). -/
def dsfRestart (n : Nat) : Act := .seq (modDsf n fun s => { s with bits := [], edge := none, run := 0 }) (dsfSettle n)

/-- The comparator filter after a bit: its value and whether it lies below LO or above HI (R164); bits before the first one add nothing (log entry 46). -/
def Chip.comparator (c : Chip) (n : Nat) : Int × Bool × Bool :=
  let p := pgDSF n
  let v := sincValue (c.act p Reg.DSF.COMP_CFG_COMP_ORDER) (c.act p Reg.DSF.COMP_CFG_COMP_OSR) ((c.dsf n).bits.map Prod.snd)
  (v, decide (v < signed 16 (c.act p Reg.DSF.COMP_LIM_LO)), decide (signed 16 (c.act p Reg.DSF.COMP_LIM_HI) < v))

/-- The comparator judges the newest bit, at s_i = `t`; the fault wire follows it (R164). A record is written as COMP_LO or COMP_HI sets, none for a further value outside the same limit: DEDUCED (log entry 102). -/
def dsfCompare (n t : Nat) : Act :=
  .dyn fun c =>
    let p := pgDSF n
    let r := c.comparator n
    let out := r.2.1 || r.2.2
    let sets := (r.2.1 && !c.flag p Reg.DSF.RES_STAT_COMP_LO) || (r.2.2 && !c.flag p Reg.DSF.RES_STAT_COMP_HI)
    seqs [put p Reg.DSF.COMP_VALUE (unsigned 16 r.1), putFlag p Reg.DSF.RES_STAT_COMP_LO r.2.1, putFlag p Reg.DSF.RES_STAT_COMP_HI r.2.2,
      when sets (.seq (evt p 0) (record p 0 0x01 t (unsigned 32 r.1) ((if r.2.1 then 1 else 0) + if r.2.2 then 2 else 0))),
      if out && c.actFlag p Reg.DSF.COMP_CFG_COMP_FAULT then raiseFault (fDSF_COMP n) else dropFault (fDSF_COMP n)]

/-- One bit of the stream arrives with its clock edge at tick `e`: the filters, STUCK and SETTLING follow it (R160 to R165). Bits reach a page while its EN = 1 is in effect and its clock is not lost. -/
def dsfBit (n : Nat) (e : Nat) (v : Bool) : Act :=
  .dyn fun c =>
    let p := pgDSF n
    let st := c.dsf n
    let t := e + c.act (c.clkPage n) Reg.DSF.CLKGEN_DATA_DELAY
    let same := st.bits.head?.any fun b => b.2 == v
    let run := if same then Nat.min (st.run + 1) 65535 else 1
    let stuck := c.flag p Reg.DSF.RES_STAT_STUCK
    when (c.on p && !c.flag p Reg.DSF.RES_STAT_CLK_LOST && c.clocks n e)
      (seqs [
        modDsf n fun s => { s with bits := ((t, v) :: s.bits).take 790, edge := some e, run := run, count := Nat.min (s.count + 1) 766 },
        when (stuck && !same) (seqs [putFlag p Reg.DSF.RES_STAT_STUCK false, dsfSettle n, record p 0 0x03 t 0 (if v then 0 else 1)]),
        when (!stuck && c.act p Reg.DSF.DSF_CFG_STUCK != 0 && decide (c.act p Reg.DSF.DSF_CFG_STUCK ≤ run))
          (seqs [putFlag p Reg.DSF.RES_STAT_STUCK true, dsfInvalid n, record p 0 0x03 t 1 (if v then 1 else 0),
            raiseLevels p fun c => c.dsfLevels n]),
        .dyn fun c => when (c.flag p Reg.DSF.RES_STAT_SETTLING && !c.flag p Reg.DSF.RES_STAT_STUCK && decide (c.filterSpan n ≤ (c.dsf n).count))
          (seqs [putFlag p Reg.DSF.RES_STAT_SETTLING false, evt p 3, record p 0 0x04 t 0 0]),
        dsfCompare n t])

/-- A commit changes the span of the filter: SETTLING holds while fewer bits than it spans have arrived (R165). -/
def dsfSpan (n t : Nat) : Act :=
  .dyn fun c =>
    let p := pgDSF n
    let short := decide ((c.dsf n).count < c.filterSpan n)
    let settling := c.flag p Reg.DSF.RES_STAT_SETTLING
    when (c.on p) (seqs [
      when (short && !settling) (.seq (putFlag p Reg.DSF.RES_STAT_SETTLING true) (dsfInvalid n)),
      when (!short && settling && !c.flag p Reg.DSF.RES_STAT_STUCK && !c.flag p Reg.DSF.RES_STAT_CLK_LOST)
        (seqs [putFlag p Reg.DSF.RES_STAT_SETTLING false, evt p 3, record p 0 0x04 t 0 0])])

/-- A condition of R165 other than SETTLING holds: EN is 0 or has not taken effect, CLK_LOST, STUCK, or the cell safe reaction. -/
def Chip.dsfBarred (c : Chip) (n : Nat) : Bool :=
  let p := pgDSF n
  !c.en p || !c.on p || c.flag p Reg.DSF.RES_STAT_CLK_LOST || c.flag p Reg.DSF.RES_STAT_STUCK || c.flag p Reg.HDR.PAGE_STAT_SAFE

/-- Bits of the stream arrive, oldest first, each with the tick of its clock edge. -/
def dsfBits (n : Nat) (l : List (Nat × Bool)) : Act := each l fun b => dsfBit n b.1 b.2

/-- DSF_RESULT_READY: 16 ticks after the SAMPLE of tick t, the output whose newest bit has s_i ≤ t − 8, with the settings of t; VALID is 0 where a condition of R165 holds at t or at t + 16 (R153, R162, R165); `bits`: the bits since the command before. -/
def execDsfResultReady (dt : Nat) (n : Fin 32) (bits : List (Nat × Bool)) (s : State) : Host.Outcome State Fault Refusal :=
  s.act dt (.dyn fun c =>
    match (c.dsf n).due with
    | [] => dsfBits n bits
    | x :: rest =>
      let p := pgDSF n
      let upTo := fun (b : Nat × Bool) => decide (b.1 + c.act (c.clkPage n) Reg.DSF.CLKGEN_DATA_DELAY ≤ x.t)
      seqs [atTick (x.t + 16), dsfBits n (bits.filter upTo), .dyn fun c =>
        let ok := x.ok && !c.flag p Reg.DSF.RES_STAT_SETTLING && !c.dsfBarred n
        let y := sincValue x.order x.osr (((c.dsf n).bits.filter fun b => decide (b.1 + 8 ≤ x.t)).map Prod.snd)
        .seq (dsfBits n (bits.filter fun b => !upTo b)) (.dyn fun c =>
          let valid := ok && !c.flag p Reg.DSF.RES_STAT_SETTLING && !c.dsfBarred n
          let v : Int := if valid then y else 0
          seqs [modDsf n fun s => { s with due := rest }, put p Reg.DSF.RESULT (unsigned 32 v),
            putFlag p Reg.DSF.RES_STAT_VALID valid, put p Reg.DSF.RES_TIDE x.t,
            deliver ⟨0x08, n, 0, 0, BitVec.ofInt 32 v, valid, x.t⟩])])

/-- DSF_COMP_TRIP: bits arrive, one of which takes the comparator filter outside COMP_LIM (R164). -/
def execDsfCompTrip (dt : Nat) (n : Fin 32) (bits : List (Nat × Bool)) (s : State) : Host.Outcome State Fault Refusal := s.act dt (dsfBits n bits)

/-- DSF_COMP_RETURN: bits arrive, one of which brings the comparator filter back inside COMP_LIM (R164). -/
def execDsfCompReturn (dt : Nat) (n : Fin 32) (bits : List (Nat × Bool)) (s : State) : Host.Outcome State Fault Refusal := s.act dt (dsfBits n bits)

/-- DSF_STUCK: bits arrive, the last of a run of STUCK bits of one value among them (R165). -/
def execDsfStuck (dt : Nat) (n : Fin 32) (bits : List (Nat × Bool)) (s : State) : Host.Outcome State Fault Refusal := s.act dt (dsfBits n bits)

/-- DSF_STUCK_CLEAR: bits arrive, the first of the other value among them (R165). -/
def execDsfStuckClear (dt : Nat) (n : Fin 32) (bits : List (Nat × Bool)) (s : State) : Host.Outcome State Fault Refusal := s.act dt (dsfBits n bits)

/-- DSF_SETTLED: bits arrive, the last of the L bits that settle the filter among them (R165). -/
def execDsfSettled (dt : Nat) (n : Fin 32) (bits : List (Nat × Bool)) (s : State) : Host.Outcome State Fault Refusal := s.act dt (dsfBits n bits)

/-- DSF_CLK_LOST: no rising edge on an input clock pin for 2,500 ticks (R163). -/
def execDsfClkLost (dt : Nat) (pin : Fin 4) (s : State) : Host.Outcome State Fault Refusal :=
  s.act dt (.dyn fun c =>
    let quiet := (c.pinPages pin).all fun n => match (c.dsf n).edge with | some e => decide (e + 2500 ≤ c.t) | none => true
    when (c.actFlag (pgDSF pin) Reg.DSF.CLKGEN_DIR && quiet)
      (each ((c.pinPages pin).filter fun n => !c.flag (pgDSF n) Reg.DSF.RES_STAT_CLK_LOST) fun n =>
        seqs [putFlag (pgDSF n) Reg.DSF.RES_STAT_CLK_LOST true, dsfInvalid n, record (pgDSF n) 0 0x02 c.t 1 pin,
          raiseLevels (pgDSF n) fun c => c.dsfLevels n]))

/-- DSF_CLK_REGAINED: rising edges return, CLK_LOST clears and SETTLING restarts (R163, R165). -/
def execDsfClkRegained (dt : Nat) (pin : Fin 4) (s : State) : Host.Outcome State Fault Refusal :=
  s.act dt (.dyn fun c => each ((c.pinPages pin).filter fun n => c.flag (pgDSF n) Reg.DSF.RES_STAT_CLK_LOST) fun n =>
    seqs [putFlag (pgDSF n) Reg.DSF.RES_STAT_CLK_LOST false, dsfSettle n, record (pgDSF n) 0 0x02 c.t 0 pin])

/-! ### Control pilot -/

/-- LEVEL events of the CPL page. -/
def Chip.cplLevels (c : Chip) : Nat :=
  (if c.cplSt.freqErr then 2 else 0) + (if c.flag pgCPL Reg.CPL.CPL_STAT_DIODE_FAIL then 4 else 0) + if c.cplSt.lost then 8 else 0

/-- The first state that applies to a level in mV (R168). -/
def Chip.cplClass (c : Chip) (mv : Int) : Nat :=
  let th := fun (f : Field) => 100 * signed 8 (c.act pgCPL f)
  if th Reg.CPL.CPL_TH0_AB ≤ mv then 0
  else if th Reg.CPL.CPL_TH0_BC ≤ mv then 1
  else if th Reg.CPL.CPL_TH0_CD ≤ mv then 2
  else if th Reg.CPL.CPL_TH0_DE ≤ mv then 3
  else if th Reg.CPL.CPL_TH1_EF ≤ mv then 4
  else 5

/-- STATE changes (R168). -/
def cplState (new stamp : Nat) : Act :=
  .dyn fun c => seqs [put pgCPL Reg.CPL.CPL_STAT_STATE new, evt pgCPL 0,
    record pgCPL 0 0x01 stamp new (c.fld pgCPL Reg.CPL.CPL_STAT_STATE), modCplS fun s => { s with cand := none }]

/-- The complete set that a SAMPLE latches (R170). -/
def cplSet : Act :=
  .dyn fun c => modCplS fun s => { s with set := [c.fld pgCPL Reg.CPL.PERIOD, c.fld pgCPL Reg.CPL.HIGH_TIME,
    c.fld pgCPL Reg.CPL.LEVELS_VHIGH + 2 ^ 16 * c.fld pgCPL Reg.CPL.LEVELS_VLOW, c.fld pgCPL Reg.CPL.DUTY] }

/-- A period completes at a rising transition: flags once, and the state after three equal classifications (R168, R169). DESIGN CHOICE: a period or a high time of 2^22 ticks or more shows its low 22 bits in PERIOD or HIGH_TIME (R167; log entry 113). -/
def cplPeriod (period high t : Nat) : Act :=
  .seq (seqs [put pgCPL Reg.CPL.PERIOD period, put pgCPL Reg.CPL.HIGH_TIME high, put pgCPL Reg.CPL.DUTY (high * 10000 / period)])
    (.dyn fun c =>
      let ok := decide (2450980 ≤ period) && decide (period ≤ 2551020)
      let vlow := signed 16 (c.fld pgCPL Reg.CPL.LEVELS_VLOW)
      let fail := !decide (vlow < 100 * signed 8 (c.act pgCPL Reg.CPL.CPL_TH1_DIODE))
      let cls := c.cplClass (signed 16 (c.fld pgCPL Reg.CPL.LEVELS_VHIGH))
      let n := match c.cplSt.cand with | some (k, m) => if k = cls then m + 1 else 1 | none => 1
      seqs [putFlag pgCPL Reg.CPL.CPL_STAT_FREQ_OK ok, putFlag pgCPL Reg.CPL.CPL_STAT_DIODE_FAIL fail,
        when (!ok && !c.cplSt.freqErr) (record pgCPL 0 0x02 t period 0),
        when (fail && !c.flag pgCPL Reg.CPL.CPL_STAT_DIODE_FAIL) (record pgCPL 0 0x03 c.t (unsigned 32 vlow) 0),
        modCplS fun s => { s with freqErr := !ok },
        if cls = c.fld pgCPL Reg.CPL.CPL_STAT_STATE then modCplS fun s => { s with cand := none }
        else if n < 3 then modCplS fun s => { s with cand := some (cls, n) }
        else cplState cls t,
        cplSet])

/-- Mean of readings in mV taken in a window of ticks. The manual states no rounding: of a mean between two millivolts, the free value says which (log entry 6). -/
def Chip.meanIn (c : Chip) (lo hi : Nat) (l : List (Nat × BitVec 16)) : Option Int :=
  let v : List Int := (l.filter fun e => decide (lo ≤ e.1) && decide (e.1 ≤ hi)).map fun e => e.2.toInt
  if v.isEmpty then none
  else some (v.sum / v.length + if v.sum % v.length = 0 then 0 else ((Config.freeValue c.free % 2 : Nat) : Int))

/-- CPL_TRANSITION at 0 V, `up` or down; `samples` are the conversions of the plateau it ends, each with its tick and mV. The level is their mean from 10 µs after the plateau's start to 5 µs before its end, where at least four lie there (R167). DESIGN CHOICE: the transitions seen before EN = 0 still count after EN = 1, so that the first PERIOD spans the stop, and before the first transition tick 0 starts the plateau (R167; log entry 114). -/
def execCplTransition (dt : Nat) (up : Bool) (samples : List (Nat × BitVec 16)) (s : State) : Host.Outcome State Fault Refusal :=
  s.act dt (whenC (fun c => c.on pgCPL) (.dyn fun c =>
    let t := c.t
    let inside := samples.filter fun e => decide (c.cplSt.edge + 25000 ≤ e.1) && decide (e.1 + 12500 ≤ t)
    seqs [
      when (!c.flag pgCPL Reg.CPL.CPL_STAT_OSC) (.seq (putFlag pgCPL Reg.CPL.CPL_STAT_OSC true) (record pgCPL 0 0x04 t 1 0)),
      when (decide (4 ≤ inside.length)) (match c.meanIn 0 t inside with
        | some m => .seq (put pgCPL (if up then Reg.CPL.LEVELS_VLOW else Reg.CPL.LEVELS_VHIGH) (unsigned 16 m)) (.prim .freeNext)
        | none => .skip),
      modCplS fun s => { s with edge := t, lost := false, steady := none, rise := if up then some t else s.rise, fall := if up then s.fall else some t },
      (match up, c.cplSt.rise, c.cplSt.fall with
        | true, some r, some f => when (decide (r < f) && decide (r < t)) (cplPeriod (t - r) (f - r) t)
        | _, _, _ => .skip),
      raiseLevels pgCPL Chip.cplLevels]))

/-- While OSC is 0, VHIGH and VLOW both read the mean of the last 1 ms, and the state it gives is classified (R167, R168). -/
def cplSteady (samples : List (Nat × BitVec 16)) : Act :=
  .dyn fun c => match c.meanIn (c.t - 2500000) c.t samples with
    | some m => seqs [put pgCPL Reg.CPL.LEVELS_VHIGH (unsigned 16 m), put pgCPL Reg.CPL.LEVELS_VLOW (unsigned 16 m), .prim .freeNext,
        modCplS fun s => { s with steady := if s.steady.any fun x => x.1 == c.cplClass m then s.steady else some (c.cplClass m, c.t) }]
    | none => .skip

/-- CPL_OSC_LOST: no transition for 3 ms; `samples` are the conversions of the last 1 ms (R167). -/
def execCplOscLost (dt : Nat) (samples : List (Nat × BitVec 16)) (s : State) : Host.Outcome State Fault Refusal :=
  s.act dt (whenC (fun c => c.on pgCPL && c.flag pgCPL Reg.CPL.CPL_STAT_OSC) (.dyn fun c =>
    seqs [atTick (c.cplSt.edge + 7500000), putFlag pgCPL Reg.CPL.CPL_STAT_OSC false, putFlag pgCPL Reg.CPL.CPL_STAT_FREQ_OK false,
      putFlag pgCPL Reg.CPL.CPL_STAT_DIODE_FAIL false,
      put pgCPL Reg.CPL.PERIOD 0, put pgCPL Reg.CPL.HIGH_TIME 0, put pgCPL Reg.CPL.DUTY 0,
      modCplS fun s => { s with rise := none, fall := none, cand := none, freqErr := false, lost := true, steady := none },
      cplSteady samples,
      .dyn fun c => record pgCPL 0 0x04 c.t 0 (unsigned 32 (signed 16 (c.fld pgCPL Reg.CPL.LEVELS_VHIGH))),
      cplSet, raiseLevels pgCPL Chip.cplLevels]))

/-- CPL_STEADY_STATE: while OSC is 0, the level of the last 1 ms is classified; the same new state for 3 ms changes STATE (R168). -/
def execCplSteadyState (dt : Nat) (samples : List (Nat × BitVec 16)) (s : State) : Host.Outcome State Fault Refusal :=
  s.act dt (whenC (fun c => c.on pgCPL && !c.flag pgCPL Reg.CPL.CPL_STAT_OSC)
    (seqs [cplSteady samples,
      .dyn fun c => match c.cplSt.steady with
        | some (k, t0) => when (k != c.fld pgCPL Reg.CPL.CPL_STAT_STATE && decide (t0 + 7500000 ≤ c.t)) (cplState k c.t)
        | none => .skip,
      cplSet]))

/-- S2 returns to 0 (R170). -/
def s2Open : Act := .seq (putFlag pgCPL Reg.CPL.CPL_CTRL false) (putFlag pgCPL Reg.CPL.CPL_STAT_S2 false)

/-- CPL_S2: a write of CPL_CTRL.S2 drives the pin, and CPL_STAT.S2 reads it back (R170). -/
def execCplS2 (dt : Nat) (src : Src) (v : Bool) (s : State) : Host.Outcome State Fault Refusal :=
  s.act dt (onPage src pgCPL 0x048 true (.seq (putFlag pgCPL Reg.CPL.CPL_CTRL v) (putFlag pgCPL Reg.CPL.CPL_STAT_S2 v)))

/-- CPL_RESULT_READY: 16 ticks after the SAMPLE (R170, R188). -/
def execCplResultReady (dt : Nat) (s : State) : Host.Outcome State Fault Refusal :=
  s.act dt (.dyn fun c =>
    match c.cplSt.due with
    | [] => .skip
    | (t, ws) :: rest =>
      .seq (atTick (t + 16)) (.dyn fun c =>
        let valid := c.en pgCPL && !c.flag pgCPL Reg.HDR.PAGE_STAT_SAFE
        seqs [modCplS fun s => { s with due := rest }, put pgCPL Reg.CPL.RES_TIDE t,
          each (ws.zip (List.range 5)) fun e => deliver ⟨0x0C, 0, 0, e.2, BitVec.ofNat 32 e.1, valid, t⟩]))

/-! ### Temperatures -/

/-- LEVEL events of a TSN page. -/
def Chip.tsnLevels (c : Chip) (r : Nat) : Nat :=
  (if c.flag (pgTSN r) Reg.TSN.REGION_WARN then 2 else 0) + (if c.flag (pgTSN r) Reg.TSN.REGION_TRIP then 4 else 0) +
    if c.flag (pgTSN r) Reg.TSN.REGION_XCHK then 8 else 0

/-- TSN_CONVERSION: the next sensor's reading in 0.125 °C; `ok` when the conversion did not fail (R172). -/
def execTsnConversion (dt : Nat) (r : Fin 8) (temp : BitVec 12) (ok : Bool) (s : State) : Host.Outcome State Fault Refusal :=
  s.act dt (whenC (fun c => c.on (pgTSN r)) (.dyn fun c =>
    let i := (c.tsn r).next
    let v := signed 12 temp.toNat
    let valid := ok && decide (-440 ≤ v) && decide (v ≤ 1400)
    seqs [put (pgTSN r) Reg.TSN.DIE_TEMP (if valid then temp.toNat else 0) i, putFlag (pgTSN r) Reg.TSN.DIE_VALID valid i,
      modTsn r fun s => { s with next := (i + 1) % 3 }]))

/-- TSN_RESULT_READY: 16 ticks after the SAMPLE (R172). -/
def execTsnResultReady (dt : Nat) (r : Fin 8) (s : State) : Host.Outcome State Fault Refusal :=
  s.act dt (.dyn fun c =>
    match (c.tsn r).due with
    | [] => .skip
    | (t, ch, v, ok) :: rest =>
      .seq (atTick (t + 16)) (.dyn fun c =>
        let valid := ok && c.en (pgTSN r) && !c.flag (pgTSN r) Reg.HDR.PAGE_STAT_SAFE
        .seq (modTsn r fun s => { s with due := rest })
          (deliver ⟨0x09, r, ch, 0, BitVec.ofInt 32 (signed 12 v), valid, t⟩)))

/-- Thresholds and limits of a temperature source: TH1 to TH3, WARN and TRIP. -/
structure TempCfg where
  th1 : Int
  th2 : Int
  th3 : Int
  warn : Int
  trip : Int
  deriving DecidableEq, Repr

/-- TH[b]. -/
def TempCfg.th (f : TempCfg) (b : Nat) : Int := if b = 1 then f.th1 else if b = 2 then f.th2 else f.th3

/-- Settings of a source: r for region r, 8 + n for leg n (Table 6-7). -/
def Chip.tempCfg (c : Chip) (i : Nat) : TempCfg :=
  let a := fun (p : Page) (f : Field) (k : Nat) => signed 12 (c.act p f k)
  if i < 8 then
    let p := pgTSN i
    ⟨a p Reg.TSN.BANDTH_A_TH1 0, a p Reg.TSN.BANDTH_A_TH2 0, a p Reg.TSN.BANDTH_B 0, a p Reg.TSN.LIMITS_WARN 0, a p Reg.TSN.LIMITS_TRIP 0⟩
  else
    let p := pgTSN 2
    let k := (i - 8) / 4
    ⟨a p Reg.TSN.NTC_BAND_A_TH1 k, a p Reg.TSN.NTC_BAND_A_TH2 k, a p Reg.TSN.NTC_BAND_B k, a p Reg.TSN.NTC_LIM_WARN k, a p Reg.TSN.NTC_LIM_TRIP k⟩

/-- A flag of a source: the region's own, or bit i of the block's leg flags. -/
def Chip.tempFlag (c : Chip) (i : Nat) (region leg : Field) : Bool :=
  if i < 8 then c.flag (pgTSN i) region else (c.fld (pgTSN 2) leg ((i - 8) / 4)).testBit (i % 4)

/-- Writes a flag of a source. -/
def putTempFlag (i : Nat) (region leg : Field) (b : Bool) : Act :=
  if i < 8 then putFlag (pgTSN i) region b
  else .dyn fun c =>
    let v := c.fld (pgTSN 2) leg ((i - 8) / 4)
    put (pgTSN 2) leg (if b then v ||| 2 ^ (i % 4) else if v.testBit (i % 4) then v - 2 ^ (i % 4) else v) ((i - 8) / 4)

def Chip.tempWARN (c : Chip) (i : Nat) : Bool := c.tempFlag i Reg.TSN.REGION_WARN Reg.TSN.NTC_STAT_WARN
def Chip.tempTRIP (c : Chip) (i : Nat) : Bool := c.tempFlag i Reg.TSN.REGION_TRIP Reg.TSN.NTC_STAT_TRIP
def Chip.tempFAST (c : Chip) (i : Nat) : Bool := c.tempFlag i Reg.TSN.REGION_FAST Reg.TSN.NTC_STAT_FAST

/-- Band of a source. -/
def Chip.tempBand (c : Chip) (i : Nat) : Nat := if i < 8 then c.fld (pgTSN i) Reg.TSN.REGION_BAND else c.tsnBand (i - 8)

/-- Writes the band of a source. -/
def putBand (i b : Nat) : Act :=
  if i < 8 then put (pgTSN i) Reg.TSN.REGION_BAND b
  else .dyn fun c =>
    let v := c.fld (pgTSN 2) Reg.TSN.NTC_STAT_BAND ((i - 8) / 4)
    put (pgTSN 2) Reg.TSN.NTC_STAT_BAND (v - c.tsnBand (i - 8) * 4 ^ (i % 4) + b * 4 ^ (i % 4)) ((i - 8) / 4)

/-- The page of a source, and its record: region records on CHAN 0, leg records of TSN[2] on CHAN 1 (R180). -/
def tempRecord (i : Nat) (region leg stamp : Nat) (on : Bool) (temp : Int) : Act :=
  if i < 8 then record (pgTSN i) 0 region stamp (if on then 1 else 0) (unsigned 32 temp)
  else record (pgTSN 2) 1 leg stamp (i - 8) ((if on then 1 else 0) + 2 ^ 16 * unsigned 12 temp)

/-- Events of a change of a leg source (bit NTC of TSN[2]). -/
def tempEvent (i : Nat) : Act := if i < 8 then .skip else evt (pgTSN 2) 4

/-- Highest band reached by rising from `b`. -/
def TempCfg.rise (f : TempCfg) (temp : Int) (b : Nat) : Nat :=
  let up := fun b => if b < 3 && decide (f.th (b + 1) ≤ temp) then b + 1 else b
  up (up (up b))

/-- Lowest band reached by falling from `b`, 3 K below the thresholds. -/
def TempCfg.fall (f : TempCfg) (temp : Int) (b : Nat) : Nat :=
  let dn := fun b => if 0 < b && decide (temp < f.th b - 24) then b - 1 else b
  dn (dn (dn b))

/-- The band and the dwell after an evaluation (R174). -/
def bandEval (f : TempCfg) (st : TempSt) (band : Nat) (temp : Int) (valid : Bool) (t : Nat) : Nat × Option (Bool × Nat) :=
  if !valid || st.first then (f.rise temp 0, none)
  else
    let up := f.rise temp band
    let cand := if up = band then f.fall temp band else up
    if cand = band then (band, none)
    else
      let dir := decide (band < cand)
      match st.dwell with
      | some (d, t0) => if d != dir then (band, some (dir, t)) else if 25000000 ≤ t - t0 then (cand, none) else (band, some (d, t0))
      | none => (band, some (dir, t))

/-- A flag that sets at once and clears after its clearing condition has held at every evaluation for 10 ms: the flag and since when the condition holds (R175). -/
def holdFlag (set clear flag : Bool) (since : Option Nat) (t : Nat) : Bool × Option Nat :=
  if set then (true, none)
  else if !clear then (flag, none)
  else match since with
    | none => (flag, some t)
    | some t0 => (flag && !decide (25000000 ≤ t - t0), some t0)

/-- Evaluation of a source at tick `t`: band, WARN, TRIP, FAST and the next period (R173 to R175). -/
def tempEval (i : Nat) (temp0 : Int) (valid : Bool) (t : Nat) : Act :=
  .dyn fun c =>
    let pg := if i < 8 then pgTSN i else pgTSN 2
    let f := c.tempCfg i
    let st := c.temp i
    let temp := if valid then temp0 else 2047
    let band := c.tempBand i
    let (b, dwell) := bandEval f st band temp valid t
    let near : Int := c.act pg Reg.TSN.MARGIN_NEAR
    let lim0 := if f.warn ≤ f.trip then f.warn else f.trip
    let lim := if b < 3 && decide (f.th (b + 1) < lim0) then f.th (b + 1) else lim0
    let (warn, warnLow) := holdFlag (decide (f.warn ≤ temp)) (decide (temp < f.warn - 24)) (c.tempWARN i) st.warnLow t
    let (fast, fastLow) := holdFlag (decide (lim - near ≤ temp)) (decide (temp < lim - near)) (c.tempFAST i) st.fastLow t
    let trip := c.tempTRIP i || decide (f.trip ≤ temp)
    seqs [
      when (b != band) (seqs [putBand i b, tempEvent i,
        if i < 8 then .seq (evt pg 0) (record pg 0 0x01 t band b) else record pg 1 0x11 t (i - 8) (b + 16 * band)]),
      when (warn != c.tempWARN i) (seqs [putTempFlag i Reg.TSN.REGION_WARN Reg.TSN.NTC_STAT_WARN warn,
        when warn (tempEvent i), tempRecord i 0x02 0x12 t warn temp]),
      when (trip != c.tempTRIP i) (seqs [putTempFlag i Reg.TSN.REGION_TRIP Reg.TSN.NTC_STAT_TRIP true, tempEvent i,
        tempRecord i 0x03 0x13 t true temp, raiseFault (if i < 8 then fTSN_TRIP i else fNTC_TRIP ((i - 8) / 4))]),
      when (fast != c.tempFAST i) (.seq (putTempFlag i Reg.TSN.REGION_FAST Reg.TSN.NTC_STAT_FAST fast)
        (when (i < 8) (record pg 0 0x05 t (if fast then 1 else 0) (unsigned 32 temp)))),
      modTemp i fun _ =>
        { first := false, temp := temp, dwell := dwell, warnLow := warnLow, fastLow := fastLow,
          last := some (t, 2500 * c.act pg (if fast then Reg.TSN.EVAL_FAST_US else Reg.TSN.EVAL_SLOW_US)) }]

/-- An evaluation of the source is due at boundary `t` (R173). -/
def Chip.tempDue (c : Chip) (i t : Nat) : Bool :=
  match (c.temp i).last with
  | none => true
  | some (t0, period) => decide (t0 + period ≤ t)

/-- Median of three. -/
def median3 (a b d : Int) : Int :=
  if a ≤ b then (if b ≤ d then b else if a ≤ d then d else a) else (if a ≤ d then a else if b ≤ d then d else b)

/-- Cross-check of region `r` and its evaluation (R178, Table 6-5). -/
def regionEval (r t : Nat) : Act :=
  .dyn fun c =>
    let p := pgTSN r
    let tol : Int := c.act p Reg.TSN.MARGIN_XCHK_TOL
    let val := fun i => signed 12 (c.fld p Reg.TSN.DIE_TEMP i)
    let live := [0, 1, 2].filter fun i => c.flag p Reg.TSN.DIE_VALID i && !c.flag p Reg.TSN.DIE_XFAIL i
    let far := fun (a b : Int) => decide (tol < a - b) || decide (tol < b - a)
    let top := fun (l : List Nat) => (l.map val).foldl (fun m x => if m ≤ x then x else m) (-2048)
    let old := c.flag p Reg.TSN.REGION_XCHK
    let n := live.length
    let diff := [0, 1, 2].map fun i =>
      if n = 3 ∧ far (val i) (median3 (val 0) (val 1) (val 2)) then (c.tsn r).diff.getD i 0 + 1 else 0
    let bad := if n = 3 then [0, 1, 2].filter fun i => decide (3 ≤ diff.getD i 0) else []
    let pair := match live with
      | [i, j] => if far (val i) (val j) then (c.tsn r).pair + 1 else 0
      | _ => 0
    let xchk := decide (n ≤ 1) || decide (3 ≤ pair)
    let mask := ([0, 1, 2].filter fun i => c.flag p Reg.TSN.DIE_XFAIL i || bad.contains i).foldl (fun m i => m + 2 ^ i) 0
    let rest := live.filter fun i => !bad.contains i
    let valid := !rest.isEmpty
    let temp := if valid then top rest else 2047
    seqs [
      each bad fun i => putFlag p Reg.TSN.DIE_XFAIL true i,
      when (!bad.isEmpty) (record p 0 0x04 t mask n),
      modTsn r fun s => { s with diff := diff, pair := pair },
      putFlag p Reg.TSN.REGION_XCHK xchk,
      when (xchk && !old) (raiseFault (fTSN_XCHK r)), when (old && !xchk) (dropFault (fTSN_XCHK r)),
      put p Reg.TSN.REGION_TEMP (unsigned 12 temp), tempEval r temp valid t, raiseLevels p fun c => c.tsnLevels r]

/-- Temperature sources due at boundary `t` of generator `g` are evaluated (R173). -/
def tempBoundary (g t : Nat) : Act :=
  .dyn fun c =>
    .seq (when (c.fgOf (pgTSN 0) == g) (each ((List.range 8).filter fun r => c.on (pgTSN r) && c.tempDue r t) fun r => regionEval r t))
      (when (c.on (pgTSN 2)) (each ((List.range 24).filter fun k => c.fgOf (pgLLP k) == g) fun k =>
        each (legsOf k) fun n =>
          if c.linkUp k && c.en (pgLEG n) then
            when (c.tempDue (8 + n) t) (.dyn fun c =>
              tempEval (8 + n) (signed 12 (c.fld (pgLLP k) Reg.LLP.TEL_NTC_TEMP (n % 4))) (c.flag (pgLLP k) Reg.LLP.TEL_NTC_VALID (n % 4)) t)
          else modTemp (8 + n) fun s => if s.last.isSome || !s.first then s.restart else s))

/-- A commit that changes the thresholds or limits of a source restarts its timers (R176). -/
def tempRestart (i : Nat) : Act := modTemp i fun s => { s with dwell := none, warnLow := none, fastLow := none }

/-- TRIP_CLR: every TRIP of the page clears whose temperature lies below TRIP − 3 K (R175). The records carry the tick of the write, since no evaluation clears the flag and a stamp is never earlier than its event (R86, R87): DESIGN CHOICE (log entry 47). -/
def execTripClr (dt : Nat) (src : Src) (r : Fin 8) (s : State) : Host.Outcome State Fault Refusal :=
  s.act dt (onPage src (pgTSN r) 0x064 true (.dyn fun c =>
    let sources := (if r.val = 2 then (List.range 96).map (· + 8) else []) ++ [r.val]
    .seq (each (sources.filter fun i => c.tempTRIP i && decide ((c.temp i).temp < (c.tempCfg i).trip - 24)) fun i =>
        .seq (putTempFlag i Reg.TSN.REGION_TRIP Reg.TSN.NTC_STAT_TRIP false) (tempRecord i 0x03 0x13 c.t false (c.temp i).temp))
      (.dyn fun c =>
        .seq (when (!c.flag (pgTSN r) Reg.TSN.REGION_TRIP) (dropFault (fTSN_TRIP r)))
          (when (r.val = 2) (each (List.range 24) fun k => when (c.fld (pgTSN 2) Reg.TSN.NTC_STAT_TRIP k == 0) (dropFault (fNTC_TRIP k)))))))

/-! ### Telemetry of the leg links -/

/-- At a boundary the port latches the newest telemetry received before it into the TEL registers and the law inputs (R142, R188). DESIGN CHOICE: a leg from which no NTC frame has come since the entry to UP is NTC_INVALID at the first boundary if its EN is 1, and an NTC_INVALID record carries the boundary, also where a frame with VALID 0 brings it about (R142, R152; log entry 111). -/
def telLatch (k t : Nat) : Act :=
  .dyn fun c =>
    let p := pgLLP k
    let l := c.link k
    let up := c.linkUp k
    .seq (when up (each (List.range 4) fun i => seqs [
        (match l.ntc.find? fun e => e.1 == i with
          | some (_, at_, temp, ok) =>
            .seq (put p Reg.LLP.TEL_NTC_TEMP temp i)
              (if ok && decide (t < at_ + 500000) then
                .dyn fun c => .seq (putFlag p Reg.LLP.TEL_NTC_VALID true i)
                  (put p Reg.LLP.LINK_STAT_NTC_INVALID (c.fld p Reg.LLP.LINK_STAT_NTC_INVALID &&& (15 - 2 ^ i)))
              else ntcInvalid k i t)
          | none => when (c.en (pgLEG (4 * k + i))) (ntcInvalid k i t)),
        each [0, 1] fun side => seqs [
          (match l.vce.find? fun e => e.1 == 2 * i + side with
            | some (_, mv) => .seq (put p (if side = 0 then Reg.LLP.TEL_VCE_VCE_H else Reg.LLP.TEL_VCE_VCE_L) mv i)
                (putFlag p (if side = 0 then Reg.LLP.TEL_VCE_H_VALID else Reg.LLP.TEL_VCE_L_VALID) true i)
            | none => .skip),
          (match l.sup.find? fun e => e.1 == 2 * i + side with
            | some (_, v, fl) => .seq (put p (if side = 0 then Reg.LLP.TEL_SUP_H_VPOS else Reg.LLP.TEL_SUP_L_VPOS) v i)
                (put p (if side = 0 then Reg.LLP.TEL_SUP_H_FLAGS else Reg.LLP.TEL_SUP_L_FLAGS) fl i)
            | none => .skip)]]))
      (.dyn fun c => each (List.range 4) fun i =>
        let w := fun (f : Field) => c.word (p.base + f.word i)
        seqs [deliver ⟨0x03, k, i, 0, w Reg.LLP.TEL_NTC_TEMP, c.flag p Reg.LLP.TEL_NTC_VALID i, t⟩,
          deliver ⟨0x03, k, i, 1, w Reg.LLP.TEL_VCE_VCE_H, c.flag p Reg.LLP.TEL_VCE_H_VALID i || c.flag p Reg.LLP.TEL_VCE_L_VALID i, t⟩,
          deliver ⟨0x03, k, i, 2, w Reg.LLP.TEL_SUP_H_VPOS, up, t⟩])

end Sys2Proof.Machine
end

