-- ==== Sys2Proof/Machine/Bridge.lean ====
section
/-! DEFINITION. Bridge cells: gates, bootstrap, VDS, self-test, supply and Shutter (Chapter 11, R293 to R306). -/

namespace Sys2Proof.Machine

open Sys2Proof

def pgBRG (n : Nat) : Page := ⟨.brg, n⟩
def pgSSC (u : Nat) : Page := ⟨.ssc, u⟩

/-- The lead page of the bridge block of cell `n` (R19). -/
def brgLead (n : Nat) : Nat := n / 4 * 4

/-- A bit of BRG_STAT. -/
def Chip.bst (c : Chip) (n : Nat) (f : Field) : Bool := c.flag (pgBRG n) f

/-- LEVEL events of a BRG page (R322). -/
def Chip.brgLevels (c : Chip) (n : Nat) : Nat :=
  (if c.bst n Reg.BRG.BRG_STAT_VDS_H || c.bst n Reg.BRG.BRG_STAT_VDS_L then 1 else 0) + (if c.bst n Reg.BRG.BRG_STAT_BST_UV then 2 else 0) +
    (if c.bst n Reg.BRG.BRG_STAT_CP_FAULT then 4 else 0) + (if n % 4 = 0 ∧ (c.brg n).supBad then 2 ^ 5 else 0) +
    if c.bst n Reg.BRG.BRG_STAT_SHUTTER_CLOSED then 2 ^ 6 else 0

/-- The unit's cells A, B and C (R307). -/
def Chip.sscCells (c : Chip) (u : Nat) : List Nat :=
  [c.act (pgSSC u) Reg.SSC.SSC_CFG_CELL_A, c.act (pgSSC u) Reg.SSC.SSC_CFG_CELL_B, c.act (pgSSC u) Reg.SSC.SSC_CFG_CELL_C]

/-- The enabled unit, one whose EN reads 1, that names a cell (R293, R303). -/
def Chip.unitOf (c : Chip) (n : Nat) : Option Nat := (List.range 5).find? fun u => c.en (pgSSC u) && (c.sscCells u).contains n

/-! ### Gates -/

/-- A plan under construction: edges, and the gates after them. -/
structure PlanAcc where
  out : List GateEdge
  h : Bool
  l : Bool
  offH : Nat
  offL : Nat
  deriving DecidableEq, Repr

def PlanAcc.level (a : PlanAcc) (high : Bool) : Bool := if high then a.h else a.l
def PlanAcc.setLevel (a : PlanAcc) (high on : Bool) : PlanAcc := if high then { a with h := on } else { a with l := on }

/-- An edge joins the plan: an ON waits DT after the last OFF of the other gate, and an OFF that overtakes its ON removes it (R294). -/
def PlanAcc.add (dt : Nat) (a : PlanAcc) (e : GateEdge) : PlanAcc :=
  if e.on then
    if a.level e.high || a.level (!e.high) then a
    else
      let t := Nat.max e.t ((if e.high then a.offL else a.offH) + dt)
      { (a.setLevel e.high true) with out := a.out ++ [{ e with t := t }] }
  else if a.level e.high then
    match a.out.getLast? with
    | some x => if x.on && x.high == e.high && decide (e.t ≤ x.t) then { (a.setLevel e.high false) with out := a.out.dropLast } else off a
    | none => off a
  else a
where
  off (a : PlanAcc) : PlanAcc :=
    let b := { (a.setLevel e.high false) with out := a.out ++ [e] }
    if e.high then { b with offH := e.t } else { b with offL := e.t }

/-- Planned edges that have come are executed. -/
def brgSettle (n : Nat) : Act :=
  .dyn fun c =>
    let due := (c.brg n).plan.filter fun e => decide (e.t ≤ c.t)
    .seq (modBrg n fun b => { b with plan := b.plan.filter fun e => decide (c.t < e.t) })
      (each due fun e => .seq (putFlag (pgBRG n) (if e.high then Reg.BRG.BRG_STAT_GATE_H else Reg.BRG.BRG_STAT_GATE_L) e.on)
        (modBrg n fun b => match e.high, e.on with
          | true, true => { b with onH := e.t }
          | false, true => { b with onL := e.t }
          | true, false => { b with offH := e.t }
          | false, false => { b with offL := e.t }))

/-- The plan of the cell is replaced from now on; edges of the past count as of now. -/
def brgPlan (n : Nat) (raw : List GateEdge) : Act :=
  .seq (brgSettle n) (.dyn fun c =>
    let a : PlanAcc := ⟨[], c.bst n Reg.BRG.BRG_STAT_GATE_H, c.bst n Reg.BRG.BRG_STAT_GATE_L, (c.brg n).offH, (c.brg n).offL⟩
    let b := raw.foldl (fun a e => a.add (c.act (pgBRG n) Reg.BRG.DT) { e with t := Nat.max e.t c.t }) a
    .seq (modBrg n fun s => { s with plan := b.out }) (brgSettle n))

/-- What commands a cell within one period. -/
inductive CellCmd
  | off
  | low
  /-- GH on for `h` ticks, centred; GL as its complement if `comp`. -/
  | pwm (h : Nat) (comp : Bool)
  /-- GL on for `g` ticks, centred. -/
  | part (g : Nat)
  deriving DecidableEq, Repr

/-- On-time of GL that the command gives in a period (R298). -/
def CellCmd.lowTime (cmd : CellCmd) (p dt : Nat) : Nat :=
  match cmd with
  | .off => 0
  | .low => p
  | .pwm h comp => if comp then p - h - 2 * dt else 0
  | .part g => g

/-- Gate edges of one period of `p` ticks from `s` (R294, R309). -/
def CellCmd.edges (cmd : CellCmd) (s p dt : Nat) : List GateEdge :=
  match cmd with
  | .off => [⟨s, true, false⟩, ⟨s, false, false⟩]
  | .low => [⟨s, true, false⟩, ⟨s, false, true⟩]
  | .part g => [⟨s, true, false⟩, ⟨s, false, false⟩, ⟨s + (p - g) / 2, false, true⟩, ⟨s + (p - g) / 2 + g, false, false⟩]
  | .pwm h comp =>
    if p ≤ h then [⟨s, false, false⟩, ⟨s, true, true⟩]
    else
      let a := s + (p - h) / 2
      let low := fun t on => if comp then [(⟨t, false, on⟩ : GateEdge)] else []
      if h = 0 then ⟨s, true, false⟩ :: (if comp then low s true else [⟨s, false, false⟩])
      else
        ⟨s, true, false⟩ :: (if comp then (if s + dt < a then low s true else []) else [⟨s, false, false⟩]) ++
          low (Nat.max s (a - dt)) false ++ [⟨a, true, true⟩, ⟨a + h, true, false⟩] ++
          (if a + h + dt < s + p then low (a + h + dt) true else [])

/-- Gate edges of a period that starts with a refresh gap. GH comes back to the command `full`, on which the gap was judged, and goes off at the end of the on-time of `cmd`, which the cap may have shortened (R298, R299). -/
def CellCmd.gapEdges (cmd full : CellCmd) (s p dt : Nat) : List GateEdge :=
  let from_ := match full with
    | .pwm h _ => s + (p - h) / 2
    | _ => s
  let fin := s + 2 * dt + 1000
  [⟨s, true, false⟩, ⟨s + dt, false, true⟩, ⟨s + dt + 1000, false, false⟩] ++
    match cmd with
    | .pwm h comp =>
      if h = 0 then []
      else if p ≤ h then [⟨fin, true, true⟩]
      else
        let a := s + (p - h) / 2
        [⟨Nat.max from_ fin, true, true⟩, ⟨a + h, true, false⟩] ++ if comp && decide (a + h + dt < s + p) then [⟨a + h + dt, false, true⟩] else []
    | .part g =>
      let a := s + (p - g) / 2
      if fin < a + g then [⟨Nat.max a fin, false, true⟩, ⟨a + g, false, false⟩] else []
    | _ => []

/-- The command with every on-time of GH at most 98 % of the period (R299). -/
def CellCmd.capped (cmd : CellCmd) (p : Nat) : CellCmd :=
  match cmd with
  | .pwm h comp => .pwm (Nat.min h (98 * p / 100)) comp
  | x => x

/-- A source of rank 1 to 4 that acts on the cell (R295). -/
def Chip.brgRank (c : Chip) (n : Nat) : Option Nat :=
  if c.bst n Reg.BRG.BRG_STAT_VDS_H || c.bst n Reg.BRG.BRG_STAT_VDS_L then some 1
  else if c.bst n Reg.BRG.BRG_STAT_SHUTTER_CLOSED then some 2
  else if c.bst n Reg.BRG.BRG_STAT_SHUT_HOLD || !c.en (pgBRG n) || c.flag (pgBRG n) Reg.HDR.PAGE_STAT_SAFE || (c.brg (brgLead n)).supBad then some 3
  else if (c.brg n).selftest.isSome then some 4
  else none

/-- SOURCE shows the rank that acts, minus 1. -/
def putSource (n : Nat) : Act :=
  .dyn fun c =>
    let gap := (c.brg n).gap
    put (pgBRG n) Reg.BRG.BRG_STAT_SOURCE (match c.brgRank n with
      | some r => r - 1
      | none => if gap.1 ≤ c.t ∧ c.t < gap.2 then 4 else 5)

/-- The 98 % cap applies to the carrier period in progress (R299, Table 11-9). -/
def Chip.capped (c : Chip) (n : Nat) : Bool := decide (c.t < (c.brg n).capTo)

/-- The cell follows a new command of rank 6; a refresh gap in progress runs to its end first (R295, R298). -/
def brgCommand (n : Nat) (raw : List GateEdge) : Act :=
  .seq (brgSettle n) (.dyn fun c =>
    let b := c.brg n
    if b.gap.1 ≤ c.t ∧ c.t < b.gap.2 then
      brgPlan n ((b.plan.filter fun e => decide (e.t < b.gap.2)) ++ raw.map fun e => { e with t := Nat.max e.t b.gap.2 })
    else brgPlan n raw)

/-- The command of a DIRECT cell (R294). -/
def Chip.directCmd (c : Chip) (n : Nat) : CellCmd :=
  match c.act (pgBRG n) Reg.BRG.DIRECT_DSTATE with
  | 1 => .pwm (c.act (pgBRG n) Reg.BRG.DIRECT_DUTY * c.act (pgBRG n) Reg.BRG.PWM_PERIOD / 10000) true
  | 2 => .low
  | _ => .off

/-- The cell follows the source that acts (R295). A DIRECT cell that is released goes on with the command of its period; a source of rank 1 to 4 ends a refresh gap. -/
def brgUpdate (n : Nat) : Act :=
  .seq (brgSettle n) (.dyn fun c =>
    let p := pgBRG n
    let held := decide (c.fld p Reg.BRG.BRG_STAT_SOURCE ≤ 3)
    .seq (match c.brgRank n with
      | some _ => .seq (modBrg n fun b => { b with gap := (b.gap.1, Nat.min b.gap.2 c.t) }) (brgPlan n (CellCmd.off.edges c.t 0 0))
      | none =>
        match (if c.on p then c.act p Reg.BRG.BRG_CFG_MODE else 0) with
        | 0 => brgCommand n (CellCmd.off.edges c.t 0 0)
        | 2 =>
          let cmd := c.directCmd n
          (match cmd with
            | .pwm _ _ => when held
                (match (c.brg n).pwm with
                  | some (s, q, h) => brgPlan n ((if c.capped n then (CellCmd.pwm h true).capped q else .pwm h true).edges s q (c.act p Reg.BRG.DT))
                  | none => .skip)
            | _ => brgCommand n (cmd.edges c.t 0 0))
        | _ => when ((c.unitOf n).all fun u => (c.ssc u).carrier.isNone) (brgCommand n (CellCmd.off.edges c.t 0 0)))
      (putSource n))

/-- A period of the cell starts at `s`: cap, refresh gap and gates (R298, R299). A listen takes no gap, as it keeps all gates off (R314, log entry 48). -/
def cellPeriod (n s p : Nat) (cmd : CellCmd) (listens : Bool := false) : Act :=
  .seq (brgSettle n) (.dyn fun c =>
    let pg := pgBRG n
    let b := c.brg n
    let dt := c.act pg Reg.BRG.DT
    let was := b.capTo != 0 && decide (s ≤ b.capTo)
    let drives := (c.brgRank n).isNone && c.on pg
    let cap := c.bst n Reg.BRG.BRG_STAT_CP_FAULT
    let judged := if was && cap then cmd.capped p else cmd
    let age := b.gapAge.map (· + 1)
    let gap := drives && !listens && c.bst n Reg.BRG.BRG_STAT_BST_UV && decide (judged.lowTime p dt < 1000) &&
      (match age with | some a => decide (c.act pg Reg.BRG.BST_CFG_REFRESH_N ≤ a) | none => true)
    let run := if cap then cmd.capped p else cmd
    seqs [
      modBrg n fun b => { b with capTo := if cap then s + p else b.capTo, gapAge := if gap then some 0 else age, gap := if gap then (s, s + 2 * dt + 1000) else b.gap },
      if drives then
        (if gap then seqs [brgPlan n (run.gapEdges judged s p dt), bump pg Reg.BRG.REFRESH_CNT, evt pg 3,
          record pg 0 0x04 (s + 2 * dt + 1000) (c.fld pg Reg.BRG.VBST) (c.act pg Reg.BRG.BST_CFG_REFRESH_N)]
        else brgPlan n (run.edges s p dt))
      else .skip,
      putSource n])

/-- BRG_CARRIER_START: a period of the DIRECT carrier starts; the cell follows it in DSTATE PWM (R294). -/
def execBrgCarrierStart (dt : Nat) (n : Fin 16) (s : State) : Host.Outcome State Fault Refusal :=
  s.act dt (.dyn fun c =>
    let p := c.act (pgBRG n) Reg.BRG.PWM_PERIOD
    match (c.brg n).carrier with
    | some t => when (c.on (pgBRG n))
        (let cmd := if c.act (pgBRG n) Reg.BRG.BRG_CFG_MODE = 2 then c.directCmd n else .off
         let h : Option Nat := match cmd with
           | .pwm h _ => some h
           | _ => none
         seqs [atTick t, modBrg n fun b => { b with carrier := some (t + p), pwm := h.map fun h => (t, p, h) },
           when h.isSome (cellPeriod n t p cmd)])
    | none => .skip)

/-- BRG_STAT as it stands now: the gates with their planned edges up to now, and the rank that acts. -/
def Chip.brgStat (c : Chip) (n : Nat) : Word :=
  let b := c.brg n
  let w := (b.plan.filter fun e => decide (e.t ≤ c.t)).foldl (fun w e => w.setBits (if e.high then 0 else 1) 1 (if e.on then 1 else 0))
    (c.word ((pgBRG n).base + 0x05C))
  (w.setBits 6 1 (if c.capped n then 1 else 0)).setBits 9 3 (match c.brgRank n with
    | some r => r - 1
    | none => if b.gap.1 ≤ c.t ∧ c.t < b.gap.2 then 4 else 5)

/-! ### Bootstrap and charge pump -/

/-- BST_MEASURE: VBST in 0.1 V, while the domain is on (R297). -/
def execBstMeasure (dt : Nat) (n : Fin 16) (dv : BitVec 8) (s : State) : Host.Outcome State Fault Refusal :=
  s.act dt (whenC (fun c => c.domainOn 9) (.dyn fun c =>
    let p := pgBRG n
    let uv := c.bst n Reg.BRG.BRG_STAT_BST_UV
    let th := c.act p Reg.BRG.BST_CFG_BST_UV
    let hit := if uv then decide (th + 5 < dv.toNat) else decide (dv.toNat < th)
    let k := if hit then (c.brg n).bst + 1 else 0
    seqs [put p Reg.BRG.VBST dv.toNat, modBrg n fun b => { b with bst := if 2 ≤ k then 0 else k },
      when (decide (2 ≤ k)) (seqs [putFlag p Reg.BRG.BRG_STAT_BST_UV (!uv), modBrg n fun b => { b with gapAge := none },
        record p 0 0x02 c.t (if uv then 0 else 1) dv.toNat, raiseLevels p fun c => c.brgLevels n])]))

/-- CP_FAULT_SET: the running charge pump below its level for 10 µs (R297, R299). -/
def execCpFaultSet (dt : Nat) (n : Fin 16) (s : State) : Host.Outcome State Fault Refusal :=
  s.act dt (whenC (fun c => c.en (pgBRG n) && c.domainOn 9 && !c.bst n Reg.BRG.BRG_STAT_CP_FAULT)
    (seqs [putFlag (pgBRG n) Reg.BRG.BRG_STAT_CP_FAULT true, .dyn fun c => record (pgBRG n) 0 0x03 c.t 1 0,
      raiseLevels (pgBRG n) fun c => c.brgLevels n]))

/-- CP_FAULT_CLEAR: in range for 1 ms (R299). -/
def execCpFaultClear (dt : Nat) (n : Fin 16) (s : State) : Host.Outcome State Fault Refusal :=
  s.act dt (whenC (fun c => c.bst n Reg.BRG.BRG_STAT_CP_FAULT)
    (seqs [putFlag (pgBRG n) Reg.BRG.BRG_STAT_CP_FAULT false, .dyn fun c => record (pgBRG n) 0 0x03 c.t 0 0]))

/-! ### Self-test -/

/-- SELFTEST (R304). -/
def execSelftest (dt : Nat) (src : Src) (n : Fin 16) (s : State) : Host.Outcome State Fault Refusal :=
  s.act dt (onPage src (pgBRG n) 0x058 true (.dyn fun c =>
    if c.en (pgBRG n) then err (pgBRG n) 0x41 src.code
    else when (c.brg n).selftest.isNone
      (seqs [putFlag (pgBRG n) Reg.BRG.BRG_CTRL_SELFTEST true, modBrg n fun b => { b with selftest := some (c.t + 100000) }, brgUpdate n])))

/-- SELFTEST_DONE: the ten outcomes of the injections (R304, R305). -/
def execSelftestDone (dt : Nat) (n : Fin 16) (result : BitVec 10) (s : State) : Host.Outcome State Fault Refusal :=
  s.act dt (.dyn fun c =>
    match (c.brg n).selftest with
    | none => .skip
    | some t =>
      let p := pgBRG n
      let pass := result == 1023
      seqs [atTick t, modBrg n fun b => { b with selftest := none }, putFlag p Reg.BRG.BRG_CTRL_SELFTEST false,
        put p Reg.BRG.ST_RESULT result.toNat, putFlag p Reg.BRG.BRG_STAT_ST_PASS pass, putFlag p Reg.BRG.BRG_STAT_ST_FAIL (!pass),
        evt p 4, record p 0 0x05 t result.toNat (if pass then 1 else 0), brgUpdate n])

end Sys2Proof.Machine
end

