-- ==== Sys2Proof/Machine/Can.lean ====
section
/-! DEFINITION. The CAN FD controllers: message objects, queue ports, error confinement and time-triggered windows (Chapter 15, R409 to R433). -/

namespace Sys2Proof.Machine

open Sys2Proof

def pgCAN (n : Nat) : Page := ⟨.can, n⟩

/-- Object `j` of controller `n`. -/
def pgOBJ (n j : Nat) : Page := ⟨.obj, 128 * n + j⟩

/-- What object `j` of controller `n` holds beyond its window. -/
def Chip.objOf (c : Chip) (n j : Nat) : ObjSt := c.obj (128 * n + j)

def modObjOf (n j : Nat) (f : ObjSt → ObjSt) : Act := modObj (128 * n + j) f

/-- The object that the requester's OBJ_SEL names (R413). -/
def Chip.objSel (c : Chip) (src : Src) (n : Nat) : Nat :=
  ((((c.can n).sel.find? fun (e : Nat × Nat) => e.1 == src.code).map Prod.snd).getD 0) % 128

/-- OBJ_SEL of a requester (R413). -/
def setObjSel (src : Src) (n v : Nat) : Act :=
  .seq (put (pgCAN n) Reg.CAN.OBJ_SEL v)
    (modCan n fun s => { s with sel := (src.code, v % 128) :: s.sel.filter fun e => e.1 != src.code })

/-! ### Frames -/

/-- Bytes of a data length code (Table 15-3). -/
def dlcBytes (fdf : Bool) (d : Nat) : Nat :=
  if d ≤ 8 then d else if !fdf then 8 else [12, 16, 20, 24, 32, 48, 64].getD (d - 9) 64

/-- Data bytes that the frame carries. -/
def frameBytes (f : CanFrame) : Nat := if f.rtr then 0 else dlcBytes f.fdf f.dlc.toNat

/-- Data words of the frame. -/
def frameWords (f : CanFrame) : Nat := (frameBytes f + 3) / 4

/-- Place of a frame in arbitration: the lower wins (ISO 11898-1: identifier bits, RTR or SRR, IDE). -/
def arbKey (ide : Bool) (id : Nat) (rtr : Bool) : Nat :=
  if ide then id / 2 ^ 18 * 2 ^ 21 + 2 ^ 20 + 2 ^ 19 + id % 2 ^ 18 * 2 + (if rtr then 1 else 0)
  else id % 2 ^ 11 * 2 ^ 21 + (if rtr then 2 ^ 20 else 0)

/-- The frame that a send object sends (R409, R418, R421): a remote frame is classical, and BRS and ESI stand in CAN FD frames only (Table 15-1). -/
def Chip.sendFrame (c : Chip) (n j : Nat) : CanFrame :=
  let p := pgOBJ n j
  let passive := c.fld (pgCAN n) Reg.CAN.ERR_STAT_STATE == 1
  let f := match (if c.flag p Reg.OBJ.OBJ_CFG_TO_QUEUE then (c.can n).txq else none) with
    | some f => f
    | none =>
      { ide := c.flag p Reg.OBJ.OBJ_CFG_IDE, id := BitVec.ofNat 29 (c.fld p Reg.OBJ.OBJ_ID), fdf := c.flag p Reg.OBJ.OBJ_CFG_FDF,
        brs := c.flag p Reg.OBJ.OBJ_CFG_BRS, esi := false, rtr := c.flag p Reg.OBJ.OBJ_CFG_RTR,
        dlc := BitVec.ofNat 4 (c.fld p Reg.OBJ.OBJ_INFO_DLC), data := (List.range 16).map fun i => BitVec.ofNat 32 (c.fld p Reg.OBJ.DATA i),
        stamp := 0 }
  let fd := f.fdf && !f.rtr
  { f with fdf := fd, brs := fd && f.brs, esi := fd && passive }

/-- The controller may send the object's frame: a CAN FD frame only with FD_EN = 1 (R431). -/
def Chip.sendable (c : Chip) (n j : Nat) : Bool := !(c.sendFrame n j).fdf || c.actFlag (pgCAN n) Reg.CAN.CAN_CFG_FD_EN

/-! ### Status -/

/-- LEVEL events of a CAN page (R433). -/
def Chip.canLevels (c : Chip) (n : Nat) : Nat :=
  let st := c.fld (pgCAN n) Reg.CAN.ERR_STAT_STATE
  (if c.flag (pgCAN n) Reg.CAN.ERR_STAT_WARNING then 4 else 0) + (if st = 1 then 8 else 0) + (if st = 2 then 16 else 0)

/-- DATA1 of the STATE and BUS_ERROR records (R433). -/
def Chip.canCounts (c : Chip) (n : Nat) : Nat := c.fld (pgCAN n) Reg.CAN.ERR_STAT_TEC + 2 ^ 8 * c.fld (pgCAN n) Reg.CAN.ERR_STAT_REC

/-- STATE changes (R422, R431). -/
def canState (n st : Nat) : Act :=
  .dyn fun c => when (c.fld (pgCAN n) Reg.CAN.ERR_STAT_STATE != st)
    (seqs [put (pgCAN n) Reg.CAN.ERR_STAT_STATE st,
      .dyn fun c => record (pgCAN n) 0 0x01 c.t st (c.canCounts n)])

/-- The requester's object shows its LOST, NEW and SHADOW bits; RX_NEW follows NEW. -/
def putNew (n j : Nat) (b : Bool) : Act := .seq (putFlag (pgOBJ n j) Reg.OBJ.OBJ_STAT_NEW b) (putBit (pgCAN n) Reg.CAN.RX_NEW j b)

/-- OBJ_CFG takes a value; with EN = 0 the object leaves its windows (R413, R429). DESIGN CHOICE: a queue object that is disabled has no previous frame when it is enabled again (R421; log entry 84). -/
def putObjCfg (n j : Nat) (v : Word) : Act :=
  .seq (setWord ((pgOBJ n j).base + Reg.OBJ.OBJ_CFG_EN.off) v)
    (when (!v.getLsbD 0) (.seq (modObjOf n j fun o => { o with win := none, winOpen := false, cfg := none })
      (when (v.getLsbD 6) (modCan n fun s => { s with txqStop := false }))))

/-- A PENDING or armed object ends with a result, and a waiting write of EN = 0 then disables it; after BUSOFF or MISSED the queue object takes no further packet (R413, R418, R419, R421, R423, R429). -/
def objEnd (n j result : Nat) : Act :=
  .seq (seqs [putFlag (pgOBJ n j) Reg.OBJ.OBJ_STAT_PENDING false, put (pgOBJ n j) Reg.OBJ.OBJ_STAT_TX_RESULT result])
    (.dyn fun c => seqs [modObjOf n j fun o => { o with fails := 0, abort_ := false, last := false, winOpen := false },
      when (c.flag (pgOBJ n j) Reg.OBJ.OBJ_CFG_TO_QUEUE) (modCan n fun s => { s with txq := none, txqStop := result == 3 || result == 4 }),
      match (c.objOf n j).cfg with | some v => putObjCfg n j v | none => .skip])

/-- The controller enters BUS_OFF: every PENDING object ends (R423). -/
def busOff (n : Nat) : Act :=
  .dyn fun c =>
    seqs [each ((List.range 128).filter fun j => c.flag (pgOBJ n j) Reg.OBJ.OBJ_STAT_PENDING) fun j => objEnd n j 3,
      bump (pgCAN n) Reg.CAN.BUSOFF_CNT, canState n 2, raiseLevels (pgCAN n) fun c => c.canLevels n]

/-- TEC and REC take new values, and STATE and WARNING follow (R422, R423). -/
def canCount (n : Nat) (tec rec_ : Nat) : Act :=
  .dyn fun c =>
    let st := c.fld (pgCAN n) Reg.CAN.ERR_STAT_STATE
    let r := Nat.min rec_ 128
    seqs [put (pgCAN n) Reg.CAN.ERR_STAT_TEC (Nat.min tec 255), put (pgCAN n) Reg.CAN.ERR_STAT_REC r,
      putFlag (pgCAN n) Reg.CAN.ERR_STAT_WARNING (decide (96 ≤ tec) || decide (96 ≤ r)),
      when (st == 0 || st == 1)
        (if 255 < tec then busOff n else canState n (if 128 ≤ tec ∨ 128 ≤ r then 1 else 0)),
      raiseLevels (pgCAN n) fun c => c.canLevels n]

/-- The window of an object ends without its frame (R429, R430). -/
def windowMissed (n j : Nat) : Act :=
  seqs [objEnd n j 4, evt (pgCAN n) 7, .dyn fun c => record (pgCAN n) 0 0x06 c.t j (c.fld (pgCAN n) Reg.CAN.TT_STAT_CYCLE)]

/-- STATE 3 of ERR_STAT. -/
def canRECOVERING : Nat := 3

/-- The page stops: an attempt on the bus is cut off, so an object that waited for its end ends, ABORTED where ABORT came and MISSED where its window has ended, and a RECOVER of the same cycle has no effect (R424, Table 15-6). -/
def canStop (n : Nat) : Act :=
  .dyn fun c =>
    seqs [each ((List.range 128).filter fun j => c.flag (pgOBJ n j) Reg.OBJ.OBJ_STAT_PENDING && (c.objOf n j).abort_) fun j => objEnd n j 2,
      each ((List.range 128).filter fun j => c.flag (pgOBJ n j) Reg.OBJ.OBJ_STAT_PENDING && (c.objOf n j).last && !(c.objOf n j).abort_) fun j => windowMissed n j,
      when (c.fld (pgCAN n) Reg.CAN.ERR_STAT_STATE == canRECOVERING && (c.can n).recoverAt == some c.t) (canState n 2),
      modCan n fun s => { s with stopAt := some c.t, refNext := none, yield := none }]

/-- The controller takes part in bus traffic: its page is on, its domain and region up, and it is not in BUS_OFF or RECOVERING. -/
def Chip.canLive (c : Chip) (n : Nat) : Bool :=
  c.on (pgCAN n) && decide (c.fld (pgCAN n) Reg.CAN.ERR_STAT_STATE < 2) && !c.regionDown 5 && c.domainOn 10

/-- 11 nominal bits in ticks, rounded up: one CAN clock cycle lasts 31.25 ticks (R411). -/
def Chip.canIdleTicks (c : Chip) (n : Nat) : Nat :=
  let g := fun f => c.act (pgCAN n) f
  ((g Reg.CAN.NBT_BRP + 1) * (3 + g Reg.CAN.NBT_TSEG1 + g Reg.CAN.NBT_TSEG2) * 1375 + 3) / 4

/-- The controller has seen 11 recessive bits by the tick, and takes part in what begins then; a start of frame follows recessive bits (R410, R424). -/
def Chip.canSynced (c : Chip) (n tick : Nat) : Bool :=
  match (c.can n).integ with
  | some t => decide (t + c.canIdleTicks n ≤ tick)
  | none => true

/-- By how much an error raises TEC and REC (ISO 11898-1:2015; R422, PRESUMED in log entry 98). -/
def errorCounts (passive : Bool) : CanErrorKind → Nat × Nat
  | .receiver => (0, 1)
  | .receiverDominant => (0, 8)
  | .transmitter => (8, 0)
  | .ackAlone => (if passive then 0 else 8, 0)
  | .stuffArbitration => (0, 0)
  | .flagBit tx | .dominantRun tx => if tx then (8, 0) else (0, 8)

/-- An error of kind LEC: the counters follow ISO 11898-1, and a BUS_ERROR record is written (R422). -/
def canError (n lec : Nat) (kind : CanErrorKind) : Act :=
  .dyn fun c =>
    let p := pgCAN n
    let k := errorCounts (c.fld p Reg.CAN.ERR_STAT_STATE == 1) kind
    let code := match kind with
      | .ackAlone => 3
      | .stuffArbitration => 1
      | _ => lec
    seqs [put p Reg.CAN.ERR_STAT_LEC code, canCount n (c.fld p Reg.CAN.ERR_STAT_TEC + k.1) (c.fld p Reg.CAN.ERR_STAT_REC + k.2),
      .dyn fun c => record p 0 0x02 c.t code (c.canCounts n)]

/-! ### Receiving -/

/-- A frame is stored in an object: its words, NEW (R415). -/
def storeFrame (n j : Nat) (f : CanFrame) : Act :=
  let p := pgOBJ n j
  seqs [put p Reg.OBJ.OBJ_HEAD_ID f.id.toNat, putFlag p Reg.OBJ.OBJ_HEAD_IDE f.ide, put p Reg.OBJ.OBJ_INFO_DLC f.dlc.toNat,
    putFlag p Reg.OBJ.OBJ_INFO_BRS f.brs, putFlag p Reg.OBJ.OBJ_INFO_ESI f.esi, putFlag p Reg.OBJ.OBJ_INFO_FDF f.fdf,
    putFlag p Reg.OBJ.OBJ_INFO_RTR f.rtr, putWide p Reg.OBJ.OBJ_TIDE_LO Reg.OBJ.OBJ_TIDE_HI f.stamp,
    each (List.range 16) fun i => put p Reg.OBJ.DATA (if i < (frameWords f) then (f.data.getD i 0).toNat else 0) i, putNew n j true]

/-- A frame is lost at an object or at the receive port, 0x7F (R415, R420). -/
def frameLost (n j : Nat) : Act :=
  seqs [bump (pgCAN n) Reg.CAN.LOST_CNT, evt (pgCAN n) 5, .dyn fun c => record (pgCAN n) 0 0x04 c.t j (c.fld (pgCAN n) Reg.CAN.LOST_CNT)]

/-- A frame reaches a receive object (R415). -/
def objReceive (n j : Nat) (f : CanFrame) : Act :=
  .dyn fun c =>
    let p := pgOBJ n j
    let ovw := c.flag p Reg.OBJ.OBJ_CFG_OVERWRITE
    let lost := .seq (putFlag p Reg.OBJ.OBJ_STAT_LOST true) (frameLost n j)
    if c.flag p Reg.OBJ.OBJ_STAT_LOCKED then
      let fill := .seq (modObjOf n j fun o => { o with shadow := some f }) (putFlag p Reg.OBJ.OBJ_STAT_SHADOW true)
      if (c.objOf n j).shadow.isNone then fill else .seq (when ovw fill) lost
    else if c.flag p Reg.OBJ.OBJ_STAT_NEW then .seq (when ovw (storeFrame n j f)) lost
    else storeFrame n j f

/-- A frame goes to the receive port, which holds four (R420). -/
def portReceive (n j : Nat) (f : CanFrame) : Act :=
  .dyn fun c =>
    let code := 0x20 + n
    let p := c.port code
    if (c.queueOfProd code).isNone || decide (4 ≤ p.frames.length) then .seq (modPort code fun p => { p with lost := true }) (frameLost n 0x7F)
    else
      let b := fun (x : Bool) (i : Nat) => if x then 2 ^ i else 0
      let w0 := j + 2 ^ 8 * f.dlc.toNat + b f.ide 12 + b f.fdf 13 + b f.brs 14 + b f.esi 15 + b f.rtr 16 + b p.lost 17
      let ws := [w0, f.id.toNat, f.stamp % 2 ^ 32, f.stamp / 2 ^ 32].map (BitVec.ofNat 32) ++ (List.range (frameWords f)).map fun i => f.data.getD i 0
      modPort code fun p => { p with frames := p.frames ++ [ws], lost := false }

/-- The first enabled receive object that the frame matches (R414). -/
def Chip.objMatch (c : Chip) (n : Nat) (f : CanFrame) : Option Nat :=
  (List.range 128).find? fun j =>
    let p := pgOBJ n j
    c.flag p Reg.OBJ.OBJ_CFG_EN && !c.flag p Reg.OBJ.OBJ_CFG_DIR && (c.flag p Reg.OBJ.OBJ_CFG_IDE == f.ide) &&
      ((f.id ^^^ BitVec.ofNat 29 (c.fld p Reg.OBJ.OBJ_ID)) &&& BitVec.ofNat 29 (c.fld p Reg.OBJ.OBJ_MASK_MASK) == 0) &&
      (!c.flag p Reg.OBJ.OBJ_MASK_FDF_MATCH || c.flag p Reg.OBJ.OBJ_CFG_FDF == f.fdf)

/-- The frame is a reference message: its identifier equals REF_ID in all bits but [2:0] (R414). -/
def Chip.isRef (c : Chip) (n : Nat) (f : CanFrame) : Bool :=
  f.ide == c.actFlag (pgCAN n) Reg.CAN.REF_ID_IDE && f.id.toNat / 8 == c.act (pgCAN n) Reg.CAN.REF_ID_ID / 8

/-- A reference message starts a basic cycle (R428). -/
def refCycle (n : Nat) (cycle : Nat) (stamp id : Nat) (own : Bool) : Act :=
  seqs [putWide (pgCAN n) Reg.CAN.LAST_REF_LO Reg.CAN.LAST_REF_HI stamp, put (pgCAN n) Reg.CAN.TT_STAT_CYCLE cycle,
    putFlag (pgCAN n) Reg.CAN.TT_STAT_SENT_LAST own, when own (putFlag (pgCAN n) Reg.CAN.TT_STAT_YIELDED false),
    evt (pgCAN n) 6, record (pgCAN n) 0 0x03 stamp (cycle % 64 + if own then 64 else 0) id]

/-- A received reference message; another master's, in the half period before s_k, makes the controller withdraw its own (R428). -/
def refReceive (n : Nat) (f : CanFrame) : Act :=
  .dyn fun c =>
    let p := pgCAN n
    let half := c.act p Reg.CAN.REF_PERIOD / 2
    let other := f.id.toNat % 8 != c.act p Reg.CAN.REF_ID_ID % 8
    .seq (refCycle n ((f.data.getD 0 0).bits 0 6) f.stamp f.id.toNat false)
      (let ahead := fun (k : Nat) => c.actFlag p Reg.CAN.TT_CFG_TM_EN && other && decide (k ≤ f.stamp + half) && decide (f.stamp < k)
       match (c.can n).refOffer.filter fun o => ahead o.1 with
        | some _ => .seq (modCan n fun s => { s with refOffer := none }) (putFlag p Reg.CAN.TT_STAT_YIELDED true)
        | none => match (c.can n).refNext with
          | some k => when (ahead k) (.seq (modCan n fun s => { s with yield := some k }) (putFlag p Reg.CAN.TT_STAT_YIELDED true))
          | none => .skip)

/-- A frame received without error, from the bus or by loopback: it goes to the first object that it matches (R414, R415, R420). -/
def receiveFrame (n : Nat) (f : CanFrame) : Act :=
  .dyn fun c =>
    let p := pgCAN n
    seqs [bumpWrap p Reg.CAN.RX_CNT, evt p 0,
      (match c.objMatch n f with
        | some j => if c.flag (pgOBJ n j) Reg.OBJ.OBJ_CFG_TO_QUEUE then portReceive n j f else objReceive n j f
        | none => .seq (bump p Reg.CAN.NOMATCH_CNT) (when (c.actFlag p Reg.CAN.CAN_CFG_NOMATCH_EN) (portReceive n 0x7F f)))]

/-- REC after a frame received without error: ISO 11898-1 lowers it by 1, or from PASSIVE to a value from 119 to 127 that it leaves open (log entry 6). -/
def recDown (c : Chip) (n : Nat) : Nat :=
  let r := c.fld (pgCAN n) Reg.CAN.ERR_STAT_REC
  if 127 < r then 119 + Config.freeValue c.free % 9 else r - 1

/-- CAN_RX_FRAME: a frame received without error, at its end; or a CAN FD frame with FD_EN = 0, at its res bit, as far as it has been received (R410, R412, R414). -/
def execCanRxFrame (dt : Nat) (n : Fin 6) (f : CanFrame) (s : State) : Host.Outcome State Fault Refusal :=
  s.act dt (.dyn fun c =>
    let p := pgCAN n
    when (c.canLive n && c.canSynced n f.stamp)
      (if f.fdf && !c.actFlag p Reg.CAN.CAN_CFG_FD_EN then
        (if c.actFlag p Reg.CAN.CAN_CFG_PXHD then
          seqs [evt p 8, record p 0 0x05 c.t f.id.toNat 0, modCan n fun s => { s with integ := some c.t }]
        else canError n 2 .receiver)
      else seqs [.prim .freeNext, canCount n (c.fld p Reg.CAN.ERR_STAT_TEC) (recDown c n), receiveFrame n f, when (c.isRef n f) (refReceive n f)]))

/-! ### Sending -/

/-- Objects that were PENDING at the start of the attempt, the winner of arbitration first (R418). -/
def Chip.offered (c : Chip) (n sof : Nat) : Option Nat :=
  let js := (List.range 128).filter fun j => c.flag (pgOBJ n j) Reg.OBJ.OBJ_STAT_PENDING && decide ((c.objOf n j).since ≤ sof) && c.sendable n j
  let key := fun j => let f := c.sendFrame n j; arbKey f.ide f.id.toNat f.rtr
  js.foldl (fun b j => match b with
    | none => some j
    | some i => if key j < key i then some j else some i) none

/-- MODE lets the controller send (Table 15-1). -/
def Chip.canSends (c : Chip) (n : Nat) : Bool :=
  c.canLive n && (c.act (pgCAN n) Reg.CAN.CAN_CFG_MODE == 0 || c.act (pgCAN n) Reg.CAN.CAN_CFG_MODE == 3)

/-- The first tick of the reference grid at least 250 ticks ahead (R426). -/
def Chip.refFirst (c : Chip) (n : Nat) : Nat :=
  let a := c.actWide (pgCAN n) Reg.CAN.REF_ANCHOR_LO Reg.CAN.REF_ANCHOR_HI
  let p := c.act (pgCAN n) Reg.CAN.REF_PERIOD
  if c.t + 250 ≤ a then a else a + (c.t + 250 - a + p - 1) / p * p

/-- Time mastering starts where TM_EN applies on a running page, and ends with it; a commit that moves the grid starts the new one alike (R426). -/
def canTimeMaster (n : Nat) (fresh : Bool := false) : Act :=
  .dyn fun c =>
    if c.on (pgCAN n) && c.actFlag (pgCAN n) Reg.CAN.TT_CFG_TM_EN then
      modCan n fun s => { s with refNext := some (if fresh then c.refFirst n else s.refNext.getD (c.refFirst n)) }
    else modCan n fun s => { s with refNext := none, yield := none }

/-- The reference message offered (R427). -/
def Chip.refFrame (c : Chip) (n sof : Nat) : CanFrame :=
  let p := pgCAN n
  let cyc := (c.fld p Reg.CAN.TT_STAT_CYCLE + 1) % (c.act p Reg.CAN.TT_CFG_CYCLE_MAX + 1)
  let tide := c.actFlag p Reg.CAN.TT_CFG_TIDE_IN_REF
  { ide := c.actFlag p Reg.CAN.REF_ID_IDE, id := BitVec.ofNat 29 (c.act p Reg.CAN.REF_ID_ID), fdf := false, brs := false, esi := false, rtr := false,
    dlc := if tide then 8 else 4,
    data := [BitVec.ofNat 32 (cyc + 2 ^ 8 * c.act p Reg.CAN.REF_DATA), if tide then BitVec.ofNat 32 (c.can n).refSent else 0], stamp := sof }

/-- The reference message has been sent (R426 to R428). -/
def refSend (n k sof : Nat) : Act :=
  .dyn fun c =>
    let f := c.refFrame n sof
    seqs [modCan n fun s => { s with refOffer := none, refSent := sof }, putMax (pgCAN n) Reg.CAN.REF_LATE_MAX (sof - k),
      refCycle n ((f.data.getD 0 0).bits 0 6) sof f.id.toNat true]

/-- The reference message offered at the start of the attempt goes ahead of every object (R426). -/
def Chip.refOffered (c : Chip) (n sof : Nat) : Option Nat :=
  match (c.can n).refOffer with
  | some (k, t) => if t ≤ sof ∧ c.actFlag (pgCAN n) Reg.CAN.TT_CFG_TM_EN then some k else none
  | none => none

/-- The attempt of object `j` ended in an error, or lost arbitration (R419, R430). -/
def attemptFails (n j : Nat) (lost : Bool) : Act :=
  .dyn fun c =>
    let o := c.objOf n j
    let max := c.act (pgCAN n) Reg.CAN.CAN_CFG_RETRY_MAX
    let fails := if lost then o.fails else o.fails + 1
    if o.abort_ then objEnd n j 2
    else if o.last then windowMissed n j
    else if c.flag (pgOBJ n j) Reg.OBJ.OBJ_CFG_SINGLE_SHOT || (!lost && max != 0 && decide (max ≤ fails)) then objEnd n j 5
    else modObjOf n j fun o => { o with fails := fails }

/-- Largest transmitter delay that can be compensated, in CAN clock cycles (R411). -/
def maxDelay : Nat := 125

/-- CAN_TX_DONE: the frame whose attempt began at `sof` is sent without error (R418, R426). `delay` is the delay from CAN_TX to CAN_RX that the transmitter measures where delay compensation applies; one that is too long is a bit error instead, of a polarity that the manual does not give (R411; log entry 6). -/
def execCanTxDone (dt : Nat) (n : Fin 6) (sof delay : Nat) (s : State) : Host.Outcome State Fault Refusal :=
  s.act dt (.dyn fun c =>
    let p := pgCAN n
    let done := fun (f : CanFrame) (k : Act) =>
      seqs [bumpWrap p Reg.CAN.TX_CNT, canCount n (c.fld p Reg.CAN.ERR_STAT_TEC - 1) (c.fld p Reg.CAN.ERR_STAT_REC), k,
        when (c.act p Reg.CAN.CAN_CFG_MODE == 3) (receiveFrame n { f with stamp := sof })]
    when (c.canSends n && c.canSynced n sof)
      (match c.refOffered n sof with
        | some k => done (c.refFrame n sof) (refSend n k sof)
        | none =>
          match c.offered n sof with
          | some j =>
            let tdc := (c.sendFrame n j).fdf && c.actFlag p Reg.CAN.CAN_CFG_TDC_EN
            .seq (when tdc (modCan n fun s => { s with ssp := some (delay + c.act p Reg.CAN.TDC) }))
            (if tdc && decide (maxDelay < delay) then
              seqs [.prim .freeNext, canError n (4 + Config.freeValue c.free % 2) .transmitter, attemptFails n j false]
            else done (c.sendFrame n j)
              (seqs [objEnd n j 1, putWide (pgOBJ n j) Reg.OBJ.OBJ_TIDE_LO Reg.OBJ.OBJ_TIDE_HI sof, evt p 1,
                when (c.act p Reg.CAN.CAN_CFG_MODE == 3 && c.isRef n (c.sendFrame n j))
                  (refCycle n (((c.sendFrame n j).data.getD 0 0).bits 0 6) sof (c.sendFrame n j).id.toNat true)]))
          | none => .skip))

/-- CAN_ATTEMPT_FAIL: the attempt that began at `sof` ended in an error, or lost arbitration (R419, R430). -/
def execCanAttemptFail (dt : Nat) (n : Fin 6) (sof : Nat) (lost : Bool) (s : State) : Host.Outcome State Fault Refusal :=
  s.act dt (.dyn fun c =>
    when (c.canSends n && c.canSynced n sof && (c.refOffered n sof).isNone)
      (match c.offered n sof with
        | none => .skip
        | some j => attemptFails n j lost))

/-- An object becomes PENDING (R418). -/
def objPend (n j : Nat) : Act :=
  .dyn fun c => when (!c.flag (pgOBJ n j) Reg.OBJ.OBJ_STAT_PENDING)
    (.seq (putFlag (pgOBJ n j) Reg.OBJ.OBJ_STAT_PENDING true) (modObjOf n j fun o => { o with since := c.t, fails := 0, abort_ := false }))

/-- CAN_SEND (R418, R429). -/
def execCanSend (dt : Nat) (src : Src) (n : Fin 6) (s : State) : Host.Outcome State Fault Refusal :=
  s.act dt (onPage src (pgCAN n) 0x120 true (.dyn fun c =>
    let j := c.objSel src n
    let p := pgOBJ n j
    when (c.flag p Reg.OBJ.OBJ_CFG_EN && c.flag p Reg.OBJ.OBJ_CFG_DIR)
      (if c.flag p Reg.OBJ.OBJ_CFG_TIME then modObjOf n j fun o => { o with armed := true } else objPend n j)))

/-- ABORT of an object; `bus` when its frame is on the bus, so that the attempt completes first (R418, R429). -/
def objAbort (n j : Nat) (bus : Bool) : Act :=
  .dyn fun c => .seq (modObjOf n j fun o => { o with armed := false })
    (when (c.flag (pgOBJ n j) Reg.OBJ.OBJ_STAT_PENDING)
      (if bus then modObjOf n j fun o => { o with abort_ := true } else objEnd n j 2))

/-- CAN_ABORT (R418). -/
def execCanAbort (dt : Nat) (src : Src) (n : Fin 6) (bus : Bool) (s : State) : Host.Outcome State Fault Refusal :=
  s.act dt (onPage src (pgCAN n) 0x120 true (.dyn fun c => objAbort n (c.objSel src n) bus))

/-! ### Objects and locks -/

/-- Bits of OBJ_CFG. -/
def objCfgMask : Nat := 0x3FF

/-- OBJ_CFG_WRITE: the rules of R413, R421 and R429; `bus` when a PENDING frame is on the bus, which then completes before the object is disabled. -/
def execObjCfgWrite (dt : Nat) (src : Src) (n : Fin 6) (v : Word) (bus : Bool) (s : State) : Host.Outcome State Fault Refusal :=
  s.act dt (onPage src (pgCAN n) 0x104 true (.dyn fun c =>
    let j := c.objSel src n
    let p := pgOBJ n j
    let a := p.base + Reg.OBJ.OBJ_CFG_EN.off
    let old := c.word a
    let new := BitVec.ofNat 32 (v.toNat % 2 ^ 10)
    let en := v.getLsbD 0
    let second := v.getLsbD 1 && v.getLsbD 6 && (List.range 128).any fun i =>
      i != j && c.flag (pgOBJ n i) Reg.OBJ.OBJ_CFG_DIR && c.flag (pgOBJ n i) Reg.OBJ.OBJ_CFG_TO_QUEUE
    let enable := en && !old.getLsbD 0
    if en && old.getLsbD 0 then (if new = BitVec.ofNat 32 (old.toNat % 2 ^ 10) then .skip else err (pgCAN n) 0x40 src.code)
    else if second then err (pgCAN n) 0x45 src.code
    else if enable && v.getLsbD 8 && decide (2 ^ c.fld p Reg.OBJ.OBJ_CYCLE_REP ≤ c.fld p Reg.OBJ.OBJ_CYCLE_BASE) then err (pgCAN n) 0x03 src.code
    else if enable && v.getLsbD 8 && c.fld p Reg.OBJ.OBJ_WIN == 0 then err (pgCAN n) 0x04 src.code
    else if !en && bus && c.flag p Reg.OBJ.OBJ_STAT_PENDING then .seq (objAbort n j true) (modObjOf n j fun o => { o with cfg := some new })
    else .seq (when (!en) (objAbort n j bus)) (putObjCfg n j new)))

/-- The lock of an object is held by another requester: its window reads 0 (R417). -/
def lockedBy (n j : Nat) (src : Src) (k : Act) : Act :=
  .dyn fun c =>
    if c.flag (pgOBJ n j) Reg.OBJ.OBJ_STAT_LOCKED && c.fld (pgOBJ n j) Reg.OBJ.OBJ_STAT_LOCK_OWNER != src.code then .seq (.prim (.answer 0 0)) (err (pgCAN n) 0x42 src.code)
    else k

/-- The lock releases; a full shadow moves in (R415, R416). -/
def unlock (n j : Nat) (read : Bool) : Act :=
  .dyn fun c =>
    let p := pgOBJ n j
    seqs [putFlag p Reg.OBJ.OBJ_STAT_LOCKED false, put p Reg.OBJ.OBJ_STAT_LOCK_OWNER 0, when read (putNew n j false),
      match (c.objOf n j).shadow with
      | some f => seqs [modObjOf n j fun o => { o with shadow := none }, putFlag p Reg.OBJ.OBJ_STAT_SHADOW false, storeFrame n j f]
      | none => .skip]

/-- Offset of the last word of the frame that an object shows (R416). -/
def Chip.lastWord (c : Chip) (n j : Nat) : Nat :=
  let p := pgOBJ n j
  let b := if c.flag p Reg.OBJ.OBJ_INFO_RTR then 0 else dlcBytes (c.flag p Reg.OBJ.OBJ_INFO_FDF) (c.fld p Reg.OBJ.OBJ_INFO_DLC)
  if b = 0 then 0x130 else 0x140 + 4 * ((b + 3) / 4 - 1)

/-- The word of the window that a read returns: OBJ_CTRL shows the actions that have not completed (R432, Table 2-3). -/
def Chip.objWord (c : Chip) (n j off : Nat) : Word :=
  let o := c.objOf n j
  if off = 0x120 then BitVec.ofNat 32 ((if c.flag (pgOBJ n j) Reg.OBJ.OBJ_STAT_PENDING || o.armed then 1 else 0) + if o.abort_ then 2 else 0)
  else c.word ((pgOBJ n j).base + off)

/-- A read of the object window: one of OBJ_HEAD takes the read lock of an enabled receive object, and the holder's read of the frame's last word releases it, whoever reads (R416, R417). -/
def objRead (src : Src) (n off : Nat) : Act :=
  .dyn fun c =>
    let j := c.objSel src n
    let p := pgOBJ n j
    lockedBy n j src (.seq (.prim (.answer 0 (c.objWord n j off)))
      (if off = 0x124 then
        when (c.flag p Reg.OBJ.OBJ_CFG_EN && !c.flag p Reg.OBJ.OBJ_CFG_DIR)
          (.seq (putFlag p Reg.OBJ.OBJ_STAT_LOCKED true) (put p Reg.OBJ.OBJ_STAT_LOCK_OWNER src.code))
       else when (off == c.lastWord n j && c.flag p Reg.OBJ.OBJ_STAT_LOCKED) (unlock n j true)))

/-- OBJ_HEAD_READ: the read takes the read lock of an enabled receive object (R416). -/
def execObjHeadRead (dt : Nat) (src : Src) (n : Fin 6) (s : State) : Host.Outcome State Fault Refusal :=
  s.act dt (onRead src (pgCAN n) 0x124 (objRead src n 0x124))

/-- OBJ_LAST_READ: the holder's read of the frame's last word releases the lock (R416). -/
def execObjLastRead (dt : Nat) (src : Src) (n : Fin 6) (s : State) : Host.Outcome State Fault Refusal :=
  s.act dt (.dyn fun c =>
    let off := c.lastWord n (c.objSel src n)
    onRead src (pgCAN n) off (objRead src n off))

/-- OBJ_RELEASE: the holder releases the lock and leaves NEW set (R417). -/
def execObjRelease (dt : Nat) (src : Src) (n : Fin 6) (s : State) : Host.Outcome State Fault Refusal :=
  s.act dt (onPage src (pgCAN n) 0x120 true (.dyn fun c =>
    let j := c.objSel src n
    when (c.flag (pgOBJ n j) Reg.OBJ.OBJ_STAT_LOCKED && c.fld (pgOBJ n j) Reg.OBJ.OBJ_STAT_LOCK_OWNER == src.code) (unlock n j false)))

/-- Locks held by cores of a Quay that enters RESET are released (R417). -/
def canLocksOf (q : Quay) : Act :=
  .dyn fun c => each ((List.range 768).filter fun k =>
      c.flag ⟨.obj, k⟩ Reg.OBJ.OBJ_STAT_LOCKED && decide (16 * q.idx ≤ c.fld ⟨.obj, k⟩ Reg.OBJ.OBJ_STAT_LOCK_OWNER) && decide (c.fld ⟨.obj, k⟩ Reg.OBJ.OBJ_STAT_LOCK_OWNER < 16 * q.idx + 4)) fun k => unlock (k / 128) (k % 128) false

/-! ### Errors and bus-off -/

/-- CAN_BUS_ERROR: an error that LEC names, and the case under which ISO 11898-1 counts it (R422). -/
def execCanBusError (dt : Nat) (n : Fin 6) (lec : Fin 8) (kind : CanErrorKind) (s : State) : Host.Outcome State Fault Refusal :=
  s.act dt (whenC (fun c => c.canLive n && c.canSynced n c.t) (canError n lec kind))

/-- CAN_RECOVER (R423); a RECOVER in the cycle of EN = 0 has no effect (Table 15-6). -/
def execCanRecover (dt : Nat) (src : Src) (n : Fin 6) (s : State) : Host.Outcome State Fault Refusal :=
  s.act dt (onPage src (pgCAN n) 0x050 true (.dyn fun c =>
    if c.fld (pgCAN n) Reg.CAN.ERR_STAT_STATE ≠ 2 then err (pgCAN n) 0x44 src.code
    else when ((c.can n).stopAt != some c.t) (.seq (canState n 3) (modCan n fun s => { s with recoverAt := some c.t }))))

/-- CAN_RECOVERED: 128 occurrences of 11 recessive bits monitored (R423). -/
def execCanRecovered (dt : Nat) (n : Fin 6) (s : State) : Host.Outcome State Fault Refusal :=
  s.act dt (.dyn fun c => when (c.fld (pgCAN n) Reg.CAN.ERR_STAT_STATE == canRECOVERING && c.on (pgCAN n) && c.domainOn 10)
    (seqs [put (pgCAN n) Reg.CAN.ERR_STAT_TEC 0, put (pgCAN n) Reg.CAN.ERR_STAT_REC 0, putFlag (pgCAN n) Reg.CAN.ERR_STAT_WARNING false, modCan n fun s => { s with integ := none }, canState n 0]))

/-! ### The transmit queue -/

/-- The enabled send object with TO_QUEUE = 1 (R421). -/
def Chip.txqObj (c : Chip) (n : Nat) : Option Nat :=
  (List.range 128).find? fun j => c.flag (pgOBJ n j) Reg.OBJ.OBJ_CFG_EN && c.flag (pgOBJ n j) Reg.OBJ.OBJ_CFG_DIR && c.flag (pgOBJ n j) Reg.OBJ.OBJ_CFG_TO_QUEUE

/-- A packet of the transmit queue as a frame; none where a reserved bit is set or the length is wrong (R421). -/
def txqFrame (ws : List Word) : Option CanFrame :=
  let w0 := ws.getD 0 0
  let w1 := ws.getD 1 0
  let f : CanFrame := ⟨w0.getLsbD 4, BitVec.ofNat 29 w1.toNat, w0.getLsbD 5, w0.getLsbD 6, false, w0.getLsbD 7, BitVec.ofNat 4 w0.toNat, ws.drop 2, 0⟩
  if w0.bits 8 24 = 0 ∧ w1.bits 29 3 = 0 ∧ ws.length = 2 + (frameWords f) then some f else none

/-- CAN_TXQ_TAKE: the queue send object takes the next packet (R404, R421). -/
def execCanTxqTake (dt : Nat) (n : Fin 6) (corr bad : Nat) (s : State) : Host.Outcome State Fault Refusal :=
  s.act dt (.dyn fun c =>
    match c.txqObj n, c.queueOfCons (0x30 + n) with
    | some j, some m =>
      match c.headWords m with
      | some ws =>
        when (c.canLive n && !c.flag (pgOBJ n j) Reg.OBJ.OBJ_STAT_PENDING && (c.can n).txq.isNone && !(c.can n).txqStop)
          (seqs [packetErrors m corr bad, pktRetire m, basinSettle,
            match (if c.flaggedDropped bad then none else txqFrame ws) with
            | some f => .seq (modCan n fun s => { s with txq := some f }) (objPend n j)
            | none => bump (pgCAN n) Reg.CAN.TXQ_BAD_CNT])
      | none => .skip
    | _, _ => .skip)

/-! ### Time master -/

/-- REF_MSG_DUE: at s_k the time master offers its reference message, unless it has yielded (R426, R428). -/
def execRefMsgDue (dt : Nat) (n : Fin 6) (s : State) : Host.Outcome State Fault Refusal :=
  s.act dt (.dyn fun c =>
    match (c.can n).refNext with
    | none => .skip
    | some k =>
      seqs [atTick k, when ((c.can n).refOffer.isSome && (c.can n).yield != some k) (bump (pgCAN n) Reg.CAN.REF_MISSED_CNT),
        .dyn fun c => modCan n fun s =>
          { s with refNext := some (k + c.act (pgCAN n) Reg.CAN.REF_PERIOD),
                   refOffer := if s.yield = some k then s.refOffer else some (k, c.t), yield := none }])

/-- REF_MSG_DROP: a reference message not sent by s_k + REF_PERIOD / 2 (R426). -/
def execRefMsgDrop (dt : Nat) (n : Fin 6) (s : State) : Host.Outcome State Fault Refusal :=
  s.act dt (.dyn fun c =>
    match (c.can n).refOffer with
    | some (k, _) => seqs [atTick (k + c.act (pgCAN n) Reg.CAN.REF_PERIOD / 2), modCan n fun s => { s with refOffer := none },
        bump (pgCAN n) Reg.CAN.REF_MISSED_CNT]
    | none => .skip)

/-- SOF stamp of the latest reference message. -/
def Chip.lastRef (c : Chip) (n : Nat) : Nat := c.wide (pgCAN n) Reg.CAN.LAST_REF_LO Reg.CAN.LAST_REF_HI

/-- TT_WINDOW_OPEN: the exclusive window of an armed object in a cycle that its BASE and REP select (R429). -/
def execTtWindowOpen (dt : Nat) (n : Fin 6) (j : Fin 128) (s : State) : Host.Outcome State Fault Refusal :=
  s.act dt (.dyn fun c =>
    let p := pgOBJ n j
    let ref := c.lastRef n
    when (c.canSends n && (c.objOf n j).armed && ref != 0 && (c.objOf n j).win != some ref &&
        c.fld (pgCAN n) Reg.CAN.TT_STAT_CYCLE % 2 ^ c.fld p Reg.OBJ.OBJ_CYCLE_REP == c.fld p Reg.OBJ.OBJ_CYCLE_BASE)
      (seqs [atTick (ref + c.fld p Reg.OBJ.OBJ_OFFSET), modObjOf n j fun o => { o with win := some ref, winOpen := true }, objPend n j]))

/-- TT_WINDOW_END: the window ends; `started` when the frame's SOF has occurred in it, so that the attempt completes (R429, R430). -/
def execTtWindowEnd (dt : Nat) (n : Fin 6) (j : Fin 128) (started : Bool) (s : State) : Host.Outcome State Fault Refusal :=
  s.act dt (.dyn fun c =>
    let p := pgOBJ n j
    match (c.objOf n j).win with
    | some ref => when (c.objOf n j).winOpen
        (seqs [atTick (ref + c.fld p Reg.OBJ.OBJ_OFFSET + c.fld p Reg.OBJ.OBJ_WIN), modObjOf n j fun o => { o with winOpen := false },
          when (c.flag p Reg.OBJ.OBJ_STAT_PENDING) (if started then modObjOf n j fun o => { o with last := true } else windowMissed n j)])
    | none => .skip)

/-! ### Writes to the object window -/

/-- A write to a register of the object window other than OBJ_CFG and OBJ_CTRL (R413, R415, R418). -/
def objWrite (src : Src) (n off : Nat) (v : Word) : Act :=
  .dyn fun c =>
    let j := c.objSel src n
    let p := pgOBJ n j
    let put32 := fun (mask : Word) => setWord (p.base + off) ((c.word (p.base + off) &&& ~~~mask) ||| (v &&& mask))
    let cfg := fun (mask : Word) => if c.flag p Reg.OBJ.OBJ_CFG_EN then err (pgCAN n) 0x40 src.code else put32 mask
    let send := fun (mask : Word) =>
      if !c.flag p Reg.OBJ.OBJ_CFG_DIR then .skip
      else if c.flag p Reg.OBJ.OBJ_STAT_PENDING then err (pgCAN n) 0x41 src.code else put32 mask
    if off = 0x108 then cfg 0x1FFFFFFF#32
    else if off = 0x10C then cfg 0x5FFFFFFF#32
    else if off = 0x110 then cfg 0xFFFFFFFF#32
    else if off = 0x114 then cfg 0x00FFFFFF#32
    else if off = 0x118 then (if v.bits 8 3 = 7 then .seq (cfg 0x0000003F#32) (err (pgCAN n) 0x03 src.code) else cfg 0x0000073F#32)
    else if off = 0x11C then when (v.getLsbD 4) (putFlag p Reg.OBJ.OBJ_STAT_LOST false)
    else if off = 0x124 then send 0x1FFFFFFF#32
    else if off = 0x128 then send 0x0000000F#32
    else if 0x140 ≤ off ∧ off < 0x180 then send 0xFFFFFFFF#32
    else .skip

/-- A soft reset or a restart of CM: the objects and counters are as after reset; BUS_OFF if EN was 1, and BUS_OFF and RECOVERING stay (R424). -/
def canClear (n : Nat) (wasOn : Bool) : Act :=
  seqs [.prim (.regsReset (pgOBJ n 0).base (pgOBJ n 128).base), each (List.range 128) fun j => .prim (.obj (128 * n + j) {}),
    .prim (.can n {}), .prim (.port (0x20 + n) {}),
    if wasOn then canState n 2 else whenC (fun c => c.fld (pgCAN n) Reg.CAN.ERR_STAT_STATE == 1) (put (pgCAN n) Reg.CAN.ERR_STAT_STATE 0)]

end Sys2Proof.Machine
end

