-- ==== Sys2Proof/Machine/Operands.lean ====
section
/-! DEFINITION. The operand forms of law instructions (R186, Tables 7-3, 7-4) and the fixed-point arithmetic of laws (R189 to R197). -/

namespace Sys2Proof.Machine

open Sys2Proof

/-! ### Instruction words -/

/-- The fields of an instruction word (Table 7-3). -/
structure LawWord where
  op : Nat
  d : Nat
  a : Nat
  b : Nat
  rsv : Nat
  imm : Nat
  deriving DecidableEq, Repr

/-- The fields of a word of law memory, from its bits [31:0] and [63:32]. -/
def lawWordOf (lo hi : Word) : LawWord := ⟨lo.bits 0 8, lo.bits 8 6, lo.bits 14 6, lo.bits 20 6, lo.bits 26 6, hi.toNat⟩

/-- The word that holds the fields, bits [31:0] and [63:32]. -/
def LawWord.words (w : LawWord) : Word × Word :=
  (BitVec.ofNat 32 (w.op + 2 ^ 8 * w.d + 2 ^ 14 * w.a + 2 ^ 20 * w.b + 2 ^ 26 * w.rsv), BitVec.ofNat 32 w.imm)

/-- Bits `[lo + n - 1 : lo]` of IMM. -/
def LawWord.immBits (w : LawWord) (lo n : Nat) : Nat := w.imm / 2 ^ lo % 2 ^ n

/-- The opcodes of Table 7-4. -/
def lawOpcodes : List Nat :=
  [0x00, 0x01, 0x02, 0x03, 0x04, 0x05, 0x08, 0x09, 0x0A, 0x0B, 0x0C, 0x10, 0x11, 0x12, 0x13, 0x14, 0x15, 0x16, 0x17, 0x18,
    0x19, 0x1A, 0x1B, 0x20, 0x21, 0x22, 0x28, 0x29, 0x2A, 0x2B, 0x30, 0x31, 0x32, 0x33, 0x34, 0x35, 0x36, 0x38, 0x3F]

/-- The operands of a listed opcode are defined (R186, R195, R198). -/
def LawWord.operandsOk (w : LawWord) : Bool :=
  match w.op with
  | 0x01 => w.a ≤ 15
  | 0x02 | 0x08 => w.imm ≤ 4095
  | 0x0A => w.d ≤ 1 && w.imm ≤ 4095
  | 0x0B => w.a ≤ 1
  | 0x0C => w.d ≤ 1
  | 0x13 => w.immBits 0 6 != 32
  | 0x20 => w.d ≤ 62
  | 0x28 => w.d ≤ 15 && w.immBits 0 3 ≤ 4
  | 0x29 | 0x2A => w.d ≤ 15 && w.a ≤ 15
  | 0x2B => w.a ≤ 15 && w.b ≤ 15
  | 0x30 => w.a ≤ 15 && w.immBits 0 5 ≤ 23 && w.immBits 8 2 != 0
  | 0x31 => w.a ≤ 15 && w.immBits 0 5 ≤ 23
  | 0x34 => w.imm % 2 == 0 && w.imm ≤ 510
  | 0x35 => w.a + w.immBits 4 3 ≤ 63
  | 0x38 => 2048 ≤ w.imm && w.imm ≤ 32767
  | _ => true

/-- The word is an instruction; any other is ILLEGAL (R186). -/
def LawWord.legal (w : LawWord) : Bool := lawOpcodes.contains w.op && w.rsv == 0 && w.operandsOk

/-- The count of an SHS (R195). -/
def LawWord.count (w : LawWord) : Int := signed 6 (w.immBits 0 6)

/-! ### Rounding and saturation -/

/-- round_RND of `p / 2^s` (R192, Table 7-6). -/
def roundShift (rnd : Nat) (p : Int) (s : Nat) : Int :=
  let q := p / (2 : Int) ^ s
  let r := p % (2 : Int) ^ s
  match rnd with
  | 0 => if 2 * r < 2 ^ s then q else if 2 ^ s < 2 * r then q + 1 else if q % 2 = 0 then q else q + 1
  | 1 => if 2 ^ s ≤ 2 * r then q + 1 else q
  | 2 => q
  | _ => if p < 0 ∧ r ≠ 0 then q + 1 else q

/-- sat32 and whether it changed the value (R192). -/
def sat32 (v : Int) : Int × Bool :=
  if v < -2147483648 then (-2147483648, true) else if 2147483647 < v then (2147483647, true) else (v, false)

/-- The register word of a saturated result, and S. -/
def satWord (v : Int) : Word × Bool := (BitVec.ofInt 32 (sat32 v).1, (sat32 v).2)

/-- The readout of a product (R193). -/
def mulRead (x y : Word) (s rnd : Nat) : Word × Bool := satWord (roundShift rnd (x.toInt * y.toInt) s)

/-- The accumulator limited to 96 bits, and S (R194). -/
def satAcc (v : Int) : Int × Bool :=
  if v < -(2 ^ 95) then (-(2 ^ 95), true) else if 2 ^ 95 - 1 < v then (2 ^ 95 - 1, true) else (v, false)

/-- ACC after a MACC (R194). -/
def macc (acc : Int) (x y : Word) (s : Nat) : Int × Bool :=
  let p := x.toInt * y.toInt
  satAcc (acc + if s ≤ 32 then p * 2 ^ (32 - s) else p / 2 ^ (s - 32))

/-- The readout of an accumulator (R193). -/
def accRead (acc : Int) (rnd : Nat) : Word × Bool := satWord (roundShift rnd acc 32)

/-- SHS by a count (R195). -/
def shiftSat (x : Word) (n : Int) : Word × Bool :=
  if 0 ≤ n then satWord (x.toInt * 2 ^ n.toNat) else satWord (roundShift 0 x.toInt (-n).toNat)

/-- A conditioned sample: gain, shift and rounding of word 2s, offset of word 2s + 1 (R189). -/
def condition (v g off : Word) (s rnd : Nat) : Word × Bool := satWord (roundShift rnd ((v.toInt - off.toInt) * g.toInt) s)

/-! ### Sine, quotient and root -/

/-- Rounded 2^31 × sin(2πk / 1,024) for k from 0. -/
def sineQ0 : List Nat :=
  [0, 13176712, 26352928, 39528151, 52701887, 65873638, 79042909, 92209205, 105372028, 118530885, 131685278, 144834714,
   157978697, 171116733, 184248325, 197372981, 210490206, 223599506, 236700388, 249792358, 262874923, 275947592,
   289009871, 302061269, 315101295, 328129457, 341145265, 354148230, 367137861, 380113669, 393075166, 406021865]

/-- Rounded 2^31 × sin(2πk / 1,024) for k from 32. -/
def sineQ32 : List Nat :=
  [418953276, 431868915, 444768294, 457650927, 470516330, 483364019, 496193509, 509004318, 521795963, 534567963,
   547319836, 560051104, 572761285, 585449903, 598116479, 610760536, 623381598, 635979190, 648552838, 661102068,
   673626408, 686125387, 698598533, 711045377, 723465451, 735858287, 748223418, 760560380, 772868706, 785147934,
   797397602, 809617249]

/-- Rounded 2^31 × sin(2πk / 1,024) for k from 64. -/
def sineQ64 : List Nat :=
  [821806413, 833964638, 846091463, 858186435, 870249095, 882278992, 894275671, 906238681, 918167572, 930061894,
   941921200, 953745043, 965532978, 977284562, 988999351, 1000676905, 1012316784, 1023918550, 1035481766, 1047005996,
   1058490808, 1069935768, 1081340445, 1092704411, 1104027237, 1115308496, 1126547765, 1137744621, 1148898640,
   1160009405, 1171076495, 1182099496]

/-- Rounded 2^31 × sin(2πk / 1,024) for k from 96. -/
def sineQ96 : List Nat :=
  [1193077991, 1204011567, 1214899813, 1225742318, 1236538675, 1247288478, 1257991320, 1268646800, 1279254516, 1289814068,
   1300325060, 1310787095, 1321199781, 1331562723, 1341875533, 1352137822, 1362349204, 1372509294, 1382617710,
   1392674072, 1402678000, 1412629117, 1422527051, 1432371426, 1442161874, 1451898025, 1461579514, 1471205974,
   1480777044, 1490292364, 1499751576, 1509154322]

/-- Rounded 2^31 × sin(2πk / 1,024) for k from 128. -/
def sineQ128 : List Nat :=
  [1518500250, 1527789007, 1537020244, 1546193612, 1555308768, 1564365367, 1573363068, 1582301533, 1591180426, 1599999411,
   1608758157, 1617456335, 1626093616, 1634669676, 1643184191, 1651636841, 1660027308, 1668355276, 1676620432,
   1684822463, 1692961062, 1701035922, 1709046739, 1716993211, 1724875040, 1732691928, 1740443581, 1748129707,
   1755750017, 1763304224, 1770792044, 1778213194]

/-- Rounded 2^31 × sin(2πk / 1,024) for k from 160. -/
def sineQ160 : List Nat :=
  [1785567396, 1792854372, 1800073849, 1807225553, 1814309216, 1821324572, 1828271356, 1835149306, 1841958164, 1848697674,
   1855367581, 1861967634, 1868497586, 1874957189, 1881346202, 1887664383, 1893911494, 1900087301, 1906191570,
   1912224073, 1918184581, 1924072871, 1929888720, 1935631910, 1941302225, 1946899451, 1952423377, 1957873796,
   1963250501, 1968553292, 1973781967, 1978936331]

/-- Rounded 2^31 × sin(2πk / 1,024) for k from 192. -/
def sineQ192 : List Nat :=
  [1984016189, 1989021350, 1993951625, 1998806829, 2003586779, 2008291295, 2012920201, 2017473321, 2021950484, 2026351522,
   2030676269, 2034924562, 2039096241, 2043191150, 2047209133, 2051150040, 2055013723, 2058800036, 2062508835,
   2066139983, 2069693342, 2073168777, 2076566160, 2079885360, 2083126254, 2086288720, 2089372638, 2092377892,
   2095304370, 2098151960, 2100920556, 2103610054]

/-- Rounded 2^31 × sin(2πk / 1,024) for k from 224. -/
def sineQ224 : List Nat :=
  [2106220352, 2108751352, 2111202959, 2113575080, 2115867626, 2118080511, 2120213651, 2122266967, 2124240380, 2126133817,
   2127947206, 2129680480, 2131333572, 2132906420, 2134398966, 2135811153, 2137142927, 2138394240, 2139565043,
   2140655293, 2141664948, 2142593971, 2143442326, 2144209982, 2144896910, 2145503083, 2146028480, 2146473080,
   2146836866, 2147119825, 2147321946, 2147443222]

/-- Rounded 2^31 × sin(2πk / 1,024) for k from 256. -/
def sineQ256 : List Nat :=
  [2147483648]

/-- Rounded 2^31 × sin(2πk / 1,024) for k from 0 to 256 (R196). -/
def sineQuarter : List Nat := sineQ0 ++ sineQ32 ++ sineQ64 ++ sineQ96 ++ sineQ128 ++ sineQ160 ++ sineQ192 ++ sineQ224 ++ sineQ256

/-- Q[k] (R196). -/
def sineQ (k : Nat) : Int :=
  let k := k % 1024
  let m := if k % 512 ≤ 256 then k % 512 else 512 - k % 512
  let v : Int := sineQuarter.getD m 0
  (sat32 (if k < 512 then v else -v)).1

/-- The sine of a turn fraction (R196). -/
def sineOf (x : Word) : Int :=
  let i := x.bits 22 10
  sineQ i + roundShift 0 ((sineQ (i + 1) - sineQ i) * (x.bits 0 22 : Nat)) 22

/-- Sine and cosine (R196). -/
def sinCos (x : Word) : Word × Word := (BitVec.ofInt 32 (sineOf x), BitVec.ofInt 32 (sineOf (x + 0x40000000#32)))

/-- DIV: the quotient and S (R197). -/
def quotient (x y : Word) (k : Nat) : Word × Bool :=
  if y = 0 then (if 0 < x.toInt then 0x7FFFFFFF#32 else if x.toInt < 0 then 0x80000000#32 else 0, true)
  else satWord ((x.toInt * 2 ^ k).tdiv y.toInt)

/-- The largest root of at most 32 bits whose square is not above `n`. -/
def rootOf (n : Nat) : Nat := (List.range 32).foldr (fun b r => if (r + 2 ^ b) * (r + 2 ^ b) ≤ n then r + 2 ^ b else r) 0

/-- SQRT and S (R197). -/
def rootQ31 (x : Word) : Word × Bool := if x.toInt < 0 then (0, true) else (BitVec.ofNat 32 (rootOf (x.toNat * 2 ^ 31)), false)

/-- One step of the PRBS register (R202). -/
def prbsStep (s : Nat) : Nat := (2 * s + (if (s.testBit 14) != (s.testBit 13) then 1 else 0)) % 2 ^ 15

/-- The PRBS register after `n` steps; its states repeat every 2^15 − 1 steps. -/
def prbsAfter (seed n : Nat) : Nat := (List.range (n % 32767)).foldl (fun s _ => prbsStep s) seed

end Sys2Proof.Machine
end

