-- ==== Sys2Proof/Machine/Flags.lean ====
section
/-! DEFINITION. The flags of a lane: Z and N of the last ALU or compare result, V of the last LDS, S sticky over the run (Table 7-1). -/

namespace Sys2Proof.Machine

open Sys2Proof

/-- Z and N from an ALU result. -/
def LaneFlags.result (f : LaneFlags) (r : Word) : LaneFlags := { f with z := r == 0, n := decide (r.toInt < 0) }

/-- Z and N from the exact difference of a CMP. -/
def LaneFlags.compare (f : LaneFlags) (x y : Word) : LaneFlags :=
  { f with z := decide (x.toInt - y.toInt = 0), n := decide (x.toInt - y.toInt < 0) }

/-- S after an operation that may have saturated (R192). -/
def LaneFlags.sat (f : LaneFlags) (b : Bool) : LaneFlags := { f with s := f.s || b }

/-- V after an LDS. -/
def LaneFlags.valid (f : LaneFlags) (b : Bool) : LaneFlags := { f with v := b }

/-- The condition of a BR (Table 7-4). -/
def LaneFlags.holds (f : LaneFlags) : Nat → Bool
  | 0 => true
  | 1 => f.z
  | 2 => !f.z
  | 3 => f.n
  | 4 => !f.n
  | 5 => f.v
  | 6 => !f.v
  | _ => f.s

end Sys2Proof.Machine
end

