-- ==== Sys2Proof/Machine/QuayOps.lean ====
section
/-! DEFINITION. Operations of a Quay that its engine and its redundancy share: states, the mirror and published state blocks (R336 to R341). -/

namespace Sys2Proof.Machine

open Sys2Proof

/-- QSTATE of Table 12-2. -/
def Chip.qstate (c : Chip) (q : Quay) : Nat := c.fld (pgQCTL q) Reg.QCTL.Q_STAT_QSTATE

/-- RSTATE of Table 12-3, held in SF and read alike in both Quays. -/
def Chip.rstate (c : Chip) : Nat := c.fld (pgQCTL .A) Reg.QCTL.RED_STAT_RSTATE

/-- The mirror from Quay `q` runs: `q` is ACTIVE and the other is in RESYNC or STANDBY (R341). -/
def Chip.mirrors (c : Chip) (q : Quay) : Bool := c.qstate q == 4 && (c.qstate q.other == 2 || c.qstate q.other == 3)

def pgGWY (q : Quay) : Page := ⟨.gwy, q.idx⟩

/-- A word at an offset in the region of Quay `q`, mirrored to the same place in the other Quay while the mirror runs (R338). -/
def mirrored (q : Quay) (off : Nat) (v : Word) : Act :=
  .seq (setWord (q.origin + off) v) (whenC (fun c => c.mirrors q) (setWord (q.other.origin + off) v))

/-- A write by a standby's own requester has no effect while the mirror runs; it counts in MIRROR_BLOCKED (R341). -/
def mirrorGuard (q : Quay) (k : Act) : Act :=
  .dyn fun c => if c.mirrors q.other then bump (pgGWY q) Reg.GWY.MIRROR_BLOCKED else k

/-- Word `i` of law memory, in the half named. -/
def lawAddr (q : Quay) (i : Nat) : Nat := q.origin + 0x00800000 + 8 * i

/-- Word `i` of law memory (Table 7-3). -/
def Chip.lawWord (c : Chip) (q : Quay) (i : Nat) : LawWord := lawWordOf (c.word (lawAddr q i)) (c.word (lawAddr q i + 4))

/-- A run of a Quay that has released the token publishes nothing (R335). -/
def publishes (q : Quay) (a : Act) : Act := whenC (fun c => c.qstate q == 4) a

/-- END publishes a state block of 32-bit words in one step, and streams it to the standby (R184, R338). -/
def publish (q : Quay) (state : Nat) (ws : List Word) : Act :=
  publishes q (.dyn fun c =>
    .seq (each (ws.zip (List.range ws.length)) fun e => setWord (lawAddr q state + 4 * e.2) e.1)
      (when (c.mirrors q && !ws.isEmpty) (modGwy q.idx fun g => { g with blocks := g.blocks ++ [(8 * state, ws, c.t)] })))

/-- The Quay is out of reset and BIST, and has not failed. -/
def Chip.quayUp (c : Chip) (q : Quay) : Bool := decide (2 ≤ c.qstate q) && c.qstate q != 5

/-- The other Quay is STANDBY and in step (R340). -/
def Chip.inStep (c : Chip) (q : Quay) : Bool := c.qstate q == 3

/-- LEVEL events of a Gangway page (R355). -/
def Chip.gwyLevels (c : Chip) (q : Quay) : Nat :=
  (if (c.gwy q.idx).outOfStep then 2 else 0) + (if (c.gwy q.idx).inbox.isEmpty then 0 else 8)

/-- The status words of both Gangway ends follow the states of the Quays (Table 12-10). -/
def gwyRefresh : Act :=
  each [Quay.A, Quay.B] fun q => .dyn fun c =>
    let p := pgGWY q
    let st := c.qstate q
    let ot := c.qstate q.other
    let g := c.gwy q.idx
    seqs [putFlag p Reg.GWY.GWY_STAT_SENDING ((st == 4 && (ot == 2 || ot == 3)) || st == 6),
      putFlag p Reg.GWY.GWY_STAT_RECEIVING ((st == 2 || st == 3) && (ot == 4 || ot == 6)),
      putFlag p Reg.GWY.GWY_STAT_MIRROR (c.mirrors q || c.mirrors q.other),
      putFlag p Reg.GWY.GWY_STAT_RESYNC_BUSY (st == 2 && ot == 4 && !g.copied),
      putFlag p Reg.GWY.GWY_STAT_IN_STEP (c.inStep q), putFlag (pgQCTL q) Reg.QCTL.Q_STAT_IN_STEP (c.inStep q),
      putFlag p Reg.GWY.GWY_STAT_LINK_OK (c.quayUp q && c.quayUp q.other),
      put p Reg.GWY.MSG_STAT_TX_FREE (16 - g.flight.length - (c.gwy q.other.idx).inbox.length),
      put p Reg.GWY.MSG_STAT_RX_COUNT g.inbox.length,
      each (List.range 8) fun i => put p Reg.GWY.MSG_RX ((g.inbox.head?.getD []).getD i 0).toNat i,
      raiseLevels p fun c => c.gwyLevels q]

end Sys2Proof.Machine
end

