-- ==== Sys2Proof/Machine/Engine.lean ====
section
/-! DEFINITION. The control engine: samples, launches, runs, taps and injection generators (Chapter 7, R181 to R209). -/

namespace Sys2Proof.Machine

open Sys2Proof

/-- Key of lane `l` of Quay `q`. -/
def laneKey (q : Quay) (l : Nat) : Nat := 8 * q.idx + l

/-- Lane `l` of Quay `q`. -/
def Chip.laneOf (c : Chip) (q : Quay) (l : Nat) : LaneSt := c.lane (laneKey q l)

/-- Changes a lane. -/
def modLaneOf (q : Quay) (l : Nat) (f : LaneSt → LaneSt) : Act := modLane (laneKey q l) f

/-! ### Samples into slots -/

/-- A slot takes a sample; the oldest of eight makes room (R188, R190). -/
def SlotSt.take (s : SlotSt) (x : Held8) : SlotSt :=
  if s.held.length < 8 then { s with held := s.held ++ [x] }
  else
    { held := s.held.drop 1 ++ [x],
      lost := match s.held.head?, s.lost with
        | some o, some m => some (Nat.max o.stamp m)
        | some o, none => some o.stamp
        | none, m => m }

/-- Tick at which a sample is ready to set out, where that is not the tick at which it was handed over: the CNV words 16 ticks after their boundary (R264). -/
def Sample.ready (x : Sample) : Nat := if x.type = 0x05 then x.stamp + 16 else 0

/-- SLOT_SAMPLE_ARRIVE: the oldest sample on its way enters every enabled slot bound to its source, in both engines (R188). -/
def execSlotSampleArrive (dt : Nat) (s : State) : Host.Outcome State Fault Refusal :=
  s.act dt (.dyn fun c =>
    match c.deliveries with
    | [] => .skip
    | x :: rest =>
      .seq (.seq (atTick x.ready) (modDeliveries fun _ => rest))
        (each [Quay.A, Quay.B] fun q => each ((c.slots q).filter fun e => x.boundTo e.2) fun e =>
          modSlot (256 * q.idx + e.1) fun m => m.take ⟨x.value, x.valid, x.stamp⟩))

/-- Outcome of a slot read (R190). -/
inductive LdsOut
  | off
  | lost
  | found (x : Held8)
  | wait
  deriving DecidableEq, Repr

/-- Slot `i` read for the sample named by `tick` (R190). -/
def Chip.ldsLook (c : Chip) (q : Quay) (i tick : Nat) : LdsOut :=
  let m := c.slot (256 * q.idx + i)
  if !(c.slots q).any (fun e => e.1 == i) then .off
  else if (match m.lost with | some t => decide (tick ≤ t) | none => false) then .lost
  else match m.held.find? fun x => decide (tick ≤ x.stamp) with
    | some x => .found x
    | none => .wait

/-! ### Launches -/

/-- Taps enabled, with their queues (R203, R408). -/
def Chip.tapRoutes (c : Chip) : List (Nat × Nat) :=
  (List.range 16).filterMap fun t => if c.actFlag pgCAP Reg.CAP.TAP_CFG_EN t then some (t, c.act pgCAP Reg.CAP.TAP_CFG_QUEUE t) else none

/-- Running frame generators with their latest boundary and period (R198). -/
def Chip.fgGrid (c : Chip) : List (Nat × Nat × Nat) :=
  (List.range 8).filterMap fun g => if c.fgOn g then some (g, c.fgLast g, c.fgPeriod g) else none

/-- The sets of the injection generators of a Quay (R202). -/
def Chip.injSets (c : Chip) (q : Quay) : List InjSet :=
  let p := pgINJ q
  (List.range 4).map fun g => ⟨c.act p Reg.INJ.INJ_CFG_MODE g, c.act p Reg.INJ.INJ_CFG_SEED g, c.act p Reg.INJ.AMPL g, c.act p Reg.INJ.INC g,
    c.act p Reg.INJ.PHASE0 g, c.actWide p Reg.INJ.START_LO Reg.INJ.START_HI g, c.act p Reg.INJ.DURATION g⟩

/-- A request is dropped with its cause; the record is stamped with the due tick (R183, R209). -/
def dropLaunch (q : Quay) (l law tL cause : Nat) : Act :=
  seqs [bump (pgLANE q l) Reg.LANE.DROP_CNT, evt (pgLANE q l) 0, record (pgLANE q l) l 0x01 tL law cause]

/-- QUEUED follows the queue. -/
def putQueued (q : Quay) (l : Nat) : Act := .dyn fun c => put (pgLANE q l) Reg.LANE.LANE_STAT_QUEUED (c.laneOf q l).queue.length

/-- The descriptor is queued or running on a lane of the engine (R183). -/
def Chip.lawBusy (c : Chip) (q : Quay) (law : Nat) : Bool :=
  (List.range 8).any fun l => let s := c.laneOf q l
    (s.queue.any fun x => x.law == law) || (match s.run with | some r => r.launch.law == law | none => false)

/-- A LAUNCH action executed at `tL` places a request in the lane's queue (R183). -/
def launch (q : Quay) (l law tL : Nat) : Act :=
  .dyn fun c =>
    if 4 ≤ (c.laneOf q l).queue.length then dropLaunch q l law tL 1
    else if c.lawBusy q law then dropLaunch q l law tL 2
    else if 1024 ≤ law then dropLaunch q l law tL 3
    else if !c.en (pgLANE q l) || !c.en (pgENG q) then dropLaunch q l law tL 4
    else .seq (modLaneOf q l fun s => { s with queue := s.queue ++ [⟨law, tL, c.tapRoutes, c.fgGrid, c.injSets q, c.act pgCNV Reg.CNV.SHED_I_SHED_I, (List.range 24).filter fun k => c.bstate k == 4⟩] }) (putQueued q l)

/-! ### Runs -/

/-- A law descriptor, if it passes Table 7-2 (STATE counts only where STATE_WORDS is not 0, log entry 6): CODE, FG, STATE, STATE_WORDS, BUDGET, STALL_LIMIT. -/
structure Descriptor where
  code : Nat
  fg : Nat
  state : Nat
  words : Nat
  budget : Nat
  stallLimit : Nat
  deriving DecidableEq, Repr

/-- Descriptor `i` of the law table. -/
def Chip.descriptor (c : Chip) (q : Quay) (i : Nat) : Option Descriptor :=
  let w := fun j => c.word (lawAddr q (2 * i) + 4 * j)
  let w0 := w 0
  let w1 := w 1
  let w2 := w 2
  let w3 := w 3
  let d : Descriptor := ⟨w0.bits 0 15, w0.bits 16 3, w1.bits 0 15, w1.bits 16 10, w2.bits 0 20, w3.bits 0 22⟩
  if w0.getLsbD 15 ∧ w0.bits 19 13 = 0 ∧ w1.bits 15 1 = 0 ∧ w1.bits 26 6 = 0 ∧ w2.bits 20 12 = 0 ∧ w3.bits 22 10 = 0 ∧
      2048 ≤ d.code ∧ (d.words = 0 ∨ 2048 ≤ d.state) ∧ d.words ≤ 512 ∧ 0 < d.budget ∧ 0 < d.stallLimit
  then some d else none

/-- Lane `l` starts or stops to run, in LANE_STAT and ENG_STAT.BUSY. -/
def putRunning (q : Quay) (l : Nat) (on : Bool) : Act :=
  seqs [putFlag (pgLANE q l) Reg.LANE.LANE_STAT_RUNNING on, putFlag (pgLANE q l) Reg.LANE.LANE_STAT_STALLED false,
    .dyn fun c =>
      let v := c.fld (pgENG q) Reg.ENG.ENG_STAT_BUSY
      put (pgENG q) Reg.ENG.ENG_STAT_BUSY (if on then v ||| 2 ^ l else if v.testBit l then v - 2 ^ l else v)]

/-- The state block of a descriptor as published (R184). -/
def Chip.stateBlock (c : Chip) (q : Quay) (d : Descriptor) : List Word :=
  (List.range d.words).map fun i => c.word (lawAddr q d.state + 4 * i)

/-- A window filled from word 0 upward. -/
def fillWindow (ws : List Word) : SMap (Option Word) := (List.range ws.length).zip (ws.map some)

/-- Flags Z, N and V at the start of a run (log entry 7); S is clear (R192). -/
def flagsAtStart : LaneFlags :=
  { z := Config.runStart 82 % 2 == 1, n := Config.runStart 83 % 2 == 1, v := Config.runStart 84 % 2 == 1 }

/-- The lane serves its next request: the descriptor is read and checked, and the state window loaded (R183, R184). The registers, flags and further window words hold what every run starts with, and nothing of the lane's earlier runs (R5, R205; DESIGN CHOICE, log entry 7). `img` is the law image that the descriptor names, and `k` follows for a request served. -/
def startRun (q : Quay) (l : Nat) (img : Nat → ImageRun) (k : Act) : Act :=
  .dyn fun c =>
    let s := c.laneOf q l
    match s.queue, s.run, s.halted with
    | x :: rest, none, false =>
      .seq (.seq (modLaneOf q l fun s => { s with queue := rest }) (putQueued q l))
        (match c.descriptor q x.law with
          | none => dropLaunch q l x.law x.tL 3
          | some d =>
            seqs [
              modLaneOf q l fun s =>
                { s with x := [], t := [], acc0 := signed 96 (Config.runStart 80), acc1 := signed 96 (Config.runStart 81),
                         window := fillWindow (c.stateBlock q d), fl := flagsAtStart, ready := [],
                         run := some ⟨x, d.fg, d.state, d.words, d.budget, d.stallLimit, d.code, 0, c.t, 0, none, Config.runStart 85 % 2 ^ 64, img x.law⟩ },
              putRunning q l true, put (pgLANE q l) Reg.LANE.LANE_STAT_LAW x.law,
              putWide (pgLANE q l) Reg.LANE.LAST_LAUNCH_LO Reg.LANE.LAST_LAUNCH_HI x.tL,
              k])
    | _, _, _ => .skip

/-- Causes of an abort (Table 7-14). -/
def abOVERTIME : Nat := 1
def abSTALL : Nat := 2
def abILLEGAL : Nat := 3
def abUNCORR : Nat := 4
def abSOFTWARE : Nat := 5

/-- A lane aborts its run: nothing is published, and outputs already issued stand (R184, R185, R207). -/
def abortRun (q : Quay) (l cause : Nat) : Act :=
  .dyn fun c =>
    match (c.laneOf q l).run with
    | none => .skip
    | some r =>
      let p := pgLANE q l
      seqs [modLaneOf q l fun s => { s with run := none }, putRunning q l false,
        put p Reg.LANE.ABORT_CAUSE cause, put p Reg.LANE.ABORT_LAW r.launch.law, bump p Reg.LANE.ABORT_CNT,
        putMax p Reg.LANE.RUN_CYC_MAX (Nat.min r.cyc r.budget),
        when (cause != abSOFTWARE) (evt p cause), record p l 0x02 c.t r.launch.law cause]

/-- The lane page or the engine stops: the run aborts and the queued requests drop (R207). -/
def stopLane (q : Quay) (l : Nat) : Act :=
  .dyn fun c =>
    seqs [abortRun q l abSOFTWARE, each (c.laneOf q l).queue fun x => dropLaunch q l x.law x.tL 4,
      modLaneOf q l fun s => { s with queue := [] }, putQueued q l]

/-- A run has executed BUDGET cycles (R185). -/
def overtime (q : Quay) (l : Nat) (r : Run) : Act :=
  seqs [atTick (r.start + r.stalled + (5 * r.budget + 1) / 2), modLaneOf q l fun s => { s with run := some { r with cyc := r.budget } }, abortRun q l abOVERTIME]

/-- RUN_OVERTIME: the run has executed BUDGET cycles without END (R185). -/
def execRunOvertime (dt : Nat) (q : Quay) (l : Fin 8) (s : State) : Host.Outcome State Fault Refusal :=
  s.act dt (.dyn fun c =>
    match (c.laneOf q l).run with
    | some r => when (r.stall.isNone && decide (r.budget ≤ r.cyc)) (overtime q l r)
    | none => .skip)

/-- A stall that began at `since` lasts longer than STALL_LIMIT (R185). -/
def stallTimeout (q : Quay) (l : Nat) (r : Run) (since : Nat) : Act :=
  seqs [atTick (since + r.stallLimit + 1), .dyn fun c => putMax (pgLANE q l) Reg.LANE.STALL_MAX (c.t - since), abortRun q l abSTALL]

/-- RUN_STALL_TIMEOUT: no sample that ends the stall has come within STALL_LIMIT (R185). -/
def execRunStallTimeout (dt : Nat) (q : Quay) (l : Fin 8) (s : State) : Host.Outcome State Fault Refusal :=
  s.act dt (.dyn fun c =>
    match (c.laneOf q l).run with
    | some r =>
      match r.stall with
      | some (slot, tick, _, since) => when (c.ldsLook q slot tick == .wait) (stallTimeout q l r since)
      | none => .skip
    | none => .skip)

/-! ### Capture taps -/

/-- `t` lies inside a window of the tap (R203). -/
def Chip.tapOpen (c : Chip) (tap t : Nat) : Bool := c.capWins.any fun w => w.1 == tap && decide (w.2.1 ≤ t) && decide (t < w.2.2)

/-- A record of `data` goes to a tap whose window holds the launch tick, or is dropped whole (R34, R203, R408, Table 7-10). -/
def tapWrite (q : Quay) (l : Nat) (x : Launch) (tap : Nat) (data : List Word) : Act :=
  .dyn fun c =>
    match x.taps.find? fun e => e.1 == tap with
    | none => .skip
    | some (_, queue) =>
      let k := 16 * q.idx + tap
      let st := c.tap k
      if !c.tapOpen tap x.tL then .skip
      else if (st.fifo.map fun r => r.words.length).sum + data.length + 3 ≤ 64 then
        let w0 := tap + 2 ^ 4 * (data.length - 1) + 2 ^ 7 * l + 2 ^ 10 * x.law + 2 ^ 20 * Nat.min st.lost 2047 + (if st.lost = 0 then 0 else 2 ^ 31)
        let hdr := [w0, x.tL % 2 ^ 32, x.tL / 2 ^ 32].map (BitVec.ofNat 32)
        .prim (.tap k { fifo := st.fifo ++ [⟨hdr ++ data, queue⟩], lost := 0 })
      else seqs [.prim (.tap k { st with lost := st.lost + 1 }), bump pgCAP Reg.CAP.TAP_DROP 1 tap, evt pgCAP 0]

/-- A CAPTURE action opens a window of ARG × 16 ticks at its due tick (R203). -/
def openWindow (tap t arg : Nat) : Act :=
  .seq (modCapWins fun l => l ++ [(tap, t, t + 16 * arg)])
    (.dyn fun c => .seq (put pgCAP Reg.CAP.WIN_STAT (c.fld pgCAP Reg.CAP.WIN_STAT ||| 2 ^ tap)) (evt pgCAP 1))

/-- Launch ticks of requests queued or running. -/
def Chip.launchTicks (c : Chip) : List Nat :=
  c.lanes.flatMap fun e => e.2.queue.map Launch.tL ++ (match e.2.run with | some r => [r.launch.tL] | none => [])

/-- CAPTURE_WINDOW_CLOSE: the last window of the tap that is open reaches its end; windows that a pending run may still name are kept (R203). -/
def execCaptureWindowClose (dt : Nat) (tap : Fin 16) (s : State) : Host.Outcome State Fault Refusal :=
  s.act dt (.dyn fun c =>
    let open_ := c.capWins.filter fun w => w.1 == tap.val && decide (w.2.1 ≤ c.t)
    when (c.fld pgCAP Reg.CAP.WIN_STAT / 2 ^ tap.val % 2 == 1)
      (seqs [atTick ((open_.map fun w => w.2.2).foldl Nat.max 0),
        .dyn fun c => .seq
          (put pgCAP Reg.CAP.WIN_STAT (c.fld pgCAP Reg.CAP.WIN_STAT - 2 ^ tap.val))
          (modCapWins fun l => l.filter fun w => decide (c.t < w.2.2) || c.launchTicks.any fun t => decide (t < w.2.2))]))

/-! ### Injection generators -/

/-- `t` lies inside the window of the generator (R202). -/
def InjSet.inWindow (x : InjSet) (t : Nat) : Bool := decide (x.start ≤ t) && decide (t < x.start + x.duration)

/-- Value of a generator at launch tick `t` (R202). -/
def InjSet.value (x : InjSet) (t : Nat) : Word :=
  let e := t - x.start
  let a := BitVec.ofNat 32 x.ampl
  if !x.inWindow t then 0
  else match x.mode with
    | 0 => 0
    | 1 => (mulRead a (BitVec.ofInt 32 (sineOf (BitVec.ofNat 32 (x.phase + x.inc * e)))) 31 0).1
    | 2 => if (prbsAfter x.seed (e / x.inc)).testBit 14 then a else -a
    | _ => a

/-- The value of generator `g` for a run: of the set that was active at its launch tick (R202, R205). -/
def Launch.injValue (x : Launch) (g : Nat) : Word := match x.inj[g]? with
  | some s => s.value x.tL
  | none => 0

/-- The Tide reaches `t`, where generator `g` raises an event once: `e` 0 WINDOW_OPEN at START, 1 WINDOW_CLOSED at START + DURATION, if its MODE is not OFF (R208). -/
def injEvent (q : Quay) (g e : Nat) (t : InjSet → Nat) : Act :=
  .dyn fun c =>
    match (c.injSets q)[g]? with
    | some x => when (c.tideOn && x.mode != 0 && decide (c.t ≤ t x) && !(c.eng q.idx).edges.contains (2 * g + e, t x))
        (seqs [atTick (t x), modEng q.idx fun s => { s with edges := (2 * g + e, t x) :: s.edges.filter fun o => o.1 != 2 * g + e }, evt (pgINJ q) e])
    | none => .skip

/-- INJ_WINDOW_OPEN: the Tide reaches START of a generator (R208). -/
def execInjWindowOpen (dt : Nat) (q : Quay) (g : Fin 4) (s : State) : Host.Outcome State Fault Refusal :=
  s.act dt (injEvent q g 0 InjSet.start)

/-- INJ_WINDOW_CLOSE: the Tide reaches START + DURATION (R208). -/
def execInjWindowClose (dt : Nat) (q : Quay) (g : Fin 4) (s : State) : Host.Outcome State Fault Refusal :=
  s.act dt (injEvent q g 1 fun x => x.start + x.duration)

/-! ### Coefficients and law memory -/

/-- Word `i` of the coefficient bank that was active at launch tick `t`: VALUE, S and RND (R191, Table 7-5). -/
def Chip.coef (c : Chip) (q : Quay) (t i : Nat) : Word × Nat × Nat :=
  let off := 8 * i
  let (v, m) := match (c.eng q.idx).banks.find? fun b => decide (t < b.1) with
    | some (_, ws) =>
      let at_ := fun (o : Nat) => ((ws.find? fun (e : Nat × Word) => e.1 == o).map Prod.snd).getD 0
      (at_ off, at_ (off + 4))
    | none => (c.word (q.origin + 0xC08000 + off), c.word (q.origin + 0xC08000 + off + 4))
  (v, m.bits 0 6, m.bits 6 2)

/-- Bytes of a range of words. -/
def Chip.bytesOf (c : Chip) (a n : Nat) : List Nat := (List.range n).flatMap fun i => wordBytes (c.word (a + 4 * i))

/-- SIG_REQ: LAWMEM_SIG is to be computed (R206, Table 7-13). -/
def execSigReq (dt : Nat) (src : Src) (q : Quay) (s : State) : Host.Outcome State Fault Refusal :=
  s.act dt (onPage src (pgENG q) 0x04C true (mirrorGuard q (putFlag (pgENG q) Reg.ENG.SIG_CTRL true)))

/-- SIG_DONE: the CRC of law memory completes (R206, Table 7-13). -/
def execSigDone (dt : Nat) (q : Quay) (s : State) : Host.Outcome State Fault Refusal :=
  s.act dt (.dyn fun c => when (c.flag (pgENG q) Reg.ENG.SIG_CTRL)
    (seqs [put (pgENG q) Reg.ENG.LAWMEM_SIG (crc32 (c.bytesOf (lawAddr q 0) 65536)), putFlag (pgENG q) Reg.ENG.SIG_CTRL false, evt (pgENG q) 2]))

/-- LAWMEM_WRITE: law memory accepts writes only while EN of subpage 0 is 0 (R206); writes are mirrored (R338) or blocked (R341). -/
def execLawmemWrite (dt : Nat) (src : Src) (q : Quay) (i : Fin 65536) (w : Word) (s : State) : Host.Outcome State Fault Refusal :=
  s.act dt (access src (lawAddr q 0 + 4 * i) 32 true (mirrorGuard q (.dyn fun c =>
    if c.en (pgENG q) then .seq (bump (pgENG q) Reg.ENG.LAWMEM_WR_REJ) (evt (pgENG q) 1)
    else mirrored q (0x00800000 + 4 * i) w)))

/-- The Quay and the index of the mailbox word at an address (Table 7-12). -/
def mailboxOf (a : Nat) : Option (Quay × Nat) :=
  [Quay.A, Quay.B].findSome? fun q =>
    if q.origin + 0x2A000 ≤ a ∧ a < q.origin + 0x2A800 then some (q, (a - (q.origin + 0x2A000)) / 4) else none

/-- A read of mailbox word `i`: an even word copies the odd one after it into the reader's holding word, which the reader's following read of that odd word returns (R201). -/
def mailboxRead (src : Src) (q : Quay) (i : Nat) : Act :=
  .dyn fun c =>
    let a := q.origin + 0x2A000 + 4 * i
    if i % 2 = 0 then
      .seq (.prim (.answer 0 (c.word a)))
        (modEng q.idx fun e => { e with holding := (src.code, i, c.word (a + 4)) :: e.holding.filter fun h => h.1 != src.code })
    else .prim (.answer 0 (match (c.eng q.idx).holding.find? fun h => h.1 == src.code && h.2.1 + 1 == i with
      | some h => h.2.2
      | none => c.word a))

/-- MAILBOX_PAIR_READ: a read of an even mailbox word copies the odd word into the reader's holding word (R201). -/
def execMailboxPairRead (dt : Nat) (src : Src) (q : Quay) (i : Fin 256) (s : State) : Host.Outcome State Fault Refusal :=
  s.act dt (access src (q.origin + 0x2A000 + 8 * i.val) 32 false (mailboxRead src q (2 * i.val)))

/-- RUN_UNCORR: an uncorrectable error in law memory, coefficients or slots aborts the run (R185). `k` is the Quay fault. -/
def uncorr (q : Quay) (l : Nat) (k : Act) : Act :=
  .dyn fun c => when (c.laneOf q l).run.isSome (.seq (abortRun q l abUNCORR) k)

end Sys2Proof.Machine
end

