-- ==== Sys2Proof/Machine/Ecdsa.lean ====
section
/-! DEFINITION. ECDSA over the curve P-256 (FIPS 186-4), by which the boot verifies the signature of an image (R442; log entry 66). -/

namespace Sys2Proof.Machine

/-- The prime of the field. -/
def p256 : Nat := 2 ^ 256 - 2 ^ 224 + 2 ^ 192 + 2 ^ 96 - 1

/-- The order of the base point. -/
def p256Order : Nat := 0xFFFFFFFF00000000FFFFFFFFFFFFFFFFBCE6FAADA7179E84F3B9CAC2FC632551

/-- The constant of the curve y² = x³ − 3x + b. -/
def p256B : Nat := 0x5AC635D8AA3A93E7B3EBBD55769886BC651D06B0CC53B0F63BCE3C3E27D2604B

/-- The base point. -/
def p256Base : Nat × Nat :=
  (0x6B17D1F2E12C4247F8BCE6E563A440F277037D812DEB33A0F4A13945D898C296, 0x4FE342E2FE1A7F9B8EE7EB4A7C0F9E162BCE33576B315ECECBB6406837BF51F5)

/-- The power of `b` by the `k` low bits of `e`, modulo `m`. -/
def powMod (m b e : Nat) : Nat → Nat
  | 0 => 1
  | k + 1 =>
    let r := powMod m b (e / 2) k
    if e % 2 = 1 then r * r % m * b % m else r * r % m

/-- The inverse of `a` modulo the prime `m`. -/
def invMod (m a : Nat) : Nat := powMod m a (m - 2) 256

/-- A point in Jacobian coordinates: x = X / Z², y = Y / Z³; the point at infinity where Z is 0. -/
structure CurvePoint where
  x : Nat
  y : Nat
  z : Nat
  deriving DecidableEq, Repr

/-- A difference in the field. -/
def fieldSub (a b : Nat) : Nat := (a + p256 - b % p256) % p256

/-- Twice a point. -/
def CurvePoint.double (a : CurvePoint) : CurvePoint :=
  let zz := a.z * a.z % p256
  let yy := a.y * a.y % p256
  let s := 4 * a.x * yy % p256
  let m := 3 * fieldSub a.x zz * (a.x + zz) % p256
  let x := fieldSub (m * m % p256) (2 * s)
  ⟨x, fieldSub (m * fieldSub s x % p256) (8 * yy * yy), 2 * a.y * a.z % p256⟩

/-- The sum of two points. -/
def CurvePoint.add (a b : CurvePoint) : CurvePoint :=
  if a.z = 0 then b
  else if b.z = 0 then a
  else
    let za := a.z * a.z % p256
    let zb := b.z * b.z % p256
    let ua := a.x * zb % p256
    let ub := b.x * za % p256
    let sa := a.y * (b.z * zb % p256) % p256
    let sb := b.y * (a.z * za % p256) % p256
    if ua = ub then (if sa = sb then a.double else ⟨1, 1, 0⟩)
    else
      let h := fieldSub ub ua
      let r := fieldSub sb sa
      let hh := h * h % p256
      let v := ua * hh % p256
      let x := fieldSub (fieldSub (r * r % p256) (h * hh % p256)) (2 * v)
      ⟨x, fieldSub (r * fieldSub v x % p256) (sa * (h * hh % p256)), a.z * b.z % p256 * h % p256⟩

/-- The multiple of a point by the `k` low bits of `e`. -/
def CurvePoint.mul (a : CurvePoint) (e : Nat) : Nat → CurvePoint
  | 0 => ⟨1, 1, 0⟩
  | k + 1 =>
    let r := (CurvePoint.mul a (e / 2) k).double
    if e % 2 = 1 then r.add a else r

/-- The pair is a point of the curve. -/
def onCurve (x y : Nat) : Bool := decide (x < p256) && decide (y < p256) && y * y % p256 == (x * x % p256 * x + (p256 - 3) * x + p256B) % p256

/-- The pair (r, s) is a signature, by the key (x, y), over a message whose hash is the number `z`. -/
def ecdsaOk (x y r s z : Nat) : Bool :=
  let ok := fun (v : Nat) => decide (1 ≤ v) && decide (v < p256Order)
  let w := invMod p256Order s
  let sum := ((CurvePoint.mul ⟨p256Base.1, p256Base.2, 1⟩ (z * w % p256Order) 256).add (CurvePoint.mul ⟨x, y, 1⟩ (r * w % p256Order) 256))
  let zi := invMod p256 sum.z
  onCurve x y && ok r && ok s && sum.z != 0 && sum.x * (zi * zi % p256) % p256 % p256Order == r

end Sys2Proof.Machine
end

