-- ==== Sys2Proof/Machine/Sha.lean ====
section
/-! DEFINITION. SHA-256 (FIPS 180-4), by which the seal and the boot check their sections (R381, R384, R441). -/

namespace Sys2Proof.Machine

open Sys2Proof

/-- The first primes, oldest first: each the least number above the last that no earlier one divides. -/
def shaPrimes : Nat → List Nat
  | 0 => []
  | n + 1 =>
    let l := shaPrimes n
    let next := (List.range 312).find? fun q => decide (2 ≤ q) && l.all fun p => q % p != 0
    l ++ [next.getD 0]

/-- The largest number below 2^`bits` whose `k`-th power is not above `n`. -/
def rootBits (k n : Nat) : Nat → Nat
  | 0 => 0
  | bits + 1 =>
    let r := 2 * rootBits k (n / 2 ^ k) bits
    if (r + 1) ^ k ≤ n then r + 1 else r

/-- The first 32 bits of the fractional part of the `k`-th root of `p`. -/
def rootFraction (k p : Nat) : Word := BitVec.ofNat 32 (rootBits k (p * 2 ^ (32 * k)) 40)

/-- Round constants: cube roots of the first 64 primes. -/
def shaK : List Word := (shaPrimes 64).map (rootFraction 3)

/-- The hash value before the first block: square roots of the first eight primes. -/
def shaInit : List Word := (shaPrimes 8).map (rootFraction 2)

/-- The next word of the message schedule, from the sixteen before it, newest first. -/
def shaNext (w : List Word) : Word :=
  let a : Word := w.getD 1 0
  let b : Word := w.getD 14 0
  let s1 : Word := a.rotateRight 17 ^^^ a.rotateRight 19 ^^^ (a >>> 10)
  let s0 : Word := b.rotateRight 7 ^^^ b.rotateRight 18 ^^^ (b >>> 3)
  s1 + w.getD 6 0 + s0 + w.getD 15 0

/-- The message schedule of a block of sixteen words. -/
def shaSchedule (m : List Word) : List Word := ((List.range 48).foldl (fun w _ => shaNext w :: w) m.reverse).reverse

/-- One round on the working variables. -/
def shaRound (h : List Word) (kw : Word × Word) : List Word :=
  match h with
  | [a, b, c, d, e, f, g, h] =>
    let t1 : Word := h + (e.rotateRight 6 ^^^ e.rotateRight 11 ^^^ e.rotateRight 25) + ((e &&& f) ^^^ (~~~e &&& g)) + kw.1 + kw.2
    let t2 : Word := (a.rotateRight 2 ^^^ a.rotateRight 13 ^^^ a.rotateRight 22) + ((a &&& b) ^^^ (a &&& c) ^^^ (b &&& c))
    [t1 + t2, a, b, c, d + t1, e, f, g]
  | _ => h

/-- The hash value after one more block. -/
def shaBlock (h m : List Word) : List Word := (h.zip (((shaK.zip (shaSchedule m)).foldl shaRound h))).map fun e => e.1 + e.2

/-- The hash of `n` blocks taken from the words. -/
def shaBlocks : Nat → List Word → List Word → List Word
  | 0, h, _ => h
  | n + 1, h, ws => shaBlocks n (shaBlock h (ws.take 16)) (ws.drop 16)

/-- Bytes padded to whole blocks: 0x80, zeros, and the length in bits. -/
def shaPad (bs : List Byte) : List Byte :=
  let n := bs.length
  bs ++ [0x80] ++ List.replicate ((119 - n % 64) % 64) 0 ++ (List.range 8).map fun i => BitVec.ofNat 8 (8 * n / 2 ^ (8 * (7 - i)))

/-- Big-endian words of bytes, `n` of them. -/
def beWords : Nat → List Byte → List Word
  | 0, _ => []
  | n + 1, bs =>
    let b := fun i => (bs.getD i 0).toNat
    BitVec.ofNat 32 (b 0 * 2 ^ 24 + b 1 * 2 ^ 16 + b 2 * 2 ^ 8 + b 3) :: beWords n (bs.drop 4)

/-- SHA-256 of bytes, as eight big-endian words. -/
def sha256 (bs : List Byte) : List Word :=
  let p := shaPad bs
  shaBlocks (p.length / 64) shaInit (beWords (p.length / 4) p)

/-- Bytes of words, least significant byte first. -/
def leBytes (ws : List Word) : List Byte :=
  ws.flatMap fun w => [BitVec.ofNat 8 w.toNat, BitVec.ofNat 8 (w.toNat / 2 ^ 8), BitVec.ofNat 8 (w.toNat / 2 ^ 16), BitVec.ofNat 8 (w.toNat / 2 ^ 24)]

end Sys2Proof.Machine
end

