-- ==== Sys2Proof/Machine/Scb.lean ====
section
/-! DEFINITION. The sealed configuration block (Tables 13-10, 13-11), the faults of Table 13-5 and the scopes of Table 13-2. -/

namespace Sys2Proof.Machine

open Sys2Proof

def pgSEAL : Page := ⟨.seal, 0⟩
def pgSIO : Page := ⟨.sio, 0⟩
def pgSBC : Page := ⟨.sbc, 0⟩

/-- Word `w` of the SCB in use. -/
def Chip.scb (c : Chip) (w : Nat) : Word := BitVec.ofNat 32 (c.fld pgSEAL Reg.SEAL.SCB w)

/-- FUNC of leg block `k`: 7 none; before an SCB is placed no block is assigned. -/
def Chip.func (c : Chip) (k : Nat) : Nat := if c.safSt.placed then (c.scb (1 + k / 8)).bits (4 * (k % 8)) 3 else 7

/-- Leg block `k` is sealed SHORT-LOW. -/
def Chip.sealedLow (c : Chip) (k : Nat) : Bool := c.safSt.placed && (c.scb (1 + k / 8)).getLsbD (4 * (k % 8) + 3)

/-- SINGLE_LIMIT in seconds. -/
def Chip.singleLimit (c : Chip) : Nat := (c.scb 4).bits 0 11

/-- Fields of words 4 to 6 and 11. -/
def Chip.ss1Max (c : Chip) : Nat := (c.scb 4).bits 16 16
def Chip.degrMax (c : Chip) : Nat := (c.scb 5).bits 0 6
def Chip.resetSrc (c : Chip) : Nat := (c.scb 5).bits 8 5
def Chip.sbcMode (c : Chip) : Bool := (c.scb 5).getLsbD 16
def Chip.sbcScope (c : Chip) : Nat := (c.scb 5).bits 17 4
def Chip.sbcDelay (c : Chip) : Nat := (c.scb 5).bits 21 11
def Chip.btInterval (c : Chip) : Nat := (c.scb 6).bits 0 16
def Chip.btTol (c : Chip) : Nat := (c.scb 6).bits 16 16
def Chip.discMs (c : Chip) : Nat := (c.scb 11).bits 0 16

/-- USE, SCOPE, ANTIVALENT and TP of input pair `i`. -/
def Chip.sinUse (c : Chip) (i : Nat) : Nat := (c.scb (7 + i / 4)).bits (8 * (i % 4)) 2
def Chip.sinScope (c : Chip) (i : Nat) : Nat := (c.scb (7 + i / 4)).bits (8 * (i % 4) + 2) 4
def Chip.antivalent (c : Chip) (i : Nat) : Bool := (c.scb (7 + i / 4)).getLsbD (8 * (i % 4) + 6)
def Chip.tpFed (c : Chip) (i : Nat) : Bool := (c.scb (7 + i / 4)).getLsbD (8 * (i % 4) + 7)

/-- USED and OFF_ON_STO_ALL of output `j`. -/
def Chip.soutUsed (c : Chip) (j : Nat) : Bool := (c.scb 12).getLsbD (4 * j)
def Chip.soutSto (c : Chip) (j : Nat) : Bool := (c.scb 12).getLsbD (4 * j + 1)

/-! ### Scopes and faults -/

/-- Functions of a scope of Table 13-2; OWN is resolved by the caller. -/
def scopeFuncs (s : Nat) : List Nat :=
  if s ≤ 6 then [s] else if s = 7 then [0, 1, 2, 3, 4, 5, 6] else if s = 9 then [0, 1, 2, 3, 4, 5] else []

/-- The own scope of a fault (Table 13-5). -/
inductive OwnScope
  | none
  | legBlock (k : Nat)
  | fixed (s : Nat)
  | input (i : Nat)
  | wire
  deriving DecidableEq, Repr

/-- A row of Table 13-5: own scope, default and minimum entry (class, scope), clearable. -/
structure FaultRow where
  own : OwnScope
  dfltClass : Nat
  dfltScope : Nat
  minClass : Nat
  minScope : Nat
  clear : Bool
  deriving DecidableEq, Repr

/-- Table 13-5. A minimum of REPORT names no scope. -/
def faultRow (id : Nat) : FaultRow :=
  if id < 0x18 then ⟨.legBlock id, 2, 8, 0, 8, true⟩
  else if id < 0x30 then ⟨.legBlock (id - 0x18), 2, 8, 0, 8, true⟩
  else if id < 0x5C then ⟨.none, 2, 7, 0, 7, true⟩
  else if id < 0x6C then ⟨.none, 1, 7, 0, 7, true⟩
  else if id < 0x84 then ⟨.legBlock (id - 0x6C), 2, 8, 0, 8, true⟩
  else if id < 0x8C then ⟨.none, 0, 7, 0, 7, true⟩
  else if id < 0x9C then ⟨.fixed 6, 0, 7, 0, 7, true⟩
  else if id = 0x9C then ⟨.fixed 4, 0, 7, 0, 7, true⟩
  else if id < 0x9F then ⟨.none, 0, 7, 0, 7, true⟩
  else if id = 0x9F then ⟨.none, 2, 7, 2, 7, false⟩
  else if id = 0xA0 then ⟨.none, 1, 7, 1, 7, false⟩
  else if id = 0xA1 then ⟨.none, 1, 7, 1, 7, true⟩
  else if id = 0xA2 then ⟨.none, 2, 7, 2, 7, false⟩
  else if id < 0xB1 then
    let d := id - 0xA3
    ⟨.none, 2, 7, if d = 0 ∨ d = 1 ∨ d = 5 ∨ d = 6 ∨ d = 7 ∨ d = 8 then 2 else 0, 7, true⟩
  else if id = 0xB1 then ⟨.none, 2, 7, 1, 7, true⟩
  else if id = 0xB4 then ⟨.none, 2, 9, 2, 9, true⟩
  else if id = 0xB5 then ⟨.none, 2, 7, 2, 7, true⟩
  else if id = 0xB6 then ⟨.none, 2, 6, 2, 6, true⟩
  else if id < 0xB9 then ⟨.none, 0, 7, 0, 7, true⟩
  else if id = 0xB9 then ⟨.none, 1, 7, 1, 7, false⟩
  else if id < 0xBC then ⟨.none, 2, 7, 2, 7, false⟩
  else if id = 0xBC then ⟨.none, 0, 7, 0, 7, true⟩
  else if id < 0xCD then ⟨.input (id - 0xBD), 1, 8, 1, 8, false⟩
  else if id < 0xD5 then ⟨.none, 0, 7, 0, 7, true⟩
  else if id = 0xD5 then ⟨.none, 1, 7, 1, 7, true⟩
  else if id = 0xD6 then ⟨.none, 0, 7, 0, 7, true⟩
  else if id = 0xD7 then ⟨.none, 3, 7, 3, 7, false⟩
  else if id = 0xD8 then ⟨.none, 2, 7, 2, 7, false⟩
  else if id = 0xD9 then ⟨.wire, 2, 8, 2, 8, true⟩
  else ⟨.none, 2, 7, 0, 7, true⟩

/-- Functions of the own scope of an active fault. -/
def Chip.ownFuncs (c : Chip) (id : Nat) : List Nat :=
  let block := fun k => if c.func k < 7 then [c.func k] else []
  match (faultRow id).own with
  | .none => []
  | .legBlock k => block k
  | .fixed s => scopeFuncs s
  | .input i => scopeFuncs (c.sinScope i)
  | .wire => ((List.range 24).filter fun k => (c.fld pgSAF Reg.SAF.WIRE_FAULT_LEG).testBit k).flatMap block ++ (if c.fld pgSAF Reg.SAF.WIRE_FAULT_BRG != 0 then [6] else [])

/-- The matrix entry applied to a fault: CLASS and SCOPE; Table 13-5's default while no valid SCB is placed (R375). -/
def Chip.entry (c : Chip) (id : Nat) : Nat × Nat :=
  if c.safSt.valid then
    let e := Word.bits (BitVec.ofNat 32 (c.fld pgFLT8 Reg.FLT8.MATRIX (id / 4))) (8 * (id % 4)) 6
    (e % 4, e / 4)
  else ((faultRow id).dfltClass, (faultRow id).dfltScope)

/-- Functions that a fault's reaction has in scope. -/
def Chip.faultFuncs (c : Chip) (id : Nat) : List Nat := if (c.entry id).2 = 8 then c.ownFuncs id else scopeFuncs (c.entry id).2

/-- CLASS that acts: an OWN entry without an own scope acts as REPORT. -/
def Chip.faultClass (c : Chip) (id : Nat) : Nat := if (c.entry id).2 = 8 ∧ c.ownFuncs id = [] then 0 else (c.entry id).1

/-- Fault `id` is active. -/
def Chip.faultActive (c : Chip) (id : Nat) : Bool := c.bitAt pgFLT8 Reg.FLT8.ACTIVE id

/-- Active faults. -/
def Chip.activeFaults (c : Chip) : List Nat := (List.range 0xE6).filter c.faultActive

/-! ### Validity (R376, R382) -/

/-- The scope may stand in an SCB: reserved scopes may not. -/
def scopeOk (s : Nat) (own : Bool) : Bool := decide (s ≤ 7) || s == 9 || (own && s == 8)

/-- A matrix entry keeps the minimum of its fault (R376). `inputs` gives the scope of each safe input. -/
def entryOk (inputs : Nat → Nat) (id : Nat) (e : Nat) : Bool :=
  let r := faultRow id
  let cls := e % 4
  let scope := e / 4 % 16
  let covers := fun (fs : List Nat) => fs.all fun f => (scopeFuncs scope).contains f
  decide (e < 64) && scopeOk scope (r.own != .none) && decide (r.minClass ≤ cls) &&
    (r.minClass == 0 || scope == 8 ||
      (if r.minScope ≠ 8 then covers (scopeFuncs r.minScope)
       else match r.own with
        | .input i => covers (scopeFuncs (inputs i))
        | _ => scope == 7))

/-- The words are a valid SCB (R382). -/
def scbValid (ws : List Word) : Bool :=
  let w := fun i => ws.getD i 0
  let b := fun (i lo n : Nat) => (w i).bits lo n
  let road := b 0 24 1 == 0
  let func := fun k => b (1 + k / 8) (4 * (k % 8)) 3
  let scope := fun i => b (7 + i / 4) (8 * (i % 4) + 2) 4
  b 0 0 16 == 0x5EA1 && b 0 16 8 == 1 && b 0 30 2 == 0 && (!road || b 0 25 1 == 0) &&
    ((List.range 24).all fun k => func k != 6 && (b (1 + k / 8) (4 * (k % 8) + 3) 1 == 0 || decide (func k < 4))) &&
    (decide (1 ≤ b 4 0 11) && decide (b 4 0 11 ≤ 1800) && b 4 11 5 == 0 && decide (b 4 16 16 ≤ if road then 10000 else 30000)) &&
    (decide (1 ≤ b 5 0 6) && decide (b 5 0 6 ≤ 60) && b 5 6 2 == 0 && b 5 13 3 == 0 && scopeOk (b 5 17 4) false &&
      (decide (b 5 8 5 ≤ 15) || (road && b 5 8 5 == 31))) &&
    (decide (1 ≤ b 6 16 16) && (road || b 5 16 1 == 0 || (decide (1 ≤ b 6 0 16) && decide (b 6 0 16 ≤ 8760)))) &&
    ((List.range 16).all fun i => scopeOk (scope i) false) &&
    (decide (1 ≤ b 11 0 16) && decide (b 11 0 16 ≤ 1000) && b 11 16 16 == 0) &&
    ((List.range 8).all fun j => b 12 (4 * j + 2) 2 == 0) &&
    ((List.range 51).all fun i => w (13 + i) == 0) &&
    ((List.range 0xE6).all fun id => entryOk scope id (b (64 + id / 4) (8 * (id % 4)) 8)) &&
    ((List.range 26).all fun i => let e := b (64 + (0xE6 + i) / 4) (8 * ((0xE6 + i) % 4)) 8; decide (e < 64) && scopeOk (e / 4) false)

/-- The words of SCB or SCB_STAGE. -/
def Chip.scbWords (c : Chip) (f : Field) : List Word := (List.range 128).map fun i => BitVec.ofNat 32 (c.fld pgSEAL f i)

/-! ### Placing an SCB -/

/-- The boot places an SCB: SS1_TIME takes SS1_MAX, and the matrix applies if the SCB is valid (R382, R386, R390). -/
def placeScb (ws : List Word) : Act :=
  .seq (each (List.range 128) fun i => put pgSEAL Reg.SEAL.SCB (ws.getD i 0).toNat i)
    (.seq (.dyn fun c => .prim (.safS { c.safSt with placed := true, valid := scbValid ws }))
      (.dyn fun c =>
        seqs [put pgSAF Reg.SAF.SS1_TIME c.ss1Max, putActive pgSAF Reg.SAF.SS1_TIME c.ss1Max,
          when c.safSt.valid (each (List.range 64) fun i => put pgFLT8 Reg.FLT8.MATRIX (ws.getD (64 + i) 0).toNat i)]))

/-- The boot wipes the SCB it placed (R441). -/
def wipeScb : Act :=
  seqs [each (List.range 128) fun i => put pgSEAL Reg.SEAL.SCB 0 i, .dyn fun c => .prim (.safS { c.safSt with placed := false, valid := false }),
    put pgSAF Reg.SAF.SS1_TIME 0, putActive pgSAF Reg.SAF.SS1_TIME 0, each (List.range 64) fun i => put pgFLT8 Reg.FLT8.MATRIX 0 i]

end Sys2Proof.Machine
end

