-- ==== Sys2Proof/Machine/Sixstep.lean ====
section
/-! DEFINITION. Six-step commutation units, and the events of bridge cells that reach them (Chapter 11, R296, R300 to R320). -/

namespace Sys2Proof.Machine

open Sys2Proof

def ssOFF : Nat := 0
def ssLISTEN : Nat := 1
def ssBRAKE : Nat := 2
def ssWAIT : Nat := 3
def ssALIGN : Nat := 4
def ssOPEN : Nat := 5
def ssRUN : Nat := 6
def ssSTOPPING : Nat := 7
def ssFAULT : Nat := 8

/-- Causes of SSC_STAT. -/
def scCOMMAND : Nat := 1
def scSYNC : Nat := 2
def scSTILL : Nat := 3
def scLOCK : Nat := 4
def scSTALL : Nat := 5
def scSTART : Nat := 6
def scREVERSE : Nat := 7
def scVDS : Nat := 8
def scSUPPLY : Nat := 9
def scSHUTTER : Nat := 10
def scKE : Nat := 11
def scCELL : Nat := 12

/-- STATE of Table 11-8. -/
def Chip.sscState (c : Chip) (u : Nat) : Nat := c.fld (pgSSC u) Reg.SSC.SSC_STAT_STATE

/-- LEVEL events of an SSC page (R324). -/
def Chip.sscLevels (c : Chip) (u : Nat) : Nat :=
  (if c.flag (pgSSC u) Reg.SSC.SSC_STAT_KE_ABNORMAL then 4 else 0) + if c.sscState u = ssFAULT then 8 else 0

/-- High, low and floating phase of a step, and whether its crossing rises with DIR 0 (Table 11-5). -/
def stepRow (s : Nat) : Nat × Nat × Nat × Bool :=
  match s with
  | 0 => (0, 1, 2, false)
  | 1 => (0, 2, 1, true)
  | 2 => (1, 2, 0, false)
  | 3 => (1, 0, 2, true)
  | 4 => (2, 0, 1, false)
  | _ => (2, 1, 0, true)

/-- The step after `s` (R308). -/
def stepAfter (dir : Bool) (s : Nat) : Nat := if dir then (s + 5) % 6 else (s + 1) % 6

/-- The step whose crossing this is, for a rotor that turns in direction `dir` (R308, R311). -/
def stepOfCrossing (dir : Bool) (phase : Nat) (rising : Bool) : Option Nat :=
  (List.range 6).find? fun s => (stepRow s).2.2.1 == phase && ((stepRow s).2.2.2 != dir) == rising

/-- floor(2.5e10 / (POLE_PAIRS × T_s)) (R312). -/
def Chip.sscSpeed (c : Chip) (u ts : Nat) : Nat := 25000000000 / (c.act (pgSSC u) Reg.SSC.SSC_CFG_POLE_PAIRS * ts)

/-- The advance, interpolated linearly in speed and rounded down (R312). -/
def Chip.sscAdvance (c : Chip) (u rpm : Nat) : Nat :=
  let s := fun i => c.act (pgSSC u) Reg.SSC.ADV_SPEED i
  let a := fun i => c.act (pgSSC u) Reg.SSC.ADV_ADV i
  if rpm ≤ s 0 then a 0
  else match (List.range 7).find? fun i => decide (rpm ≤ s (i + 1)) with
    | some i => ((a i : Int) + ((a (i + 1) : Int) - a i) * (rpm - s i : Nat) / (s (i + 1) - s i : Nat)).toNat
    | none => a 7

/-- SPEED, STEP_TICKS with T_s. -/
def putTs (u ts : Nat) : Act :=
  .dyn fun c => seqs [put (pgSSC u) Reg.SSC.SPEED (Nat.min (c.sscSpeed u ts) 65535), put (pgSSC u) Reg.SSC.STEP_TICKS (Nat.min ts (2 ^ 24 - 1)),
    modSsc u fun s => { s with ts := ts }]

/-- The cell of the high phase: in ALIGN that of phase A (R308, R317). -/
def Chip.sscHigh (c : Chip) (u : Nat) : Nat :=
  (c.sscCells u).getD (if c.sscState u = ssALIGN then 0 else (stepRow (c.fld (pgSSC u) Reg.SSC.SSC_STAT_STEP)).1) 0

/-- DUTY: the applied duty of the high phase after its cap (R313). -/
def putDuty (u d : Nat) : Act :=
  .dyn fun c =>
    let p := c.act (pgSSC u) Reg.SSC.SSC_PWM_PERIOD
    let hi := c.sscHigh u
    put (pgSSC u) Reg.SSC.DUTY (if c.capped hi then Nat.min d (98 * p / 100 * 65536 / p) else d)

/-- Every cell of the unit gets the command at once, as far as no higher rank acts (R319). -/
def sscAll (u : Nat) (cmd : CellCmd) : Act :=
  .dyn fun c => each (c.sscCells u) fun n => when (c.brgRank n == none && c.act (pgBRG n) Reg.BRG.BRG_CFG_MODE == 1) (brgCommand n (cmd.edges c.t 0 0))

/-- Ranks of R320. -/
def rkVDS : Nat := 1
def rkSHUTTER : Nat := 2
def rkSUPPLY : Nat := 3
def rkSTOP : Nat := 4
def rkSTALL : Nat := 5
def rkTIMED : Nat := 6
def rkCROSSING : Nat := 7
/-- A control write other than STOP. -/
def rkCONTROL : Nat := 8

/-- The state in which a condition of rank `r` finds the unit: conditions of lower rank that met it at this tick have not acted yet (R320). -/
def Chip.sscSees (c : Chip) (u r : Nat) : Nat :=
  let x := c.ssc u
  if x.since = c.t ∧ r < x.rank then x.before else c.sscState u

/-- The unit enters a state by a condition of rank `r` (R319, R320, R324). Its gates turn off, or all low sides on, where Table 11-8 says so. -/
def sscTo (u st cause r : Nat) : Act :=
  .dyn fun c =>
    let p := pgSSC u
    let x := c.ssc u
    seqs [put p Reg.SSC.SSC_STAT_STATE st, put p Reg.SSC.SSC_STAT_CAUSE cause, putFlag p Reg.SSC.SSC_STAT_LOCKED (st == ssRUN),
      evt p 0, record p 0 0x01 c.t (st + 256 * cause) (c.sscSees u r),
      modSsc u fun s => { s with since := c.t, rank := r, before := if x.since = c.t ∧ x.rank ≠ 0 then x.before else c.sscState u, stopBy := none, soft := none, comm := none, keOpen := false, driven := false,
                                 cross := [], start := none,
                                 carrier := if st = ssOFF ∨ st = ssFAULT then none else s.carrier },
      when (st != ssRUN) (put p Reg.SSC.DUTY 0),
      if st = ssBRAKE ∨ (st = ssSTOPPING ∧ c.actFlag p Reg.SSC.SSC_CFG_STOP_MODE) then sscAll u .low
      else if st = ssALIGN ∨ st = ssOPEN ∨ st = ssRUN then .skip else sscAll u .off,
      raiseLevels p fun c => c.sscLevels u]

/-- A refused control write (R314, R319). -/
def sscRefuse (u src : Nat) : Act := .seq (err (pgSSC u) 0x45 src) (evt (pgSSC u) 4)

/-- A STOP of this tick that a condition of higher rank precedes is evaluated again, and refused (R320). -/
def sscStopAgain (u r : Nat) : Act :=
  .dyn fun c => match (c.ssc u).stopBy with
    | some src => when ((c.ssc u).since == c.t && decide (r < rkSTOP)) (sscRefuse u src)
    | none => .skip

/-- The unit enters FAULT by a condition of rank `r`, unless it is there (R319, R320). -/
def sscFault (u cause r : Nat) : Act :=
  whenC (fun c => c.en (pgSSC u) && (c.sscState u != ssFAULT || c.sscSees u r != ssFAULT)) (.seq (sscStopAgain u r) (sscTo u ssFAULT cause r))

/-- The Shutter takes a unit that a command drives to OFF, and a START that waits is gone; a supply or CELL fault of the same tick is evaluated again (R319, R320). -/
def sscShut (u : Nat) : Act :=
  .dyn fun c =>
    let x := c.ssc u
    let seen := c.sscSees u rkSHUTTER
    let again := x.since == c.t && x.rank == rkSUPPLY
    .seq (modSsc u fun s => { s with start := none }) <| when (decide (ssLISTEN ≤ seen) && decide (seen ≤ ssSTOPPING)) (seqs [sscStopAgain u rkSHUTTER, sscTo u ssOFF scSHUTTER rkSHUTTER,
      when again (sscFault u (c.fld (pgSSC u) Reg.SSC.SSC_STAT_CAUSE) rkSUPPLY)])

/-- A cell fails its unit: its EN became 0, or its safe reaction acts (R319). -/
def sscCellFault (n : Nat) : Act :=
  .dyn fun c => match c.unitOf n with
    | some u => sscFault u scCELL rkSUPPLY
    | none => .skip

/-! ### Control writes -/

/-- No cell holds a VDS latch, and every supply is within its limits. -/
def Chip.sscClean (c : Chip) (u : Nat) : Bool :=
  (c.sscCells u).all fun n => !c.bst n Reg.BRG.BRG_STAT_VDS_H && !c.bst n Reg.BRG.BRG_STAT_VDS_L && !(c.brg (brgLead n)).supBad

/-- SSC_START (R314). -/
def execSscStart (dt : Nat) (src : Src) (u : Fin 5) (s : State) : Host.Outcome State Fault Refusal :=
  s.act dt (onPage src (pgSSC u) 0x094 true (.dyn fun c =>
    if c.sscState u == ssOFF && c.en (pgSSC u) && c.sscClean u && (c.sscCells u).all (fun n => !c.bst n Reg.BRG.BRG_STAT_SHUTTER_CLOSED) then
      .seq (modSsc u fun x => { x with start := some (x.start.getD (c.boundaryWait (pgSSC u))) })
        (each (c.sscCells u) fun n => .seq (putFlag (pgBRG n) Reg.BRG.BRG_STAT_SHUT_HOLD false) (brgUpdate n))
    else sscRefuse u src.code))

/-- An accepted START applies at its boundary (R309, R314). -/
def sscBoundary (u b : Nat) : Act :=
  .dyn fun c =>
    match (c.ssc u).start with
    | none => .skip
    | some k =>
      if 1 < k then modSsc u fun s => { s with start := some (k - 1) }
      else .seq (modSsc u fun s => { s with start := none })
        (when (c.on (pgSSC u) && c.sscState u == ssOFF)
          (.seq (modSsc u fun s => { s with windows := 0, carrier := some b, ints := [], z := none, ke := [] }) (sscTo u ssLISTEN scCOMMAND rkCONTROL)))

/-- SSC_STOP (R319). -/
def execSscStop (dt : Nat) (src : Src) (u : Fin 5) (s : State) : Host.Outcome State Fault Refusal :=
  s.act dt (onPage src (pgSSC u) 0x094 true (.dyn fun c =>
    let seen := c.sscSees u rkSTOP
    if ssLISTEN ≤ seen ∧ seen ≤ ssRUN then .seq (sscTo u ssSTOPPING scCOMMAND rkSTOP) (modSsc u fun s => { s with stopBy := some src.code })
    else sscRefuse u src.code))

/-- SSC_FAULT_CLR (R319). -/
def execSscFaultClr (dt : Nat) (src : Src) (u : Fin 5) (s : State) : Host.Outcome State Fault Refusal :=
  s.act dt (onPage src (pgSSC u) 0x094 true (.dyn fun c =>
    if c.sscState u == ssFAULT && c.sscClean u then
      seqs [put (pgSSC u) Reg.SSC.SSC_STAT_VDS_CELLS 0, put (pgSSC u) Reg.SSC.SSC_STAT_FIRST_CELL 0, modSsc u fun s => { s with vdsAt := none },
        sscTo u ssOFF scCOMMAND rkCONTROL]
    else sscRefuse u src.code))

/-! ### Carrier -/

/-- The command of phase `ph` in the period that starts (R309, R310, R317). -/
def Chip.phaseCmd (c : Chip) (u ph : Nat) (soft : Option (Nat × Nat × Nat)) : CellCmd :=
  let p := c.act (pgSSC u) Reg.SSC.SSC_PWM_PERIOD
  let st := c.sscState u
  let d := if st = ssRUN then (c.ssc u).duty else c.act (pgSSC u) Reg.SSC.START_C_ALIGN_DUTY
  let h := d * p / 65536
  let role := fun s => let r := stepRow s
    if r.1 = ph then CellCmd.pwm h true else if r.2.1 = ph then .low else .off
  if st = ssALIGN then (if ph = 0 then .pwm h true else .low)
  else if st = ssOPEN ∨ (st = ssRUN ∧ (c.ssc u).driven) then
    let now := c.fld (pgSSC u) Reg.SSC.SSC_STAT_STEP
    match soft with
    | none => role now
    | some (n, i, old) =>
      match role old, role now with
      | .pwm _ _, .pwm _ _ => .pwm h true
      | .low, .low => .low
      | .pwm _ _, _ => .pwm (h * (n + 1 - i) / (n + 1)) false
      | .low, _ => .part (p * (n + 1 - i) / (n + 1))
      | _, .pwm _ _ => .pwm (h * i / (n + 1)) false
      | _, .low => .part (p * i / (n + 1))
      | _, _ => .off
  else if st = ssBRAKE ∨ (st = ssSTOPPING ∧ c.actFlag (pgSSC u) Reg.SSC.SSC_CFG_STOP_MODE) then .low
  else .off

/-- SSC_CARRIER_START: the common carrier period starts for the three cells (R309, R310). -/
def execSscCarrierStart (dt : Nat) (u : Fin 5) (s : State) : Host.Outcome State Fault Refusal :=
  s.act dt (.dyn fun c =>
    match (c.ssc u).carrier with
    | none => .skip
    | some t =>
      let p := c.act (pgSSC u) Reg.SSC.SSC_PWM_PERIOD
      let x := c.ssc u
      let soft := match x.soft with
        | some (n, i, old) => if i < n then some (n, i + 1, old) else none
        | none => none
      seqs [
        atTick t,
        modSsc u fun s => { s with carrier := some (t + p), soft := soft, commEnd := if x.soft.isSome && soft.isNone then t else s.commEnd },
        each (((c.sscCells u).zip (List.range 3)).filter fun e => c.act (pgBRG e.1) Reg.BRG.BRG_CFG_MODE == 1) fun e =>
          .dyn fun c => cellPeriod e.1 t p (c.phaseCmd u e.2 soft) (c.sscState u == ssLISTEN || c.sscState u == ssWAIT),
        .dyn fun c => when (c.sscState u == ssRUN && (c.ssc u).driven) (putDuty u (c.ssc u).duty),
        .dyn fun c => when (c.sscState u == ssALIGN || c.sscState u == ssOPEN) (putDuty u (c.act (pgSSC u) Reg.SSC.START_C_ALIGN_DUTY))])

/-- The unit drives the next step, hard or softened over S periods (R310). -/
def commute (u ts : Nat) : Act :=
  .dyn fun c =>
    let p := pgSSC u
    let old := c.fld p Reg.SSC.SSC_STAT_STEP
    let n := Nat.min (c.act p Reg.SSC.SSC_PWM_SOFT) (ts / (8 * c.act p Reg.SSC.SSC_PWM_PERIOD))
    .seq (put p Reg.SSC.SSC_STAT_STEP (stepAfter (c.actFlag p Reg.SSC.SSC_CFG_DIR) old))
      (modSsc u fun s => { s with soft := some (if s.driven then n else 0, 0, old), driven := true })

/-- COMMUTATION: the commutation tick is reached in RUN (R310, R316). -/
def execCommutation (dt : Nat) (u : Fin 5) (s : State) : Host.Outcome State Fault Refusal :=
  s.act dt (.dyn fun c =>
    match (c.ssc u).comm with
    | some t => when (c.sscState u == ssRUN)
        (seqs [atTick t, modSsc u fun s => { s with comm := none, keOpen := false }, commute u (c.ssc u).ts])
    | none => .skip)

/-! ### Crossings -/

/-- Mean of intervals, rounded down (R312). -/
def meanOf (l : List Nat) : Nat := l.sum / l.length

/-- An accepted crossing at `z` in RUN: T_s, speed, commutation, and the speed loop (R312). -/
def onCrossing (u z : Nat) : Act :=
  .dyn fun c =>
    let p := pgSSC u
    let x := c.ssc u
    let ts := if x.ints.isEmpty then x.ts else meanOf x.ints
    let rpm := c.sscSpeed u ts
    let a := c.sscAdvance u rpm
    let dMax : Int := c.act p Reg.SSC.DUTY_LIM
    let e : Int := (c.act p Reg.SSC.SPD_CMD : Int) - rpm
    let clamp := fun (v hi : Int) => if v < 0 then 0 else if hi < v then hi else v
    let i := clamp (x.integ + c.act p Reg.SSC.SPD_REG_KI * e) (dMax * 256)
    let d := clamp ((c.act p Reg.SSC.SPD_REG_KP * e + i) / 256) dMax
    seqs [putTs u ts,
      modSsc u fun s => { s with comm := some (z + ts * (128 - a) / 256), next := z + ts, integ := i, duty := d.toNat, lostRun := 0, keOpen := true }]

/-- The crossing joins the intervals; one that spans a lost step does not count (R312). -/
def noteCrossing (u z : Nat) : Act :=
  modSsc u fun s =>
    { s with z := some z, gone := false,
             ints := match s.z with
               | some z0 => if s.gone then s.ints else ((z - z0) :: s.ints).take 6
               | none => s.ints }

/-- In a driven step the comparator is sampled during the high phase's GH on-time, from ZC_BLANK ticks after each gate edge of the unit (R311). -/
def Chip.zcSampled (c : Chip) (u : Nat) : Bool :=
  let hi := (c.sscCells u).getD (stepRow (c.fld (pgSSC u) Reg.SSC.SSC_STAT_STEP)).1 0
  let blank := c.act (pgSSC u) Reg.SSC.ZC_CFG_ZC_BLANK
  c.bst hi Reg.BRG.BRG_STAT_GATE_H &&
    (c.sscCells u).all fun n => let b := c.brg n; [b.onH, b.onL, b.offH, b.offL].all fun t => t == 0 || decide (t + blank ≤ c.t)

/-- ZERO_CROSSING: a sample of the comparator of a phase shows the new side (R311, R312, R314, R317). -/
def execZeroCrossing (dt : Nat) (u : Fin 5) (phase : Fin 3) (rising : Bool) (s : State) : Host.Outcome State Fault Refusal :=
  s.act dt (.seq (.dyn fun c => each (c.sscCells u) brgSettle) (.dyn fun c =>
    let p := pgSSC u
    let x := c.ssc u
    let st := c.sscState u
    let row := stepRow (c.fld p Reg.SSC.SSC_STAT_STEP)
    let ts := if st = ssOPEN then x.stepLen else x.ts
    let expected := row.2.2.1 == phase.val && (row.2.2.2 != c.actFlag p Reg.SSC.SSC_CFG_DIR) == rising &&
      c.zcSampled u && x.soft.isNone && decide (x.commEnd + ts * c.act p Reg.SSC.ZC_CFG_DEMAG / 256 ≤ c.t)
    if st = ssLISTEN ∨ st = ssWAIT then modSsc u fun s => { s with cross := s.cross ++ [(c.t, phase.val, rising)], keOpen := true }
    else if !expected then .skip
    else if st = ssRUN then .seq (noteCrossing u c.t) (onCrossing u c.t)
    else if st = ssOPEN ∧ x.checked ∧ !x.crossed then
      .seq (.seq (noteCrossing u c.t) (modSsc u fun s => { s with crossed := true }))
        (when (decide (c.act p Reg.SSC.START_D_LOCK_STEPS ≤ x.lockRun))
          (seqs [sscTo u ssRUN scLOCK rkCROSSING, modSsc u fun s => { s with integ := 256 * c.act p Reg.SSC.START_C_ALIGN_DUTY, driven := true }, onCrossing u c.t,
            modSsc u fun s => { s with ints := [] }]))
    else .skip))

/-- STEP_LOST: no crossing by the expected tick plus half a step (R312). -/
def execStepLost (dt : Nat) (u : Fin 5) (s : State) : Host.Outcome State Fault Refusal :=
  s.act dt (.dyn fun c =>
    let p := pgSSC u
    let ts := (c.ssc u).ts
    let now := (c.ssc u).next + ts / 2
    when (c.sscState u == ssRUN)
      (seqs [atTick now, bump p Reg.SSC.LOST_CNT, evt p 1,
        modSsc u fun s => { s with comm := some now, next := s.next + ts, lostRun := s.lostRun + 1, gone := true, keOpen := false },
        whenC (fun c => decide (c.act p Reg.SSC.START_D_LOST_STEPS ≤ (c.ssc u).lostRun)) (sscFault u scSTALL rkSTALL),
        record p 0 0x03 now (c.fld p Reg.SSC.SSC_STAT_STEP) ts]))

/-! ### Listen, start and stop -/

/-- The listen is valid for a rotor that turns in direction `dir`: its last four crossings follow Table 11-5, and their three intervals lie within ±25 % of their mean (R314). -/
def listenValid (dir : Bool) (l : List Crossing) : Option Nat :=
  let last := l.drop (l.length - 4)
  let steps := last.map fun x => stepOfCrossing dir x.2.1 x.2.2
  let ordered := (steps.zip (steps.drop 1)).all fun e => match e with
    | (some a, some b) => b == stepAfter dir a
    | _ => false
  let ts := last.map Prod.fst
  let ints : List Nat := (ts.zip (ts.drop 1)).map fun e => e.2 - e.1
  let sum : Nat := ints.sum
  if last.length = 4 ∧ ordered ∧ ints.all (fun i => decide ((3 * (i : Int) - sum).natAbs * 4 ≤ sum)) then some (sum / 3) else none

/-- The first commutation of a synchronisation that does not lie before `fin` (R316). -/
def firstCommutation (z ts a fin : Nat) : Nat :=
  let t := z + ts * (128 - a) / 256
  if fin ≤ t then t else t + (fin - t + ts - 1) / ts * ts

/-- LISTEN_END: Table 11-6 decides (R314 to R316). -/
def execListenEnd (dt : Nat) (u : Fin 5) (s : State) : Host.Outcome State Fault Refusal :=
  s.act dt (.dyn fun c =>
    let p := pgSSC u
    let x := c.ssc u
    when (c.sscState u == ssLISTEN || c.sscState u == ssWAIT)
      (let fin := x.since + 50000000
       let dir := c.actFlag p Reg.SSC.SSC_CFG_DIR
       let fwd := listenValid dir x.cross
       let rev := listenValid (!dir) x.cross
       let found := fwd.isSome || rev.isSome
       let reverse := fwd.isNone && rev.isSome
       let ts := (fwd.getD (rev.getD 0))
       let speed := if found then c.sscSpeed u ts else 0
       let det := c.act p Reg.SSC.START_A_DET_SPEED
       let again := fun st => if c.act p Reg.SSC.START_E_BRAKE_MAX ≤ x.windows then sscFault u scREVERSE rkSTALL
         else .seq (modSsc u fun s => { s with windows := s.windows + 1 }) (sscTo u st scREVERSE rkTIMED)
       seqs [
         atTick fin,
         record p 0 0x02 fin ((if found then 1 else 0) + (if reverse then 2 else 0) + 2 ^ 8 * Nat.min x.cross.length 255) speed,
         when found (putTs u ts),
         match x.cross.getLast? with
         | some (z, phase, rising) =>
           if found && !reverse && decide (det ≤ speed) then
             let t := firstCommutation z ts (c.sscAdvance u speed) fin
             let d0 := Nat.min (c.act p Reg.SSC.DUTY_LIM) (speed * c.act p Reg.SSC.START_E_FF / 1000)
             seqs [sscTo u ssRUN scSYNC rkTIMED, put p Reg.SSC.SSC_STAT_STEP ((stepOfCrossing dir phase rising).getD 0),
               modSsc u fun s => { s with comm := some t, next := z + ((t - z) / ts + 1) * ts, integ := 256 * (d0 : Int), duty := d0, ints := [], z := some z,
                                          gone := false, lostRun := 0 }]
           else if reverse && decide (c.act p Reg.SSC.START_A_REV_SC_MAX < speed) then again ssWAIT
           else if reverse && decide (det ≤ speed) then again ssBRAKE
           else sscTo u ssALIGN scSTILL rkTIMED
         | none => sscTo u ssALIGN scSTILL rkTIMED]))

/-- BRAKE_END: BRAKE_MS have passed (R315). -/
def execBrakeEnd (dt : Nat) (u : Fin 5) (s : State) : Host.Outcome State Fault Refusal :=
  s.act dt (.dyn fun c => when (c.sscState u == ssBRAKE)
    (.seq (atTick ((c.ssc u).since + 2500000 * c.act (pgSSC u) Reg.SSC.START_B_BRAKE_MS)) (sscTo u ssLISTEN 0 rkTIMED)))

/-- Length of a forced step that starts at `t` (R317): floor(2.5e10 / (POLE_PAIRS × s)), with s = DET_SPEED/4 + OL_ACCEL × (t − t0)/2.5e9. -/
def Chip.forcedLen (c : Chip) (u t : Nat) : Nat :=
  let p := pgSSC u
  25000000000 * 10000000000 / (c.act p Reg.SSC.SSC_CFG_POLE_PAIRS *
    (2500000000 * c.act p Reg.SSC.START_A_DET_SPEED + 4 * c.act p Reg.SSC.START_D_OL_ACCEL * (t - (c.ssc u).olStart)))

/-- The open-loop reference at `t` has reached `rpm`. -/
def Chip.olReached (c : Chip) (u t rpm : Nat) : Bool :=
  let p := pgSSC u
  decide (10000000000 * rpm ≤ 2500000000 * c.act p Reg.SSC.START_A_DET_SPEED + 4 * c.act p Reg.SSC.START_D_OL_ACCEL * (t - (c.ssc u).olStart))

/-- ALIGN_END: OPEN_LOOP starts (R317). -/
def execAlignEnd (dt : Nat) (u : Fin 5) (s : State) : Host.Outcome State Fault Refusal :=
  s.act dt (.dyn fun c => when (c.sscState u == ssALIGN)
    (seqs [atTick ((c.ssc u).since + 2500000 * c.act (pgSSC u) Reg.SSC.START_B_ALIGN_MS), sscTo u ssOPEN 0 rkTIMED,
      put (pgSSC u) Reg.SSC.SSC_STAT_STEP (if c.actFlag (pgSSC u) Reg.SSC.SSC_CFG_DIR then 5 else 2),
      .dyn fun c => modSsc u fun s => { s with olStart := c.t, stepAt := c.t, ints := [], z := none, gone := false, lockRun := 0, crossed := false, driven := true },
      .dyn fun c => modSsc u fun s => { s with stepLen := c.forcedLen u c.t, checked := c.olReached u c.t (c.act (pgSSC u) Reg.SSC.START_A_DET_SPEED) }]))

/-- FORCED_STEP: an open-loop step ends (R317). -/
def execForcedStep (dt : Nat) (u : Fin 5) (s : State) : Host.Outcome State Fault Refusal :=
  s.act dt (.dyn fun c =>
    let p := pgSSC u
    let x := c.ssc u
    when (c.sscState u == ssOPEN)
      (let t := x.stepAt + x.stepLen
       let locks := decide (c.act p Reg.SSC.START_D_LOCK_STEPS ≤ x.lockRun)
       let run := if x.checked && x.crossed then x.lockRun + 1 else if locks then x.lockRun else 0
       seqs [atTick t,
         modSsc u fun s => { s with lockRun := run, crossed := false, ints := if run = 0 then [] else s.ints, z := if run = 0 then none else s.z },
         .dyn fun c =>
           if c.olReached u t (c.act p Reg.SSC.START_C_OL_MAX) && decide (run < c.act p Reg.SSC.START_D_LOCK_STEPS) then sscFault u scSTART rkSTALL
           else .seq (modSsc u fun s => { s with stepAt := t, stepLen := c.forcedLen u t, checked := c.olReached u t (c.act p Reg.SSC.START_A_DET_SPEED) })
             (commute u x.stepLen)]))

/-- STOPPING_END: the unit enters OFF (R319). -/
def execStoppingEnd (dt : Nat) (u : Fin 5) (s : State) : Host.Outcome State Fault Refusal :=
  s.act dt (.dyn fun c => when (c.sscState u == ssSTOPPING)
    (.seq (atTick ((c.ssc u).since + if c.actFlag (pgSSC u) Reg.SSC.SSC_CFG_STOP_MODE then 2500000 * c.act (pgSSC u) Reg.SSC.START_B_BRAKE_MS else 0))
      (sscTo u ssOFF 0 rkTIMED)))

/-! ### The back-EMF constant -/

/-- A counted sample of `v` mV at `rpm` joins the window (R318). Means and the ratio are rounded down. -/
def keCount (u v rpm : Nat) : Act :=
  .dyn fun c =>
    let p := pgSSC u
    let l := (c.ssc u).ke ++ [v * 1000 / rpm]
    if l.length < c.act p Reg.SSC.KE_CFG_KE_WIN then modSsc u fun s => { s with ke := l }
    else
      let mean := Nat.min (meanOf l) 65535
      let ratio := Nat.min (meanOf l * 4096 / c.act p Reg.SSC.KE_CFG_KE_REF) 65535
      let bad := decide (ratio < c.act p Reg.SSC.KE_BAND_KE_LO) || decide (c.act p Reg.SSC.KE_BAND_KE_HI < ratio)
      seqs [modSsc u fun s => { s with ke := [] }, put p Reg.SSC.KE_MEAS_MV mean, put p Reg.SSC.KE_MEAS_RATIO ratio,
        putFlag p Reg.SSC.SSC_STAT_KE_ABNORMAL bad,
        when bad (seqs [record p 0 0x04 c.t mean ratio, raiseLevels p fun c => c.sscLevels u,
          when (c.actFlag p Reg.SSC.SSC_CFG_KE_ACTION) (sscFault u scKE rkSTALL)])]

/-- Centre of the first GH on-time of cell `n` that starts at or after `from_`, by the edges commanded and planned, if both of its edges are known (R318). -/
def Chip.onCentre (c : Chip) (n from_ : Nat) : Option Nat :=
  let b := c.brg n
  let on := if c.bst n Reg.BRG.BRG_STAT_GATE_H ∧ from_ ≤ b.onH then some b.onH
    else (b.plan.find? fun e => e.high && e.on && decide (from_ ≤ e.t)).map GateEdge.t
  match on with
  | none => none
  | some a => (b.plan.find? fun e => e.high && !e.on && decide (a < e.t)).map fun e => (a + e.t) / 2

/-- KE_SAMPLE: the floating phase measures `v` mV against its reference after the latest crossing (R318). -/
def execKeSample (dt : Nat) (u : Fin 5) (v : BitVec 16) (s : State) : Host.Outcome State Fault Refusal :=
  s.act dt (.seq (.dyn fun c => each (c.sscCells u) brgSettle) (.dyn fun c =>
    let p := pgSSC u
    let x := c.ssc u
    let ts := x.ts
    let per := c.act p Reg.SSC.SSC_PWM_PERIOD
    when (x.keOpen && c.act p Reg.SSC.KE_CFG_KE_WIN != 0)
      (if c.sscState u = ssRUN then
        match x.z, x.carrier with
        | some z, some k =>
          let hi := c.sscHigh u
          let full := x.duty * per / 65536
          let h := if c.capped hi then Nat.min full (98 * per / 100) else full
          let from_ := z + ts / 4
          let start := from_ + ((k + (per - h) / 2) % per + per - from_ % per) % per
          let centre := (c.onCentre hi from_).getD (start + h / 2)
          seqs [atTick centre, modSsc u fun s => { s with keOpen := false },
            when (decide (16 * per ≤ ts) && x.duty != 0 && (match x.comm with | some t => decide (centre < t) | none => false))
              (keCount u v.toNat (c.fld p Reg.SSC.SPEED))]
        | _, _ => .skip
      else
        match x.cross.reverse with
        | (z, _) :: (y, _) :: _ =>
          seqs [modSsc u fun s => { s with keOpen := false }, atTick (z + (z - y) / 4), keCount u v.toNat (c.sscSpeed u (z - y))]
        | _ => modSsc u fun s => { s with keOpen := false })))

/-! ### Cells and their unit -/

/-- The comparator of a gate is monitored at this tick: the gate is commanded on, or was up to it (R300, R320). -/
def Chip.vdsWatched (c : Chip) (n : Nat) (high : Bool) : Bool :=
  let b := c.brg n
  !c.bst n (if high then Reg.BRG.BRG_STAT_VDS_H else Reg.BRG.BRG_STAT_VDS_L) &&
    (c.bst n (if high then Reg.BRG.BRG_STAT_GATE_H else Reg.BRG.BRG_STAT_GATE_L) || (0 < c.t && (if high then b.offH else b.offL) == c.t))

/-- The unit that names the cell sees its VDS latch (R303). -/
def sscVds (n : Nat) : Act :=
  .dyn fun c => match c.unitOf n with
    | none => .skip
    | some u =>
      let q := pgSSC u
      let bit := ((c.sscCells u).zip (List.range 3)).foldl (fun m e => if e.1 = n then m ||| 2 ^ e.2 else m) 0
      let first := match (c.ssc u).vdsAt with
        | none => n
        | some t => if t = c.t then Nat.min n (c.fld q Reg.SSC.SSC_STAT_FIRST_CELL) else c.fld q Reg.SSC.SSC_STAT_FIRST_CELL
      seqs [put q Reg.SSC.SSC_STAT_VDS_CELLS (c.fld q Reg.SSC.SSC_STAT_VDS_CELLS ||| bit), put q Reg.SSC.SSC_STAT_FIRST_CELL first,
        modSsc u fun s => { s with vdsAt := some (s.vdsAt.getD c.t) }, sscFault u scVDS rkVDS]

/-- VDS_DETECT: the comparator of a gate has been high for 625 ticks, counted from the later of the end of blanking and its rise; `atBlank`: it was high at the end of blanking (R300, R302). -/
def execVdsDetect (dt : Nat) (n : Fin 16) (high atBlank : Bool) (s : State) : Host.Outcome State Fault Refusal :=
  s.act dt (.seq (brgSettle n) (.dyn fun c =>
    let p := pgBRG n
    let blanked := (if high then (c.brg n).onH else (c.brg n).onL) + c.act p Reg.BRG.VDS_CFG_BLANK + vdsCount
    let at_ := if atBlank then blanked else c.t
    when (c.vdsWatched n high && decide (blanked ≤ at_) && decide (c.t ≤ at_))
      (seqs [atTick at_, brgSettle n, whenC (fun c => c.vdsWatched n high) (.dyn fun c =>
        seqs [putFlag p (if high then Reg.BRG.BRG_STAT_VDS_H else Reg.BRG.BRG_STAT_VDS_L) true, bump p Reg.BRG.VDS_CNT,
          record p 0 0x01 (c.t - vdsCount) (if high then 0 else 1) (if atBlank then 1 else 0),
          raiseLevels p fun c => c.brgLevels n, brgUpdate n, raiseFault (fBRG_VDS n), sscVds n])])))

/-- VDS_CLR: the latch of each gate whose comparator reads low clears (R300). -/
def execVdsClr (dt : Nat) (src : Src) (n : Fin 16) (lowH lowL : Bool) (s : State) : Host.Outcome State Fault Refusal :=
  s.act dt (onPage src (pgBRG n) 0x058 true (seqs [
    when lowH (putFlag (pgBRG n) Reg.BRG.BRG_STAT_VDS_H false), when lowL (putFlag (pgBRG n) Reg.BRG.BRG_STAT_VDS_L false),
    whenC (fun c => !c.bst n Reg.BRG.BRG_STAT_VDS_H && !c.bst n Reg.BRG.BRG_STAT_VDS_L) (dropFault (fBRG_VDS n)), brgUpdate n]))

/-- BRG_REARM (R296, R306). -/
def execBrgRearm (dt : Nat) (src : Src) (n : Fin 16) (s : State) : Host.Outcome State Fault Refusal :=
  s.act dt (onPage src (pgBRG n) 0x058 true (.dyn fun c =>
    if c.bst n Reg.BRG.BRG_STAT_SHUTTER_CLOSED || c.bst n Reg.BRG.BRG_STAT_VDS_H || c.bst n Reg.BRG.BRG_STAT_VDS_L then err (pgBRG n) 0x44 src.code
    else when (c.act (pgBRG n) Reg.BRG.BRG_CFG_MODE == 2 && !(c.brg (brgLead n)).supBad)
      (.seq (putFlag (pgBRG n) Reg.BRG.BRG_STAT_SHUT_HOLD false) (brgUpdate n))))

/-- Cells of bridge block `b`. -/
def cellsOf (b : Nat) : List Nat := [4 * b, 4 * b + 1, 4 * b + 2, 4 * b + 3]

/-- VBR_MEASURE: the lead cell measures VBR[b] in 0.1 V (R306). -/
def execVbrMeasure (dt : Nat) (b : Fin 4) (dv : BitVec 10) (s : State) : Host.Outcome State Fault Refusal :=
  s.act dt (whenC (fun c => c.domainOn 9) (.dyn fun c =>
    let n := 4 * b.val
    let p := pgBRG n
    let low := decide (dv.toNat < c.act p Reg.BRG.SUP_CFG_UV)
    let high := decide (c.act p Reg.BRG.SUP_CFG_OV < dv.toNat)
    let bad := (c.brg n).supBad
    let k := if (low || high) != bad then (c.brg n).sup + 1 else 0
    seqs [put p Reg.BRG.SUP_STAT_VBR dv.toNat, modBrg n fun x => { x with sup := if 2 ≤ k then 0 else k },
      when (bad && (low || high)) (.seq (putFlag p Reg.BRG.SUP_STAT_UV low) (putFlag p Reg.BRG.SUP_STAT_OV high)),
      when (decide (2 ≤ k)) (seqs [
        modBrg n fun x => { x with supBad := !bad }, putFlag p Reg.BRG.SUP_STAT_UV low, putFlag p Reg.BRG.SUP_STAT_OV high,
        record p 0 0x06 c.t ((if low then 1 else 0) + if high then 2 else 0) dv.toNat, raiseLevels p fun c => c.brgLevels n,
        each (cellsOf b) fun m => .dyn fun c => seqs [
          when (!bad && c.act (pgBRG m) Reg.BRG.BRG_CFG_MODE == 2) (putFlag (pgBRG m) Reg.BRG.BRG_STAT_SHUT_HOLD true),
          brgUpdate m,
          when (!bad) (match c.unitOf m with | some u => sscFault u scSUPPLY rkSUPPLY | none => .skip)]])]))

/-- The Shutter wires of bridge block `b` are closed, or run (R296, R319, R322). -/
def brgShutter (b : Nat) (closed : Bool) : Act :=
  each (cellsOf b) fun n => .dyn fun c => when (c.bst n Reg.BRG.BRG_STAT_SHUTTER_CLOSED != closed)
    (seqs [putFlag (pgBRG n) Reg.BRG.BRG_STAT_SHUTTER_CLOSED closed, when closed (putFlag (pgBRG n) Reg.BRG.BRG_STAT_SHUT_HOLD true),
      record (pgBRG n) 0 0x07 c.t (if closed then 1 else 0) 0, raiseLevels (pgBRG n) fun c => c.brgLevels n, brgUpdate n,
      when closed (match c.unitOf n with
        | some u => sscShut u
        | none => .skip)])

/-! ### Start and stop -/

/-- EN = 1 of a cell takes effect at boundary `b` (R294). -/
def brgStart (n b : Nat) : Act := .seq (modBrg n fun x => { x with carrier := some b }) (brgUpdate n)

/-- EN = 0 of a cell (R295, R319). -/
def brgStop (n : Nat) : Act := seqs [modBrg n fun x => { x with carrier := none, pwm := none, capTo := 0 }, brgUpdate n, sscCellFault n]

/-- EN = 0 of a unit: its cells turn off (R293). -/
def sscStop (u : Nat) : Act :=
  whenC (fun c => c.sscState u != ssOFF && c.sscState u != ssFAULT) (sscTo u ssOFF scCOMMAND rkSTOP)

/-- A commit of a unit applies: SPD_CMD 0 in RUN enters STOPPING (R313). -/
def sscCommitted (u : Nat) : Act :=
  whenC (fun c => c.sscSees u rkSTOP == ssRUN && c.act (pgSSC u) Reg.SSC.SPD_CMD == 0) (sscTo u ssSTOPPING scCOMMAND rkSTOP)

end Sys2Proof.Machine
end

