-- ==== Sys2Proof/Machine/SafetyFunctions.lean ====
section
/-! DEFINITION. The safety functions, the Shutter master and the fault collector FLT[8] (Chapter 13, R357 to R365, R375 to R378). -/

namespace Sys2Proof.Machine

open Sys2Proof

/-- Changes what the safety kernel holds. -/
def modSaf (f : SafSt → SafSt) : Act := .dyn fun c => .prim (.safS (f c.safSt))

/-- Ticks of a millisecond. -/
def msTicks : Nat := 2500000

/-! ### Function states -/

/-- STATE of function `f`: 0 RUN, 1 SS1, 2 STO (R363). -/
def Chip.fstate (c : Chip) (f : Nat) : Nat := c.fld pgSAF Reg.SAF.FUNC_STAT_STATE f

/-- Every function is in STO. -/
def Chip.allSto (c : Chip) : Bool := (List.range 7).all fun f => c.fstate f == 2

/-- Blocks of function `f` as bits: leg block k at k, bridge block b at 24 + b (Table 13-2). -/
def Chip.blocksOf (c : Chip) (f : Nat) : Nat :=
  if f = 6 then 0xF000000 else ((List.range 24).filter fun k => c.func k == f).foldl (fun m k => m ||| 2 ^ k) 0

/-- Blocks commanded closed on either channel. -/
def SafSt.closed (s : SafSt) : Nat := s.chA ||| s.chB

/-- Block number of a record: k for a leg block, 32 + b for a bridge block (R386). -/
def blockNo (i : Nat) : Nat := if i < 24 then i else 32 + (i - 24)

/-- SHUT_LEG and SHUT_BRG show the blocks that the master commands closed on both channels (R386, R495), with a SHUTTER record for each block that changes. -/
def shutRefresh (old : Nat) : Act :=
  .dyn fun c =>
    let both := c.safSt.chA &&& c.safSt.chB
    seqs [put pgSAF Reg.SAF.SHUT_LEG (both % 2 ^ 24), put pgSAF Reg.SAF.SHUT_BRG (both / 2 ^ 24),
      each ((List.range 28).filter fun i => old.testBit i != c.safSt.closed.testBit i) fun i =>
        record pgSAF 0 0x02 c.t (blockNo i) (if c.safSt.closed.testBit i then 1 else 0)]

/-- The master commands wire `w` to run: A wires at 0 to 27, B wires at 28 to 55. -/
def SafSt.runs (s : SafSt) (w : Nat) : Bool := !(if w < 28 then s.chA else s.chB).testBit (w % 28)

/-- Level of the run pattern of wire `w`: a square wave of the pair's half-period, with B the complement of A (R358). -/
def Chip.runHigh (c : Chip) (w : Nat) : Bool :=
  let i := w % 28
  let s := c.safSt
  (s.high.testBit i == decide (w < 28)) == ((c.t - s.openAt.getD i 0) / s.half.getD i 40000 % 2 == 0)

/-- Static level of the closed wires of block `i`: high under SHORT-LOW and low under OPEN, which every bridge block takes (R359); an unpowered master holds its wires low (Table 18-4). -/
def Chip.staticHigh (c : Chip) (i : Nat) : Bool := c.domainOn 1 && decide (i < 24) && c.sealedLow i

/-- Level of wire `w` at its pin. -/
def Chip.wireHigh (c : Chip) (w : Nat) : Bool :=
  if c.safSt.runs w && c.domainOn 1 then c.runHigh w else c.staticHigh (w % 28)

/-- Tick of the last edge of wire `w`. -/
def Chip.lastEdge (c : Chip) (w : Nat) : Nat :=
  let s := c.safSt
  let o := s.openAt.getD (w % 28) 0
  if !s.runs w then s.edge.getD w 0
  else if c.t - o < s.half.getD (w % 28) 40000 then (if c.runHigh w != c.staticHigh (w % 28) then o else s.edge.getD w 0)
  else c.t - (c.t - o) % s.half.getD (w % 28) 40000

/-- A pair is closed when either of its wires is (R358). -/
def SafSt.pairClosed (s : SafSt) (i : Nat) : Bool := s.wireA.testBit i || s.wireB.testBit i

/-- Wire `w` stops its run pattern at the static level `high`: with an edge where its level differs, and at its last edge otherwise (R358, R359). -/
def stopWire (high : Bool) (w : Nat) : Act :=
  .dyn fun c => modSaf fun s => { s with edge := s.edge.set w (if c.wireHigh w != high then c.t else c.lastEdge w) }

/-- Wires are commanded closed: those that carry their run pattern stop it. -/
def closeWires (a b : Nat) : Act :=
  .dyn fun c =>
    let newly := fun (m old : Nat) => (List.range 28).filter fun i => m.testBit i && !old.testBit i
    let stop := fun (w : Nat) => stopWire (c.staticHigh (w % 28)) w
    seqs [when (c.domainOn 1) (.seq (each (newly a c.safSt.chA) stop) (each (newly b c.safSt.chB) fun i => stop (28 + i))),
      modSaf fun s => { s with chA := s.chA ||| a, chB := s.chB ||| b }, shutRefresh c.safSt.closed]

/-- The run pattern of pair `i` starts: its half-period lies within 15.2 µs to 16.8 µs (R358), and it starts at either level; both are free values (DESIGN CHOICE: one half-period from start to stop; log entry 106). -/
def startPair (i : Nat) : Act :=
  .dyn fun c =>
    let x := Config.freeValue c.free
    .seq (modSaf fun s => { s with openAt := s.openAt.set i c.t, half := s.half.set i (38000 + x % 4001), high := withBit s.high i (x / 4001 % 2 == 1) }) (.prim .freeNext)

/-- Wires are commanded to run; a block with no function is never reopened (R363, Table 13-2). -/
def openWires (m : Nat) : Act :=
  .dyn fun c =>
    seqs [each ((List.range 28).filter fun i => m.testBit i && c.safSt.closed.testBit i) startPair,
      modSaf fun s => { s with chA := s.chA - (s.chA &&& m), chB := s.chB - (s.chB &&& m) }, shutRefresh c.safSt.closed]

/-- PD_SAFE is lost: every wire that carries its run pattern stops, low (R25). -/
def safeLost : Act :=
  .dyn fun c => each ((List.range 56).filter c.safSt.runs) (stopWire false)

/-- `a` changes the sealed configuration: a wire held closed moves to the static level of its block's mode (R359). -/
def levelsFollow (a : Act) : Act :=
  .dyn fun c0 => .seq a (.dyn fun c =>
    each ((List.range 56).filter fun w => !c.safSt.runs w && c0.staticHigh (w % 28) != c.staticHigh (w % 28)) fun w =>
      modSaf fun s => { s with edge := s.edge.set w c.t })

/-- LEVEL events of SAF (R386). -/
def Chip.safLevels (c : Chip) : Nat :=
  (if (List.range 7).any fun f => c.fstate f == 2 then 1 else 0) + (if (List.range 7).any fun f => c.fstate f == 1 then 2 else 0) +
    (if c.fld pgSAF Reg.SAF.WIRE_FAULT_LEG != 0 || c.fld pgSAF Reg.SAF.WIRE_FAULT_BRG != 0 then 8 else 0)

/-- A function changes state, with its record (R386). -/
def putFunc (f st : Nat) : Act :=
  .dyn fun c => when (c.fstate f != st)
    (seqs [put pgSAF Reg.SAF.FUNC_STAT_STATE st f, record pgSAF 0 0x01 c.t f (st + 16 * c.fstate f),
      modSaf fun s => { s with ss1 := s.ss1.filter fun e => e.1 != f }])

/-- The brake engages: both switches off (R366); `cause` as in the BRAKE record (R389). A brake test that runs is aborted, with result 3 and its record (R368, R389). -/
def brakeEngage (cause : Nat) : Act :=
  .dyn fun c =>
    let st := c.fld pgSBC Reg.SBC.SBC_STAT_STATE
    .seq (.prim (.brakeS { c.brakeSt with settle := none, window := none }))
      (seqs [when (st == 2) (.seq (put pgSBC Reg.SBC.SBC_STAT_BT_RESULT 3) (record pgSBC 0 0x02 c.t 3 (c.fld pgSBC Reg.SBC.BT_STAT_MOVE))),
        when (st != 3) (put pgSBC Reg.SBC.SBC_STAT_STATE 0), when (st == 1) (put pgSBC Reg.SBC.SBC_STAT_READBACK 0),
        when (st == 1 || st == 2) (record pgSBC 0 0x01 c.t 1 cause), evt pgSBC 0])

/-- SOUT[j] as it is driven: commanded on, used, and forced off neither by a fault nor by an STO of every function (R372). -/
def Chip.soutOn (c : Chip) (j : Nat) : Bool :=
  (c.fld pgSIO Reg.SIO.SOUT_CMD).testBit j && c.soutUsed j && !(c.fld pgSIO Reg.SIO.SOUT_STAT_FAULT).testBit j && !(c.soutSto j && c.allSto)

/-- SOUT_STAT follows the outputs: LEVEL as driven, FORCED where a commanded output is held off (R372, R387). -/
def soutRefresh : Act :=
  .dyn fun c =>
    let mask := fun (p : Nat → Bool) => ((List.range 8).filter p).foldl (fun m j => m ||| 2 ^ j) 0
    .seq (put pgSIO Reg.SIO.SOUT_STAT_LEVEL (mask c.soutOn))
      (put pgSIO Reg.SIO.SOUT_STAT_FORCED (mask fun j => (c.fld pgSIO Reg.SIO.SOUT_STAT_FAULT).testBit j || (c.soutUsed j && c.soutSto j && c.allSto)))

/-- A function enters STO: both channels of its pairs close, outputs follow, and with SBC_MODE 1 the brake delay starts (R363, R366, R372). -/
def enterSto (f : Nat) : Act :=
  .dyn fun c => when (c.fstate f != 2)
    (seqs [putFunc f 2, modSaf fun s => { s with fresh := s.fresh ||| 2 ^ f }, closeWires (c.blocksOf f) (c.blocksOf f),
      raiseLevels pgSAF fun c => c.safLevels, soutRefresh,
      when (c.sbcMode && (scopeFuncs c.sbcScope).contains f && c.brakeSt.delay.isNone)
        (.dyn fun c => .prim (.brakeS { c.brakeSt with delay := some (c.t + msTicks * c.sbcDelay) }))])

/-- A demand of a class on a function: 1 SS1, 2 and 3 STO (R363). -/
def demand (f cls : Nat) : Act :=
  .dyn fun c =>
    let ms := c.act pgSAF Reg.SAF.SS1_TIME
    if 2 ≤ cls then enterSto f
    else when (cls == 1 && c.fstate f == 0)
      (if ms = 0 then enterSto f
       else .seq (putFunc f 1) (.seq (modSaf fun s => { s with fresh := s.fresh ||| 2 ^ f, ss1 := s.ss1 ++ [(f, c.t + msTicks * ms)] })
        (raiseLevels pgSAF fun c => c.safLevels)))

/-- SS1_EXPIRE: SS1_TIME of a function passes (R363). -/
def execSs1Expire (dt : Nat) (f : Fin 7) (s : State) : Host.Outcome State Fault Refusal :=
  s.act dt (.dyn fun c =>
    match c.safSt.ss1.find? fun e => e.1 == f.val with
    | some (_, t) => .seq (atTick t) (enterSto f)
    | none => .skip)

/-! ### Safe inputs as demands -/

/-- PAIR bits of input `i` (R387): 0 A filtered, 1 B filtered, 2 DEMAND, 3 DISCREPANT. -/
def Chip.sinBit (c : Chip) (i b : Nat) : Bool := (c.fld pgSIO Reg.SIO.SIN_STAT i).testBit b

/-- Channel A or B of pair `i` is lost (R371). -/
def Chip.lostA (c : Chip) (i : Nat) : Bool := (c.fld pgSIO Reg.SIO.SIN_LOST_A).testBit i
def Chip.lostB (c : Chip) (i : Nat) : Bool := (c.fld pgSIO Reg.SIO.SIN_LOST_B).testBit i

/-- A channel shows the run level: A = 1, and B = 1 or 0 in an antivalent pair (R369). -/
def Chip.runA (c : Chip) (i : Nat) : Bool := c.sinBit i 0
def Chip.runB (c : Chip) (i : Nat) : Bool := c.sinBit i 1 != c.antivalent i

/-- The pair is in demand (R369, R371). -/
def Chip.inDemand (c : Chip) (i : Nat) : Bool :=
  (!c.lostA i && !c.runA i) || (!c.lostB i && !c.runB i) || (c.lostA i && c.lostB i)

/-- Input pairs mapped to a demand on function `f` (R364). -/
def Chip.inputsOf (c : Chip) (f : Nat) : List Nat :=
  (List.range 16).filter fun i => (c.sinUse i == 1 || c.sinUse i == 2) && (scopeFuncs (c.sinScope i)).contains f

/-- Highest class that the safe inputs, the software requests and the active faults demand of function `f`; 0 none (R364, R375). -/
def Chip.demandOf (c : Chip) (f : Nat) : Nat :=
  let ins := (c.inputsOf f).map fun i => if c.inDemand i then (if c.sinUse i = 1 then 2 else 1) else 0
  let sw := [if c.safSt.swSto.testBit f then 2 else if c.safSt.swSs1.testBit f then 1 else 0]
  let flt := c.activeFaults.map fun id => if (c.faultFuncs id).contains f then c.faultClass id else 0
  (ins ++ sw ++ flt).foldl Nat.max 0

/-- FUNC_STAT.DEMAND shows the functions with a demand. -/
def demandRefresh : Act :=
  .dyn fun c => put pgSAF Reg.SAF.FUNC_STAT_DEMAND (((List.range 7).filter fun f => decide (0 < c.demandOf f)).foldl (fun m f => m ||| 2 ^ f) 0)

/-! ### The fault collector -/

/-- LEVEL events of FLT[8] (R390). -/
def Chip.fltLevels (c : Chip) : Nat := if c.activeFaults.any fun id => decide (0 < c.faultClass id) then 1 else 0

/-- FAULT_ASSERT: the collector latches an asserted line; its reaction raises its demand, and class STO or higher closes channel A in hardware (R375, R378). -/
def execFaultAssert (dt : Nat) (id : BitVec 8) (s : State) : Host.Outcome State Fault Refusal :=
  s.act dt (.dyn fun c =>
    let n := id.toNat
    when (decide (n < 0xE6) && (c.bitAt pgFLT8 Reg.FLT8.RAW n || (c.fault n).pend))
      (seqs [
        when (c.fault n).pulse (dropFault n), modFault n fun x => { x with pend := false },
        when (!c.faultActive n)
          (seqs [putBit pgFLT8 Reg.FLT8.ACTIVE n true,
            when (c.activeFaults.isEmpty && c.wide pgFLT8 Reg.FLT8.FIRST_TIDE_LO Reg.FLT8.FIRST_TIDE_HI == 0 && c.fld pgFLT8 Reg.FLT8.FIRST == 0)
              (.seq (put pgFLT8 Reg.FLT8.FIRST n) (putWide pgFLT8 Reg.FLT8.FIRST_TIDE_LO Reg.FLT8.FIRST_TIDE_HI c.t)),
            record pgFLT8 0 0x01 c.t n (c.faultClass n + 4 * (c.entry n).2 + 2 ^ 8 * (c.fault n).cause), evt pgFLT8 1]),
        when (decide (1 ≤ c.faultClass n)) (modSaf fun s => { s with fresh := s.fresh ||| (c.faultFuncs n).foldl (fun m f => m ||| 2 ^ f) 0 }),
        when (decide (2 ≤ c.faultClass n)) (closeWires ((c.faultFuncs n).foldl (fun m f => m ||| c.blocksOf f) 0) 0),
        each (c.faultFuncs n) fun f => demand f (c.faultClass n),
        when (c.faultClass n == 3) (brakeEngage 2),
        demandRefresh, raiseLevels pgFLT8 fun c => c.fltLevels]))

/-- FLT_CLR: an active fault clears if its line is low and Table 13-5 lets it; any other clear is refused, one of an ID that is not active with CLR_REFUSED, or with NOT_CLEARABLE where the table marks the ID as not clearable (R375; DEDUCED, log entry 107). -/
def execFltClr (dt : Nat) (src : Src) (id : BitVec 8) (s : State) : Host.Outcome State Fault Refusal :=
  s.act dt (onPage src pgFLT8 0x08C true (locked src pgFLT8 (.dyn fun c =>
    let n := id.toNat
    if decide (n < 0xE6) && c.bitAt pgFLT8 Reg.FLT8.RAW n then .seq (err pgFLT8 0x40 src.code) (evt pgFLT8 2)
    else if decide (0xE6 ≤ n) || !(faultRow n).clear then .seq (err pgFLT8 0x41 src.code) (evt pgFLT8 2)
    else if !c.faultActive n then .seq (err pgFLT8 0x40 src.code) (evt pgFLT8 2)
    else seqs [putBit pgFLT8 Reg.FLT8.ACTIVE n false, record pgFLT8 0 0x02 c.t n 0, demandRefresh,
      when (n == fSBC_FAULT) (put pgSBC Reg.SBC.SBC_STAT_STATE 0),
      when (n == fSHT_WIRE) (.seq (put pgSAF Reg.SAF.WIRE_FAULT_LEG 0) (put pgSAF Reg.SAF.WIRE_FAULT_BRG 0))])))

/-- FC_TEST: a round of injected tests of the input stages; `failed` when one fails (R377). -/
def execFcTest (dt : Nat) (failed : Bool) (s : State) : Host.Outcome State Fault Refusal :=
  s.act dt (seqs [bumpWrap pgFLT8 Reg.FLT8.FC_STAT_TEST_CNT, putFlag pgFLT8 Reg.FLT8.FC_STAT_TEST_OK (!failed),
    when failed (raiseFault fFC_TEST)])

/-! ### The Shutter -/

/-- Every cell takes the Shutter mode of its block; a leg that a closed pair holds follows it at once (Chapter 13, Registers; R361, R115). -/
def shtModes : Act :=
  .dyn fun c =>
    let m := ((List.range 24).filter fun k => c.sealedLow k).foldl (fun m k => m ||| 2 ^ k) 0
    let old := c.fld pgSHT Reg.SHT.SHT_MODE
    .seq (put pgSHT Reg.SHT.SHT_MODE m) (each ((List.range 24).filter fun k => m.testBit k != old.testBit k) redrive)

/-- Block `i` is reported closed to its cells. -/
def reportClosed (i : Nat) : Act :=
  if i < 24 then .seq (putBit pgSHT Reg.SHT.SHT_LEG i true) (shutterClosed i)
  else .seq (putBit pgSHT Reg.SHT.SHT_BRG (i - 24) true) (brgShutter (i - 24) true)

/-- SHT_DISTRIBUTE: the distribution gives the cells of every block commanded closed their state and mode (R361); it also counts pairs as closed whose driver is unpowered or in reset (R25). -/
def execShtDistribute (dt : Nat) (s : State) : Host.Outcome State Fault Refusal :=
  s.act dt (.seq shtModes (.dyn fun c =>
    let shown := c.fld pgSHT Reg.SHT.SHT_LEG + 2 ^ 24 * c.fld pgSHT Reg.SHT.SHT_BRG
    each ((List.range 28).filter fun i => (c.safSt.closed.testBit i || !c.domainOn 1) &&
      (!shown.testBit i || (decide (i < 24) && !c.flag (pgLead i) Reg.LEGL.BLK_STAT_SHUTTER_CLOSED))) reportClosed))

/-- SHT_WIRE_CLOSED: a wire whose driver has stopped it reaches the closed state 34 µs (85,000 ticks) after its last edge; `b` selects channel B (R25, R358). -/
def execShtWireClosed (dt : Nat) (i : Fin 28) (b : Bool) (s : State) : Host.Outcome State Fault Refusal :=
  s.act dt (.dyn fun c =>
    let w := if b then 28 + i.val else i.val
    when ((if b then c.safSt.chB else c.safSt.chA).testBit i || !c.domainOn 1)
      (.seq (atTick (c.safSt.edge.getD w 0 + 85000))
        (modSaf fun s => if b then { s with wireB := s.wireB ||| 2 ^ i.val } else { s with wireA := s.wireA ||| 2 ^ i.val })))

/-- SHT_RUN_REPORT: the read-back has seen four correct half-periods on both wires; the distribution reports the block in run (R358, R361). -/
def execShtRunReport (dt : Nat) (i : Fin 28) (s : State) : Host.Outcome State Fault Refusal :=
  s.act dt (.dyn fun c =>
    when (!c.safSt.closed.testBit i && c.domainOn 1 && decide (c.safSt.openAt.getD i 0 + 4 * c.safSt.half.getD i 40000 ≤ c.t))
      (.seq (modSaf fun s => { s with wireA := withBit s.wireA i false, wireB := withBit s.wireB i false })
        (if i.val < 24 then .seq (putBit pgSHT Reg.SHT.SHT_LEG i false) (shutterRun i)
         else .seq (putBit pgSHT Reg.SHT.SHT_BRG (i.val - 24) false) (brgShutter (i.val - 24) false))))

/-- The sample `level` of wire `w` differs from the sample before it. -/
def SafSt.moved (s : SafSt) (w : Nat) (level : Bool) : Bool :=
  (s.sampAt.getD (w % 28) none).isSome && (if w < 28 then s.sampA else s.sampB).testBit (w % 28) != level

/-- The sample `level` shows a fault of wire `w` alone (R362): commanded to run, no edge for 20 µs (50,000 ticks); commanded closed, an edge after the one of its own closing, or, once closed, the static level of the other mode. -/
def Chip.wireBad (c : Chip) (w : Nat) (level : Bool) : Bool :=
  let i := w % 28
  let s := c.safSt
  if s.runs w then !s.moved w level && decide (Nat.max (s.openAt.getD i 0) (s.edgeSeen.getD w 0) + 50000 ≤ c.t)
  else (s.moved w level && (match s.sampAt.getD i none with | some p => decide (s.edge.getD w 0 < p) | none => false)) ||
    (decide (s.edge.getD w 0 + 85000 ≤ c.t) && level != c.staticHigh i)

/-- Sample since which both wires of pair `i`, in the run state, show one level; this sample included (R362). -/
def Chip.sameSince (c : Chip) (i : Nat) (a b : Bool) : Option Nat :=
  if c.safSt.runs i && c.safSt.runs (28 + i) && a == b then some ((c.safSt.same.getD i none).getD c.t) else none

/-- The read-back keeps a sample of pair `i`. -/
def keepSample (i : Nat) (a b : Bool) : Act :=
  .dyn fun c => modSaf fun s =>
    { s with sampAt := s.sampAt.set i (some c.t), sampA := withBit s.sampA i a, sampB := withBit s.sampB i b, same := s.same.set i (c.sameSince i a b),
             edgeSeen := ((if s.moved i a then [i] else []) ++ if s.moved (28 + i) b then [28 + i] else []).foldl (fun l w => l.set w c.t) s.edgeSeen }

/-- WIRE_FAULT of block `i`. -/
def Chip.wireFault (c : Chip) (i : Nat) : Bool :=
  if i < 24 then c.bitAt pgSAF Reg.SAF.WIRE_FAULT_LEG i else c.bitAt pgSAF Reg.SAF.WIRE_FAULT_BRG (i - 24)

/-- SHT_WIRE_FAULT: the master samples both wires of pair `i` at their pins, `a` and `b` the levels; a sample that breaks the commanded pattern of R362 records SHT_WIRE once, and channel A closes the pair. -/
def execShtWireFault (dt : Nat) (i : Fin 28) (a b : Bool) (s : State) : Host.Outcome State Fault Refusal :=
  s.act dt (.dyn fun c => when (c.domainOn 1)
    (let both := match c.sameSince i a b with
      | some t => decide (t + 2500 < c.t)
      | none => false
     let badA := c.wireBad i a || both
     let badB := c.wireBad (28 + i) b || both
     .seq (keepSample i a b)
      (when ((badA || badB) && !c.wireFault i)
        (seqs [if i.val < 24 then putBit pgSAF Reg.SAF.WIRE_FAULT_LEG i true else putBit pgSAF Reg.SAF.WIRE_FAULT_BRG (i.val - 24) true,
          record pgSAF 0 0x03 c.t (blockNo i) ((if badA then 1 else 0) + if badB then 2 else 0),
          raiseLevels pgSAF fun c => c.safLevels, raiseFault fSHT_WIRE (blockNo i) true, closeWires (2 ^ i.val) 0]))))

/-! ### Requests and the kernel -/

/-- STO_REQ: a software STO demand is latched for the named functions (R364). -/
def execStoReq (dt : Nat) (src : Src) (mask : BitVec 7) (s : State) : Host.Outcome State Fault Refusal :=
  s.act dt (onPage src pgSAF 0x054 true (.seq (modSaf fun s => { s with swSto := s.swSto ||| mask.toNat, fresh := s.fresh ||| mask.toNat })
    (.dyn fun c => .seq (put pgSAF Reg.SAF.SAF_CTRL_STO_REQ c.safSt.swSto) demandRefresh)))

/-- SS1_REQ: a software SS1 demand is latched (R364). -/
def execSs1Req (dt : Nat) (src : Src) (mask : BitVec 7) (s : State) : Host.Outcome State Fault Refusal :=
  s.act dt (onPage src pgSAF 0x054 true (.seq (modSaf fun s => { s with swSs1 := s.swSs1 ||| mask.toNat, fresh := s.fresh ||| mask.toNat })
    (.dyn fun c => .seq (put pgSAF Reg.SAF.SAF_CTRL_SS1_REQ c.safSt.swSs1) demandRefresh)))

/-- A reset is refused (R365). -/
def resetRefused (src : Nat) : Act := .seq (err pgSAF 0x41 src) (evt pgSAF 4)

/-- SAF_RESET: the reset waits for the next kernel cycle; where the SCB names a safe input as its source, only that input resets (R365). -/
def execSafReset (dt : Nat) (src : Src) (s : State) : Host.Outcome State Fault Refusal :=
  s.act dt (onPage src pgSAF 0x054 true (.dyn fun c =>
    if c.safSt.placed && decide (c.resetSrc ≤ 15) then resetRefused src.code
    else .seq (modSaf fun s => { s with reset := some src.code }) (putFlag pgSAF Reg.SAF.SAF_CTRL_RESET true)))

/-- SEAL is in SEALED (R365, R381). -/
def Chip.isSealed (c : Chip) : Bool := c.fld pgSEAL Reg.SEAL.SEAL_STAT_STATE == 1

/-- The reset is accepted for function `f` (R365, R385). -/
def Chip.resetOk (c : Chip) (f : Nat) : Bool :=
  c.fstate f == 2 && !c.safSt.fresh.testBit f &&
    (c.inputsOf f).all (fun i => !c.inDemand i && !c.sinBit i 3) &&
    c.activeFaults.all (fun id => c.faultClass id == 0 || !(c.faultFuncs id).contains f) &&
    c.isSealed && !c.faultActive fPROFILE && !c.faultActive fSTRAP_SEAL &&
    !c.bitAt pgFLT8 Reg.FLT8.RAW fPROFILE && !c.bitAt pgFLT8 Reg.FLT8.RAW fSTRAP_SEAL

/-- A waiting reset is acted on (R365): qualifying functions return to RUN and their pairs reopen. -/
def resetAct : Act :=
  .dyn fun c => when c.safSt.reset.isSome
    (let fs := (List.range 7).filter c.resetOk
     let mask := fs.foldl (fun m f => m ||| 2 ^ f) 0
     .seq (.seq (modSaf fun s => { s with reset := none }) (putFlag pgSAF Reg.SAF.SAF_CTRL_RESET false))
      (if fs.isEmpty then resetRefused (c.safSt.reset.getD 0xFF)
       else seqs [
        modSaf fun s => { s with swSto := s.swSto - (s.swSto &&& mask), swSs1 := s.swSs1 - (s.swSs1 &&& mask) },
        .dyn fun c => .seq (put pgSAF Reg.SAF.SAF_CTRL_STO_REQ c.safSt.swSto) (put pgSAF Reg.SAF.SAF_CTRL_SS1_REQ c.safSt.swSs1),
        each fs fun f => putFunc f 0, openWires (fs.foldl (fun m f => m ||| c.blocksOf f) 0), soutRefresh,
        evt pgSAF 2, record pgSAF 0 0x04 c.t mask 0]))

/-- SS1_REMAIN: the least time left among functions in SS1, in ms, rounded up (R386). -/
def Chip.ss1Remain (c : Chip) : Nat :=
  match c.safSt.ss1.map fun e => (e.2 - c.t + msTicks - 1) / msTicks with
  | [] => 0
  | x :: xs => xs.foldl Nat.min x

/-- The kernel counts operating time and watches LIVE_COUNT during a brake test (R368). -/
def brakeWatch (since : Nat) : Act :=
  .dyn fun c =>
    let b := c.brakeSt
    let run := (List.range 7).any fun f => c.fstate f == 0
    let now := c.fld ⟨.pos, c.act pgSBC Reg.SBC.BT_CFG_BT_POS⟩ Reg.POS.LIVE_COUNT
    let d := (signed 32 (now + 2 ^ 32 - b.start)).natAbs
    .prim (.brakeS { b with hours := if run && c.btInterval != 0 then b.hours + (c.t - since) else b.hours,
                            move := if b.window.isSome then Nat.max b.move d else b.move })

/-- HOURS_LEFT (R389): whole hours left, rounded up; an hour has 9 × 10^12 ticks. -/
def hoursLeft : Act :=
  .dyn fun c => put pgSBC Reg.SBC.BT_STAT_HOURS_LEFT (c.btInterval - c.brakeSt.hours / 9000000000000)

/-- KERNEL_CYCLE: the kernel processes demands and the reset, and keeps channel B enabled; until SEALED every function is held in STO (R357, R365, R378, R381, R385); `us` is the length of the cycle. -/
def execKernelCycle (dt : Nat) (us : BitVec 16) (s : State) : Host.Outcome State Fault Refusal :=
  s.act dt (.dyn fun c => when (c.domainOn 1)
    (seqs [
      brakeWatch c.safSt.kernelAt, hoursLeft, putFlag pgSAF Reg.SAF.SAF_STAT_KERNEL_OK true,
      putMax pgSAF Reg.SAF.KERNEL_CYCLE_MAX us.toNat, modSaf fun s => { s with kernelAt := c.t },
      each (List.range 7) fun f => .dyn fun c => demand f (if c.isSealed then c.demandOf f else 2),
      .dyn fun c => closeWires 0 (((List.range 7).filter fun f => c.fstate f == 2).foldl (fun m f => m ||| c.blocksOf f) 0),
      resetAct, modSaf fun s => { s with fresh := 0 }, demandRefresh, raiseLevels pgSAF fun c => c.safLevels]))

/-- SF_WATCHDOG: no kernel cycle in 1 ms, counted from the latest cycle, from the watchdog's own latest firing, or from tick 0, at which the safety pair starts (R336, R357). -/
def execSfWatchdog (dt : Nat) (s : State) : Host.Outcome State Fault Refusal :=
  s.act dt (.dyn fun c => when (c.tideOn && c.domainOn 1)
    (seqs [atTick (Nat.max c.safSt.kernelAt c.safSt.watchAt + msTicks), .dyn fun c => modSaf fun s => { s with watchAt := c.t },
      putFlag pgSAF Reg.SAF.SAF_STAT_KERNEL_OK false, raiseFault fSF_INTERNAL]))

/-- CHANNEL_B_ENABLE_LAPSE: no kernel cycle has refreshed the enable; every channel B wire stops (R378). -/
def execChannelBEnableLapse (dt : Nat) (s : State) : Host.Outcome State Fault Refusal :=
  s.act dt (.dyn fun c => when (decide (c.safSt.kernelAt + 625000 < c.t)) (closeWires 0 0xFFFFFFF))

end Sys2Proof.Machine
end

