-- ==== Sys2Proof/Machine/SafeIo.lean ====
section
/-! DEFINITION. Safe inputs and outputs, the safe brake and the seal (Chapter 13, R366 to R374, R381 to R384). -/

namespace Sys2Proof.Machine

open Sys2Proof

/-! ### Safe inputs -/

/-- LEVEL events of SIO (R387). -/
def Chip.sioLevels (c : Chip) : Nat :=
  let any := fun (p : Nat → Bool) => (List.range 16).any p
  (if any fun i => c.sinBit i 2 then 1 else 0) + (if c.fld pgSIO Reg.SIO.SIN_LOST_A != 0 || c.fld pgSIO Reg.SIO.SIN_LOST_B != 0 then 2 else 0) +
    (if any fun i => c.sinBit i 3 then 4 else 0) + (if any fun i => c.faultActive (fSIN_EXPIRED i) || c.bitAt pgFLT8 Reg.FLT8.RAW (fSIN_EXPIRED i) then 8 else 0) +
    (if c.fld pgSIO Reg.SIO.SOUT_STAT_FAULT != 0 then 16 else 0)

/-- Bit `b` of PAIR of input `i`. -/
def putSinBit (i b : Nat) (v : Bool) : Act := .dyn fun c => put pgSIO Reg.SIO.SIN_STAT (withBit (c.fld pgSIO Reg.SIO.SIN_STAT i) b v) i

/-- DEMAND of a pair follows its channels, with its record; the input that RESET_SRC names resets as it returns to run (R365, R369). -/
def sinDemand (i : Nat) (rawA rawB : Bool) : Act :=
  .dyn fun c =>
    let d := c.inDemand i
    when (c.sinBit i 2 != d)
      (seqs [putSinBit i 2 d,
        record pgSIO i 0x01 c.t (if d then 1 else 0) ((if rawA then 1 else 0) + if rawB then 2 else 0),
        when (!d && c.safSt.placed && c.resetSrc == i) (modSaf fun s => { s with reset := some 0xFF }),
        when d (modSaf fun s => { s with fresh := s.fresh ||| ((List.range 7).filter fun f => (c.inputsOf f).contains i).foldl (fun m f => m ||| 2 ^ f) 0 })])

/-- The channels agree or disagree from now on; DISCREPANT clears after both in demand and a return to run within DISC_MS (R370). -/
def sinApart (i : Nat) : Act :=
  .dyn fun c =>
    let a := c.runA i
    let b := c.runB i
    let s := c.sin i
    let lim := msTicks * c.discMs
    if c.lostA i || c.lostB i then modSin i fun s => { s with apart := none }
    else if c.sinBit i 3 then
      if !a && !b then modSin i fun s => { s with apart := none, both := true, back := none }
      else if a && b then
        let ok := s.both && (match s.back with | some t => decide (c.t ≤ t + lim) | none => true)
        .seq (modSin i fun s => { s with apart := none, both := false, back := none })
          (when ok (.seq (putSinBit i 3 false) (record pgSIO i 0x03 c.t 0 0)))
      else modSin i fun s => { s with apart := some (s.apart.getD c.t), back := some (s.back.getD c.t) }
    else modSin i fun s => { s with apart := if a == b then none else some (s.apart.getD c.t) }

/-- SIN_FILTER_CHANGE: a channel completes its filter at a new level (R369); `rawA` and `rawB` are the raw levels of the sample. -/
def execSinFilterChange (dt : Nat) (i : Fin 16) (chB level rawA rawB : Bool) (s : State) : Host.Outcome State Fault Refusal :=
  s.act dt (seqs [putSinBit i (if chB then 1 else 0) level, sinApart i, sinDemand i rawA rawB, demandRefresh, raiseLevels pgSIO fun c => c.sioLevels])

/-- SIN_DISCREPANT: the channels have disagreed for more than DISC_MS (R370). -/
def execSinDiscrepant (dt : Nat) (i : Fin 16) (s : State) : Host.Outcome State Fault Refusal :=
  s.act dt (.dyn fun c =>
    match (c.sin i).apart with
    | some t => when (!c.sinBit i 3 && c.sinUse i != 0)
        (seqs [atTick (t + msTicks * c.discMs + 1), putSinBit i 3 true, modSin i fun s => { s with both := false, back := none },
          .dyn fun c => record pgSIO i 0x03 c.t 1 0, demandRefresh, raiseLevels pgSIO fun c => c.sioLevels])
    | none => .skip)

/-- Source outputs of the channels of a TP-fed pair (R371). -/
def sourceA (i : Nat) : Nat := i % 8
def sourceB (i : Nat) : Nat := (i + 4) % 8

/-- The output reads back off. -/
def Chip.soutOff (c : Chip) (j : Nat) : Bool := !(c.fld pgSIO Reg.SIO.SOUT_STAT_LEVEL).testBit j

/-- Why a channel is lost: 1 two off-pulses missed, 2 demand with its source off; 0 it is not (R371). -/
def Chip.lossOf (c : Chip) (i : Nat) (chB : Bool) : Nat :=
  if !c.tpFed i || c.sinUse i == 0 then 0
  else if chB then (if 2 ≤ (c.sin i).missB then 1 else if !c.runB i && c.soutOff (sourceB i) then 2 else 0)
  else if 2 ≤ (c.sin i).missA then 1 else if !c.runA i && c.soutOff (sourceA i) then 2 else 0

/-- Ticks of the degraded mode: DEGR_S, at most DEGR_MAX of the sealed configuration (Table 13-3). -/
def Chip.degrTicks (c : Chip) : Nat := 1000 * msTicks * Nat.min (c.act pgSIO Reg.SIO.DEGR) c.degrMax

/-- The degraded mode of a pair starts; its timer is reloaded only after ten times the limit out of it (R374). -/
def degrStart (i : Nat) : Act :=
  .dyn fun c => when (c.sin i).since.isNone
    (modSin i fun s => { s with since := some c.t, left := some (match s.left with
      | some l => if s.outAt + 10 * c.degrTicks ≤ c.t then c.degrTicks else l
      | none => c.degrTicks) })

/-- SIN_CHAN_LOST: a channel of a TP-fed pair is lost (R371, R373). -/
def execSinChanLost (dt : Nat) (i : Fin 16) (chB : Bool) (s : State) : Host.Outcome State Fault Refusal :=
  s.act dt (.dyn fun c =>
    when (c.lossOf i chB != 0 && !(if chB then c.lostB i else c.lostA i))
      (seqs [(if chB then put pgSIO Reg.SIO.SIN_LOST_B (c.fld pgSIO Reg.SIO.SIN_LOST_B ||| 2 ^ i.val)
          else put pgSIO Reg.SIO.SIN_LOST_A (c.fld pgSIO Reg.SIO.SIN_LOST_A ||| 2 ^ i.val)),
        record pgSIO i 0x02 c.t (if chB then 1 else 0) (c.lossOf i chB), modSin i fun s => { s with apart := none },
        degrStart i, sinDemand i (c.sinBit i 0) (c.sinBit i 1), demandRefresh, raiseLevels pgSIO fun c => c.sioLevels]))

/-- DEGR_MIN: the degraded pair with the least time left and that time, in 0.1 s rounded up (R387). -/
def Chip.degrMin (c : Chip) : Nat × Nat :=
  match (List.range 16).filterMap fun i => match (c.sin i).since, (c.sin i).left with
      | some t, some l => some (i, t + l - c.t)
      | _, _ => none with
  | [] => (0, 0)
  | p :: rest =>
    let m := rest.foldl (fun (a b : Nat × Nat) => if b.2 < a.2 then b else a) p
    (m.1, (m.2 + 249999999) / 250000000)

/-- SIN_FAULT_CLR: the degraded mode of the named pairs ends if both channels pass their checks, and CLR_REFUSED otherwise (R374). -/
def execSinFaultClr (dt : Nat) (src : Src) (mask : BitVec 16) (s : State) : Host.Outcome State Fault Refusal :=
  s.act dt (onPage src pgSIO 0x054 true (.seq
    (each ((List.range 16).filter fun i => mask.getLsbD i) fun i => .dyn fun c =>
      when (c.lostA i || c.lostB i)
        (if c.lossOf i false != 0 || c.lossOf i true != 0 then err pgSIO 0x41 src.code
         else seqs [put pgSIO Reg.SIO.SIN_LOST_A (withBit (c.fld pgSIO Reg.SIO.SIN_LOST_A) i false),
          put pgSIO Reg.SIO.SIN_LOST_B (withBit (c.fld pgSIO Reg.SIO.SIN_LOST_B) i false),
          modSin i fun s => { s with since := none, outAt := c.t, left := match s.since, s.left with
            | some t, some l => some (l - (c.t - t))
            | _, l => l },
          sinApart i, sinDemand i (c.sinBit i 0) (c.sinBit i 1)]))
    demandRefresh))

/-- DEGR_EXPIRE: the degraded mode of a pair has lasted its limit (R373, R374). -/
def execDegrExpire (dt : Nat) (i : Fin 16) (s : State) : Host.Outcome State Fault Refusal :=
  s.act dt (.dyn fun c =>
    match (c.sin i).since, (c.sin i).left with
    | some t, some l => when (!c.bitAt pgFLT8 Reg.FLT8.RAW (fSIN_EXPIRED i))
        (seqs [atTick (t + l), .dyn fun c => record pgSIO i 0x04 c.t 0 0, raiseFault (fSIN_EXPIRED i), raiseLevels pgSIO fun c => c.sioLevels])
    | _, _ => .skip)

/-! ### Safe outputs -/

/-- SOUT_CMD: the outputs are commanded (R372). -/
def execSoutCmd (dt : Nat) (src : Src) (on : BitVec 8) (s : State) : Host.Outcome State Fault Refusal :=
  s.act dt (onPage src pgSIO 0x058 true (.seq (put pgSIO Reg.SIO.SOUT_CMD on.toNat) soutRefresh))

/-- SOUT_TEST_PULSE: an output is checked by read-back. An output that is on turns off for 200 µs: `low` it was seen low within the pulse, `high` it reads high afterwards; an output that is off: `high` it reads high. `missA` and `missB` are the pairs whose channel A or B did not show the pulse (R371, R372). -/
def execSoutTestPulse (dt : Nat) (j : Fin 8) (low high : Bool) (missA missB : BitVec 16) (s : State) : Host.Outcome State Fault Refusal :=
  s.act dt (.dyn fun c =>
    let on := c.soutOn j
    let code := if on then (if !low then 1 else if !high then 2 else 0) else if high then 3 else 0
    let fed := (List.range 16).filter fun i => c.tpFed i && c.sinUse i != 0
    seqs [
      when on (each fed fun i =>
        .seq (when (sourceA i == j.val) (.seq (modSin i fun s => { s with missA := if missA.getLsbD i then s.missA + 1 else 0 })
            (when (missA.getLsbD i) (bump pgSIO Reg.SIO.TP_FAIL_CNT))))
          (when (sourceB i == j.val) (.seq (modSin i fun s => { s with missB := if missB.getLsbD i then s.missB + 1 else 0 })
            (when (missB.getLsbD i) (bump pgSIO Reg.SIO.TP_FAIL_CNT))))),
      when (code != 0)
        (seqs [put pgSIO Reg.SIO.SOUT_STAT_FAULT (c.fld pgSIO Reg.SIO.SOUT_STAT_FAULT ||| 2 ^ j.val), soutRefresh,
          record pgSIO (16 + j) 0x05 c.t code 0, raiseFault (fSOUT_FAULT j)]),
      .dyn fun c => put pgSIO Reg.SIO.SOUT_STAT_LEVEL (withBit (c.fld pgSIO Reg.SIO.SOUT_STAT_LEVEL) j high),
      raiseLevels pgSIO fun c => c.sioLevels])

/-- SOUT_FAULT_CLR: accepted for an output commanded off that reads back low; CLR_REFUSED otherwise (R372). `high` are the outputs that read back high. -/
def execSoutFaultClr (dt : Nat) (src : Src) (mask high : BitVec 8) (s : State) : Host.Outcome State Fault Refusal :=
  s.act dt (onPage src pgSIO 0x060 true (.seq
    (each ((List.range 8).filter fun j => mask.getLsbD j) fun j => .dyn fun c =>
      when ((c.fld pgSIO Reg.SIO.SOUT_STAT_FAULT).testBit j)
        (if high.getLsbD j || (c.fld pgSIO Reg.SIO.SOUT_CMD).testBit j then err pgSIO 0x41 src.code
         else .seq (put pgSIO Reg.SIO.SOUT_STAT_FAULT (withBit (c.fld pgSIO Reg.SIO.SOUT_STAT_FAULT) j false)) (dropFault (fSOUT_FAULT j))))
    soutRefresh))

/-- The sealed configuration is placed: from now on the pairs in use are judged (R369, R370). -/
def inputsPlaced : Act :=
  .dyn fun c => seqs [each ((List.range 16).filter fun i => c.sinUse i != 0) fun i => .seq (sinApart i) (sinDemand i (c.sinBit i 0) (c.sinBit i 1)),
    demandRefresh, raiseLevels pgSIO fun c => c.sioLevels]

/-! ### The safe brake -/

/-- Functions of the sealed SBC scope. -/
def Chip.sbcFuncs (c : Chip) : List Nat := scopeFuncs c.sbcScope

/-- SBC_RELEASE: both switches on, unless a function of the scope is in STO, a brake test runs or SBC_FAULT stands (R366). -/
def execSbcRelease (dt : Nat) (src : Src) (s : State) : Host.Outcome State Fault Refusal :=
  s.act dt (onPage src pgSBC 0x040 true (locked src pgSBC (.dyn fun c =>
    let st := c.fld pgSBC Reg.SBC.SBC_STAT_STATE
    if (c.sbcFuncs.any fun f => c.fstate f == 2) || st == 2 || st == 3 || c.faultActive fSBC_FAULT then err pgSBC 0x40 src.code
    else when (st == 0)
      (seqs [put pgSBC Reg.SBC.SBC_STAT_STATE 1, put pgSBC Reg.SBC.SBC_STAT_READBACK 3, record pgSBC 0 0x01 c.t 0 1]))))

/-- SBC_ENGAGE: at any time, without a key window (R366, R389). -/
def execSbcEngage (dt : Nat) (src : Src) (s : State) : Host.Outcome State Fault Refusal :=
  s.act dt (onPage src pgSBC 0x040 true (brakeEngage 1))

/-- SBC_DELAY_EXPIRE: SBC_DELAY after a function of the scope entered STO (R366). -/
def execSbcDelayExpire (dt : Nat) (s : State) : Host.Outcome State Fault Refusal :=
  s.act dt (.dyn fun c =>
    match c.brakeSt.delay with
    | some t => seqs [atTick t, .dyn fun c => .prim (.brakeS { c.brakeSt with delay := none }), brakeEngage 3]
    | none => .skip)

/-- Read-back expected of the switches, bit 0 SBC_H and bit 1 SBC_L: both on while the brake is released and both off otherwise, and the switch under test the other way during its pulse (R366, R367). -/
def Chip.brakeExpect (c : Chip) (low pulse : Bool) : BitVec 2 :=
  (if c.fld pgSBC Reg.SBC.SBC_STAT_STATE = 1 then 3 else 0) ^^^ (if pulse then (if low then 2 else 1) else 0)

/-- SBC_TEST_PULSE: the switches read back as `rb` in the test of SBC_L (`low`) or SBC_H, during the pulse of 200 µs (`pulse`) or after it; READBACK shows it, and any other read-back than the expected one is SBC_FAULT, which turns both switches off (R367). -/
def execSbcTestPulse (dt : Nat) (low pulse : Bool) (rb : BitVec 2) (s : State) : Host.Outcome State Fault Refusal :=
  s.act dt (.dyn fun c => .seq (put pgSBC Reg.SBC.SBC_STAT_READBACK rb.toNat)
    (when (rb != c.brakeExpect low pulse) (seqs [brakeEngage 4, put pgSBC Reg.SBC.SBC_STAT_STATE 3, evt pgSBC 2, raiseFault fSBC_FAULT 0 true])))

/-- BT_START: the brake engages and settles, if it is released and no function of the scope is in SS1 or STO or demanded (R368, R385). -/
def execBtStart (dt : Nat) (src : Src) (s : State) : Host.Outcome State Fault Refusal :=
  s.act dt (onPage src pgSBC 0x040 true (locked src pgSBC (.dyn fun c =>
    if c.fld pgSBC Reg.SBC.SBC_STAT_STATE != 1 || c.sbcFuncs.any (fun f => c.fstate f != 0 || decide (0 < c.demandOf f)) then
      seqs [put pgSBC Reg.SBC.SBC_STAT_BT_RESULT 3, record pgSBC 0 0x02 c.t 3 (c.fld pgSBC Reg.SBC.BT_STAT_MOVE), err pgSBC 0x41 src.code]
    else
      seqs [brakeEngage 1, put pgSBC Reg.SBC.SBC_STAT_STATE 2, put pgSBC Reg.SBC.SBC_STAT_BT_RESULT 0,
        .dyn fun c => .prim (.brakeS { c.brakeSt with settle := some (c.t + msTicks * c.act pgSBC Reg.SBC.BT_CFG_BT_SETTLE) })])))

/-- LIVE_COUNT of the position interface under test. -/
def Chip.btCount (c : Chip) : Nat := c.fld ⟨.pos, c.act pgSBC Reg.SBC.BT_CFG_BT_POS⟩ Reg.POS.LIVE_COUNT

/-- BT_SETTLE_END: the window on LIVE_COUNT opens (R368). -/
def execBtSettleEnd (dt : Nat) (s : State) : Host.Outcome State Fault Refusal :=
  s.act dt (.dyn fun c =>
    match c.brakeSt.settle with
    | some t => .seq (atTick t) (.dyn fun c => .prim (.brakeS
        { c.brakeSt with settle := none, window := some (c.t + msTicks * c.act pgSBC Reg.SBC.BT_CFG_BT_TIME), start := c.btCount, move := 0 }))
    | none => .skip)

/-- BT_WINDOW_END: the movement decides (R368). -/
def execBtWindowEnd (dt : Nat) (s : State) : Host.Outcome State Fault Refusal :=
  s.act dt (.dyn fun c =>
    match c.brakeSt.window with
    | none => .skip
    | some t =>
      let b := c.brakeSt
      let move := Nat.max b.move (signed 32 (c.btCount + 2 ^ 32 - b.start)).natAbs
      let pass := decide (move ≤ c.btTol)
      seqs [atTick t, .prim (.brakeS { b with window := none, move := move, hours := if pass then 0 else b.hours }),
        put pgSBC Reg.SBC.BT_STAT_MOVE (Nat.min move 65535), put pgSBC Reg.SBC.SBC_STAT_BT_RESULT (if pass then 1 else 2),
        put pgSBC Reg.SBC.SBC_STAT_STATE 0, evt pgSBC 1, .dyn fun c => record pgSBC 0 0x02 c.t (if pass then 1 else 2) (Nat.min move 65535),
        if pass then putFlag pgSBC Reg.SBC.SBC_STAT_BT_OVERDUE false else raiseFault fBRAKE_TEST 0 true, hoursLeft])

/-- BT_OVERDUE: BT_INTERVAL operating hours have passed without a passed test (R368). -/
def execBtOverdue (dt : Nat) (s : State) : Host.Outcome State Fault Refusal :=
  s.act dt (.dyn fun c =>
    when (c.btInterval != 0 && decide (9000000000000 * c.btInterval ≤ c.brakeSt.hours) && !c.flag pgSBC Reg.SBC.SBC_STAT_BT_OVERDUE)
      (seqs [putFlag pgSBC Reg.SBC.SBC_STAT_BT_OVERDUE true, evt pgSBC 3, raiseFault fBRAKE_TEST 0 true]))

/-! ### The seal -/

/-- The active fuse slot: the highest that is programmed, with its code and digest (Chapter 13); a slot burnt since power-on reset is not yet active (R384). -/
def Chip.activeSlot (c : Chip) : Option (Nat × Nat × List Word) :=
  ((List.range 4).filter fun i => !c.sealSt.burnt.testBit i).foldl
    (fun b i => match c.fuse.slots.getD i none with | some (code, dg) => some (i, code, dg) | none => b) none

/-- Fuse slots free. -/
def FuseSt.free (f : FuseSt) : Nat := ((List.range 4).filter fun i => (f.slots.getD i none).isNone).length

/-- SLOT, FUSE_CODE and SLOTS_FREE as the fuses stand (R384, Table 13-9). -/
def sealFuses : Act :=
  .dyn fun c =>
    seqs [put pgSEAL Reg.SEAL.SEAL_STAT_SLOTS_FREE c.fuse.free,
      match c.activeSlot with
      | some (i, code, _) => .seq (put pgSEAL Reg.SEAL.SEAL_STAT_SLOT i) (put pgSEAL Reg.SEAL.FUSE_CODE code)
      | none => .skip]

/-- STATE of SEAL changes (R388). -/
def sealTo (st a : Nat) : Act :=
  .dyn fun c => when (c.fld pgSEAL Reg.SEAL.SEAL_STAT_STATE != st)
    (seqs [put pgSEAL Reg.SEAL.SEAL_STAT_STATE st, record pgSEAL 0 0x01 c.t st a, when (st == 5) (err pgSEAL 0x41)])

/-- The straps agree with the SCB (R383): profile, split, debug, leg safe. -/
def Chip.xchk (c : Chip) : Bool × Bool × Bool × Bool :=
  let w := c.scb 0
  let s := c.strap
  (s.getLsbD 10 == w.getLsbD 24,
   s.getLsbD 3 == w.getLsbD 26 && (!s.getLsbD 3 || w.getLsbD 25),
   s.getLsbD 11 == w.getLsbD 27,
   s.toNat / 2 ^ 14 == w.bits 28 2 && (s.toNat / 2 ^ 14 == 1 || (List.range 24).all fun k => !c.sealedLow k))

/-- SEALED: the sealed configuration holds, and the straps are checked against it (R381, R383, R11). -/
def sealEnter (code : Nat) : Act :=
  .dyn fun c =>
    let x := c.xchk
    seqs [sealTo 1 code, .prim (.sealS { c.sealSt with code := code }),
      putFlag pgSEAL Reg.SEAL.XCHK_PROFILE_OK x.1, putFlag pgSEAL Reg.SEAL.XCHK_SPLIT_OK x.2.1,
      putFlag pgSEAL Reg.SEAL.XCHK_DEBUG_OK x.2.2.1, putFlag pgSEAL Reg.SEAL.XCHK_LEG_SAFE_OK x.2.2.2,
      when (!x.1) (raiseFault fPROFILE), when (!(x.2.1 && x.2.2.1 && x.2.2.2)) (raiseFault fSTRAP_SEAL)]

/-- A reading of the switch is judged against the seal (R381, Table 13-9). -/
def sealJudge (a b : BitVec 16) : Act :=
  .dyn fun c =>
    let bad := fun (n : Nat) => seqs [sealTo n a.toNat, .prim (.sealS { c.sealSt with agree := 0 }), evt pgSEAL 0, raiseFault fSEAL]
    if c.fld pgSEAL Reg.SEAL.SEAL_STAT_STATE = 1 then when (a != b || a.toNat != c.sealSt.code) (.seq (evt pgSEAL 0) (raiseFault fSEAL))
    else if a ≠ b then bad 3
    else match c.activeSlot with
      | none => bad 6
      | some (_, code, dg) =>
        if a.toNat ≠ code then bad 2
        else if !c.safSt.placed || sha256 (leBytes (c.scbWords Reg.SEAL.SCB)) != dg then bad 4
        else if !scbValid (c.scbWords Reg.SEAL.SCB) then bad 5
        else if 2 ≤ c.sealSt.agree then sealEnter code
        else .seq (sealTo 0 code) (.prim (.sealS { c.sealSt with agree := c.sealSt.agree + 1 }))

/-- SEAL_READ: both channels are read; `a` and `b` are the codes they decode (R381). -/
def execSealRead (dt : Nat) (a b : BitVec 16) (s : State) : Host.Outcome State Fault Refusal :=
  s.act dt (.dyn fun c =>
    let oldA := c.fld pgSEAL Reg.SEAL.SW_READ_CODE_A
    let oldB := c.fld pgSEAL Reg.SEAL.SW_READ_CODE_B
    seqs [put pgSEAL Reg.SEAL.SW_READ_CODE_A a.toNat, put pgSEAL Reg.SEAL.SW_READ_CODE_B b.toNat,
      when (c.sealSt.seen && (oldA != a.toNat || oldB != b.toNat)) (.seq (evt pgSEAL 1) (record pgSEAL 0 0x02 c.t oldA a.toNat)),
      .dyn fun c => .prim (.sealS { c.sealSt with seen := true }), sealJudge a b,
      .dyn fun c => putFlag pgSAF Reg.SAF.SAF_STAT_SEALED c.isSealed])

/-- SEAL_PROGRAM: the switch code is latched and the next slot is burnt, if R384 permits it. -/
def execSealProgram (dt : Nat) (src : Src) (s : State) : Host.Outcome State Fault Refusal :=
  s.act dt (onPage src pgSEAL 0x04C true (locked src pgSEAL (.dyn fun c =>
    let a := c.fld pgSEAL Reg.SEAL.SW_READ_CODE_A
    if !c.allSto || a != c.fld pgSEAL Reg.SEAL.SW_READ_CODE_B || c.sealSt.prog.isSome || !scbValid (c.scbWords Reg.SEAL.SCB_STAGE) then
      err pgSEAL 0x40 src.code
    else if c.fuse.free = 0 then err pgSEAL 0x42 src.code
    else seqs [.prim (.sealS { c.sealSt with prog := some (a, c.t) }), putFlag pgSEAL Reg.SEAL.SEAL_STAT_PROG_BUSY true])))

/-- SEAL_PROG_DONE: the switch is read again as `a`; the slot is burnt, or the programming aborts on a changed code (R384). -/
def execSealProgDone (dt : Nat) (a : BitVec 16) (s : State) : Host.Outcome State Fault Refusal :=
  s.act dt (.dyn fun c =>
    match c.sealSt.prog with
    | none => .skip
    | some (code, _) =>
      let free := (List.range 4).find? fun i => (c.fuse.slots.getD i none).isNone
      seqs [.prim (.sealS { c.sealSt with prog := none }), putFlag pgSEAL Reg.SEAL.SEAL_STAT_PROG_BUSY false,
        match (if a.toNat = code then free else none) with
        | none => err pgSEAL 0x40
        | some i =>
          seqs [.prim (.sealS { c.sealSt with prog := none, burnt := withBit c.sealSt.burnt i true }), .prim (.fuseS { c.fuse with slots := c.fuse.slots.set i (some (code, sha256 (leBytes (c.scbWords Reg.SEAL.SCB_STAGE)))) }),
            .dyn fun c => put pgSEAL Reg.SEAL.SEAL_STAT_SLOTS_FREE c.fuse.free, evt pgSEAL 2, record pgSEAL 0 0x03 c.t i code]])

end Sys2Proof.Machine
end

