-- ==== Sys2Proof/Machine/TideRef.lean ====
section
/-! DEFINITION. The reference discipline of the Tide, the crystal and the fine-step calibration (R69 to R74, R460). -/

namespace Sys2Proof.Machine

open Sys2Proof

def pgCLK : Page := ⟨.clk, 0⟩

/-- Active REF_CTRL.SRC: 0 CRYSTAL, 1 EXT10M, 2 GPTP, 3 FREE (Table 3-1). -/
def Chip.refSrc (c : Chip) : Nat := c.act pgTIDE Reg.TIDE.REF_CTRL_SRC

/-- The applied trim as its 32-bit field. -/
def Chip.trim (c : Chip) : Nat := c.fld pgTIDE Reg.TIDE.TRIM_APPLIED

/-- REF_STAT.STATE: XTAL_HOLDOVER while the crystal is lost (R74), else ACQUIRING until the TIDE PLL locks, and in EXT10M and GPTP until the first valid input; a CRYSTAL reference is TRACKING (log entry 61). -/
def Chip.refState (c : Chip) : Nat :=
  if c.tideSt.xtalLost then 4
  else if !c.flag pgTIDE Reg.TIDE.REF_STAT_PLL_LOCK then 0
  else match c.refSrc with
    | 0 => 1
    | 3 => 3
    | _ => if c.tideSt.refLost then 2 else if c.tideSt.refSeen then 1 else 0

/-- LEVEL events of TIDE subpage 0 (R91). -/
def Chip.tideLevels (c : Chip) : Nat :=
  (if c.fld pgTIDE Reg.TIDE.REF_STAT_STATE == 2 then 4 else 0) + (if c.tideSt.xtalLost then 16 else 0) +
    (if c.flag pgTIDE Reg.TIDE.REF_STAT_SUSPECT then 32 else 0)

/-- REF_STAT and the LEVEL events follow the reference. -/
def refRefresh : Act :=
  .seq (.dyn fun c => put pgTIDE Reg.TIDE.REF_STAT_STATE c.refState) (raiseLevels pgTIDE Chip.tideLevels)

/-- Largest magnitude of the applied trim, ppb (R72). -/
def trimLimit : Int := 100000

/-- A target within the trim's limits. -/
def clipTrim (v : Int) : Int := max (-trimLimit) (min trimLimit v)

/-- The servo asks for a target; one outside the limits raises TRIM_LIMIT (R72). -/
def servoTarget (v : Int) : Act :=
  .dyn fun c => .seq (modTideS fun s => { s with servo := v })
    (when (clipTrim v != v)
      (.seq (evt pgTIDE 3) (record pgTIDE 0 0x12 c.t (unsigned 32 v) c.trim)))

/-- A committed change of SRC starts the new mode: the reference counts as seen when its input is valid; in GPTP its target is then the RATE of the latest sync (R71, R439). DESIGN CHOICE: an input that is valid as EXT10M is selected leaves EXT_PHASE as it is, since no return has come (R73; log entry 101). -/
def refModeChange (old : Nat) : Act :=
  .dyn fun c => when (c.refSrc != old)
    (seqs [modTideS fun s => { s with
        refLost := false,
        refSeen := (c.refSrc == 1 && c.flag pgTIDE Reg.TIDE.REF_STAT_EXT_OK) || (c.refSrc == 2 && c.flag pgTIDE Reg.TIDE.REF_STAT_GPTP_OK) },
      when (c.refSrc == 2 && c.flag pgTIDE Reg.TIDE.REF_STAT_GPTP_OK) (servoTarget c.tideSt.syncRate), refRefresh])

/-- The selected input is valid: in HOLDOVER the reference has returned (R72, R73, Table 3-9). -/
def refValid (phase : Nat) : Act :=
  .dyn fun c =>
    seqs [putFlag pgTIDE (if c.refSrc = 1 then Reg.TIDE.REF_STAT_EXT_OK else Reg.TIDE.REF_STAT_GPTP_OK) true,
      modTideS fun s => { s with refLost := false, refSeen := true },
      when (c.refSrc == 1) (put pgTIDE Reg.TIDE.REF_STAT_EXT_PHASE phase), refRefresh,
      when c.tideSt.refLost
        (.seq (evt pgTIDE 1) (record pgTIDE 0 0x11 c.t c.refSrc (if c.refSrc = 1 then phase else 0)))]

/-- A valid sync: GPTP_OK follows it in every mode, and in GPTP it sets the target of the trim and is the reference's return (R72, R91, R439). -/
def validSync (rate : Int) : Act :=
  .seq (.dyn fun c => modTideS fun s => { s with syncAt := c.t, syncRate := rate })
    (.dyn fun c => if c.refSrc = 2 then .seq (servoTarget rate) (refValid 0) else putFlag pgTIDE Reg.TIDE.REF_STAT_GPTP_OK true)

/-- Sync interval of the GPTP port in ticks (R439). -/
def Chip.syncIvl (c : Chip) : Nat :=
  c.act ⟨.eth, c.act pgTIDE Reg.TIDE.REF_CTRL_GPTP_PORT⟩ Reg.ETH.SYNC_IVL * 2500000

/-- The selected reference is lost: the applied trim freezes (R72). -/
def refLoss : Act :=
  .dyn fun c => when (!c.tideSt.refLost && c.tideSt.refSeen)
    (seqs [modTideS fun s => { s with refLost := true }, refRefresh, evt pgTIDE 0, .dyn fun c => record pgTIDE 0 0x10 c.t c.refSrc c.trim])

/-- REF_LOST: TIDE_REFIN is no longer valid (`ext`), or LOSS_SYNCS sync intervals have passed since the last valid sync; the reference is lost if it is the selected one (R72, R91, Table 3-1). -/
def execRefLost (dt : Nat) (ext : Bool) (s : State) : Host.Outcome State Fault Refusal :=
  s.act dt (if ext then .seq (putFlag pgTIDE Reg.TIDE.REF_STAT_EXT_OK false) (whenC (fun c => c.refSrc == 1) refLoss)
    else whenC (fun c => c.flag pgTIDE Reg.TIDE.REF_STAT_GPTP_OK) (.dyn fun c =>
      seqs [atTick (c.tideSt.syncAt + c.act pgTIDE Reg.TIDE.REF_CTRL_LOSS_SYNCS * c.syncIvl),
        putFlag pgTIDE Reg.TIDE.REF_STAT_GPTP_OK false, whenC (fun c => c.refSrc == 2) refLoss]))

/-- REF_REGAINED: TIDE_REFIN has been valid without a break for 100 ms, its first valid edge at `phase` (R73, Table 3-1). In GPTP a valid sync is the return (R439). -/
def execRefRegained (dt : Nat) (phase : Fin 250) (s : State) : Host.Outcome State Fault Refusal :=
  s.act dt (.dyn fun c => if c.refSrc = 1 then refValid phase else putFlag pgTIDE Reg.TIDE.REF_STAT_EXT_OK true)

/-- The target of the applied trim (Table 3-1). -/
def Chip.trimTarget (c : Chip) : Int :=
  match c.refSrc with
  | 0 => clipTrim (signed 32 (c.act pgTIDE Reg.TIDE.TRIM_TARGET))
  | 3 => 0
  | _ => clipTrim c.tideSt.servo

/-- One slew step from `v` towards `g` (R72). -/
def slewStep (v g r : Int) : Int := if v < g then min g (v + r) else max g (v - r)

/-- TRIM_SLEW_STEP: each millisecond the trim moves towards its target; `ext` is the target that the external input gives in EXT10M (R72). DESIGN CHOICE: the trim stands still in every mode while STATE reads ACQUIRING, so also while the TIDE PLL is not locked (log entry 100). -/
def execTrimSlewStep (dt : Nat) (ext : Int) (s : State) : Host.Outcome State Fault Refusal :=
  s.act dt (.seq
    (whenC (fun c => c.refSrc == 1 && c.fld pgTIDE Reg.TIDE.REF_STAT_STATE == 1 && c.tideSt.servo != ext) (servoTarget ext))
    (.dyn fun c =>
      let st := c.fld pgTIDE Reg.TIDE.REF_STAT_STATE
      when (decide (c.tideSt.slewAt + 2500000 ≤ c.now) && (st == 1 || st == 3))
        (.seq (modTideS fun s => { s with slewAt := c.now })
          (put pgTIDE Reg.TIDE.TRIM_APPLIED
            (unsigned 32 (slewStep (signed 32 c.trim) c.trimTarget (c.act pgTIDE Reg.TIDE.SLEW)))))))

/-! ### The crystal and the TIDE PLL -/

/-- LEVEL events of CLK (R469). -/
def Chip.clkLevels (c : Chip) : Nat :=
  (if c.tideSt.xtalLost then 1 else 0) + (if c.fld pgCLK Reg.CLK.CLK_STAT_FAULT != 0 then 2 else 0) +
    (if c.flag pgCLK Reg.CLK.CLK_STAT_HOLDOVER then 4 else 0)

/-- XTAL_LOSS: the PLLs hold their control words (R74, R460). -/
def execXtalLoss (dt : Nat) (s : State) : Host.Outcome State Fault Refusal :=
  s.act dt (whenC (fun c => c.flag pgCLK Reg.CLK.CLK_STAT_XTAL_OK)
    (seqs [putFlag pgCLK Reg.CLK.CLK_STAT_XTAL_OK false, putFlag pgTIDE Reg.TIDE.REF_STAT_XTAL_OK false,
      putFlag pgCLK Reg.CLK.CLK_STAT_HOLDOVER true, bump pgCLK Reg.CLK.FAULT_CNT,
      modTideS fun s => { s with xtalLost := true }, refRefresh, raiseLevels pgCLK Chip.clkLevels,
      .dyn fun c => .seq (record pgCLK 0 0x02 c.t 1 0) (record pgTIDE 0 0x13 c.t 0 c.trim),
      raiseFault fXTAL_LOSS]))

/-- Start-up waited more than 20 ms for the crystal (Table 17-11). -/
def pgRST : Page := ⟨.rst, 0⟩

/-- XTAL_REGAINED: the crystal has run for 10 ms (R460). -/
def execXtalRegained (dt : Nat) (s : State) : Host.Outcome State Fault Refusal :=
  s.act dt (whenC (fun c => !c.flag pgCLK Reg.CLK.CLK_STAT_XTAL_OK)
    (seqs [putFlag pgCLK Reg.CLK.CLK_STAT_XTAL_OK true, putFlag pgTIDE Reg.TIDE.REF_STAT_XTAL_OK true,
      putFlag pgCLK Reg.CLK.CLK_STAT_HOLDOVER false,
      .dyn fun c =>
        when c.tideSt.xtalLost
          (seqs [modTideS fun s => { s with xtalLost := false }, record pgCLK 0 0x02 c.t 0 0, dropFault fXTAL_LOSS]),
      .dyn fun c => when (c.seqSt.released.isSome && !c.tideOn && decide (c.seqSt.released.getD 0 + 50000000 < c.now))
        (putFlag pgRST Reg.RST.RST_CAUSE_XTAL_WAIT true),
      refRefresh]))

/-- The TIDE PLL loses lock, or leaves its window and keeps it (R74, R461). -/
def tideUnlock (lost : Bool) : Act :=
  seqs [putFlag pgTIDE Reg.TIDE.REF_STAT_SUSPECT true, when lost (putFlag pgTIDE Reg.TIDE.REF_STAT_PLL_LOCK false), refRefresh,
    .dyn fun c => record pgTIDE 0 0x14 c.t 0 0, raiseFault fTIDE_UNLOCK]

/-- FINE_STEP_CALIBRATION: the new calibration applies to every leg at once; the command lies between two edges of each (R69). -/
def execFineStepCalibration (dt : Nat) (s : State) : Host.Outcome State Fault Refusal :=
  s.act dt (modTideS fun s => { s with calib := s.calib + 1 })

end Sys2Proof.Machine
end

