-- ==== Sys2Proof/Machine/Host.lean ====
section
/-! DEFINITION. Ethernet, authenticated boot, xSPI and debug (Chapter 16, R434 to R454). -/

namespace Sys2Proof.Machine

open Sys2Proof

def pgETH (n : Nat) : Page := ⟨.eth, n⟩
def pgXSP : Page := ⟨.xsp, 0⟩

/-! ### Ethernet -/

/-- The number in bytes, first byte most significant. -/
def beNat (bs : List Byte) : Nat := bs.foldl (fun n b => n * 256 + b.toNat) 0

/-- The number in bytes, first byte least significant. -/
def leNat (bs : List Byte) : Nat := bs.foldr (fun b n => b.toNat + 256 * n) 0

/-- `n` bytes from offset `o`. -/
def bytesAt (bs : List Byte) (o n : Nat) : List Byte := (bs.drop o).take n

/-- EtherType of a frame: the two bytes after the addresses. -/
def etherType (bs : List Byte) : Nat := beNat (bytesAt bs 12 2)

/-- Words of bytes, byte 0 in bits [7:0], the last word filled with zeros. -/
def leWords (bs : List Byte) : List Word := (List.range ((bs.length + 3) / 4)).map fun i => BitVec.ofNat 32 (leNat (bytesAt bs (4 * i) 4))

/-- The destination address passes the filter (R435); MAC_ADDR has byte 0 in its lowest bits (log entry 62). -/
def Chip.etherDest (c : Chip) (n : Nat) (bs : List Byte) : Bool :=
  let d := bytesAt bs 0 6
  let p := pgETH n
  let own := c.act p Reg.ETH.MAC_HI + 2 ^ 16 * c.act p Reg.ETH.MAC_LO
  (own != 0 && leNat d == own) || (c.actFlag p Reg.ETH.ETH_CFG_BCAST_EN && beNat d == 0xFFFFFFFFFFFF) ||
    (c.actFlag p Reg.ETH.ETH_CFG_MCAST_ALL && (d.getD 0 0).getLsbD 0) || beNat d == 0x0180C200000E || c.actFlag p Reg.ETH.ETH_CFG_PROMISC

/-- An 802.1AS event message: EtherType 0x88F7 and a message type below 4 (log entry 62). -/
def isPtp (bs : List Byte) : Bool := etherType bs == 0x88F7 && decide ((bs.getD 14 0).toNat % 16 < 4)

/-- ETH[n] works: its page is enabled and powered, and CM is not isolated. -/
def Chip.etherLive (c : Chip) (n : Nat) : Bool := c.on (pgETH n) && c.domainOn 11 && !c.regionDown 5

/-- ETH[0] serves an Ethernet boot and accepts boot frames only, which BOOT_ETH_FRAME brings (R444). -/
def Chip.etherBoots (c : Chip) (n : Nat) : Bool := n == 0 && c.strap.toNat % 4 == 2 && (c.bootSt.phase == .idle || c.bootSt.phase == .header)

/-- ETH_RX_FRAME: a frame without its FCS, whose stamp point passed the pin at `stamp` (R434 to R438, R444). -/
def execEthRxFrame (dt : Nat) (n : Fin 2) (stamp : Nat) (good : Bool) (bs : List Byte) (s : State) : Host.Outcome State Fault Refusal :=
  s.act dt (.dyn fun c =>
    let p := pgETH n
    let code := 0x28 + n.val
    if !c.etherLive n || c.etherBoots n then .skip
    else if !good || decide (bs.length < 60) || decide (1518 < bs.length) then bump p Reg.ETH.RX_ERR_CNT
    else if etherType bs == 0x8808 || !c.etherDest n bs then .skip
    else
      let st := c.port code
      let at_ := stamp - c.act p Reg.ETH.LAT_RX_LAT
      let w0 := bs.length + (if isPtp bs then 2 ^ 11 else 0) + (if etherType bs == 0x8100 then 2 ^ 12 else 0) + (if st.lost then 2 ^ 13 else 0)
      .seq (bumpWrap p Reg.ETH.RX_CNT)
        (if (c.queueOfProd code).isSome && decide (st.frames.length < 8) then
          modPort code fun s => { s with
            frames := s.frames ++ [[BitVec.ofNat 32 w0, BitVec.ofNat 32 at_, BitVec.ofNat 32 (at_ / 2 ^ 32)] ++ leWords bs], lost := false }
        else seqs [bump p Reg.ETH.RX_DROP_CNT, modPort code fun s => { s with lost := true }, evt p 1]))

/-- A transmit packet is a frame: word 0 and the words of its bytes (R437). -/
def txValid (ws : List Word) : Bool :=
  let w : Word := ws.getD 0 0
  let len := w.bits 0 11
  !ws.isEmpty && w.bits 12 4 == 0 && decide (14 ≤ len) && decide (len ≤ 1518) && ws.length == 1 + (len + 3) / 4

/-- ETH_TX_FRAME: the head packet is sent as one frame whose stamp point passes the pin at `stamp`, or is retired unsent (R404, R437, R438). -/
def execEthTxFrame (dt : Nat) (n : Fin 2) (stamp : Nat) (fine : Fin 8) (corr bad : Nat) (s : State) : Host.Outcome State Fault Refusal :=
  s.act dt (.dyn fun c =>
    let p := pgETH n
    match c.queueOfCons (0x38 + n.val) with
    | none => .skip
    | some m =>
      match c.headWords m with
      | none => .skip
      | some ws =>
        let w : Word := ws.getD 0 0
        let bs := (leBytes (ws.drop 1)).take (w.bits 0 11)
        let padded := bs ++ List.replicate (60 - bs.length) 0
        let fcs := crc32 (padded.map fun b => b.toNat)
        when (c.etherLive n)
          (seqs [packetErrors m corr bad, pktRetire m, basinSettle,
            if c.flaggedDropped bad || !txValid ws then bump p Reg.ETH.TX_BAD_CNT
            else seqs [modEth n fun s => { s with sent := padded ++ leBytes [BitVec.ofNat 32 fcs] }, bumpWrap p Reg.ETH.TX_CNT,
              when (w.getLsbD 11)
                (.seq (record p 0 0x01 (stamp + c.act p Reg.ETH.LAT_TX_LAT) (w.bits 16 16) 0 fine) (evt p 3))]]))

/-- ETH_LINK_CHANGE (R434, R452). -/
def execEthLinkChange (dt : Nat) (n : Fin 2) (up : Bool) (s : State) : Host.Outcome State Fault Refusal :=
  s.act dt (.dyn fun c =>
    let p := pgETH n
    when (c.flag p Reg.ETH.ETH_STAT_LINK != up)
      (seqs [putFlag p Reg.ETH.ETH_STAT_LINK up, putFlag p Reg.ETH.ETH_STAT_AN_DONE (up && c.actFlag p Reg.ETH.ETH_CFG_AN_EN),
        record p 0 0x02 c.t (if up then 1 else 0) 0, when up (evt p 0)]))

/-- SYNC_APPLY (R439). -/
def execSyncApply (dt : Nat) (src : Src) (n : Fin 2) (s : State) : Host.Outcome State Fault Refusal :=
  let p := pgETH n
  s.act dt (onPage src p 0x070 true (.dyn fun c =>
    let tide := c.wide p Reg.ETH.SYNC_TIDE_LO Reg.ETH.SYNC_TIDE_HI
    let rate := signed 32 (c.fld p Reg.ETH.RATE)
    let owns := match src with | .core q _ => c.owner == some q | _ => false
    if !owns then err p 0x40 src.code
    else if (match (c.eth n).sync with | some x => decide (tide ≤ x) | none => false) then err p 0x41 src.code
    else
      seqs [modEth n fun s => { s with sync := some tide }, evt p 2, record p 0 0x03 c.t (c.fld p Reg.ETH.SYNC_NS) (c.fld p Reg.ETH.RATE),
        when (c.act pgTIDE Reg.TIDE.REF_CTRL_GPTP_PORT == n.val)
          (seqs [putWide pgTIDE Reg.TIDE.XPAIR_TIDE_LO Reg.TIDE.XPAIR_TIDE_HI tide,
            put pgTIDE Reg.TIDE.XPAIR_SEC_LO (c.fld p Reg.ETH.SYNC_SEC_LO), put pgTIDE Reg.TIDE.XPAIR_SEC_HI (c.fld p Reg.ETH.SYNC_SEC_HI),
            put pgTIDE Reg.TIDE.XPAIR_NS (c.fld p Reg.ETH.SYNC_NS), bumpWrap pgTIDE Reg.TIDE.XPAIR_SEQ,
            validSync rate])]))

/-! ### The image -/

/-- A byte string as words of a header. -/
def headerOf (bs : List Byte) : List Word := leWords (bytesAt bs 0 528)

/-- Field `i` of section entry `s` of a header: 0 TYPE, 1 OFFSET, 2 LENGTH, 3 LOAD (Table 16-1). -/
def sectField (h : List Word) (s i : Nat) : Nat := (h.getD (20 + 12 * s + i) 0).toNat

/-- DIGEST of section entry `s`: eight big-endian words. -/
def sectDigest (h : List Word) (s : Nat) : List Word := beWords 8 (leBytes ((h.drop (24 + 12 * s)).take 8))

/-- Sections of a header. -/
def sections (h : List Word) : List Nat := List.range (Nat.min (h.getD 3 0).toNat 8)

/-- The section of a type. -/
def sectOf (h : List Word) (type : Nat) : Option Nat := (sections h).find? fun s => sectField h s 0 == type

/-- The section table is valid (R442). -/
def sectionsOk (h : List Word) : Bool :=
  let count := fun t => ((sections h).filter fun s => sectField h s 0 == t).length
  let n := (h.getD 3 0).toNat
  decide (1 ≤ n) && decide (n ≤ 8) && count 1 == 1 && count 2 == 1 &&
    (sections h).all fun s =>
      let t := sectField h s 0
      decide (1 ≤ t) && decide (t ≤ 3) && (t != 1 || sectField h s 2 == 512) &&
        (t != 2 || decide (sectField h s 3 + sectField h s 2 ≤ 8388608)) && decide (sectField h s 1 + sectField h s 2 ≤ 16777216)

/-- Length of an image: the end of its last section. -/
def imageLength (h : List Word) : Nat := (sections h).foldl (fun m s => Nat.max m (sectField h s 1 + sectField h s 2)) 528

/-- Fuse key slots that are programmed with the hash of the key in a header (R442). -/
def Chip.keySlots (c : Chip) (h : List Word) : List Nat :=
  let key := sha256 (bytesAt (leBytes h) 0x010 64)
  (List.range 4).filter fun k => c.fuse.prog.testBit k && c.fuse.keys.getD k [] == key

/-- The slot that lets an image boot: the lowest that is not revoked (R442). -/
def Chip.keySlot (c : Chip) (h : List Word) : Option Nat := (c.keySlots h).find? fun k => !c.fuse.revoked.testBit k

/-- SIG of a header is a signature by its KEY over the SHA-256 of bytes 0x000 to 0x1CF (R442). -/
def signatureOk (h : List Word) : Bool :=
  let bs := leBytes h
  let num := fun o => beNat (bytesAt bs o 32)
  let z := (sha256 (bs.take 0x1D0)).foldl (fun n w => n * 2 ^ 32 + w.toNat) 0
  ecdsaOk (num 0x010) (num 0x030) (num 0x1D0) (num 0x1F0) z

/-- RESULT of BOOT_STAT for a header: 0 where it is valid (R442, Table 16-5). The first failing check names the result (log entry 63). -/
def Chip.headerResult (c : Chip) (i : BootImage) (h : List Word) : Nat :=
  if !i.readOk || c.regionDown 5 then 8
  else if h.getD 0 0 ≠ 0x6410B001#32 then 1
  else if h.length ≠ 132 ∨ !sectionsOk h then 7
  else if c.keySlots h = [] then 3
  else if (c.keySlot h).isNone then 4
  else if !signatureOk h then 2
  else if (h.getD 2 0).bits 0 16 < c.fuse.rollback then 5
  else 0

/-- FUSE_STAT shows the fuses. -/
def fuseRefresh : Act :=
  .dyn fun c =>
    seqs [put pgXSP Reg.XSP.FUSE_STAT_ROLLBACK_MIN c.fuse.rollback, put pgXSP Reg.XSP.FUSE_STAT_KEY_PROG c.fuse.prog,
      put pgXSP Reg.XSP.FUSE_STAT_KEY_REVOKED c.fuse.revoked]

/-- Latched BOOT_SRC. -/
def Chip.bootSrc (c : Chip) : Nat := c.strap.toNat % 4

/-- An attempt ends with a result: what it wrote is wiped, and copy B follows copy A under xSPI (R441). -/
def bootAttemptFails (res : Nat) : Act :=
  .dyn fun c =>
    seqs [when c.safSt.placed (levelsFollow wipeScb), each (List.range 132) fun i => put pgXSP Reg.XSP.HEADER 0 i, modBootS fun b => { b with header := [] },
      put pgXSP Reg.XSP.BOOT_STAT_RESULT res, when (c.bootSt.copy == 0) (put pgXSP Reg.XSP.BOOT_STAT_RESULT_A res),
      modBootS fun b => { b with phase := if b.copy = 0 then .copyB else .failed, copy := if b.copy = 0 then 1 else b.copy }]

/-- HOLD: no core is released and SEAL holds no SCB (R443). -/
def bootHold : Act :=
  .dyn fun c =>
    seqs [when c.safSt.placed (levelsFollow wipeScb), put pgXSP Reg.XSP.BOOT_STAT_COPY 3, modBootS fun b => { b with phase := .hold, released := [] }]

/-- BOOT_START: the header of copy A, copy B or the Ethernet image is read and verified, and the SCB placed if its digest passes (R441, R442, R444). -/
def execBootStart (dt : Nat) (img : BootImage) (s : State) : Host.Outcome State Fault Refusal :=
  s.act dt (.dyn fun c =>
    let b := c.bootSt
    let eth := c.bootSrc == 2
    let h := if eth then headerOf b.image else img.header
    let off := match sectOf h 1 with | some s => sectField h s 1 | none => 0
    let scb := if eth then leWords (bytesAt b.image off 512) else img.scb
    let ready := c.tideOn && c.bootSrc != 3 && (b.phase == .idle || b.phase == .copyB) &&
      (!eth || (decide (528 ≤ b.image.length) && decide (off + 512 ≤ b.image.length)))
    when ready
      (seqs [modBootS fun b => { b with copy := if eth then 2 else b.copy },
        .dyn fun c =>
          let r := c.headerResult img h
          if r ≠ 0 then bootAttemptFails r
          else if scb.length ≠ 128 ∨ sha256 (leBytes scb) ≠ (match sectOf h 1 with | some s => sectDigest h s | none => []) then bootAttemptFails 6
          else
            seqs [levelsFollow (placeScb scb), inputsPlaced, each ((List.range 132).zip h) fun e => put pgXSP Reg.XSP.HEADER e.2.toNat e.1,
              put pgXSP Reg.XSP.BOOT_STAT_KEY_SLOT ((c.keySlot h).getD 0),
              modBootS fun b => { b with phase := .header, header := h, slot := (c.keySlot h).getD 0 }]]))

/-- ROLLBACK of the running image; 0 while none runs (R446). -/
def Chip.runningRollback (c : Chip) : Nat := if c.bootSt.phase = .done then (c.bootSt.header.getD 2 0).bits 0 16 else 0

/-- Start and length of the booted copy; none after an Ethernet boot (R447). -/
def Chip.bootedCopy (c : Chip) : Nat × Nat :=
  if c.bootSt.phase = .done ∧ c.bootSt.copy ≠ 2 then (if c.bootSt.copy = 1 then 0x01000000 else 0, imageLength c.bootSt.header) else (0, 0)

/-- A Quay has left BIST (Table 12-2). -/
def Chip.leftBist (c : Chip) (q : Quay) : Bool := decide (2 ≤ c.qstate q)

/-- Quays that passed BIST. -/
def Chip.bistPassed (c : Chip) : List Quay := [Quay.A, Quay.B].filter fun q => c.leftBist q && c.qstate q != 5

/-- Address of Quay-local SRAM in byte memory. -/
def sramAddr (q : Quay) (a : Nat) : Nat := q.idx * 0x00800000 + a

/-- Bytes go into a Quay's SRAM. -/
def loadSram (q : Quay) (a : Nat) (bs : List Byte) : Act :=
  each ((List.range bs.length).zip bs) fun e => .prim (.byte (sramAddr q (a + e.1)) e.2)

/-- The QUAY section passes (R441, R445). -/
def quaySectionOk (h : List Word) (readOk : Bool) (bs : List Byte) : Bool :=
  match sectOf h 2 with
  | some s => readOk && bs.length == sectField h s 2 && sha256 bs == sectDigest h s
  | none => false

/-- LOAD of the QUAY section. -/
def quayLoad (h : List Word) : Nat := match sectOf h 2 with | some s => sectField h s 3 | none => 0

/-- BOOT_LOAD: after both Quays have left BIST the QUAY section `bs` is loaded and verified, and the cores are released at LOAD (R441). -/
def execBootLoad (dt : Nat) (readOk : Bool) (bytes : List Byte) (s : State) : Host.Outcome State Fault Refusal :=
  s.act dt (.dyn fun c =>
    let b := c.bootSt
    let h := b.header
    let bs := if b.copy = 2 then (match sectOf h 2 with | some s => bytesAt b.image (sectField h s 1) (sectField h s 2) | none => []) else bytes
    let ready := b.phase == .header && c.leftBist .A && c.leftBist .B && (b.copy != 2 || decide (imageLength h ≤ b.image.length))
    when ready
      (if quaySectionOk h (readOk && !c.regionDown 5) bs then
        seqs [each c.bistPassed fun q => loadSram q (quayLoad h) bs, put pgXSP Reg.XSP.BOOT_STAT_COPY b.copy, put pgXSP Reg.XSP.BOOT_STAT_RESULT 0,
          put pgXSP Reg.XSP.BOOT_STAT_ROLLBACK ((h.getD 2 0).toNat % 2 ^ 16),
          when (b.copy != 2) (.seq (put pgXSP Reg.XSP.PROT_BASE (if b.copy = 1 then 0x01000000 else 0)) (put pgXSP Reg.XSP.PROT_LEN (imageLength h))),
          modBootS fun b => { b with phase := .done, released := c.bistPassed.map Quay.idx }]
      else
        .seq (each c.bistPassed fun q => .prim (.memReset (sramAddr q (quayLoad h)) (sramAddr q (quayLoad h + bs.length))))
          (bootAttemptFails (if readOk && !c.regionDown 5 then 6 else 8))))

/-- BOOT_FAIL: no image has passed, or the strap selects HOLD (R441, R443). -/
def execBootFail (dt : Nat) (s : State) : Host.Outcome State Fault Refusal :=
  s.act dt (.dyn fun c =>
    if c.bootSt.phase = .failed then bootHold
    else when (c.tideOn && c.bootSt.phase == .idle && c.bootSrc == 3) (.seq (put pgXSP Reg.XSP.BOOT_STAT_RESULT 9) bootHold))

/-- BOOT_ETH_FRAME: a frame to ETH[0] with its destination, EtherType, OFFSET and image bytes (R444). -/
def execBootEthFrame (dt : Nat) (dest : BitVec 48) (etype : BitVec 16) (off : Word) (bs : List Byte) (s : State) :
    Host.Outcome State Fault Refusal :=
  s.act dt (.dyn fun c =>
    let b := c.bootSt
    when (c.tideOn && c.bootSrc == 2 && (b.phase == .idle || b.phase == .header) && dest == 0x020064100000#48 && etype == 0x88B5#16 &&
        decide (1 ≤ bs.length) && decide (bs.length ≤ 1024) && off.toNat == b.image.length)
      (modBootS fun b => { b with image := b.image ++ bs, ethAt := some (b.ethAt.getD c.t), answer := some (off.toNat, bs.length) }))

/-- BOOT_ETH_TIMEOUT: the image is not complete 10 s after its first frame (R444). Its RESULT is NO_IMAGE (log entry 63). -/
def execBootEthTimeout (dt : Nat) (s : State) : Host.Outcome State Fault Refusal :=
  s.act dt (.dyn fun c =>
    match c.bootSt.ethAt with
    | none => .skip
    | some t =>
      let h := headerOf c.bootSt.image
      when ((c.bootSt.phase == .idle || c.bootSt.phase == .header) && !(h.length == 132 && decide (imageLength h ≤ c.bootSt.image.length)))
        (seqs [atTick (t + 25000000000), put pgXSP Reg.XSP.BOOT_STAT_RESULT 1, bootHold]))

/-! ### Reloads, fuses and flash commands -/

/-- BUSY and RELOAD follow; a reload starts when no command runs, and a waiting command when no reload waits or runs (R445, Table 16-3). -/
def xspNext : Act :=
  .seq (modBootS fun b => if b.reloads.isEmpty && b.cmdWait then { b with cmd := true, cmdWait := false } else b)
    (.dyn fun c =>
      let b := c.bootSt
      .seq (putFlag pgXSP Reg.XSP.XSP_STAT_RELOAD (!b.reloads.isEmpty && !b.cmd))
        (putFlag pgXSP Reg.XSP.XSP_STAT_BUSY (!b.reloads.isEmpty || b.cmd)))

/-- A Quay restarts: its cores are held until its reload (R441, R445). -/
def quayHeld (q : Quay) : Act :=
  modBootS fun b => { b with released := b.released.filter fun i => i != q.idx, due := if b.due.contains q.idx then b.due else b.due ++ [q.idx],
                             reloads := b.reloads.filter fun i => i != q.idx }

/-- QUAY_RELOAD: a Quay that has restarted has passed its self-test, and its reload follows those ordered before; after an Ethernet boot, or in HOLD, there is no copy to read and its cores stay held (R445). -/
def execQuayReload (dt : Nat) (q : Quay) (s : State) : Host.Outcome State Fault Refusal :=
  s.act dt (.dyn fun c =>
    when (c.bootSt.phase == .done && c.bootSt.due.contains q.idx && c.leftBist q && c.qstate q != 5)
      (.seq (modBootS fun b => { b with due := b.due.filter fun i => i != q.idx, reloads := if b.copy = 2 then b.reloads else b.reloads ++ [q.idx] })
        xspNext))

/-- QUAY_RELOAD_DONE: the reload that runs ends; the header and the section read are verified once more (R445). -/
def execQuayReloadDone (dt : Nat) (img : BootImage) (bs : List Byte) (s : State) : Host.Outcome State Fault Refusal :=
  s.act dt (.dyn fun c =>
    match c.bootSt.reloads with
    | [] => .skip
    | i :: rest =>
      let q := Quay.ofIdx i
      let h := c.bootSt.header
      let good := c.headerResult img img.header == 0 && img.header == h && quaySectionOk h img.readOk bs && !c.regionDown q.idx
      when (!c.bootSt.cmd)
        (seqs [when good (loadSram q (quayLoad h) bs),
          modBootS fun b => { b with reloads := rest, released := if good then b.released ++ [i] else b.released },
          evt pgXSP (if good then 1 else 2), xspNext]))

/-- ROLLBACK_BURN (R446). -/
def execRollbackBurn (dt : Nat) (src : Src) (s : State) : Host.Outcome State Fault Refusal :=
  s.act dt (onPage src pgXSP 0x048 true (locked src pgXSP (.dyn fun c =>
    if !c.allSto then err pgXSP 0x42 src.code
    else .seq (.prim (.fuseS { c.fuse with rollback := Nat.max c.fuse.rollback c.runningRollback })) fuseRefresh)))

/-- REVOKE of the slots in `mask` (R446). -/
def execRevoke (dt : Nat) (src : Src) (mask : BitVec 4) (s : State) : Host.Outcome State Fault Refusal :=
  s.act dt (onPage src pgXSP 0x048 true (locked src pgXSP (.dyn fun c =>
    if !c.allSto || (c.bootSt.phase == .done && mask.getLsbD c.bootSt.slot) then err pgXSP 0x42 src.code
    else .seq (.prim (.fuseS { c.fuse with revoked := c.fuse.revoked ||| mask.toNat })) fuseRefresh)))

/-- The command in XSP_CMD meets the booted copy and is no read (R447). A command without data names one byte (log entry 64). -/
def Chip.xspProtected (c : Chip) : Bool :=
  let a := c.fld pgXSP Reg.XSP.XSP_ADDR
  let n := Nat.max 1 (Nat.min (c.fld pgXSP Reg.XSP.XSP_CMD_LEN) 64)
  let base := c.bootedCopy.1
  let op := c.fld pgXSP Reg.XSP.XSP_CMD_OPCODE
  let read := if c.flag pgXSP Reg.XSP.XSP_CMD_OCTAL then op == 0xEEEE else op % 256 == 0x13 || op % 256 == 0x0C
  c.flag pgXSP Reg.XSP.XSP_CMD_HAS_ADDR && !read && c.bootedCopy.2 != 0 && decide (a < base + c.bootedCopy.2) && decide (base < a + n)

/-- XSP_GO (R445, R447, R453). -/
def execXspGo (dt : Nat) (src : Src) (s : State) : Host.Outcome State Fault Refusal :=
  s.act dt (onPage src pgXSP 0x054 true (.dyn fun c =>
    if c.bootSt.cmd || c.bootSt.cmdWait then err pgXSP 0x41 src.code
    else if c.xspProtected then err pgXSP 0x40 src.code
    else .seq (modBootS fun b => { b with
        cmdWait := true,
        issued := (c.word (pgXSP.base + 0x04C), c.word (pgXSP.base + 0x050), (List.range 16).map fun i => BitVec.ofNat 32 (c.fld pgXSP Reg.XSP.XSP_DATA i)) }) xspNext))

/-- XSP_CMD_DONE: a read delivers the bytes the flash sent (R447, R453). -/
def execXspCmdDone (dt : Nat) (data : List Byte) (s : State) : Host.Outcome State Fault Refusal :=
  s.act dt (.dyn fun c =>
    let cmd := c.bootSt.issued.1
    let n := Nat.min (cmd.bits 24 7) 64
    when c.bootSt.cmd
      (seqs [when (!cmd.getLsbD 23)
          (each ((List.range n).zip data) fun e => .dyn fun c =>
            put pgXSP Reg.XSP.XSP_DATA (Word.setBits (BitVec.ofNat 32 (c.fld pgXSP Reg.XSP.XSP_DATA (e.1 / 4))) (8 * (e.1 % 4)) 8 e.2.toNat).toNat (e.1 / 4)),
        modBootS fun b => { b with cmd := false }, evt pgXSP 0, xspNext]))

/-! ### Debug -/

/-- The seal condition of R448: SEALED with DEBUG_OK, or HOLD without an SCB. -/
def Chip.sealOk (c : Chip) : Bool :=
  (c.fld pgSEAL Reg.SEAL.SEAL_STAT_STATE == 1 && c.flag pgSEAL Reg.SEAL.XCHK_DEBUG_OK) || (c.bootSt.phase == .hold && !c.safSt.placed)

/-- The core attached changes, with its record (R449). -/
def attach (n : Nat) : Act :=
  .dyn fun c =>
    when (c.fld pgDBG Reg.DBG.DBG_ATTACH != n)
      (seqs [put pgDBG Reg.DBG.DBG_ATTACH n, put pgDBG Reg.DBG.DBG_STAT_ATTACH n, record pgDBG 0 0x03 c.t n 0])

/-- DEBUG_PORT_OPEN: the port opens or closes as its conditions are (R448, R449). -/
def execDebugPortOpen (dt : Nat) (s : State) : Host.Outcome State Fault Refusal :=
  s.act dt (.dyn fun c =>
    let open_ := c.strap.getLsbD 11 && c.sealOk && c.domainOn 13
    (when (c.flag pgDBG Reg.DBG.DBG_STAT_PORT_OPEN != open_)
        (seqs [putFlag pgDBG Reg.DBG.DBG_STAT_PORT_OPEN open_, record pgDBG 0 0x01 c.t (if open_ then 1 else 0) 0,
          if open_ then .seq (evt pgDBG 0) (attach 0) else .prim (.dbgS { c.dbgSt with ir := 0 })])))

/-- The cores of a Quay run as pairs (R325). -/
def Chip.split (c : Chip) : Bool := c.strap.getLsbD 3

/-- DBG_ATTACH (R449). -/
def execDbgAttach (dt : Nat) (src : Src) (core : Fin 8) (s : State) : Host.Outcome State Fault Refusal :=
  s.act dt (onPage src pgDBG 0x04C true (.dyn fun c =>
    if src != .debug || (!c.split && core.val % 2 == 1) then .seq (bump pgDBG Reg.DBG.REFUSED_CNT) (evt pgDBG 2) else attach core))

/-- SCAN_INSTRUCTION: EXTEST, INTEST or CLAMP; refused, it selects BYPASS (R450). -/
def execScanInstruction (dt : Nat) (ins : Fin 3) (s : State) : Host.Outcome State Fault Refusal :=
  s.act dt (.dyn fun c => .prim (.dbgS { c.dbgSt with ir := if c.flag pgDBG Reg.DBG.DBG_STAT_PORT_OPEN && c.allSto then ins.val + 1 else 0 }))

/-- TAP_RESET: the TAP alone returns to BYPASS (R463). -/
def execTapReset (dt : Nat) (s : State) : Host.Outcome State Fault Refusal :=
  s.act dt (.dyn fun c => .prim (.dbgS { c.dbgSt with ir := 0 }))

end Sys2Proof.Machine
end

