-- ==== Sys2Proof/Machine/ActionTable.lean ====
section
/-! DEFINITION. The entries of the action table and the check of a bank (R78, R79, Tables 3-3 and 3-4). -/

namespace Sys2Proof.Machine

open Sys2Proof

/-- One entry of the action table (Table 3-3). -/
structure ActionEntry where
  w0 : Word
  w1 : Word
  w2 : Word
  w3 : Word
  deriving DecidableEq, Repr

/-- Entry `i` of a bank whose word at offset `o` is `word o`. -/
def actionEntry (word : Nat → Word) (i : Nat) : ActionEntry := ⟨word (16 * i), word (16 * i + 4), word (16 * i + 8), word (16 * i + 12)⟩

def ActionEntry.valid (e : ActionEntry) : Bool := e.w0.getLsbD 0
def ActionEntry.kind (e : ActionEntry) : Nat := e.w0.bits 1 3
/-- MODE 1, ABS. -/
def ActionEntry.abs (e : ActionEntry) : Bool := e.w0.getLsbD 4
def ActionEntry.fg (e : ActionEntry) : Nat := e.w0.bits 5 3
def ActionEntry.type (e : ActionEntry) : Nat := e.w0.bits 8 8
def ActionEntry.inst (e : ActionEntry) : Nat := e.w0.bits 16 7
def ActionEntry.chan (e : ActionEntry) : Nat := e.w0.bits 23 5
def ActionEntry.offset (e : ActionEntry) : Nat := e.w1.bits 0 22
def ActionEntry.div (e : ActionEntry) : Nat := e.w2.bits 0 8
def ActionEntry.phase (e : ActionEntry) : Nat := e.w2.bits 8 8
def ActionEntry.arg (e : ActionEntry) : Nat := e.w3.bits 0 16
/-- Due tick of a MODE 1 entry. -/
def ActionEntry.time (e : ActionEntry) : Nat := e.w1.toNat + 2 ^ 32 * e.w2.toNat

def akSAMPLE : Nat := 1
def akLAUNCH : Nat := 2
def akCAPTURE : Nat := 3
def akVSTEP : Nat := 4
def akMARK : Nat := 5

/-- Targets that Table 3-4 allows for the KIND, MARK under R79. -/
def ActionEntry.targetOk (e : ActionEntry) : Bool :=
  let t := e.type
  match e.kind with
  | 1 =>
    (t == 0x07 && decide (e.inst < 12) && decide (e.chan < 4)) || (t == 0x08 && decide (e.inst < 32) && e.chan == 0) ||
      (t == 0x09 && decide (e.inst < 8) && decide (e.chan < 3)) || (t == 0x0A && decide (e.inst < 8) && e.chan == 0) ||
      (t == 0x0C && e.inst == 0 && e.chan == 0)
  | 2 => t == 0x10 && e.inst == 0 && decide (e.chan < 8)
  | 3 => t == 0x15 && e.inst == 0 && decide (e.chan < 16)
  | 4 => t == 0x06 && e.inst == 0 && e.chan == 0
  | 5 => decide (1 ≤ t) && decide (t ≤ 0x22) && e.chan == 0
  | _ => true

/-- Codes of the checks that an entry fails (R79). DIV 0 has no meaning (R60). DESIGN CHOICE: a MODE 1 entry whose FG is not 0 fails with RESERVED_VALUE; the rule names no code (log entry 70). -/
def ActionEntry.codes (e : ActionEntry) : List Nat :=
  if !e.valid then [] else
    (if e.kind = 0 ∨ 6 ≤ e.kind ∨ e.w0.bits 28 4 ≠ 0 ∨ e.w3.bits 16 16 ≠ 0 ∨ (e.abs ∧ e.fg ≠ 0) ∨
        (¬ e.abs ∧ (e.w1.bits 22 10 ≠ 0 ∨ e.w2.bits 16 16 ≠ 0)) ∨ (e.kind = akSAMPLE ∧ e.arg ≠ 0) then [5] else []) ++
    (if ¬ e.abs ∧ e.div = 0 then [4] else []) ++
    (if ¬ e.abs ∧ (2499999 < e.offset ∨ (e.div ≠ 0 ∧ e.div ≤ e.phase)) then [3] else []) ++
    (if e.kind = akCAPTURE ∧ e.arg = 0 then [4] else []) ++
    (if e.targetOk then [] else [0x43])

/-- Codes of the checks that a bank fails. -/
def bankCodes (word : Nat → Word) : List Nat := (List.range 256).flatMap fun i => (actionEntry word i).codes

/-- Entry `i` of the active bank. -/
def Chip.action (c : Chip) (i : Nat) : ActionEntry := actionEntry (fun o => c.word (0x4201B000 + o)) i

/-- ABS_PEND counts the valid MODE 1 entries of the active bank (Table 3-13). -/
def absPend : Act :=
  .dyn fun c => put pgACT Reg.ACT.ACT_STAT_ABS_PEND ((List.range 256).filter fun i => (c.action i).valid && (c.action i).abs).length

/-- An entry retires: VALID clears in both banks, its bit in RETIRED sets and RETIRED occurs (R82). DESIGN CHOICE: a snapshot that waits keeps its VALID, so its exchange brings the entry back to be judged again; the rule names the two banks only (log entry 69). -/
def retire (i : Nat) : Act :=
  .dyn fun c =>
    let clr := fun (a : Nat) => setWord a ((c.word a) &&& 0xFFFFFFFE#32)
    seqs [clr (0x4201B000 + 16 * i), clr (0x4201A000 + 16 * i),
      put pgACT Reg.ACT.RETIRED (c.fld pgACT Reg.ACT.RETIRED (i / 32) ||| 2 ^ (i % 32)) (i / 32), evt pgACT 4, absPend]

/-- A record of ACT: 1 OVERRUN, 2 SKIPPED, 3 LATE, 4 COLLIDE, with its counter and event (R84, Table 3-9). -/
def actRecord (code i stamp arg : Nat) : Act :=
  let cnt := match code with
    | 1 => Reg.ACT.OVERRUN_CNT
    | 2 => Reg.ACT.SKIP_CNT
    | 3 => Reg.ACT.LATE_CNT
    | _ => Reg.ACT.COLLIDE_CNT
  seqs [bump pgACT cnt, evt pgACT (code - 1), record pgACT 0 code stamp i arg]

/-- Entries that a short frame does not execute: an entry of generator `g` that DIV and PHASE select is SKIPPED when its OFFSET is not less than the period (R81). -/
def skipEntries (g b : Nat) : Act :=
  .dyn fun c =>
    each ((List.range 256).filter fun i =>
        let e := c.action i
        e.valid && !e.abs && e.fg == g && c.fgCount g % e.div == e.phase && decide (c.fgPeriod g ≤ e.offset)) fun i =>
      actRecord 2 i b (c.action i).arg

/-- Valid MODE 1 entries whose due tick lies before `t` retire with LATE (R82). -/
def lateRetire (t : Nat) : Act :=
  .dyn fun c => each ((List.range 256).filter fun i => (c.action i).valid && (c.action i).abs && decide ((c.action i).time < t)) fun i =>
    .seq (retire i) (actRecord 3 i t (c.action i).arg)

end Sys2Proof.Machine
end

