-- ==== Sys2Proof/Machine/LawCode.lean ====
section
/-! DEFINITION. The law instructions (Table 7-4): a lane fetches the word at its program counter and executes it. -/

namespace Sys2Proof.Machine

open Sys2Proof

/-! ### Lane registers -/

/-- An X register. -/
def LaneSt.xr (s : LaneSt) (i : Nat) : Word := (SMap.get (fun _ => none) s.x i).getD (BitVec.ofNat 32 (Config.runStart i))

/-- A T register, in fine steps. -/
def LaneSt.tr (s : LaneSt) (i : Nat) : Nat := (SMap.get (fun _ => none) s.t i).getD (Config.runStart (64 + i) % 2 ^ 67)

/-- An accumulator. -/
def LaneSt.acc (s : LaneSt) (i : Nat) : Int := if i = 0 then s.acc0 else s.acc1

/-- A word of the state window. -/
def LaneSt.win (s : LaneSt) (i : Nat) : Word := (SMap.get (fun _ => none) s.window i).getD (BitVec.ofNat 32 (Config.runStart (128 + i)))

/-- The state window takes a word. -/
def LaneSt.setWin (s : LaneSt) (i : Nat) (v : Word) : LaneSt := { s with window := SMap.put (fun _ => none) s.window i (some v) }

/-- A resource is ready from cycle `n`. -/
def LaneSt.readyFrom (s : LaneSt) (key n : Nat) : LaneSt := { s with ready := SMap.put (fun _ => 0) s.ready key n }

/-- An X register takes a value that is ready from cycle `n`. -/
def LaneSt.setX (s : LaneSt) (i : Nat) (v : Word) (n : Nat) : LaneSt :=
  LaneSt.readyFrom { s with x := SMap.put (fun _ => none) s.x i (some v) } i n

/-- A T register takes a time modulo 2^67, ready from cycle `n`. -/
def LaneSt.setT (s : LaneSt) (i v n : Nat) : LaneSt :=
  LaneSt.readyFrom { s with t := SMap.put (fun _ => none) s.t i (some (v % 2 ^ 67)) } (64 + i) n

/-- An accumulator takes a value, ready from cycle `n`. -/
def LaneSt.setAcc (s : LaneSt) (i : Nat) (v : Int) (n : Nat) : LaneSt :=
  LaneSt.readyFrom (if i = 0 then { s with acc0 := v } else { s with acc1 := v }) (80 + i) n

/-- S after an operation that may have saturated (R192). -/
def LaneSt.satS (s : LaneSt) (b : Bool) (n : Nat) : LaneSt :=
  LaneSt.readyFrom { s with fl := s.fl.sat b } 84 (Nat.max n (SMap.get (fun _ => 0) s.ready 84))

/-- Z and N of an ALU result. -/
def LaneSt.zn (s : LaneSt) (r : Word) (n : Nat) : LaneSt := LaneSt.readyFrom { s with fl := s.fl.result r } 82 n

/-- A lane after an instruction of the ALU: destination, flags Z and N, and S. -/
def LaneSt.alu (s : LaneSt) (d : Nat) (r : Word × Bool) (n : Nat) : LaneSt := ((s.setX d r.1 n).zn r.1 n).satS r.2 n

/-! ### Issue -/

/-- The word the lane would execute next, with its run; none while no run can issue. Runs go on in a Quay that has released the token or is isolated, until its reset (R335, R494). -/
def Chip.fetched (c : Chip) (q : Quay) (l : Nat) : Option (LawWord × Run) :=
  match (c.laneOf q l).run, (c.laneOf q l).halted with
  | some r, false => if r.stall.isNone && !c.flag (pgFLT q.idx) Reg.FLTR.REG_STAT_RESTARTING then some (c.lawWord q r.pc, r) else none
  | _, _ => none

/-- The cycle in which an instruction with these sources issues (R181). -/
def Chip.issueCycle (c : Chip) (q : Quay) (l : Nat) (r : Run) (srcs : List Nat) : Nat :=
  (srcs.map fun k => SMap.get (fun _ => 0) (c.laneOf q l).ready k).foldl Nat.max r.cyc

/-- The lane executes the fetched word if its opcode is one of the command's. A run at its budget aborts with OVERTIME, before an undefined word would abort it with ILLEGAL (R181, R185, R186). -/
def lawStep (q : Quay) (l : Nat) (mine : Nat → Bool) (srcs : LawWord → List Nat) (body : LawWord → Run → Nat → Act) : Act :=
  .dyn fun c =>
    match c.fetched q l with
    | none => .skip
    | some (w, r) =>
      let n := c.issueCycle q l r (srcs w)
      if !mine w.op then .skip
      else if r.budget ≤ n then overtime q l r
      else if !w.legal || decide (32767 < r.pc) then abortRun q l abILLEGAL
      else .seq (modLaneOf q l fun s => { s with run := some { r with pc := r.pc + 1, cyc := n + 1 } }) (body w r n)

/-- An instruction that only changes its lane: from the chip at issue, the word, the run, the cycle and the lane. -/
def lawLane (q : Quay) (l op : Nat) (srcs : LawWord → List Nat) (f : Chip → LawWord → Run → Nat → LaneSt → LaneSt) : Act :=
  lawStep q l (fun o => o == op) srcs fun w r n => .dyn fun c => modLaneOf q l (f c w r n)

/-- Sources A and B. -/
def srcAB (w : LawWord) : List Nat := [w.a, w.b]
/-- Source A. -/
def srcA (w : LawWord) : List Nat := [w.a]
/-- No source. -/
def src0 (_ : LawWord) : List Nat := []
/-- Source T(a). -/
def srcT (w : LawWord) : List Nat := [64 + w.a]

/-! ### Samples, coefficients, state -/

/-- NOP; an opcode that Table 7-4 does not list is fetched here and aborts the run (R186). -/
def execNop (dt : Nat) (q : Quay) (l : Fin 8) (s : State) : Host.Outcome State Fault Refusal :=
  s.act dt (lawStep q l (fun o => o == 0x00 || !lawOpcodes.contains o) src0 fun _ _ _ => .skip)

/-- What an LDS returns: the value and whether its conditioning saturated, V, SLOT_LOST, and the stamp, which is open where no sample is returned (R189, R190). -/
structure LdsVal where
  v : Word
  sat : Bool
  valid : Bool
  lost : Bool
  stamp : Nat
  deriving DecidableEq, Repr

/-- An LDS of a slot for the sample at `tick` in a run launched at `tL`; none while it stalls (R190). -/
def Chip.ldsVal (c : Chip) (q : Quay) (tL slot tick : Nat) : Option LdsVal :=
  let free := Config.runStart 86 % 2 ^ 64
  match c.ldsLook q slot tick with
  | .off => some ⟨0, false, false, false, free⟩
  | .lost => some ⟨0, false, false, true, free⟩
  | .found x =>
    let g := c.coef q tL (2 * slot)
    let o := c.coef q tL (2 * slot + 1)
    let v : Word × Bool := if x.valid then condition x.value g.1 o.1 g.2.1 g.2.2 else (0, false)
    some ⟨v.1, v.2, x.valid, false, x.stamp⟩
  | .wait => none

/-- What every LDS writes beside its lane: SLOT_LOST, and the record of REC_CFG (R190, R204, R209). -/
def ldsReport (q : Quay) (l slot : Nat) (x : Launch) (v : LdsVal) : Act :=
  seqs [when v.lost (seqs [bump (pgLANE q l) Reg.LANE.SLOT_LOST_CNT, evt (pgLANE q l) 5, .dyn fun c => record (pgLANE q l) l 0x03 c.t slot x.law]),
    .dyn fun c =>
      let p := pgLANE q l
      when (c.flag p Reg.LANE.REC_CFG_REC)
        (tapWrite q l x (c.fld p Reg.LANE.REC_CFG_TAP)
          ([slot + (if v.valid then 2 ^ 8 else 0) + (if v.lost then 2 ^ 9 else 0), v.v.toNat, v.stamp % 2 ^ 32, v.stamp / 2 ^ 32].map (BitVec.ofNat 32)))]

/-- A lane stalls on a slot (R190). -/
def stallOn (q : Quay) (l slot tick d : Nat) : Act :=
  .dyn fun c => .seq (modLaneOf q l fun s => { s with run := s.run.map fun r => { r with stall := some (slot, tick, d, c.t) } })
    (putFlag (pgLANE q l) Reg.LANE.LANE_STAT_STALLED true)

/-- A stall ends (R185, R207). -/
def stallEnd (q : Quay) (l since : Nat) : Act :=
  .dyn fun c =>
    seqs [modLaneOf q l fun s => { s with run := s.run.map fun r => { r with stall := none, stalled := r.stalled + (c.t - since) } },
      putFlag (pgLANE q l) Reg.LANE.LANE_STAT_STALLED false, putMax (pgLANE q l) Reg.LANE.STALL_MAX (c.t - since)]

/-- An LDS that names the sample at `tick` of a slot, issued in cycle `n`: it stalls, or Xd, V, S and the stamp register take what it returns (R190). -/
def ldsTry (q : Quay) (l slot tick d n : Nat) : Act :=
  .dyn fun c =>
    match (c.laneOf q l).run with
    | none => .skip
    | some r =>
      match c.ldsVal q r.launch.tL slot tick with
      | none => stallOn q l slot tick d
      | some v =>
        .seq (ldsReport q l slot r.launch v) (modLaneOf q l fun s =>
          let s1 := ((s.setX d v.v (n + 14)).satS v.sat (n + 14)).readyFrom 86 (n + 14)
          LaneSt.readyFrom { s1 with fl := s1.fl.valid v.valid, run := s1.run.map fun r => { r with stamp := v.stamp } } 83 (n + 14))

/-- LDS (R190). -/
def execLds (dt : Nat) (q : Quay) (l : Fin 8) (s : State) : Host.Outcome State Fault Refusal :=
  s.act dt (lawStep q l (fun o => o == 0x01) srcT fun w _ n =>
    .dyn fun c => ldsTry q l (w.immBits 0 8) ((c.laneOf q l).tr w.a / 8) w.d n)

/-- LDC. -/
def execLdc (dt : Nat) (q : Quay) (l : Fin 8) (s : State) : Host.Outcome State Fault Refusal :=
  s.act dt (lawLane q l 0x02 src0 fun c w r n s => s.setX w.d (c.coef q r.launch.tL w.imm).1 (n + 4))

/-- LDM. -/
def execLdm (dt : Nat) (q : Quay) (l : Fin 8) (s : State) : Host.Outcome State Fault Refusal :=
  s.act dt (lawLane q l 0x03 src0 fun _ w _ n s => s.setX w.d (s.win (w.immBits 0 9)) (n + 2))

/-- STM. -/
def execStm (dt : Nat) (q : Quay) (l : Fin 8) (s : State) : Host.Outcome State Fault Refusal :=
  s.act dt (lawLane q l 0x04 srcA fun _ w _ _ s => s.setWin (w.immBits 0 9) (s.xr w.a))

/-- MOVI. -/
def execMovi (dt : Nat) (q : Quay) (l : Fin 8) (s : State) : Host.Outcome State Fault Refusal :=
  s.act dt (lawLane q l 0x05 src0 fun _ w _ n s => s.setX w.d (BitVec.ofNat 32 w.imm) (n + 1))

/-! ### Multiply and accumulate -/

/-- MULC (R193). -/
def execMulc (dt : Nat) (q : Quay) (l : Fin 8) (s : State) : Host.Outcome State Fault Refusal :=
  s.act dt (lawLane q l 0x08 srcA fun c w r n s =>
    let k := c.coef q r.launch.tL w.imm
    let v := mulRead (s.xr w.a) k.1 k.2.1 k.2.2
    (s.setX w.d v.1 (n + 10)).satS v.2 (n + 10))

/-- MULX (R193). -/
def execMulx (dt : Nat) (q : Quay) (l : Fin 8) (s : State) : Host.Outcome State Fault Refusal :=
  s.act dt (lawLane q l 0x09 srcAB fun _ w _ n s =>
    let v := mulRead (s.xr w.a) (s.xr w.b) (w.immBits 0 6) (w.immBits 6 2)
    (s.setX w.d v.1 (n + 10)).satS v.2 (n + 10))

/-- MACC (R194). -/
def execMacc (dt : Nat) (q : Quay) (l : Fin 8) (s : State) : Host.Outcome State Fault Refusal :=
  s.act dt (lawLane q l 0x0A srcA fun c w r n s =>
    let k := c.coef q r.launch.tL w.imm
    let v := macc (s.acc w.d) (s.xr w.a) k.1 k.2.1
    (s.setAcc w.d v.1 (n + 10)).satS v.2 (n + 10))

/-- RDACC (R193). -/
def execRdacc (dt : Nat) (q : Quay) (l : Fin 8) (s : State) : Host.Outcome State Fault Refusal :=
  s.act dt (lawLane q l 0x0B (fun w => [80 + w.a]) fun _ w _ n s =>
    let v := accRead (s.acc w.a) (w.immBits 0 2)
    let s1 := (s.setX w.d v.1 (n + 3)).satS v.2 (n + 3)
    if w.immBits 2 1 = 1 then s1.setAcc w.a 0 (n + 3) else s1)

/-- CLRA. -/
def execClra (dt : Nat) (q : Quay) (l : Fin 8) (s : State) : Host.Outcome State Fault Refusal :=
  s.act dt (lawLane q l 0x0C src0 fun _ w _ n s => s.setAcc w.d 0 (n + 1))

/-! ### Arithmetic and logic -/

/-- ADD (R195). -/
def execAdd (dt : Nat) (q : Quay) (l : Fin 8) (s : State) : Host.Outcome State Fault Refusal :=
  s.act dt (lawLane q l 0x10 srcAB fun _ w _ n s => s.alu w.d (satWord ((s.xr w.a).toInt + (s.xr w.b).toInt)) (n + 2))

/-- SUB (R195). -/
def execSub (dt : Nat) (q : Quay) (l : Fin 8) (s : State) : Host.Outcome State Fault Refusal :=
  s.act dt (lawLane q l 0x11 srcAB fun _ w _ n s => s.alu w.d (satWord ((s.xr w.a).toInt - (s.xr w.b).toInt)) (n + 2))

/-- ADDI (R195). -/
def execAddi (dt : Nat) (q : Quay) (l : Fin 8) (s : State) : Host.Outcome State Fault Refusal :=
  s.act dt (lawLane q l 0x12 srcA fun _ w _ n s => s.alu w.d (satWord ((s.xr w.a).toInt + signed 32 w.imm)) (n + 2))

/-- SHS (R195). -/
def execShs (dt : Nat) (q : Quay) (l : Fin 8) (s : State) : Host.Outcome State Fault Refusal :=
  s.act dt (lawLane q l 0x13 srcA fun _ w _ n s => s.alu w.d (shiftSat (s.xr w.a) w.count) (n + 2))

/-- MIN. -/
def execMin (dt : Nat) (q : Quay) (l : Fin 8) (s : State) : Host.Outcome State Fault Refusal :=
  s.act dt (lawLane q l 0x14 srcAB fun _ w _ n s =>
    s.alu w.d (if (s.xr w.a).toInt ≤ (s.xr w.b).toInt then s.xr w.a else s.xr w.b, false) (n + 2))

/-- MAX. -/
def execMax (dt : Nat) (q : Quay) (l : Fin 8) (s : State) : Host.Outcome State Fault Refusal :=
  s.act dt (lawLane q l 0x15 srcAB fun _ w _ n s =>
    s.alu w.d (if (s.xr w.a).toInt ≤ (s.xr w.b).toInt then s.xr w.b else s.xr w.a, false) (n + 2))

/-- ABS (R195). -/
def execAbs (dt : Nat) (q : Quay) (l : Fin 8) (s : State) : Host.Outcome State Fault Refusal :=
  s.act dt (lawLane q l 0x16 srcA fun _ w _ n s =>
    s.alu w.d (satWord (if (s.xr w.a).toInt < 0 then -(s.xr w.a).toInt else (s.xr w.a).toInt)) (n + 2))

/-- NEG (R195). -/
def execNeg (dt : Nat) (q : Quay) (l : Fin 8) (s : State) : Host.Outcome State Fault Refusal :=
  s.act dt (lawLane q l 0x17 srcA fun _ w _ n s => s.alu w.d (satWord (-(s.xr w.a).toInt)) (n + 2))

/-- CMP: Z and N from the exact difference. -/
def execCmp (dt : Nat) (q : Quay) (l : Fin 8) (s : State) : Host.Outcome State Fault Refusal :=
  s.act dt (lawLane q l 0x18 srcAB fun _ w _ n s => LaneSt.readyFrom { s with fl := s.fl.compare (s.xr w.a) (s.xr w.b) } 82 (n + 2))

/-- AND. -/
def execAnd (dt : Nat) (q : Quay) (l : Fin 8) (s : State) : Host.Outcome State Fault Refusal :=
  s.act dt (lawLane q l 0x19 srcAB fun _ w _ n s => s.alu w.d (s.xr w.a &&& s.xr w.b, false) (n + 1))

/-- OR. -/
def execOr (dt : Nat) (q : Quay) (l : Fin 8) (s : State) : Host.Outcome State Fault Refusal :=
  s.act dt (lawLane q l 0x1A srcAB fun _ w _ n s => s.alu w.d (s.xr w.a ||| s.xr w.b, false) (n + 1))

/-- XOR. -/
def execXor (dt : Nat) (q : Quay) (l : Fin 8) (s : State) : Host.Outcome State Fault Refusal :=
  s.act dt (lawLane q l 0x1B srcAB fun _ w _ n s => s.alu w.d (s.xr w.a ^^^ s.xr w.b, false) (n + 1))

/-- SINCOS (R196). -/
def execSincos (dt : Nat) (q : Quay) (l : Fin 8) (s : State) : Host.Outcome State Fault Refusal :=
  s.act dt (lawLane q l 0x20 srcA fun _ w _ n s =>
    let v := sinCos (s.xr w.a)
    (s.setX w.d v.1 (n + 12)).setX (w.d + 1) v.2 (n + 12))

/-- DIV (R197); a second DIV or SQRT waits until the first completes (Table 7-1). -/
def execDiv (dt : Nat) (q : Quay) (l : Fin 8) (s : State) : Host.Outcome State Fault Refusal :=
  s.act dt (lawStep q l (fun o => o == 0x21) (fun w => [w.a, w.b, 85]) fun w _ n => .dyn fun c =>
    let x := (c.laneOf q l).xr w.a
    let y := (c.laneOf q l).xr w.b
    let v := quotient x y (w.immBits 0 5)
    .seq (modLaneOf q l fun s => ((s.setX w.d v.1 (n + 36)).satS v.2 (n + 36)).readyFrom 85 (n + 36))
      (when (y == 0) (.seq (bump (pgLANE q l) Reg.LANE.DIVZ_CNT) (evt (pgLANE q l) 7))))

/-- SQRT (R197). -/
def execSqrt (dt : Nat) (q : Quay) (l : Fin 8) (s : State) : Host.Outcome State Fault Refusal :=
  s.act dt (lawLane q l 0x22 (fun w => [w.a, 85]) fun _ w _ n s =>
    let v := rootQ31 (s.xr w.a)
    ((s.setX w.d v.1 (n + 36)).satS v.2 (n + 36)).readyFrom 85 (n + 36))

/-! ### Time and outputs -/

/-- The time that GETT selects, in fine steps (R198). -/
def Run.gett (r : Run) (sel : Nat) : Nat :=
  let g := (r.launch.fgs.find? fun e => e.1 == r.fg).map Prod.snd
  match sel, g with
  | 0, _ => 8 * r.launch.tL
  | 1, some (b, _) => 8 * b
  | 2, some (b, p) => 8 * (b + p)
  | 3, _ => 8 * r.stamp
  | 4, some (_, p) => 8 * p
  | _, _ => 0

/-- GETT (R198); selector 3 waits for the LDS stamp register (Table 7-4). -/
def execGett (dt : Nat) (q : Quay) (l : Fin 8) (s : State) : Host.Outcome State Fault Refusal :=
  s.act dt (lawLane q l 0x28 (fun w => if w.immBits 0 3 = 3 then [86] else []) fun _ w r n s => s.setT w.d (r.gett (w.immBits 0 3)) (n + 2))

/-- A time moved by a signed number of fine steps, modulo 2^67. -/
def timeAdd (t : Nat) (d : Int) : Nat := (((t : Int) + d) % 2 ^ 67).toNat

/-- TADD. -/
def execTadd (dt : Nat) (q : Quay) (l : Fin 8) (s : State) : Host.Outcome State Fault Refusal :=
  s.act dt (lawLane q l 0x29 (fun w => [64 + w.a, w.b]) fun _ w _ n s => s.setT w.d (timeAdd (s.tr w.a) (s.xr w.b).toInt) (n + 3))

/-- TADDI. -/
def execTaddi (dt : Nat) (q : Quay) (l : Fin 8) (s : State) : Host.Outcome State Fault Refusal :=
  s.act dt (lawLane q l 0x2A srcT fun _ w _ n s => s.setT w.d (timeAdd (s.tr w.a) (signed 32 w.imm)) (n + 3))

/-- TSUB. -/
def execTsub (dt : Nat) (q : Quay) (l : Fin 8) (s : State) : Host.Outcome State Fault Refusal :=
  s.act dt (lawLane q l 0x2B (fun w => [64 + w.a, 64 + w.b]) fun _ w _ n s =>
    let v := satWord ((s.tr w.a : Int) - s.tr w.b)
    (s.setX w.d v.1 (n + 3)).satS v.2 (n + 3))

/-- An edge entry leaves the lane (R187, R199). -/
def sendEntry (q : Quay) (l block : Nat) (t kind leg : Nat) : Act :=
  modOutbox fun o => o ++ [⟨q, l, block, BitVec.ofNat 32 (t / 8), BitVec.ofNat 32 ((if kind = 0 then 0 else t % 8) + 16 * kind + 256 * leg)⟩]

/-- EDGE (R199). -/
def execEdge (dt : Nat) (q : Quay) (l : Fin 8) (s : State) : Host.Outcome State Fault Refusal :=
  s.act dt (lawStep q l (fun o => o == 0x30) srcT fun w _ _ => .dyn fun c =>
    sendEntry q l (w.immBits 0 5) ((c.laneOf q l).tr w.a) (w.immBits 8 2) (w.immBits 5 2))

/-- CLOSE (R199). -/
def execClose (dt : Nat) (q : Quay) (l : Fin 8) (s : State) : Host.Outcome State Fault Refusal :=
  s.act dt (lawStep q l (fun o => o == 0x31) srcT fun w _ _ => .dyn fun c =>
    sendEntry q l (w.immBits 0 5) ((c.laneOf q l).tr w.a) 0 0)

/-- VCMD: the command word leaves for the VCL with the launch tick (R187, R266). -/
def execVcmd (dt : Nat) (q : Quay) (l : Fin 8) (s : State) : Host.Outcome State Fault Refusal :=
  s.act dt (lawStep q l (fun o => o == 0x32) srcA fun w r _ => .dyn fun c =>
    modVcmds fun v => v ++ [(q, l.val, (c.laneOf q l).xr w.a, r.launch.tL)])

/-- A mailbox word. -/
def mailboxAddr (q : Quay) (i : Nat) : Nat := q.origin + 0x2A000 + 4 * i

/-- MBX (R201). -/
def execMbx (dt : Nat) (q : Quay) (l : Fin 8) (s : State) : Host.Outcome State Fault Refusal :=
  s.act dt (lawStep q l (fun o => o == 0x33) srcA fun w _ _ => .dyn fun c =>
    setWord (mailboxAddr q (w.immBits 0 9)) ((c.laneOf q l).xr w.a))

/-- MBX2: an even-odd pair in one step (R201). -/
def execMbx2 (dt : Nat) (q : Quay) (l : Fin 8) (s : State) : Host.Outcome State Fault Refusal :=
  s.act dt (lawStep q l (fun o => o == 0x34) srcAB fun w _ _ => .dyn fun c =>
    .seq (setWord (mailboxAddr q w.imm) ((c.laneOf q l).xr w.a)) (setWord (mailboxAddr q (w.imm + 1)) ((c.laneOf q l).xr w.b)))

/-- TAP (R203). -/
def execTap (dt : Nat) (q : Quay) (l : Fin 8) (s : State) : Host.Outcome State Fault Refusal :=
  s.act dt (lawStep q l (fun o => o == 0x35) (fun w => (List.range (w.immBits 4 3 + 1)).map fun i => w.a + i) fun w r _ => .dyn fun c =>
    tapWrite q l r.launch (w.immBits 0 4) ((List.range (w.immBits 4 3 + 1)).map fun i => (c.laneOf q l).xr (w.a + i)))

/-- INJ (R202). -/
def execInj (dt : Nat) (q : Quay) (l : Fin 8) (s : State) : Host.Outcome State Fault Refusal :=
  s.act dt (lawLane q l 0x36 src0 fun _ w r n s => s.setX w.d (r.launch.injValue (w.immBits 0 2)) (n + 2))

/-! ### Control -/

/-- The flag that a BR waits for. -/
def srcBr (w : LawWord) : List Nat :=
  match w.d % 8 with
  | 0 => []
  | 1 | 2 | 3 | 4 => [82]
  | 5 | 6 => [83]
  | _ => [84]

/-- BR: three cycles, taken or not. -/
def execBr (dt : Nat) (q : Quay) (l : Fin 8) (s : State) : Host.Outcome State Fault Refusal :=
  s.act dt (lawStep q l (fun o => o == 0x38) srcBr fun w _ n => modLaneOf q l fun s =>
    { s with run := s.run.map fun r => { r with pc := if s.fl.holds (w.d % 8) then w.imm else r.pc, cyc := n + 3 } })

/-- The run of a lane ends: its state is published, and a run that saturated is recorded (R184, R207, R209). -/
def endRun (q : Quay) (l : Nat) (r : Run) (cycles : Nat) (ws : List Word) (sat : Bool) : Act :=
  .dyn fun c =>
    let p := pgLANE q l
    seqs [publish q r.state ws, modLaneOf q l fun s => { s with run := none }, putRunning q l false,
      putMax p Reg.LANE.RUN_CYC_MAX cycles, putMax p Reg.LANE.RUN_TICKS_MAX (c.t - r.launch.tL),
      when sat (seqs [bump p Reg.LANE.SAT_CNT, evt p 6, record p l 0x04 c.t r.launch.law cycles])]

/-- END (R184). -/
def execEnd (dt : Nat) (q : Quay) (l : Fin 8) (s : State) : Host.Outcome State Fault Refusal :=
  s.act dt (lawStep q l (fun o => o == 0x3F) src0 fun _ r n => .dyn fun c =>
    endRun q l r (n + 1) ((List.range r.words).map (c.laneOf q l).win) (c.laneOf q l).fl.s)

/-! ### Law images -/

/-- The run of a law image ends: `words`, whose layout the manual does not give, are published and `keep` keeps its state, or it has overrun BUDGET and publishes nothing (R184, R185, log entry 8). -/
def imageEnd (q : Quay) (l cycles : Nat) (sat : Bool) (words : List Word) (keep : Act) : Act :=
  .dyn fun c =>
    match (c.laneOf q l).run with
    | none => .skip
    | some r =>
      if r.budget < cycles then abortRun q l abOVERTIME
      else .seq keep (endRun q l r cycles ((List.range r.words).map fun i => words.getD i 0) sat)

/-- The samples of a law image in the order of their reads, as its arithmetic takes them. -/
def lawSamples (reads : List (Nat × Nat)) (val : Nat → Nat → LdsVal) : List (Word × Bool × Nat) :=
  reads.map fun e => let v := val e.1 e.2; (v.v, v.valid, v.stamp)

/-- A law image reads its samples, slot and tick, in turn: it stalls on the first that has not arrived; else `k` follows with what each read returns and whether one saturated (R190). -/
def imageReads (q : Quay) (l : Nat) (x : Launch) (reads : List (Nat × Nat)) (k : (Nat → Nat → LdsVal) → Bool → Act) : Act :=
  .dyn fun c =>
    match reads.find? fun e => (c.ldsVal q x.tL e.1 e.2).isNone with
    | some (slot, tick) => stallOn q l slot tick 0
    | none =>
      let val := fun slot tick => (c.ldsVal q x.tL slot tick).getD ⟨0, false, false, false, 0⟩
      .seq (each reads fun e => ldsReport q l e.1 x (val e.1 e.2)) (k val (reads.any fun e => (val e.1 e.2).sat))

end Sys2Proof.Machine
end

