-- ==== Sys2Proof/Machine/Power.lean ====
section
/-! DEFINITION. The converter supervisor CNV and the voltage command line VCL (Chapter 10, R264 to R292). -/

namespace Sys2Proof.Machine

open Sys2Proof

/-! ### Converter state -/

/-- STATE of Table 10-7. -/
def Chip.cnvState (c : Chip) : Nat := c.fld pgCNV Reg.CNV.CNV_STAT_STATE

def cvOFF : Nat := 0
def cvTRACK : Nat := 1
def cvRUN : Nat := 2
def cvANNOUNCE : Nat := 3
def cvSHUTDOWN : Nat := 5
def cvFAULT : Nat := 6

/-- Phases of the converter as a mask. -/
def Chip.cnvPhases (c : Chip) : Nat := 2 ^ c.act pgCNV Reg.CNV.CNV_CFG_PHASES - 1

/-- Legs of the converter whose EN is 1 (R261). -/
def Chip.cnvLegs (c : Chip) : List Nat :=
  ((List.range (c.act pgCNV Reg.CNV.CNV_CFG_PHASES)).map fun j => 4 * c.act pgCNV Reg.CNV.CNV_CFG_FIRST_BLK + j).filter fun n => c.en (pgLEG n)

/-- Leg blocks of the converter (R261). -/
def Chip.cnvBlocks (c : Chip) : List Nat :=
  (List.range ((c.act pgCNV Reg.CNV.CNV_CFG_PHASES + 3) / 4)).map fun j => c.act pgCNV Reg.CNV.CNV_CFG_FIRST_BLK + j

/-- A leg of the converter has WARN, or TRIP (R280). -/
def Chip.cnvWarn (c : Chip) : Bool := c.cnvLegs.any fun n => c.tempWARN (8 + n)
def Chip.cnvTrip (c : Chip) : Bool := c.cnvLegs.any fun n => c.tempTRIP (8 + n)

/-- The view of CNV_STAT. -/
def Chip.cnvStat (c : Chip) : Word :=
  ((c.word (pgCNV.base + 0x054)).setBits 3 1 (if c.cnvWarn then 1 else 0)).setBits 4 1 (if c.cnvTrip then 1 else 0)

/-- The view of VCL_STAT: EXT_OK while a valid frame lies within EXT_TIMEOUT (Table 10-13). -/
def Chip.vclStat (c : Chip) : Word :=
  let w := c.word (pgVCL.base + 0x0A0)
  let ms := c.act pgVCL Reg.VCL.VCL_CFG_EXT_TIMEOUT
  w.setBits 0 1 (if w.getLsbD 0 && (ms == 0 || c.cnvSt.okAt.any fun t => decide (c.t < t + 2500000 * ms)) then 1 else 0)

/-- LEVEL events of CNV (R290). -/
def Chip.cnvLevels (c : Chip) : Nat :=
  (if c.cnvWarn then 2 ^ 4 else 0) + (if c.cnvState = cvSHUTDOWN then 2 ^ 5 else 0) +
    (if c.flag pgCNV Reg.CNV.CNV_STAT_IMB then 2 ^ 6 else 0) + (if c.cnvState = cvFAULT then 2 ^ 7 else 0)

/-- LEVEL event of VCL (R292). -/
def Chip.vclLevels (c : Chip) : Nat := if c.flag pgVCL Reg.VCL.VCL_STAT_EXT_LOST then 2 ^ 3 else 0

/-- OT_WARN is raised at the boundary (R290). -/
def cnvTemps : Act := raiseLevels pgCNV Chip.cnvLevels

/-- The converter enters a state (R281, R290). -/
def cnvTo (st stamp : Nat) : Act :=
  .dyn fun c => when (c.cnvState != st)
    (seqs [put pgCNV Reg.CNV.CNV_STAT_STATE st, evt pgCNV 0, record pgCNV 0 0x01 stamp st c.cnvState, raiseLevels pgCNV Chip.cnvLevels])

/-- ACTIVE and ANNOUNCE with the number of active phases (Table 10-12). -/
def putPhases (active announce : Nat) : Act :=
  seqs [put pgCNV Reg.CNV.PHASE_STAT_ACTIVE active, put pgCNV Reg.CNV.PHASE_STAT_ANNOUNCE announce,
    put pgCNV Reg.CNV.CNV_STAT_N_ACTIVE (((List.range 16).filter fun j => active.testBit j).length)]

/-- The ramp point, at most V_MAX (R269). -/
def putRamp (mv : Nat) : Act := .dyn fun c => put pgVCL Reg.VCL.RAMP (Nat.min mv (100 * c.act pgVCL Reg.VCL.V_LIMITS_V_MAX))

/-! ### Acknowledgements -/

def akACCEPTED : Nat := 1
def akREFUSED : Nat := 2
def akSUPERSEDED : Nat := 3
def akREACHED : Nat := 4
def akABORTED : Nat := 5

/-- Reasons of Table 10-4. -/
def reSOURCE : Nat := 1
def reRANGE : Nat := 2
def reLATE : Nat := 3
def reSTATE : Nat := 4
def reFORMAT : Nat := 5
def reTIMEOUT : Nat := 6
def reSHUTDOWN : Nat := 7
def reFAULT : Nat := 8
def reSTOP : Nat := 9

/-- The acknowledgement word of Table 10-4. -/
def ackWord (tag code reason src ramp : Nat) : Word := BitVec.ofNat 32 (tag % 16 + 2 ^ 4 * code + 2 ^ 8 * reason + 2 ^ 12 * src + 2 ^ 16 * (ramp / 100))

/-- A command word is acknowledged (R268, R271, R292). -/
def ack (word : Word) (src code reason stamp : Nat) : Act :=
  .dyn fun c =>
    let w := ackWord (word.bits 16 4) code reason src (c.fld pgVCL Reg.VCL.RAMP)
    seqs [put pgVCL Reg.VCL.LAST_ACK w.toNat, put pgVCL Reg.VCL.LAST_ACK_TIDE stamp, evt pgVCL 0,
      when (code == akACCEPTED) (bumpWrap pgVCL Reg.VCL.CMD_CNT),
      when (code == akREFUSED) (.seq (bump pgVCL Reg.VCL.REFUSED_CNT) (evt pgVCL 1)),
      when (code == akREACHED) (evt pgVCL 2),
      record pgVCL 0 0x01 stamp w.toNat word.toNat,
      when (src == 2) (modCnvS fun s => { s with tx := s.tx ++ [w] })]

/-- The active SET ends with an acknowledgement, and no SET is active (R268, R270). -/
def endActive (code reason stamp : Nat) : Act :=
  .dyn fun c =>
    match c.cnvSt.active with
    | none => .skip
    | some s => seqs [ack s.word s.src code reason stamp, modCnvS fun x => { x with active := none }, putFlag pgVCL Reg.VCL.TARGET_ACTIVE false]

/-! ### Acceptance -/

/-- The word is valid (Table 10-3). -/
def vclValid (w : Word) : Bool :=
  match w.bits 29 3 with
  | 0 => w.bits 0 29 == 0
  | 1 => w.bits 22 7 == 0
  | 2 => w.bits 22 7 == 0
  | 3 => w.bits 16 13 == 0
  | _ => false

/-- First boundary of generator `g` at or after tick `x`. -/
def Chip.firstBoundary (c : Chip) (g x : Nat) : Nat :=
  let n := c.fgNext g
  let p := c.fgPeriod g
  if n ≤ x then n + (x - n + p - 1) / p * p else n - (n - x) / p * p

/-- CNV is in OFF, SHUTDOWN or FAULT (R268). -/
def Chip.cnvDown (c : Chip) : Bool := c.cnvState == cvOFF || c.cnvState == cvSHUTDOWN || c.cnvState == cvFAULT

/-- A SET is judged and answered; it applies at boundary `b` (R266 to R268). Of several reasons to refuse, the lowest code is given. -/
def acceptSet (word : Word) (src b : Nat) (late : Bool) (stamp : Nat) : Act :=
  .dyn fun c =>
    let v := word.bits 0 16
    let reason :=
      if c.act pgVCL Reg.VCL.VCL_CFG_SRC ≠ src then reSOURCE
      else if v < c.act pgVCL Reg.VCL.V_LIMITS_V_MIN ∨ c.act pgVCL Reg.VCL.V_LIMITS_V_MAX < v ∨ c.act pgVCL Reg.VCL.V_LIMITS_V_MAX = 0 then reRANGE
      else if late then reLATE
      else if c.cnvDown then reSTATE
      else 0
    if reason = 0 then .seq (modCnvS fun s => { s with sets := s.sets ++ [⟨b, word, src⟩] }) (ack word src akACCEPTED 0 stamp)
    else ack word src akREFUSED reason stamp

/-- VCL_CMD_ACCEPT: the oldest VCMD word on its way reaches the VCL (R33, R266, R267). -/
def execVclCmdAccept (dt : Nat) (s : State) : Host.Outcome State Fault Refusal :=
  s.act dt (.dyn fun c =>
    match c.vcmds with
    | [] => .skip
    | (q, lane, w, tL) :: rest =>
      .seq (modVcmds fun _ => rest)
        (when (c.owner == some q && c.on pgVCL)
          (let b := c.firstBoundary (c.fgOf pgVCL) (tL + c.act pgVCL Reg.VCL.APPLY_LEAD)
           let late := decide (b < c.t + 250)
           if !vclValid w then bump pgVCL Reg.VCL.REFUSED_CNT
           else match w.bits 29 3 with
             | 0 => .skip
             | 1 => if lane ≠ c.act pgVCL Reg.VCL.VCL_CFG_CMD_LANE then ack w 0 akREFUSED reSOURCE c.t else acceptSet w 0 b late c.t
             | kind =>
               if lane ≠ c.act pgCNV Reg.CNV.CNV_CFG_LANE then bump pgVCL Reg.VCL.REFUSED_CNT
               else if late then .seq (bump pgVCL Reg.VCL.REPORT_LATE_CNT) (evt pgVCL 4)
               else if kind = 2 then modCnvS fun s => { s with reports := s.reports ++ [(b, w)] }
               else modCnvS fun s => { s with trackrefs := s.trackrefs ++ [(b, w)] })))

/-- A VSTEP action due at `due` issues the staged command of slot `arg` (R267). -/
def vstep (arg due : Nat) : Act :=
  .dyn fun c => when (c.on pgVCL)
    (let w : Word := if arg < 8 then BitVec.ofNat 32 (c.act pgVCL Reg.VCL.SLOT arg) else 0
     if c.act pgVCL Reg.VCL.VCL_CFG_SRC ≠ 1 then ack w 1 akREFUSED reSOURCE due
     else if 8 ≤ arg ∨ !vclValid w ∨ w.bits 29 3 ≠ 1 then ack w 1 akREFUSED reFORMAT due
     else acceptSet w 1 (c.firstBoundary (c.fgOf pgVCL) (due + 250)) false due)

/-! ### The external pair -/

/-- An EXT_LOST record waits for the boundary, whose tick it carries (R292). -/
def extLostRecord (set : Nat) : Act := modCnvS fun x => { x with lostRecs := x.lostRecs ++ [set] }

/-- VCL_EXT_FRAME: a frame of 0xA5, a word and its CRC has arrived whole (R266, R267, R271, R272). -/
def execVclExtFrame (dt : Nat) (w : Word) (crc : BitVec 8) (s : State) : Host.Outcome State Fault Refusal :=
  s.act dt (.dyn fun c => when (c.on pgVCL)
    (if crc.toNat ≠ crc8 (wordBytes w) ∨ !vclValid w then bump pgVCL Reg.VCL.EXT_ERR_CNT
     else seqs [
       modCnvS fun x => { x with heard := c.t, okAt := some c.t },
       putFlag pgVCL Reg.VCL.VCL_STAT_EXT_OK true,
       when (c.flag pgVCL Reg.VCL.VCL_STAT_EXT_LOST)
         (.seq (putFlag pgVCL Reg.VCL.VCL_STAT_EXT_LOST false) (extLostRecord 0)),
       match w.bits 29 3 with
       | 0 => .skip
       | 1 => acceptSet w 2 (c.firstBoundary (c.fgOf pgVCL) (c.t + 250)) false c.t
       | _ => bump pgVCL Reg.VCL.REFUSED_CNT]))

/-- EXT_FRAME_INVALID: a partial frame or one with a bad CRC is discarded (R271). -/
def execExtFrameInvalid (dt : Nat) (s : State) : Host.Outcome State Fault Refusal :=
  s.act dt (whenC (fun c => c.on pgVCL) (bump pgVCL Reg.VCL.EXT_ERR_CNT))

/-- VCL_EXT_TIMEOUT: EXT_TIMEOUT ms without a valid frame while SRC is EXTERNAL (R272). -/
def execVclExtTimeout (dt : Nat) (s : State) : Host.Outcome State Fault Refusal :=
  s.act dt (.dyn fun c =>
    let ms := c.act pgVCL Reg.VCL.VCL_CFG_EXT_TIMEOUT
    when (c.on pgVCL && c.act pgVCL Reg.VCL.VCL_CFG_SRC == 2 && ms != 0 && !c.flag pgVCL Reg.VCL.VCL_STAT_EXT_LOST)
      (seqs [atTick (c.cnvSt.heard + 2500000 * ms), modCnvS fun x => { x with abort_ := true },
        putFlag pgVCL Reg.VCL.VCL_STAT_EXT_OK false, putFlag pgVCL Reg.VCL.VCL_STAT_EXT_LOST true,
        extLostRecord 1, raiseLevels pgVCL Chip.vclLevels]))

/-- VCL_ACK_SEND: the oldest waiting acknowledgement leaves on VCL_TX (R271). -/
def execVclAckSend (dt : Nat) (s : State) : Host.Outcome State Fault Refusal :=
  s.act dt (modCnvS fun x =>
    match x.tx with
    | [] => x
    | w :: rest => { x with tx := rest, sent := 0x5A :: wordBytes w ++ [crc8 (wordBytes w)] })

/-! ### Control writes -/

/-- A write of START, STOP or RESTART (0, 1, 2) is accepted, or recorded as CTRL_REFUSED (R280, R289). -/
def cnvControl (src : Src) (kind : Nat) : Act :=
  onPage src pgCNV 0x050 true (.dyn fun c =>
    let ok := match kind with
      | 0 => c.cnvState == cvOFF && c.cnvBlocks.all fun k => c.en (pgLead k)
      | 1 => true
      | _ => c.cnvState == cvFAULT || (c.cnvState == cvSHUTDOWN && !c.cnvTrip)
    if ok then modCnvS fun x => { x with ctrl := x.ctrl ++ [(kind, c.boundaryWait pgCNV)] }
    else .seq (err pgCNV 0x43 src.code) (evt pgCNV 8))

/-- CNV_START (R289). -/
def execCnvStart (dt : Nat) (src : Src) (s : State) : Host.Outcome State Fault Refusal := s.act dt (cnvControl src 0)

/-- CNV_STOP (R289). -/
def execCnvStop (dt : Nat) (src : Src) (s : State) : Host.Outcome State Fault Refusal := s.act dt (cnvControl src 1)

/-- CNV_RESTART (R289). -/
def execCnvRestart (dt : Nat) (src : Src) (s : State) : Host.Outcome State Fault Refusal := s.act dt (cnvControl src 2)

/-! ### The boundary -/

/-- CNV enters FAULT with a cause (R270, R281). -/
def cnvFault (cause stamp : Nat) : Act :=
  seqs [endActive akABORTED reFAULT stamp, put pgCNV Reg.CNV.CNV_STAT_FAULT_CAUSE cause,
    put pgCNV Reg.CNV.PHASE_STAT_ANNOUNCE 0, cnvTo cvFAULT stamp, record pgCNV 0 0x05 stamp cause 0, raiseFault fCNV_FAULT cause]

/-- REG_PARITY on the CNV page: the fault PARITY of TRACK, RUN and ANNOUNCE, which CNV takes at the next boundary, as its records carry the boundary (R281, R290; DEDUCED, log entry 104). -/
def cnvParity : Act :=
  whenC (fun c => decide (cvTRACK ≤ c.cnvState) && decide (c.cnvState ≤ cvANNOUNCE)) (modCnvS fun x => { x with parity := true })

/-- CNV enters SHUTDOWN (R280). -/
def cnvShutdown (stamp : Nat) : Act :=
  seqs [endActive akABORTED reSHUTDOWN stamp, put pgCNV Reg.CNV.PHASE_STAT_ANNOUNCE 0, cnvTo cvSHUTDOWN stamp]

/-- The report that applies at boundary `b`: the last one accepted (R267). Its fields reach the registers. -/
def takeReport (b : Nat) : Act :=
  .dyn fun c =>
    let due := c.cnvSt.reports.filter fun r => decide (r.1 ≤ b)
    let refs := c.cnvSt.trackrefs.filter fun r => decide (r.1 ≤ b)
    .seq
      (modCnvS fun x => { x with reports := x.reports.filter fun r => decide (b < r.1),
                                 trackrefs := refs.drop (refs.length - 1) ++ x.trackrefs.filter fun r => decide (b < r.1) })
      (match due.getLast? with
        | none => putFlag pgCNV Reg.CNV.I_SUM_VALID false
        | some (_, w) => seqs [putFlag pgCNV Reg.CNV.I_SUM_VALID true, put pgCNV Reg.CNV.I_SUM_I_SUM (w.bits 0 16),
            putFlag pgCNV Reg.CNV.CNV_STAT_IMB (w.getLsbD 19), putFlag pgCNV Reg.CNV.CNV_STAT_BYPASS (w.getLsbD 20), raiseLevels pgCNV Chip.cnvLevels])

/-- Control writes whose boundary this is take effect in order (R289, Table 10-7). -/
def applyCtrl (b : Nat) : Act :=
  .dyn fun c =>
    .seq (modCnvS fun x => { x with ctrl := (x.ctrl.filter fun e => decide (1 < e.2)).map fun e => (e.1, e.2 - 1) })
      (each (c.cnvSt.ctrl.filter fun e => decide (e.2 ≤ 1)) fun e => .dyn fun c => when (c.on pgCNV)
        (match e.1 with
          | 0 => when (c.cnvState == cvOFF) (.seq (putPhases c.cnvPhases 0) (cnvTo cvTRACK b))
          | 1 => when (c.cnvState == cvTRACK || c.cnvState == cvRUN || c.cnvState == cvANNOUNCE)
              (seqs [endActive akABORTED reSTOP b, put pgCNV Reg.CNV.PHASE_STAT_ANNOUNCE 0, cnvTo cvOFF b])
          | _ => when (c.cnvState == cvFAULT || (c.cnvState == cvSHUTDOWN && !c.cnvTrip))
              (seqs [put pgCNV Reg.CNV.CNV_STAT_FAULT_CAUSE 0, cnvTo cvOFF b, dropFault fCNV_FAULT])))

/-- An announcement ends without a drop, or dropped phases come back (R278). -/
def restorePhases (b active cause : Nat) (restore : Bool) : Act :=
  seqs [putPhases active 0, modCnvS fun x => { x with restore := restore, shed := 0 }, cnvTo cvRUN b, bump pgCNV Reg.CNV.RESTORE_CNT, evt pgCNV 3,
    record pgCNV 0 0x04 b active cause]

/-- SETs whose boundary this is: the last one becomes the active SET, the others are SUPERSEDED (R267, R268, R270). Where VCL has stopped they and the active SET are ABORTED with reason STATE: DESIGN CHOICE (log entry 105). -/
def takeSet (b : Nat) : Act :=
  .dyn fun c =>
    let due := c.cnvSt.sets.filter fun s => decide (s.at_ ≤ b)
    .seq (modCnvS fun x => { x with sets := x.sets.filter fun s => decide (b < s.at_) })
      (if !c.on pgVCL then .seq (endActive akABORTED reSTATE b) (each due fun s => ack s.word s.src akABORTED reSTATE b)
       else if c.cnvDown then each due fun s => ack s.word s.src akABORTED reSTATE b
       else match due.getLast? with
         | none => .skip
         | some s => seqs [
             each due.dropLast fun o => ack o.word o.src akSUPERSEDED 0 b,
             endActive akSUPERSEDED 0 b,
             modCnvS fun x => { x with active := some s, target := 100 * s.word.bits 0 16, inband := 0 },
             put pgVCL Reg.VCL.TARGET_VOLT (s.word.bits 0 16), put pgVCL Reg.VCL.TARGET_TAG (s.word.bits 16 4),
             put pgVCL Reg.VCL.TARGET_SLEW (s.word.bits 20 2), putFlag pgVCL Reg.VCL.TARGET_ACTIVE true,
             .dyn fun c => when (c.cnvState == cvANNOUNCE) (restorePhases b (c.fld pgCNV Reg.CNV.PHASE_STAT_ACTIVE) 3 false)])

/-- The ramp point moves towards the target by at most floor(SLEW × P / 2,500) mV (R269). -/
def rampStep (r t slew p : Nat) : Nat :=
  let step := slew * p / 2500
  if r ≤ t then (if t - r ≤ step then t else r + step) else if r - t ≤ step then t else r - step

/-- Shedding and restore (R276, R278). -/
def shedEval (b : Nat) (rep : Option Word) : Act :=
  .dyn fun c =>
    let active := c.fld pgCNV Reg.CNV.PHASE_STAT_ACTIVE
    let ann := c.fld pgCNV Reg.CNV.PHASE_STAT_ANNOUNCE
    let n := c.fld pgCNV Reg.CNV.CNV_STAT_N_ACTIVE
    let inAnn := c.cnvState == cvANNOUNCE
    let all := c.cnvPhases
    let cause := match rep with
      | none => 0
      | some w =>
        if w.getLsbD 17 then 1
        else if c.act pgCNV Reg.CNV.SHED_I_RESTORE_I * (n - if inAnn then 1 else 0) < w.bits 0 16 then 2 else 0
    if (inAnn || active != all) && cause != 0 then restorePhases b all cause true
    else if inAnn then
      if c.cnvSt.ann + 1 < c.act pgCNV Reg.CNV.SHED_CFG_ANNOUNCE_FRAMES then modCnvS fun x => { x with ann := x.ann + 1 }
      else seqs [putPhases (active - ann) 0, modCnvS fun x => { x with ann := 0, shed := 0 }, cnvTo cvRUN b, bump pgCNV Reg.CNV.SHED_CNT, evt pgCNV 2,
        record pgCNV 0 0x03 b (Nat.log2 ann) (n - 1)]
    else
      let low := match rep with
        | none => false
        | some w => decide (w.bits 0 16 ≤ c.act pgCNV Reg.CNV.SHED_I_SHED_I * (n - 1))
      let count := if low && c.actFlag pgCNV Reg.CNV.CNV_CFG_SHED_EN && c.act pgCNV Reg.CNV.SHED_I_SHED_I != 0 &&
        c.fld pgVCL Reg.VCL.RAMP == c.cnvSt.target && !c.cnvWarn then c.cnvSt.shed + 1 else 0
      if c.act pgCNV Reg.CNV.SHED_CFG_SHED_FRAMES ≤ count ∧ c.act pgCNV Reg.CNV.SHED_CFG_PHASE_MIN < n then
        seqs [modCnvS fun x => { x with shed := 0, ann := 0 }, put pgCNV Reg.CNV.PHASE_STAT_ANNOUNCE (2 ^ Nat.log2 active), cnvTo cvANNOUNCE b,
          evt pgCNV 1, record pgCNV 0 0x02 b (Nat.log2 active) (c.fld pgCNV Reg.CNV.I_SUM_I_SUM)]
      else modCnvS fun x => { x with shed := count }

/-- CNV latches the words of Table 10-2, stamped with the boundary (R264). -/
def latchWords (b : Nat) : Act :=
  .dyn fun c =>
    let on := c.en pgCNV
    let w2 := c.cnvState + (if c.actFlag pgCNV Reg.CNV.CNV_CFG_SHUT_MODE then 2 ^ 3 else 0) +
      (if c.cnvWarn then 2 ^ 4 else 0) + (if c.cnvSt.restore then 2 ^ 5 else 0) +
      2 ^ 6 * c.act pgCNV Reg.CNV.CNV_CFG_PHASES + 2 ^ 11 * c.act pgCNV Reg.CNV.CNV_CFG_FIRST_BLK
    let words := [c.fld pgVCL Reg.VCL.RAMP, c.fld pgCNV Reg.CNV.PHASE_STAT_ACTIVE + 2 ^ 16 * c.fld pgCNV Reg.CNV.PHASE_STAT_ANNOUNCE,
      w2, c.fld pgVCL Reg.VCL.LAST_ACK]
    each (words.zip (List.range 4)) fun e => deliver ⟨0x05, 0, 0, e.2, BitVec.ofNat 32 e.1, on, b⟩

/-- The report that boundary `b` takes (R267). -/
def Chip.dueReport (c : Chip) (b : Nat) : Option Word := (c.cnvSt.reports.filter fun r => decide (r.1 ≤ b)).getLast?.map Prod.snd

/-- Bit `i` of a report. -/
def repBit (rep : Option Word) (i : Nat) : Bool :=
  match rep with
  | some w => w.getLsbD i
  | none => false

/-- Missing reports, blocks in SAFE, law faults and TRIP while the converter is in TRACK, RUN or ANNOUNCE (R270, R280, R281). -/
def cnvWatch (b : Nat) (rep : Option Word) : Act :=
  .dyn fun c =>
    let miss := if rep.isSome then 0 else c.cnvSt.miss + 1
    seqs [modCnvS fun x => { x with miss := miss, parity := false }, when rep.isNone (bump pgCNV Reg.CNV.MISS_CNT),
      if c.act pgCNV Reg.CNV.CNV_MISS ≤ miss then cnvFault 1 b
      else if c.cnvBlocks.any fun k => c.bstate k == 4 then cnvFault 2 b
      else if repBit rep 21 then cnvFault 3 b
      else if c.cnvSt.parity then cnvFault 4 b
      else when c.cnvTrip (cnvShutdown b)]

/-- TRACK_DONE: the ramp point takes the latest TRACKREF, and CNV runs (R270, R275). -/
def trackDone (b : Nat) (rep : Option Word) : Act :=
  .dyn fun c => when (c.cnvState == cvTRACK && repBit rep 18)
    (.seq (putRamp (100 * ((c.cnvSt.trackrefs.filter fun r => decide (r.1 ≤ b)).getLast?.map fun r => r.2.bits 0 16).getD 0)) (cnvTo cvRUN b))

/-- The EXT_LOST records are written; after EXT_LOST the target takes the ramp point, and the active SET is aborted (R272, R292). -/
def extAbort (b : Nat) : Act :=
  .dyn fun c => seqs [each c.cnvSt.lostRecs fun set => record pgVCL 0 0x02 b set 0, modCnvS fun x => { x with lostRecs := [] },
    when c.cnvSt.abort_
      (seqs [modCnvS fun x => { x with abort_ := false, target := c.fld pgVCL Reg.VCL.RAMP },
        put pgVCL Reg.VCL.TARGET_VOLT (c.fld pgVCL Reg.VCL.RAMP / 100), endActive akABORTED reTIMEOUT b])]

/-- The ramp in RUN and ANNOUNCE (R269). -/
def rampBoundary (p : Nat) : Act :=
  .dyn fun c => when c.cnvSt.active.isSome
    (putRamp (rampStep (c.fld pgVCL Reg.VCL.RAMP) c.cnvSt.target (c.act pgVCL Reg.VCL.SLEW (c.fld pgVCL Reg.VCL.TARGET_SLEW)) p))

/-- REACHED after REACH_FRAMES consecutive reports in band (R268, R270). -/
def reachEval (b : Nat) (rep : Option Word) : Act :=
  .dyn fun c => when (c.cnvSt.active.isSome && c.fld pgVCL Reg.VCL.RAMP == c.cnvSt.target)
    (let n := if repBit rep 16 then c.cnvSt.inband + 1 else 0
     .seq (modCnvS fun x => { x with inband := n })
       (when (decide (c.act pgVCL Reg.VCL.VCL_CFG_REACH_FRAMES ≤ n)) (endActive akREACHED 0 b)))

/-- CNV and VCL at boundary `b` of their generator, in the order of R270. -/
def cnvBoundary (b : Nat) : Act :=
  .dyn fun c =>
    let p := c.fgPeriod (c.fgOf pgCNV)
    let rep := c.dueReport b
    if !c.on pgCNV then seqs [applyCtrl b, extAbort b, takeSet b, latchWords b]
    else seqs [
      modCnvS fun x => { x with restore := false },
      cnvTemps, takeReport b,
      whenC (fun c => decide (cvTRACK ≤ c.cnvState) && decide (c.cnvState ≤ cvANNOUNCE)) (cnvWatch b rep),
      applyCtrl b, trackDone b rep, extAbort b, takeSet b,
      whenC (fun c => c.cnvState == cvRUN || c.cnvState == cvANNOUNCE)
        (seqs [rampBoundary p, shedEval b rep,
          whenC (fun c => c.cnvState == cvRUN || c.cnvState == cvANNOUNCE) (reachEval b rep)]),
      latchWords b]

end Sys2Proof.Machine
end

