-- ==== Sys2Proof/Machine/Rotor.lean ====
section
/-! DEFINITION. Where the traction law finds the rotor: its parameter block and samples, the encoder, the flux observer, the current vector and the catch pulses (R215 to R226, R233). Every formula of the manual is evaluated on whole numbers and rounded down (log entry 8). -/

namespace Sys2Proof.Machine

open Sys2Proof

/-- A field of a law's parameter block, whose rows count in words (Tables 8-3, 10-8, 10-11). -/
def blockField (b : List Word) (f : Field) : Nat := (b.getD f.off 0).bits f.lo f.width

/-- The parameter block of machine `m`, from the bank active at the launch tick (R215). -/
def Chip.tracBlock (c : Chip) (q : Quay) (tL m : Nat) : List Word := (List.range 29).map fun n => (c.coef q tL (1024 + 128 * m + n)).1

/-- Leg blocks a machine occupies (R213). -/
def tracBlocks (b : List Word) : Nat := (3 * (blockField b Reg.TRAC.TOPO_SETS + 1) + 3) / 4

/-- The block passes the checks of R216. -/
def tracValid (b : List Word) : Bool :=
  let g := blockField b
  let sets := g Reg.TRAC.TOPO_SETS + 1
  let obs := g Reg.TRAC.TOPO_OBS_EN == 1
  let enc := g Reg.TRAC.TOPO_ENC_PRESENT == 1
  b.length == 29 &&
    -- reserved fields
    ((b.getD 0 0).bits 3 29 == 0 && (b.getD 15 0).bits 16 16 == 0 && (b.getD 21 0).bits 28 4 == 0 && (b.getD 22 0).bits 24 8 == 0 &&
      (b.getD 27 0).bits 21 11 == 0 && (b.getD 28 0).bits 8 24 == 0) &&
    g Reg.TRAC.MODE_REQ ≤ 5 &&
    ([Reg.TRAC.SLOTS_POLE_PAIRS, Reg.TRAC.LIMITS_SPD_LIM, Reg.TRAC.RS, Reg.TRAC.LD, Reg.TRAC.LQ, Reg.TRAC.PSI, Reg.TRAC.CURRENT_I_MAX,
      Reg.TRAC.LOOP, Reg.TRAC.FRAMES_A_LOSS_FRAMES, Reg.TRAC.FRAMES_A_LOCK_FRAMES, Reg.TRAC.OBS_TOL_MAG_TOL, Reg.TRAC.RATE_TOL,
      Reg.TRAC.PSI_WIN_WIN].all fun f => g f != 0) &&
    (!obs || (g Reg.TRAC.START_IF_CURRENT != 0 && g Reg.TRAC.SPEEDS_B_IF_ACCEL != 0)) &&
    (g Reg.TRAC.OBS_TOL_XCHK_FRAMES == 0 || g Reg.TRAC.ANG_XCHK != 0) &&
    g Reg.TRAC.TOPO_FIRST_BLK + tracBlocks b ≤ 24 &&
    g Reg.TRAC.SLOTS_SLOT_I + 3 * sets ≤ 256 && g Reg.TRAC.SLOTS_C + 3 * sets ≤ 256 &&
    100 ≤ g Reg.TRAC.START_CATCH_PULSE &&
    g Reg.TRAC.CONF_TH_CONF_LOSS < g Reg.TRAC.CONF_TH_CONF_OK &&
    g Reg.TRAC.PSI_TH_PSI_FAULT < g Reg.TRAC.PSI_TH_PSI_WARN && g Reg.TRAC.PSI_TH_PSI_WARN < 16384 && 16384 < g Reg.TRAC.PSI_WIN_PSI_HIGH &&
    (obs || enc) && (enc || g Reg.TRAC.TOPO_ENC_PRIMARY == 0)

/-! ### Samples -/

/-- The samples of a run, with V, and the stamp of the angle (R211, R213, R228). -/
structure TracSamples where
  currents : List (Word × Bool)
  vdc : Word × Bool
  pos : Word × Bool
  posAt : Nat
  tel : List (Word × Bool)
  deriving DecidableEq, Repr

/-- Slots and ticks that a run reads: the samples of the launching frame, which are due at B + P/2; telemetry is stamped with the boundary B itself (R142, R211, R213, R228; DEDUCED, log entry 8). -/
def tracReads (b : List Word) (bound period : Nat) : List (Nat × Nat) :=
  let g := blockField b
  let n := 3 * (g Reg.TRAC.TOPO_SETS + 1)
  let t := bound + period / 2
  (List.range n).map (fun i => (g Reg.TRAC.SLOTS_SLOT_I + i, t)) ++ [(g Reg.TRAC.SLOTS_SLOT_VDC, t)] ++
    (List.range n).map (fun i => (g Reg.TRAC.SLOTS_C + i, bound)) ++
    (if g Reg.TRAC.TOPO_ENC_PRESENT = 1 then [(g Reg.TRAC.SLOTS_SLOT_POS, t)] else [])

/-- The samples that the reads return. -/
def tracSamples (b : List Word) (bound period : Nat) (val : Nat → Nat → LdsVal) : TracSamples :=
  let g := blockField b
  let n := 3 * (g Reg.TRAC.TOPO_SETS + 1)
  let t := bound + period / 2
  let at_ := fun slot tick => ((val slot tick).v, (val slot tick).valid)
  { currents := (List.range n).map fun i => at_ (g Reg.TRAC.SLOTS_SLOT_I + i) t,
    vdc := at_ (g Reg.TRAC.SLOTS_SLOT_VDC) t,
    tel := (List.range n).map fun i => at_ (g Reg.TRAC.SLOTS_C + i) bound,
    pos := if g Reg.TRAC.TOPO_ENC_PRESENT = 1 then at_ (g Reg.TRAC.SLOTS_SLOT_POS) t else (0, false),
    posAt := (val (g Reg.TRAC.SLOTS_SLOT_POS) t).stamp }

/-- One run of the machine: what it reads, and what it decides on. -/
structure TracRun where
  b : List Word
  mode : Nat
  x : TracSamples
  i : Config.TractionArith
  /-- The state the previous run left. -/
  st : TracSt
  /-- Launch tick, Quay, boundary of the launching frame and the period. -/
  tL : Nat
  q : Quay
  bound : Nat
  period : Nat
  /-- The generator's window is open, and its value (R234). -/
  window : Bool
  inj : Word
  deriving DecidableEq, Repr

/-- A parameter of the block in use. -/
def TracRun.g (r : TracRun) (f : Field) : Nat := blockField r.b f

/-- Tick of the samples of the launching frame (R211). -/
def TracRun.ts (r : TracRun) : Nat := r.bound + r.period / 2

/-- A quantity as the law rounds it: within one unit of the exact value rounded down (log entry 8). -/
def TracRun.near (r : TracRun) (k : Nat) (v : Int) : Int := match r.i.dev[k]? with
  | some d => v + d.val - 1
  | none => v

/-- Launch tick of the previous run. -/
def TracRun.before (r : TracRun) : Nat := match r.st.ran with
  | some (_, t) => t
  | none => r.tL

/-- The previous run was on the other Quay (R232). -/
def TracRun.moved (r : TracRun) : Bool := match r.st.ran with
  | some (q, _) => q != r.q
  | none => false

/-! ### Vectors, angles and speeds -/

/-- The largest whole number whose square is not above `n < 2^128`. -/
def longRoot (n : Nat) : Nat := (List.range 64).foldr (fun b r => if (r + 2 ^ b) * (r + 2 ^ b) ≤ n then r + 2 ^ b else r) 0

/-- √3 × x, rounded towards zero. -/
def rootThree (x : Int) : Int := if x < 0 then -(longRoot (3 * x * x).toNat : Int) else longRoot (3 * x * x).toNat

/-- Length of a vector. -/
def vecLen (x y : Int) : Nat := longRoot (x * x + y * y).toNat

/-- Angle of a vector, 2^32 to one turn, by the sine of R196. -/
def angleOf (x y : Int) : Word :=
  let a := (List.range 30).foldr (fun b a =>
    let t := BitVec.ofNat 32 (a + 2 ^ b)
    if sineOf t * (x.natAbs : Int) ≤ sineOf (t + 0x40000000#32) * (y.natAbs : Int) then a + 2 ^ b else a) 0
  let w := if x = 0 ∧ y ≠ 0 then 0x40000000#32 else BitVec.ofNat 32 a
  if 0 ≤ x then (if 0 ≤ y then w else -w) else if 0 ≤ y then 0x80000000#32 - w else 0x80000000#32 + w

/-- Circular distance of two angles. -/
def angleDist (x y : Word) : Nat := Nat.min (x - y).toNat (y - x).toNat

/-- The angle that a rate covers in a time. -/
def turnBy (rate ticks : Int) : Word := BitVec.ofInt 32 (rate * ticks / 2 ^ 24)

/-- A rate in mechanical 0.1 rpm: one turn in 2^32 per tick of 0.4 ns. -/
def TracRun.rpm (r : TracRun) (rate : Int) : Int := (rate * 1500000000000).tdiv (2 ^ 56 * r.g Reg.TRAC.SLOTS_POLE_PAIRS)

/-- The rate of a mechanical speed in 0.1 rpm / 250,000,000. -/
def TracRun.rateOf (r : TracRun) (v : Int) : Int := (v * 2 ^ 56 * r.g Reg.TRAC.SLOTS_POLE_PAIRS).tdiv 375000000000000000000

/-- 3 × the vector of three phase quantities. -/
def vec3 (u v w : Int) : Int × Int := (2 * u - v - w, rootThree (v - w))

/-- 3 × the current vector of a set, mA. -/
def TracRun.current (r : TracRun) (set : Nat) : Int × Int :=
  let i := fun p => (r.x.currents.getD (3 * set + p) (0, false)).1.toInt
  vec3 (i 0) (i 1) (i 2)

/-- The current samples of set 0 are valid. -/
def TracRun.currentOk (r : TracRun) : Bool := (r.x.currents.take 3).all fun e => e.2

/-- Parts of a vector along and across an angle, × 2^31. -/
def parkOf (v : Int × Int) (a : Word) : Int × Int :=
  let s := sineOf a
  let c := sineOf (a + 0x40000000#32)
  (v.1 * c + v.2 * s, v.2 * c - v.1 * s)

/-- I_D and I_Q, means over the sets in mA, at the electrical angle of set 0 (R213, Table 8-6). -/
def TracRun.dq (r : TracRun) (a : Word) : Int × Int :=
  let n := r.g Reg.TRAC.TOPO_SETS + 1
  let l := (List.range n).map fun s => parkOf (r.current s) (a + BitVec.ofNat 32 (s * r.g Reg.TRAC.SET_SHIFT))
  (r.near 4 ((l.map Prod.fst).sum / (3 * 2 ^ 31 * n)), r.near 5 ((l.map Prod.snd).sum / (3 * 2 ^ 31 * n)))

/-! ### The encoder -/

/-- The encoder after the sample of the run: counters, latest valid sample, speed from consecutive stamps (R219). -/
def TracRun.encoder (r : TracRun) (s : TracSt) : TracSt :=
  let present := r.g Reg.TRAC.TOPO_ENC_PRESENT == 1
  let v := present && r.x.pos.2
  let bad := if present && !v then s.encBad + 1 else 0
  let good := if v then s.encGood + 1 else 0
  let out := if r.g Reg.TRAC.FRAMES_A_LOSS_FRAMES ≤ bad then true
    else if r.g Reg.TRAC.FRAMES_A_LOCK_FRAMES ≤ good then false else s.encOut
  { s with encBad := bad, encGood := good, encOut := out, encLost := s.encLost && out,
           encRate := match s.enc with
             | some (a, t) => if v && decide (t < r.x.posAt)
                 then r.near 0 (r.g Reg.TRAC.SLOTS_POLE_PAIRS * (r.x.pos.1 - a).toInt * 2 ^ 24 / (r.x.posAt - t : Nat)) else s.encRate
             | none => s.encRate,
           enc := if v then some (r.x.pos.1, r.x.posAt) else s.enc }

/-- The encoder counts as valid, and has given an angle (R219). -/
def TracRun.encOk (r : TracRun) (s : TracSt) : Bool := r.g Reg.TRAC.TOPO_ENC_PRESENT == 1 && !s.encOut && s.enc.isSome

/-- The encoder angle extrapolated to tick `t` (R219). -/
def TracRun.encAngle (r : TracRun) (s : TracSt) (t : Nat) : Word := match s.enc with
  | some (a, t0) => BitVec.ofNat 32 (r.g Reg.TRAC.SLOTS_POLE_PAIRS * a.toNat + r.g Reg.TRAC.ENC_OFFSET) + turnBy s.encRate ((t : Int) - t0)
  | none => 0

/-! ### The observer -/

/-- High time of a leg between `a` and `b` in fine steps, whether it was OFF in between, and the KIND it is left in; from KIND `k` and the edges of the leg in order. -/
def legSpan (es : List (Nat × Nat)) (k a b : Nat) : Nat × Bool × Nat :=
  let step := fun (m : Nat × Nat × Nat × Bool) (e : Nat × Nat) =>
    let t := Nat.max m.1 (Nat.min e.1 b)
    (t, if e.1 < b then e.2 else m.2.1, m.2.2.1 + (if m.2.1 = 1 then t - m.1 else 0), m.2.2.2 || (m.2.1 == 3 && decide (m.1 < t)))
  let m := (es ++ [(b, 0)]).foldl step (a, k, 0, false)
  (m.2.2.1, m.2.2.2, m.2.1)

/-- The span of leg `j` of the machine from the samples of the previous run to those of this one, by the edges written. -/
def TracRun.legSpan_ (r : TracRun) (s : TracSt) (j : Nat) : Nat × Bool × Nat :=
  legSpan ((s.edges.filter fun e => e.1 == j).map Prod.snd) (s.levels.getD j 3) (8 * s.lvAt) (8 * r.ts)

/-- 3 × the integral of the stator voltage of set 0 since the samples of the previous run, as a flux; none where the written edges do not give it (R220). -/
def TracRun.volts (r : TracRun) (s : TracSt) : Option (Int × Int) :=
  let l := (List.range 3).map (r.legSpan_ s)
  let h := fun j => ((l.getD j (0, false, 0)).1 : Int) * r.x.vdc.1.toInt
  if s.lvAt = 0 ∨ r.moved ∨ !r.x.vdc.2 ∨ l.any (fun e => e.2.1) then none else some (vec3 (h 0) (h 1) (h 2))

/-- The phase resistance the observer uses, µΩ (R234). -/
def TracRun.rs (r : TracRun) (s : TracSt) : Nat :=
  let rs := r.g Reg.TRAC.RS
  if r.g Reg.TRAC.IDENT_ADAPT_RS = 1 ∧ s.estOk.testBit 0 then Nat.max (rs / 2) (Nat.min (2 * rs) (s.est.getD 0 0).toNat) else rs

/-- ψ_avg in 5 × 10^−14 V·s: PSI_EST, or PSI while there is none. -/
def TracRun.psiMean (r : TracRun) (s : TracSt) : Nat := 20000000 * if s.psiEst = 0 then r.g Reg.TRAC.PSI else s.psiEst.toNat

/-- The observer takes an angle and a speed found by other means: its active flux is ψ_avg at that angle. -/
def TracRun.seed (r : TracRun) (s : TracSt) (a : Word) (rate : Int) : TracSt :=
  let m := r.psiMean s
  let i := r.current 0
  let l : Int := 20 * r.g Reg.TRAC.LQ
  { s with fluxA := 3 * m * sineOf (a + 0x40000000#32) / 2 ^ 31 + l * i.1, fluxB := 3 * m * sineOf a / 2 ^ 31 + l * i.2,
           activeMag := m, obsAngle := a, obsRate := rate }

/-- Circular error of the change of observer angle against ω_T × P, and c as a Q31 number (R220). -/
def TracRun.consistency (r : TracRun) (s : TracSt) (mag : Nat) (turn : Word) (ticks : Nat) : Nat :=
  if s.psiEst = 0 then 65536 * Nat.min r.i.conf.toNat 32768
  else
    let mean := r.psiMean s
    let magErr := (if mean < mag then mag - mean else mean - mag) * 2 ^ 46 / (mean * r.g Reg.TRAC.OBS_TOL_MAG_TOL)
    let rateErr := angleDist turn (turnBy s.rate ticks) * 2 ^ 31 / r.g Reg.TRAC.RATE_TOL
    2 ^ 31 - (magErr + rateErr)

/-- The observer after the samples of the run; where the written edges leave the stator voltage open it keeps its values (R220, R232). -/
def TracRun.observe (r : TracRun) (s0 : TracSt) : TracSt :=
  let ticks := r.ts - s0.lvAt
  let n := 3 * (r.g Reg.TRAC.TOPO_SETS + 1)
  let s := { s0 with levels := (List.range n).map fun j => (r.legSpan_ s0 j).2.2, lvAt := r.ts, edges := s0.edges.filter fun e => decide (8 * r.ts ≤ e.2.1) }
  if r.g Reg.TRAC.TOPO_OBS_EN = 0 ∨ !r.currentOk then s
  else if r.moved then r.seed s (s.angle + turnBy s.rate ((r.ts : Int) - r.before)) s.rate
  else match r.volts s0 with
    | none => s
    | some v =>
      let i := r.current 0
      let keep := fun (f : Int) => f - f * (s.obsRate.natAbs * ticks * 6283185307 : Nat) / (2 ^ 56 * 10000000000)
      let drop := fun (x : Int) => (r.rs s : Int) * x * ticks / 125000
      let fa := keep s.fluxA + v.1 - drop i.1
      let fb := keep s.fluxB + v.2 - drop i.2
      let l : Int := 20 * r.g Reg.TRAC.LQ
      let mag := vecLen (fa - l * i.1) (fb - l * i.2) / 3
      let a := BitVec.ofInt 32 (r.near 2 (angleOf (fa - l * i.1) (fb - l * i.2)).toNat)
      let turn := a - s.obsAngle
      let c : Int := r.consistency s mag turn ticks
      { s with fluxA := fa, fluxB := fb, activeMag := mag, obsAngle := a, obsRate := r.near 1 (turn.toInt * 2 ^ 24 / ticks),
               conf := (r.near 3 (s.conf + (c - s.conf) / 2 ^ r.g Reg.TRAC.FRAMES_B_CONF_SHIFT)).toNat }

/-- CONF as published, Q15. -/
def TracSt.confQ15 (s : TracSt) : Nat := s.conf / 65536

/-- The observer is in use, with CONF ≥ CONF_OK, at or above OBS_MIN_SPEED (R223). -/
def TracRun.obsOk (r : TracRun) (s : TracSt) : Bool :=
  r.g Reg.TRAC.TOPO_OBS_EN == 1 && decide (r.g Reg.TRAC.CONF_TH_CONF_OK ≤ s.confQ15) &&
    decide (10 * r.g Reg.TRAC.SPEEDS_A_OBS_MIN_SPEED ≤ (r.rpm s.obsRate).natAbs)

/-! ### The current vector -/

/-- The rotor angle that the short-circuit current of set 0 shows: arg(i) + 180° + atan2(ω R, ω² L_q) (R224). -/
def TracRun.thetaOf (r : TracRun) (arg : Word) (rate : Int) : Word :=
  let y : Int := 1000 * r.g Reg.TRAC.RS
  arg + 0x80000000#32 + angleOf ((rate.natAbs * r.g Reg.TRAC.LQ * 15707963268 / 2 ^ 56 : Nat) : Int) (if rate < 0 then -y else if rate = 0 then 0 else y)

/-- The current vector of set 0, its rotation over the previous frame, the rotor angle it shows, and its agreement with the extrapolated one (R224). -/
def TracRun.vector (r : TracRun) (s : TracSt) : TracSt :=
  if !r.currentOk then { s with arg := none, argRate := 0, theta := none, agree := false }
  else
    let i := r.current 0
    let arg := angleOf i.1 i.2
    match s.arg with
    | some (a, t) =>
      let rate := if t < r.ts then (arg - a).toInt * 2 ^ 24 / (r.ts - t : Nat) else s.argRate
      let theta := r.thetaOf arg rate
      { s with arg := some (arg, r.ts), argRate := rate, theta := some theta,
               agree := match s.theta with
                 | some h => decide (angleDist theta (h + turnBy s.argRate (r.ts - t : Nat)) ≤ r.g Reg.TRAC.RATE_TOL)
                 | none => false }
    | none => { s with arg := some (arg, r.ts), argRate := 0, theta := none, agree := false }

/-! ### Catch pulses -/

/-- Pulse length: CATCH_PULSE, limited so that a pulse at 1.05 × SPD_LIM stays within I_MAX (R226). -/
def TracRun.pulse (r : TracRun) : Nat :=
  Nat.min (r.g Reg.TRAC.START_CATCH_PULSE)
    (r.g Reg.TRAC.CURRENT_I_MAX * r.g Reg.TRAC.LD * 2500000000000000000 /
      (r.g Reg.TRAC.PSI * r.g Reg.TRAC.LIMITS_SPD_LIM * r.g Reg.TRAC.SLOTS_POLE_PAIRS * 109955742876))

/-- The current that a pulse drives at a rate, PSI × |ω| × pulse / LD, in mA (R225). -/
def TracRun.pulseCurrent (r : TracRun) (rate : Int) : Nat :=
  r.g Reg.TRAC.PSI * rate.natAbs * r.pulse * 6283185307 / (2 ^ 56 * 1000 * r.g Reg.TRAC.LD)

/-- A run in CATCH takes the vector at the end of its pulse. -/
def TracRun.takePulse (r : TracRun) (s : TracSt) : TracSt :=
  let i := r.current 0
  if r.st.state = 1 then { s with pulses := s.pulses ++ [(angleOf i.1 i.2, vecLen i.1 i.2 / 3)] } else s

/-- Rotation from the last pulse but one to the last. -/
def TracRun.pulseRate (r : TracRun) (s : TracSt) : Int := match s.pulses with
  | [_, a, b] => (b.1 - a.1).toInt * 2 ^ 24 / r.period
  | _ => 0

/-- Rotor angle at the last of three pulses: θ_d = arg(i) + sign(ω) × 90° (R225). -/
def TracRun.pulseAngle (r : TracRun) (s : TracSt) : Word := match s.pulses with
  | [_, _, b] => if r.pulseRate s < 0 then b.1 - 0x40000000#32 else b.1 + 0x40000000#32
  | _ => 0

/-- What three zero-vector pulses show (R225). -/
inductive Pulse
  | turning
  | still
  | inconsistent
  deriving DecidableEq, Repr

/-- What three pulses show; none before the third (R225). -/
def TracRun.caught (r : TracRun) (s : TracSt) : Option Pulse :=
  if s.pulses.length < 3 then none
  else
    let low := r.pulseCurrent (r.rateOf (2500000000 * r.g Reg.TRAC.SPEEDS_B_CATCH_MIN_SPEED))
    let m := r.pulseCurrent (r.pulseRate s)
    if s.pulses.all fun e => decide (e.2 < low) then some .still
    else if s.pulses.all fun e => decide (m ≤ 2 * e.2) && decide (e.2 ≤ 2 * m) then some .turning
    else some .inconsistent

/-! ### The angle in use -/

/-- Rate of the angle source in use. -/
def TracRun.rateNow (r : TracRun) (s : TracSt) : Int :=
  if s.state = 5 then s.rate
  else match s.src with
    | 1 => s.obsRate
    | 2 => s.encRate
    | 3 => r.rateOf s.ifSpeed
    | 4 => s.argRate
    | _ => s.rate

/-- Electrical angle of set 0 at tick `t` by the source in use; without one, extrapolated from the previous run (R219, R232). -/
def TracRun.sourceAngle (r : TracRun) (s : TracSt) (t : Nat) : Word :=
  let on := s.angle + turnBy (r.rateNow s) ((t : Int) - r.before)
  match s.src with
    | 1 => s.obsAngle + turnBy s.obsRate ((t : Int) - r.ts)
    | 2 => r.encAngle s t
    | 4 => (s.theta.map fun a => a + turnBy s.argRate ((t : Int) - r.ts)).getD on
    | _ => on

/-- Electrical angle of set 0 at tick `t`: by the source in use, or in ZERO extrapolated with ω_T from the last trusted frame (R223). -/
def TracRun.angleAt (r : TracRun) (s : TracSt) (t : Nat) : Word :=
  if s.state = 5 then s.trustAngle + turnBy s.rate ((t : Int) - s.trustAt) else r.sourceAngle s t

/-- A trusted frame: the speed of the source in use becomes the trusted one (R221). -/
def TracRun.trust (r : TracRun) (s : TracSt) (rate : Int) : TracSt :=
  { s with rate := rate, omega := r.rpm rate, trustAt := r.tL, trustAngle := r.sourceAngle s r.tL }

/-- |ω_T| in 0.1 rpm. -/
def TracSt.speed (s : TracSt) : Nat := s.omega.natAbs

/-- ψ of this frame in 5 × 10^−14 V·s (R233). -/
def TracRun.psiFrame (r : TracRun) (s : TracSt) : Int :=
  let a := r.angleAt s r.ts
  let (d, q) := r.dq a
  let ticks := r.ts - r.st.lvAt
  let free : Int := 20000000 * r.i.psi.toInt
  if s.state = 4 then r.near 7 (s.activeMag - 20 * ((r.g Reg.TRAC.LD : Int) - r.g Reg.TRAC.LQ) * d)
  else match r.volts r.st with
    | none => free
    | some v =>
      if s.encRate = 0 then free
      else
        let vq := (parkOf v (a - turnBy s.encRate (ticks / 2))).2 / (3 * 2 ^ 31) - (r.g Reg.TRAC.RS : Int) * q * ticks / 125000
        r.near 7 (vq * (2 ^ 56 * 1000000000) / (6283185307 * s.encRate * ticks) - 20 * r.g Reg.TRAC.LD * d)

end Sys2Proof.Machine
end

