-- ==== Sys2Proof/Machine/Traction.lean ====
section
/-! DEFINITION. A run of the traction law image: machine states, torque reference, patterns, status words and transition records (Chapter 8). -/

namespace Sys2Proof.Machine

open Sys2Proof

/-! ### Machine states -/

/-- The law may use the active short circuit at the trusted speed (R223). -/
def TracRun.useAsc (r : TracRun) (s : TracSt) : Bool :=
  r.g Reg.TRAC.TOPO_ASC_EN == 1 && decide (10 * r.g Reg.TRAC.SPEEDS_A_ASC_SPEED ≤ s.speed)

/-- A transition, with its cause (R235, R237). -/
def TracSt.go (s : TracSt) (state src cause tL : Nat) : TracSt :=
  { s with state := state, src := src, cause := cause, trans := tL, frames := 1, hits := 0, pulses := [], tq := if state = 3 ∨ state = 4 then s.tq else 0 }

/-- FAULT, with the pattern it keeps (R228, R229). -/
def TracRun.fault (r : TracRun) (s : TracSt) (cause : Nat) : TracSt :=
  let asc := r.useAsc s
  { s.go 9 (if asc then 4 else 0) cause r.tL with asc := asc, toFault := false }

/-- What follows ZERO (R223, R227, R233). -/
def TracRun.afterZero (r : TracRun) (s : TracSt) : TracSt :=
  if s.toFault then r.fault s s.cause
  else if r.useAsc s then s.go 6 4 16 r.tL
  else s.go 0 0 16 r.tL

/-- ZERO, or what follows it when ZERO_FRAMES is 0 (R216, R223). -/
def TracRun.zero (r : TracRun) (s : TracSt) (cause : Nat) (toFault : Bool) : TracSt :=
  let s1 := { s.go 5 s.src cause r.tL with toFault := toFault }
  if r.g Reg.TRAC.FRAMES_A_ZERO_FRAMES = 0 then r.afterZero s1 else s1

/-- The modulated state at an angle and a speed that have been found: RUN_ENC by R222 and the validity of the encoder, or RUN_OBS; none where neither source can be used (R224, R225). `enc`: the encoder whenever it is valid. -/
def TracRun.closed (r : TracRun) (s : TracSt) (cause : Nat) (angle : Word) (rate : Int) (enc : Bool) : Option TracSt :=
  let set := fun (x : TracSt) => { r.trust x rate with trustAngle := angle + turnBy rate ((r.tL : Int) - r.ts), tq := 0, conf := 65536 * r.g Reg.TRAC.CONF_TH_CONF_OK, lost := false, lossRuns := 0 }
  if r.encOk s && (enc || r.g Reg.TRAC.TOPO_ENC_PRIMARY == 1 || r.g Reg.TRAC.TOPO_OBS_EN == 0 || s.xchk) then some (set (s.go 3 2 cause r.tL))
  else if r.g Reg.TRAC.TOPO_OBS_EN = 1 then some (r.seed (set (s.go 4 1 cause r.tL)) angle rate)
  else none

/-- Attempts after a loss are exhausted (R223). -/
def TracRun.exhausted (r : TracRun) (s : TracSt) : Bool := s.lost && decide (r.g Reg.TRAC.FRAMES_A_RECATCH_MAX ≤ s.tries)

/-- A failed attempt counts; past RECATCH_MAX of them after a loss the law enters FAULT (R223 to R225). -/
def TracRun.failed (r : TracRun) (s : TracSt) : TracSt :=
  let s1 := { s with tries := s.tries + 1, hits := 0, frames := 1, pulses := [] }
  if r.exhausted s1 then r.fault s1 10 else s1

/-- A loss of the rotor, with its cause: the other source, or ZERO (R223). -/
def TracRun.loss (r : TracRun) (s : TracSt) (cause : Nat) (byEnc : Bool) : TracSt :=
  if byEnc && r.obsOk s then { s.go 4 1 cause r.tL with encLost := true }
  else if !byEnc && r.encOk s then s.go 3 2 cause r.tL
  else r.zero { s with lost := true, tries := 0 } cause false

/-- RESUME_LOW or RESUME_OFF: the integrators are cleared, and the legs go LOW or OFF without ZERO (R230). -/
def TracRun.resume (r : TracRun) (s : TracSt) (cause : Nat) : TracSt :=
  let s1 := { s with fluxA := 0, fluxB := 0, activeMag := 0, ctrl := [], idRef := 0, iqRef := 0 }
  if r.mode = 4 then (if s.state = 6 then s1 else s1.go 6 4 cause r.tL) else (if s.state = 0 then s1 else s1.go 0 0 cause r.tL)

/-- Counters and flags that every run keeps before it decides (R217, R222, R223, R228). -/
def TracRun.count (r : TracRun) (s : TracSt) : TracSt :=
  let both := r.encOk s && r.obsOk s && r.g Reg.TRAC.OBS_TOL_XCHK_FRAMES != 0
  let far := both && decide (r.g Reg.TRAC.ANG_XCHK < angleDist (r.encAngle s r.ts) s.obsAngle)
  let xr := if far then s.xchkRuns + 1 else 0
  let xg := if both && !far then s.xchkGood + 1 else if far then 0 else s.xchkGood
  let run := decide (r.mode = 1 ∧ r.g Reg.TRAC.LIMITS_CMD_TIMEOUT ≠ 0)
  let seq := r.g Reg.TRAC.CMD_SEQ
  let same := s.ran.isSome && seq == s.seq
  let seqRuns := if run && same then s.seqRuns + 1 else 0
  let low := s.state = 4 ∧ s.confQ15 < r.g Reg.TRAC.CONF_TH_CONF_LOSS ∧ 10 * r.g Reg.TRAC.SPEEDS_A_OBS_MIN_SPEED ≤ s.speed
  { s with xchkRuns := xr, xchkGood := xg,
           xchk := if both && decide (r.g Reg.TRAC.OBS_TOL_XCHK_FRAMES ≤ xr) then true
             else if r.g Reg.TRAC.FRAMES_A_LOCK_FRAMES ≤ xg then false else s.xchk,
           seq := seq, seqRuns := seqRuns,
           stale := if !same then false else s.stale || (run && decide (r.g Reg.TRAC.LIMITS_CMD_TIMEOUT ≤ seqRuns)),
           lossRuns := if low then s.lossRuns + 1 else 0,
           sumRuns := (List.range (r.g Reg.TRAC.TOPO_SETS + 1)).map fun k =>
             let sum := (((r.x.currents.drop (3 * k)).take 3).map fun e => e.1.toInt).sum
             if r.g Reg.TRAC.CURRENT_I_SUM_LIM ≠ 0 ∧ 1000 * r.g Reg.TRAC.CURRENT_I_SUM_LIM < sum.natAbs then s.sumRuns.getD k 0 + 1 else 0 }

/-- What the run finds out before it decides: encoder, observer, current vector and pulses, the trusted speed, and the counters (R219 to R225). -/
def TracRun.prepare (r : TracRun) : TracSt :=
  let s := r.takePulse (r.vector (r.observe (r.encoder r.st)))
  let s := r.count s
  if s.state = 3 ∧ r.x.pos.2 then r.trust s s.encRate
  else if s.state = 4 ∧ r.g Reg.TRAC.CONF_TH_CONF_OK ≤ s.confQ15 then r.trust s s.obsRate
  else s

/-- Whether the sensing fault of a cause holds (R228). -/
def TracRun.sensing (r : TracRun) (s : TracSt) (cause : Nat) : Bool :=
  match cause with
  | 4 => r.x.currents.any (fun e => !e.2) || s.sumRuns.any (fun n => decide (3 ≤ n))
  | 5 => !r.x.vdc.2
  | 6 => r.x.tel.any fun e => !e.2
  | _ => false

/-- The cause of a sensing fault of R228, if one holds. -/
def TracRun.sensorFault (r : TracRun) (s : TracSt) : Option Nat := [4, 5, 6].find? (r.sensing s)

/-- ψ monitoring: a qualifying frame counts, and a completed window decides (R233). -/
def TracRun.psi (r : TracRun) (s : TracSt) : TracSt :=
  let ok := (s.state = 3 ∨ s.state = 4) ∧ 10 * r.g Reg.TRAC.IDENT_ID_SPEED_MIN ≤ (r.rpm (r.rateNow s)).natAbs ∧ !s.limited ∧ !r.window
  if !ok then s
  else
    let sum := s.psiSum + r.psiFrame s
    if s.qual + 1 < r.g Reg.TRAC.PSI_WIN_WIN then { s with qual := s.qual + 1, psiSum := sum }
    else
      let est := BitVec.ofInt 32 (sum / (20000000 * r.g Reg.TRAC.PSI_WIN_WIN))
      let ratio := Nat.min 65535 (est.toNat * 16384 / r.g Reg.TRAC.PSI)
      let bad := decide (ratio < r.g Reg.TRAC.PSI_TH_PSI_FAULT) || decide (r.g Reg.TRAC.PSI_WIN_PSI_HIGH < ratio)
      { s with qual := 0, psiSum := 0, psiEst := est, psiRatio := ratio, psiFault := s.psiFault || bad,
               psiWarn := if ratio < r.g Reg.TRAC.PSI_TH_PSI_WARN then true
                 else if r.g Reg.TRAC.PSI_TH_PSI_WARN + 256 ≤ ratio then false else s.psiWarn }

/-- An open-loop start at an angle and a speed in 0.1 rpm / 250,000,000 (R227). -/
def TracRun.openLoop (r : TracRun) (s : TracSt) (cause : Nat) (angle : Word) (speed : Int) : TracSt :=
  { s.go 2 3 cause r.tL with angle := angle, ifSpeed := speed }

/-- The states that the modulated control decides on, in the order of R236 (R216, R222, R223, R227, R228, R230, R232 to R234). -/
def TracRun.modulated (r : TracRun) (s : TracSt) : TracSt :=
  if s.paramBad then r.zero s 7 false
  else match r.sensorFault s with
  | some c => r.fault s c
  | none =>
    if r.moved ∧ r.g Reg.TRAC.FRAMES_B_GAP_MAX < (r.tL - r.before) / r.period then
      if r.encOk s then (if s.state = 4 then s.go 3 2 11 r.tL else s) else r.zero { s with lost := true, tries := 0 } 11 false
    else if s.state = 4 ∧ r.g Reg.TRAC.FRAMES_A_LOSS_FRAMES ≤ s.lossRuns then r.loss s 2 false
    else if s.state = 3 ∧ s.encOut then r.loss s 3 true
    else if s.psiFault then r.zero s 8 true
    else if r.mode = 4 ∨ r.mode = 5 then r.resume s 1
    else if r.mode = 0 ∨ r.mode = 2 then r.zero s 1 false
    else
      let s := if r.mode = 3 then { s with identRefused := true } else s
      if s.state = 4 ∧ s.speed < 8 * r.g Reg.TRAC.SPEEDS_A_OBS_MIN_SPEED then r.openLoop s 15 (r.angleAt s r.tL) (250000000 * r.rpm s.obsRate)
      else if s.state = 4 ∧ r.encOk s ∧ (r.g Reg.TRAC.TOPO_ENC_PRIMARY = 1 ∨ s.xchk) then s.go 3 2 17 r.tL
      else if s.state = 3 ∧ r.obsOk s ∧ r.g Reg.TRAC.TOPO_ENC_PRIMARY = 0 ∧ !s.xchk then s.go 4 1 17 r.tL
      else s

/-- CATCH (R225): three pulses fired by the previous runs are judged. -/
def TracRun.catching (r : TracRun) (s : TracSt) : TracSt :=
  if r.mode = 0 ∨ r.mode = 2 then s.go 0 0 (if s.paramBad then 7 else 1) r.tL
  else if r.exhausted s then r.fault s 10
  else match r.caught s with
    | none => s
    | some .inconsistent => r.failed s
    | some .still =>
      if r.mode = 1 then
        (if r.encOk s then (r.closed s 13 (r.encAngle s r.ts) s.encRate true).getD s else r.openLoop s 13 r.i.angle 0)
      else if r.mode = 3 then s.go 8 0 13 r.tL
      else s.go 0 0 1 r.tL
    | some .turning =>
      if r.mode = 1 then (r.closed s 12 (r.pulseAngle s) (r.pulseRate s) false).getD (r.failed s)
      else if r.mode = 3 then { r.trust (s.go 0 0 12 r.tL) (r.pulseRate s) with identRefused := true }
      else s.go 0 0 1 r.tL

/-- RECATCH (R224): this frame's angle is judged. -/
def TracRun.recatch (r : TracRun) (s : TracSt) : TracSt :=
  if r.mode = 0 ∨ r.mode = 2 then s.go 6 4 (if s.paramBad then 7 else 1) r.tL
  else if r.exhausted s then r.fault s 10
  else
    let hits := if s.agree then s.hits + 1 else 0
    if r.g Reg.TRAC.FRAMES_A_LOCK_FRAMES ≤ hits then
      if r.mode = 1 then (r.closed s 14 (s.theta.getD 0) s.argRate false).getD (r.failed s) else s.go 6 4 1 r.tL
    else if s.frames < 4 * r.g Reg.TRAC.FRAMES_A_LOCK_FRAMES then { s with hits := hits, frames := s.frames + 1 }
    else if r.mode ≠ 1 then s.go 6 4 1 r.tL
    else r.failed s

/-- The open-loop start: the reference speed ramps at IF_ACCEL in the direction of TQ_REQ, or towards zero (R227). -/
def TracRun.starting (r : TracRun) (s : TracSt) : TracSt :=
  if !s.paramBad ∧ (r.mode = 4 ∨ r.mode = 5) then r.resume s 1
  else
    let tq : Int := if r.mode = 1 then signed 32 (r.g Reg.TRAC.TQ_REQ) else 0
    let d : Int := r.g Reg.TRAC.SPEEDS_B_IF_ACCEL * r.period
    let v := if 0 < tq then s.ifSpeed + d else if tq < 0 then s.ifSpeed - d
      else if s.ifSpeed.natAbs ≤ d.natAbs then 0 else if 0 < s.ifSpeed then s.ifSpeed - d else s.ifSpeed + d
    let s := { s with ifSpeed := v, hits := if r.obsOk s then s.hits + 1 else 0, identRefused := s.identRefused || r.mode == 3 }
    if r.g Reg.TRAC.FRAMES_A_LOCK_FRAMES ≤ s.hits then { r.trust (s.go 4 1 14 r.tL) s.obsRate with tq := 0, lossRuns := 0 }
    else if 3750000000 * r.g Reg.TRAC.SPEEDS_A_OBS_MIN_SPEED ≤ v.natAbs ∧ v ≠ 0 then r.zero s 9 true
    else if v = 0 ∧ tq = 0 then s.go 0 0 (if s.paramBad then 7 else 15) r.tL
    else s

/-- The machine state after the run (R235, Table 8-5). -/
def TracRun.decide_ (r : TracRun) (s : TracSt) : TracSt :=
  let modeCause := if s.paramBad then 7 else 1
  let straight := r.mode = 1 ∧ r.encOk s ∧ r.g Reg.TRAC.TOPO_ENC_PRIMARY = 1
  let refuse := fun (x : TracSt) => if r.mode = 3 then { x with identRefused := true } else x
  match s.state with
  | 0 =>
    if r.mode = 4 ∨ r.mode = 5 then r.resume s modeCause
    else if r.mode = 2 then s.go 6 4 modeCause r.tL
    else if straight then (r.closed s modeCause (r.encAngle s r.ts) s.encRate true).getD s
    else if r.mode = 1 ∨ r.mode = 3 then s.go 1 5 modeCause r.tL
    else s
  | 1 => r.catching s
  | 2 => r.starting s
  | 3 | 4 => r.modulated s
  | 5 => if r.g Reg.TRAC.FRAMES_A_ZERO_FRAMES ≤ s.frames then r.afterZero s else { s with frames := s.frames + 1 }
  | 6 =>
    if r.mode = 4 ∨ r.mode = 5 then r.resume { s with frames := s.frames + 1 } modeCause
    else if r.mode = 0 ∧ r.i.tracked ∧ s.arg.isSome ∧ (r.rpm s.argRate).natAbs < 9 * r.g Reg.TRAC.SPEEDS_A_ASC_SPEED then s.go 0 0 modeCause r.tL
    else if straight then (r.closed s modeCause (r.encAngle s r.ts) s.encRate true).getD s
    else if r.mode = 1 ∧ r.g Reg.TRAC.FRAMES_B_ASC_SETTLE ≤ s.frames then
      { s.go 7 4 modeCause r.tL with hits := if s.agree then 1 else 0 }
    else refuse { s with frames := s.frames + 1 }
  | 7 => r.recatch s
  | 8 =>
    if r.mode = 4 ∨ r.mode = 5 then r.resume s modeCause
    else if r.mode ≠ 3 then s.go 0 0 modeCause r.tL
    else if !r.window then s.go 0 0 0 r.tL else s
  | _ =>
    if r.mode = 0 ∧ !r.sensing s s.cause then
      { (if s.asc then s.go 6 4 modeCause r.tL else s.go 0 0 modeCause r.tL) with psiFault := false, lost := false }
    else refuse s

/-! ### References -/

/-- d and q currents in mA of the maximum-torque-per-ampere relation for a q-axis current (R218). -/
def TracRun.mtpaD (r : TracRun) (iq : Nat) : Int :=
  let ld := r.g Reg.TRAC.LD
  let lq := r.g Reg.TRAC.LQ
  let a := fun (d : Nat) => 500000 * r.g Reg.TRAC.PSI / d
  if ld < lq then (a (lq - ld) : Int) - vecLen (a (lq - ld)) iq else if lq < ld then (vecLen (a (ld - lq)) iq : Int) - a (ld - lq) else 0

/-- Torque of one set in 0.01 N·m × 2 × 10^13 for its currents in mA. -/
def TracRun.torqueOf (r : TracRun) (d : Int) (q : Nat) : Int :=
  3 * r.g Reg.TRAC.SLOTS_POLE_PAIRS * q * (1000000 * (r.g Reg.TRAC.PSI : Int) + ((r.g Reg.TRAC.LD : Int) - r.g Reg.TRAC.LQ) * d)

/-- The q-axis current of one set for its share of a torque in 0.01 N·m / 2,500,000 (R218). -/
def TracRun.mtpaQ (r : TracRun) (tq : Nat) : Nat :=
  let want := tq * 8000000 / (r.g Reg.TRAC.TOPO_SETS + 1)
  (List.range 26).foldr (fun b i => if r.torqueOf (r.mtpaD (i + 2 ^ b)) (i + 2 ^ b) ≤ want then i + 2 ^ b else i) 0

/-- The current references of a run: by state, with the injected signal, in MODE IDENT only at a standstill that CATCH has found, each set's vector limited to I_MAX; and whether the limit acted (R218, R223, R227, R234). -/
def TracRun.currents (r : TracRun) (s : TracSt) : Int × Int × Bool :=
  let closed := s.state = 3 ∨ s.state = 4
  let q0 : Int := if closed then (if s.tq < 0 then -(r.mtpaQ s.tq.natAbs : Int) else r.mtpaQ s.tq.natAbs) else 0
  let d0 : Int := if closed then r.mtpaD q0.natAbs - r.i.weaken else if s.state = 2 then 1000 * r.g Reg.TRAC.START_IF_CURRENT else 0
  let x := if r.window ∧ r.g Reg.TRAC.IDENT_INJ_EN = 1 ∧ (s.state = 8 ∨ (r.mode ≠ 3 ∧ (closed ∨ s.state = 2))) then r.inj.toInt * (1000 * r.g Reg.TRAC.CURRENT_I_MAX) / 2 ^ 31 else 0
  let d := if r.g Reg.TRAC.IDENT_INJ_AXIS = 0 then d0 + x else d0
  let q := if r.g Reg.TRAC.IDENT_INJ_AXIS = 0 then q0 else q0 + x
  let m := vecLen d q
  let top := 1000 * r.g Reg.TRAC.CURRENT_I_MAX
  if top < m then (d * top / m, q * top / m, true) else (d, q, false)

/-- The request after rules 1 and 2 of R218 in 0.01 N·m / 2,500,000, and whether rule 2 reduces it. -/
def TracRun.request (r : TracRun) (s : TracSt) : Int × Bool :=
  let mot : Int := 100 * r.g Reg.TRAC.TQ_LIM_MOT
  let gen : Int := 100 * r.g Reg.TRAC.TQ_LIM_GEN
  let up := if s.omega < 0 then gen else mot
  let down := if 0 < s.omega then gen else mot
  let req0 : Int := if s.stale || (r.mode != 1 && r.mode != 3) then 0 else signed 32 (r.g Reg.TRAC.TQ_REQ)
  let req := if up < req0 then up else if req0 < -down then -down else req0
  let lim := 10 * r.g Reg.TRAC.LIMITS_SPD_LIM
  if lim < s.speed ∧ 0 < req * s.omega then
    (if 21 * lim ≤ 20 * s.speed then 0 else 2500000 * req * (21 * lim - 20 * s.speed : Nat) / lim, true)
  else (2500000 * req, false)

/-- The torque reference and the current references after the run; `waits`: the run has acted on a condition that comes before the torque request, which waits for a later run (R217, R218, R236). -/
def TracRun.torque (r : TracRun) (s : TracSt) (waits : Bool) : TracSt :=
  let closed := s.state = 3 ∨ s.state = 4
  let (target, fast) := r.request s
  let step : Int := r.g Reg.TRAC.TQ_RATE * r.period
  let tq := if !closed then 0 else if waits then s.tq else if step = 0 then target else if target < s.tq - step then s.tq - step else if s.tq + step < target then s.tq + step else target
  let s := { s with tq := tq }
  let (d, q, cut) := r.currents s
  { s with idRef := d, iqRef := q, limited := decide closed && (fast || cut || r.i.weaken != 0),
           ctrl := if closed ∨ s.state = 2 ∨ s.state = 5 ∨ s.state = 8 then r.i.ctrl else s.ctrl }

/-- TQ_REF as published: the reference in 0.01 N·m, within one unit where it is no whole number (log entry 8). -/
def TracRun.tqWord (r : TracRun) (s : TracSt) : Word :=
  BitVec.ofInt 32 (if s.tq % 2500000 = 0 then s.tq / 2500000 else r.near 8 (s.tq / 2500000))

/-- Estimates at the end of an injection window: one is published, with its OK bit, where its response exceeds 32 times the noise (R234). -/
def TracRun.estimates (r : TracRun) (s : TracSt) : TracSt :=
  let inWin := r.window && r.g Reg.TRAC.IDENT_INJ_EN == 1
  let axis := if r.g Reg.TRAC.IDENT_INJ_AXIS = 0 then [0, 1] else [2]
  if s.inj && !inWin then
    let new : Nat → Option Word := fun i => match r.i.est[i]? with
      | some (v, response, noise) => if 32 * noise < response then some v else none
      | none => none
    { s with inj := false,
             est := (List.range 3).map fun i => if axis.contains i then (new i).getD (s.est.getD i 0) else s.est.getD i 0,
             estOk := ((List.range 3).filter fun i => if axis.contains i then (new i).isSome else s.estOk.testBit i).foldl (fun m i => m + 2 ^ i) 0 }
  else { s with inj := inWin }

/-- One run of the law: the state of the machine for the next frame (R212, R216, R232, R236). -/
def TracRun.next (r : TracRun) : TracSt :=
  let s := r.psi r.prepare
  let s := if r.mode = blockField r.st.block Reg.TRAC.MODE_REQ then s else { s with identRefused := false }
  let acted := r.decide_ s
  let waits := acted.state != s.state || acted.src != s.src || r.mode != blockField r.st.block Reg.TRAC.MODE_REQ
  let s := acted
  let s := { s with angle := if s.state = 2 ∧ r.st.state ≠ 2 then s.angle else r.angleAt s r.tL }
  { r.estimates (r.torque s waits) with ran := some (r.q, r.tL), block := r.b }

/-! ### Outputs -/

/-- Edges of the pattern of the frame at `bound`: leg of the machine, time in fine steps, KIND (R212 to R214, R223, R225). -/
def TracRun.pattern (r : TracRun) (s : TracSt) (bound : Nat) : List (Nat × Nat × Nat) :=
  let n := 3 * (r.g Reg.TRAC.TOPO_SETS + 1)
  let lo := 8 * (bound + r.g Reg.TRAC.TOPO_EARLIEST)
  let hi := 8 * (bound + r.period - r.g Reg.TRAC.TOPO_EARLIEST)
  let clamp := fun (t : Int) => if t < lo then lo else if (hi : Int) < t then hi else t.toNat
  let all := fun kind => (List.range n).map fun j => (j, lo, kind)
  match s.state with
  | 0 => all 3
  | 1 =>
    if r.exhausted s then all 3
    else
      let mid : Int := bound + r.period / 2
      (List.range n).flatMap fun j => [(j, clamp (8 * (mid - r.pulse)), 2), (j, clamp (8 * (mid + 250)), 3)]
  | 6 | 7 => all 2
  | 9 => all (if s.asc then 2 else 3)
  | _ =>
    (List.range n).flatMap fun j =>
      let h := r.i.half.getD j 0
      let high := r.g Reg.TRAC.TOPO_INTERLEAVE = 1 ∧ j / 3 % 2 = 1
      let a : Int := if high then 8 * bound + h else 8 * bound + 4 * r.period - h
      let b : Int := if high then 8 * (bound + r.period) - h else 8 * bound + 4 * r.period + h
      if h < 0 ∨ clamp b < clamp a then [] else [(j, clamp a, if high then 2 else 1), (j, clamp b, if high then 1 else 2)]

/-- The pattern leaves for the edge ports, each block closed by its CLOSE (R199, R212, R213). -/
def TracRun.send (r : TracRun) (l bound : Nat) (edges : List (Nat × Nat × Nat)) : Act :=
  let k0 := r.g Reg.TRAC.TOPO_FIRST_BLK
  each (List.range (tracBlocks r.b)) fun k =>
    .seq (each (edges.filter fun e => e.1 / 4 == k) fun e => sendEntry r.q l (k0 + k) e.2.1 e.2.2 (e.1 % 4))
      (sendEntry r.q l (k0 + k) (8 * bound) 0 0)

/-- ANGLE: the electrical angle at B + P/2 of the pattern written (Table 8-6). -/
def TracRun.angleWord (r : TracRun) (s : TracSt) : Word :=
  BitVec.ofInt 32 (r.near 6 (s.angle + turnBy (r.rateNow s) ((r.bound + r.period + r.period / 2 : Nat) - (r.tL : Int))).toNat)

/-- The status words of Table 8-6 for a machine state; `w` gives the words of the run itself: SEQ_ECHO, TQ_EST, I_D, I_Q, ANGLE, TQ_REF, VDC. -/
def tracStatus (s : TracSt) (w : Nat → Word) : List Word :=
  let b := fun (x : Bool) k => if x then 2 ^ k else 0
  [BitVec.ofNat 32 (s.state + 2 ^ 4 * s.src + 2 ^ 8 * s.cause + b s.paramBad 16 + b s.stale 17 + b s.limited 18 + b s.xchk 19 + b s.psiWarn 20 +
      b s.psiFault 21 + b s.encLost 22 + b s.identRefused 23 + 2 ^ 24 * (s.tries % 256)),
    w 1, w 2, BitVec.ofInt 32 s.omega, w 4, w 5, BitVec.ofNat 32 s.confQ15, w 7,
    s.psiEst, BitVec.ofNat 32 s.psiRatio, s.est.getD 0 0, s.est.getD 1 0, s.est.getD 2 0, BitVec.ofNat 32 (s.estOk + 2 ^ 16 * s.qual),
    BitVec.ofNat 32 s.trans, BitVec.ofNat 32 (s.trans / 2 ^ 32), w 16, w 17]

/-- The words that the run itself gives the status. -/
def TracRun.words (r : TracRun) (s : TracSt) (n : Nat) : Word :=
  let i := r.dq (r.angleAt s r.ts)
  match n with
  | 1 => BitVec.ofNat 32 (r.g Reg.TRAC.CMD_SEQ)
  | 2 => r.i.tqEst
  | 4 => BitVec.ofInt 32 i.1
  | 5 => BitVec.ofInt 32 i.2
  | 7 => r.angleWord s
  | 16 => r.tqWord s
  | _ => r.x.vdc.1

/-- A law state is kept with the published block, and travels with it to the standby (R232, R338). -/
def keepTrac (q : Quay) (m : Nat) (s : TracSt) : Act :=
  publishes q (.seq (modTrac (4 * q.idx + m) fun _ => s)
    (.dyn fun c => when (c.mirrors q) (modGwy q.idx fun g => { g with tracs := g.tracs ++ [(m, s, c.t)] })))

/-- The status words of machine `m` are written (R237). -/
def putStatus (q : Quay) (m : Nat) (ws : List Word) : Act := each (ws.zip (List.range 18)) fun e => setWord (mailboxAddr q (64 * m + e.2)) e.1

/-- A run of the traction law of machine `m` in a lane whose generator has boundary `bound` and period `p` (R212, R216). -/
def tractionRun (q : Quay) (l m : Nat) (x : Launch) (bound p : Nat) : Act :=
  .dyn fun c =>
    let new := c.tracBlock q x.tL m
    let ok := tracValid new
    let st := { c.trac (4 * q.idx + m) with paramBad := !ok }
    let b := if ok then new else st.block
    let g := blockField b
    if b.isEmpty then
      -- no valid block: the machine stays in OFF, and no sample of VDC is named (R216)
      let i := Config.traction ⟨b, [], 0, x.tL⟩ { st with ran := none }
      seqs [putStatus q m (tracStatus st fun n => if n = 17 then BitVec.ofNat 32 (Config.runStart 87) else 0),
        imageEnd q l i.cycles i.sat i.words (keepTrac q m { st with ran := some (q, x.tL) })]
    else
      imageReads q l x (tracReads b bound p) fun val sat =>
        let gen := x.inj[g Reg.TRAC.IDENT_INJ_GEN]?
        let inj := x.injValue (g Reg.TRAC.IDENT_INJ_GEN)
        let i := Config.traction ⟨b, lawSamples (tracReads b bound p) val, inj, x.tL⟩ { st with ran := none }
        let r : TracRun :=
          { b := b, mode := if ok then g Reg.TRAC.MODE_REQ else 0, x := tracSamples b bound p val, i := i, st := st, tL := x.tL, q := q,
            bound := bound, period := p,
            window := match gen with
              | some s => s.mode != 0 && s.inWindow x.tL
              | none => false,
            inj := inj }
        let s := r.next
        let edges := r.pattern s (bound + p)
        seqs [r.send l (bound + p) edges, putStatus q m (tracStatus s (r.words s)),
          when (s.state != st.state || s.src != st.src)
            (tapWrite q l x (g Reg.TRAC.TOPO_TAP) [BitVec.ofNat 32 (s.state + 16 * st.state + 256 * s.cause + 2 ^ 16 * s.src),
              BitVec.ofInt 32 s.omega, r.tqWord s, BitVec.ofNat 32 s.confQ15]),
          imageEnd q l i.cycles (i.sat || sat) i.words (keepTrac q m { s with edges := s.edges ++ edges })]

end Sys2Proof.Machine
end

