-- ==== Sys2Proof/Machine/Images.lean ====
section
/-! DEFINITION. Runs of the converter and charger law images (R273 to R288), and the start of a run (R184). What the manual leaves to the law's own arithmetic are open functions of Config. -/

namespace Sys2Proof.Machine

open Sys2Proof

/-! ### The converter law -/

/-- Parameter words from coefficient word `first`, from the bank active at the launch tick. -/
def Chip.paramBlock (c : Chip) (q : Quay) (tL first n : Nat) : List Word := (List.range n).map fun i => (c.coef q tL (first + i)).1

/-- The converter block passes the checks of R282. -/
def cparValid (b : List Word) : Bool :=
  let g := blockField b
  (b.getD 0 0).bits 11 5 == 0 && (b.getD 2 0).bits 16 16 == 0 && (b.getD 10 0).bits 16 16 == 0 && (b.getD 3 0).bits 2 6 == 0 &&
    decide (1 ≤ g Reg.CPAR.TOPO_PHASES) && decide (g Reg.CPAR.TOPO_PHASES ≤ 16) && g Reg.CPAR.TRACK_TRACK_MODE != 3 &&
    g Reg.CPAR.TRACK_TRACK_FRAMES != 0 && g Reg.CPAR.TRACK_TGT_BAND != 0 && decide (g Reg.CPAR.DUTY_D_MAX ≤ 31130) && g Reg.CPAR.IMB != 0

/-- The samples of a converter run, with V. -/
structure ConvSamples where
  vdc : Word × Bool
  vbat : Word × Bool
  currents : List (Word × Bool)
  master : Word × Bool
  cnv : List (Word × Bool)
  deriving DecidableEq, Repr

/-- Slots of the current samples (R279). -/
def convCurrents (b : List Word) : List Nat :=
  let g := blockField b
  if g Reg.CPAR.TOPO_I_PHASE_SENSED = 1 then (List.range (g Reg.CPAR.TOPO_PHASES)).map (g Reg.CPAR.SLOTS_A_SLOT_I + ·)
  else [g Reg.CPAR.SLOTS_A_SLOT_ISUM]

/-- Slots that the converter law reads, for the samples from boundary `bound` on (R263, R273, R279). -/
def convReads (b : List Word) (bound : Nat) : List (Nat × Nat) :=
  let g := blockField b
  ([g Reg.CPAR.SLOTS_A_SLOT_VDC, g Reg.CPAR.SLOTS_A_SLOT_VBAT] ++ convCurrents b ++
    (if g Reg.CPAR.TRACK_TRACK_MODE = 0 then [] else [g Reg.CPAR.SLOTS_B_SLOT_MASTER]) ++
    (List.range 4).map (g Reg.CPAR.SLOTS_B_SLOT_CNV + ·)).map fun s => (s, bound)

/-- The samples that the reads return. -/
def convSamples (b : List Word) (bound : Nat) (val : Nat → Nat → LdsVal) : ConvSamples :=
  let g := blockField b
  let at_ := fun s => ((val s bound).v, (val s bound).valid)
  { vdc := at_ (g Reg.CPAR.SLOTS_A_SLOT_VDC), vbat := at_ (g Reg.CPAR.SLOTS_A_SLOT_VBAT), currents := (convCurrents b).map at_,
    master := if g Reg.CPAR.TRACK_TRACK_MODE = 0 then (0, true) else at_ (g Reg.CPAR.SLOTS_B_SLOT_MASTER),
    cnv := (List.range 4).map fun i => at_ (g Reg.CPAR.SLOTS_B_SLOT_CNV + i) }

/-- A run of the converter law: its block, samples, previous state, operands, and the frame it writes. -/
structure ConvRun where
  b : List Word
  ok : Bool
  x : ConvSamples
  st : ConvSt
  /-- What the arithmetic of its law takes. -/
  input : Config.LawInput
  /-- SHED_I of CNV, in mA. -/
  shedI : Nat
  bound : Nat
  period : Nat
  deriving DecidableEq, Repr

def ConvRun.g (r : ConvRun) (f : Field) : Nat := blockField r.b f
/-- Word `n` of Table 10-2 as sampled. -/
def ConvRun.cnv (r : ConvRun) (n : Nat) : Word := (r.x.cnv.getD n (0, false)).1
def ConvRun.state (r : ConvRun) : Nat := (r.cnv 2).bits 0 3
/-- Phases and first block: of the parameter block, or of WORD 2 where the block fails its checks. -/
def ConvRun.phases (r : ConvRun) : Nat := if r.ok then r.g Reg.CPAR.TOPO_PHASES else (r.cnv 2).bits 6 5
def ConvRun.first (r : ConvRun) : Nat := if r.ok then r.g Reg.CPAR.TOPO_FIRST_BLK else (r.cnv 2).bits 11 5
/-- The law regulates (R273). -/
def ConvRun.regulates (r : ConvRun) : Bool := r.state == cvTRACK || r.state == cvRUN || r.state == cvANNOUNCE
/-- Total current in mA (R274, R279). -/
def ConvRun.iSum (r : ConvRun) : Int := (r.x.currents.map fun e => e.1.toInt).sum

/-- The reference in mV as a numerator and a denominator (R273, R275). -/
def ConvRun.reference (r : ConvRun) : Int × Nat :=
  if r.state = cvTRACK then
    match r.g Reg.CPAR.TRACK_TRACK_MODE with
    | 0 => (r.x.vbat.1.toInt, 1)
    | 1 => (r.x.master.1.toInt, 1)
    | _ => if r.g Reg.CPAR.TRACK_MASTER_FINAL = 0 then (Config.ratiometric r.input, 1)
        else (r.g Reg.CPAR.TRACK_TGT_TRACK_TARGET * r.x.master.1.toInt, r.g Reg.CPAR.TRACK_MASTER_FINAL)
  else ((r.cnv 0).toNat, 1)

/-- The reference in 0.1 V, as TRACKREF carries it (R275). -/
def ConvRun.trackRef (r : ConvRun) : Nat := Nat.min 65535 (r.reference.1 / (100 * r.reference.2)).toNat

/-- I_SUM of the report in 0.1 A (Table 10-3). -/
def ConvRun.reportSum (r : ConvRun) : Nat := Nat.min 65535 (r.iSum / 100).toNat

/-- The converter stays in bypass, or the reference lies below the battery (R273, R275). -/
def ConvRun.bypass (r : ConvRun) : Bool :=
  r.regulates && ((r.state == cvTRACK && r.g Reg.CPAR.TRACK_TRACK_MODE == 0) || decide (r.reference.1 < r.x.vbat.1.toInt * r.reference.2))

/-- The link lies within BAND of the larger of reference and battery voltage (R273). -/
def ConvRun.inBand (r : ConvRun) : Bool :=
  let n := r.reference.1
  let d : Int := r.reference.2
  let top := if n < r.x.vbat.1.toInt * d then r.x.vbat.1.toInt * d else n
  decide ((r.x.vdc.1.toInt * d - top).natAbs ≤ 100 * r.g Reg.CPAR.TRACK_TGT_BAND * r.reference.2)

/-- LOAD_STEP (R278). -/
def ConvRun.loadStep (r : ConvRun) : Bool :=
  r.regulates &&
    ((match r.st.iSum with
      | some old => decide (100 * (r.g Reg.CPAR.STEP_STEP_I : Int) < r.iSum - old)
      | none => false) ||
      decide (r.x.vdc.1.toInt * r.reference.2 + 100 * (r.g Reg.CPAR.STEP_STEP_V : Int) * r.reference.2 < r.reference.1))

/-- LAW_FAULT (R275, R281, R282). -/
def ConvRun.lawFault (r : ConvRun) : Bool :=
  !r.ok || r.g Reg.CPAR.TOPO_PHASES != (r.cnv 2).bits 6 5 || r.g Reg.CPAR.TOPO_FIRST_BLK != (r.cnv 2).bits 11 5 ||
    !r.x.vdc.2 || !r.x.vbat.2 || r.x.currents.any (fun e => !e.2) || (r.state == cvTRACK && !r.x.master.2)

/-- Consecutive runs at the end of tracking (R275). -/
def ConvRun.track (r : ConvRun) : Nat :=
  let band : Int := 100 * r.g Reg.CPAR.TRACK_TGT_BAND
  let good : Bool := match r.g Reg.CPAR.TRACK_TRACK_MODE with
    | 0 => decide ((r.x.vdc.1.toInt - r.x.vbat.1.toInt).natAbs ≤ band.toNat)
    | _ => decide (100 * (r.g Reg.CPAR.TRACK_MASTER_FINAL : Int) - band ≤ r.x.master.1.toInt)
  if r.state == cvTRACK && good && !r.lawFault then r.st.track + 1 else 0

/-- Tracking has ended in this run. -/
def ConvRun.trackDone (r : ConvRun) : Bool := r.state == cvTRACK && decide (r.g Reg.CPAR.TRACK_TRACK_FRAMES ≤ r.track)

/-- The switching phases in rank order: ACTIVE and ANNOUNCE, or every phase after a load step (R274, R276, R278). -/
def ConvRun.switching (r : ConvRun) : List Nat :=
  let w := r.cnv 1
  (List.range r.phases).filter fun j => r.loadStep || w.getLsbD j || w.getLsbD (16 + j)

/-- The total current reference in mA: what the voltage loop asks for, limited to N × I_PH_MAX, and to OT_I_LIM while OT_WARN is 1 (R274, R280). -/
def ConvRun.iRef (r : ConvRun) : Int :=
  let lim := fun (x top : Int) => if top < x then top else x
  let i := lim (Config.converterCurrent r.input r.st) (100 * r.g Reg.CPAR.DUTY_I_PH_MAX * r.switching.length : Nat)
  if (r.cnv 2).getLsbD 4 then lim i (100 * r.g Reg.CPAR.OT_OT_I_LIM : Nat) else i

/-- The arithmetic of the run. -/
def ConvRun.i (r : ConvRun) : Config.ConverterArith := Config.converter r.input r.st r.iRef

/-- Time for which a switching phase is LOW, limited to D_MAX, in fine steps (R274). -/
def ConvRun.onTime (r : ConvRun) : Nat := Nat.min r.i.onTime (r.g Reg.CPAR.DUTY_D_MAX * (8 * r.period) / 32768)

/-- Edges in time order. -/
def byTime : List (Nat × Nat) → List (Nat × Nat)
  | [] => []
  | e :: l => insert_ e (byTime l)
where
  insert_ (e : Nat × Nat) : List (Nat × Nat) → List (Nat × Nat)
    | [] => [e]
    | f :: l => if f.1 < e.1 then f :: insert_ e l else e :: f :: l

/-- The pattern of the frame: phase, time in fine steps, KIND; with the offsets of the ranks and the HIGH edges left for the next frame (R273, R274, R277). -/
def ConvRun.pattern (r : ConvRun) : List (Nat × Nat × Nat) × List (Nat × Nat) × List (Nat × Nat) :=
  let lo := 8 * (r.bound + r.g Reg.CPAR.TOPO_EARLIEST)
  let start := 8 * r.bound
  let all := fun kind => ((List.range r.phases).map fun j => (j, lo, kind), [], [])
  if !r.ok then all 3
  else if r.state = cvSHUTDOWN then all (if (r.cnv 2).getLsbD 3 then 1 else 3)
  else if !r.regulates then all 3
  else
    let w := r.switching
    let n := w.length
    let gone := (r.st.ranks.filter fun e => !w.contains e.1).map fun e =>
      let t := match r.st.carry.find? fun h => h.1 == e.1 with
        | some (_, h) => h
        | none => start + e.2 + r.onTime
      (e.1, Nat.max lo t, 3)
    if r.bypass then (w.map (fun j => (j, lo, 1)) ++ gone, w.map fun j => (j, 0), [])
    else
      let ranks := (w.zip (List.range n)).map fun e => (e.1, e.2 * (8 * r.period) / n)
      let highs := ranks.map fun e => (e.1, start + e.2 + r.onTime)
      let fin := start + 8 * r.period
      let carried := r.st.carry.filter fun h => w.contains h.1
      let mine := w.flatMap fun j =>
        let es := (carried.filter fun h => h.1 == j).map (fun h => (Nat.max lo h.2, 1)) ++
          ((ranks.filter fun e => e.1 == j).map fun e => (Nat.max lo (start + e.2), 2)) ++
          ((highs.filter fun h => h.1 == j && decide (h.2 < fin)).map fun h => (Nat.max lo h.2, 1))
        (byTime es).map fun e => (j, e.1, e.2)
      (mine ++ gone, ranks, highs.filter fun h => decide (fin ≤ h.2))

/-- DUTY in Q15 (R283). -/
def ConvRun.duty (r : ConvRun) : Nat := if r.ok && r.regulates && !r.bypass then r.onTime * 32768 / (8 * r.period) else 0

/-- The window of R279 after this run: frames, sums, means, ratio. -/
def ConvRun.imbalance (r : ConvRun) : Nat × List Int × List Word × Nat :=
  if r.ok && r.g Reg.CPAR.TOPO_I_PHASE_SENSED == 1 then
    let sums := (List.range r.phases).map fun j => r.st.sums.getD j 0 + (r.x.currents.getD j (0, false)).1.toInt
    let win := r.g Reg.CPAR.IMB
    if r.st.frames + 1 < win then (r.st.frames + 1, sums, r.st.means, r.st.ratio)
    else
      let means := sums.map fun x => x / (win : Int)
      let mine := r.switching.map fun j => means.getD j 0
      let n := mine.length
      let top := mine.foldl max (mine.headD 0)
      let low := mine.foldl min (mine.headD 0)
      (0, [], means.map (BitVec.ofInt 32),
        if 2 ≤ n ∧ (r.shedI * n : Int) ≤ mine.sum ∧ 0 < mine.sum then Nat.min 65535 ((top - low) * 32768 * n / mine.sum).toNat else r.st.ratio)
  else (0, [], [], 0)

/-- The state of the converter law is kept with the published block, and travels with it to the standby (R184, R338). -/
def keepConv (q : Quay) (st : ConvSt) : Act :=
  publishes q (.seq (modConv q.idx fun _ => st) (.dyn fun c => when (c.mirrors q) (modGwy q.idx fun g => { g with convs := g.convs ++ [(st, c.t)] })))

/-- A run of the converter law (R273). -/
def converterRun (q : Quay) (l : Nat) (x : Launch) (bound p : Nat) : Act :=
  .dyn fun c =>
    let b := c.paramBlock q x.tL 1536 11
    imageReads q l x (convReads b bound) fun val sat =>
      let r : ConvRun := ⟨b, cparValid b, convSamples b bound val, c.conv q.idx, ⟨b, lawSamples (convReads b bound) val, 0, x.tL⟩, 100 * x.shedI, bound + p, p⟩
      let (edges, ranks, carry) := r.pattern
      let (frames, sums, means, ratio) := r.imbalance
      let imb := r.ok && r.g Reg.CPAR.TOPO_I_PHASE_SENSED == 1 && decide (r.g Reg.CPAR.OT_IMB_WARN < ratio)
      let bit := fun (v : Bool) k => if v then 2 ^ k else 0
      let report : Word := BitVec.ofNat 32 (2 * 2 ^ 29 + r.reportSum + bit (r.ok && r.regulates && r.inBand) 16 + bit (r.ok && r.loadStep) 17 +
        bit (r.ok && r.trackDone) 18 + bit imb 19 + bit (r.ok && r.bypass) 20 + bit r.lawFault 21)
      let status := r.state + bit (r.ok && r.bypass) 3 + bit imb 4 + bit r.lawFault 5 + bit (!r.ok) 6 + bit (r.ok && r.loadStep) 7 +
        2 ^ 16 * (if r.ok && r.regulates then r.switching.length else 0)
      let words := [BitVec.ofNat 32 status, r.x.vdc.1, BitVec.ofInt 32 r.iSum, BitVec.ofNat 32 r.duty, BitVec.ofNat 32 ratio] ++
        (List.range 16).map (fun j => means.getD j 0) ++ List.replicate 11 0
      let st : ConvSt := { iSum := some r.iSum, sums := sums, ranks := ranks, carry := carry, track := r.track, frames := frames, means := means, ratio := ratio }
      seqs [
        each (List.range ((r.phases + 3) / 4)) fun k =>
          .seq (each (edges.filter fun e => e.1 / 4 == k) fun e => sendEntry q l (r.first + k) e.2.1 e.2.2 (e.1 % 4))
            (sendEntry q l (r.first + k) (8 * r.bound) 0 0),
        when (r.ok && r.trackDone) (modVcmds fun v => v ++ [(q, l, BitVec.ofNat 32 (3 * 2 ^ 29 + r.trackRef), x.tL)]),
        modVcmds fun v => v ++ [(q, l, report, x.tL)],
        each (words.zip (List.range 32)) fun e => setWord (mailboxAddr q (256 + e.2)) e.1,
        imageEnd q l r.i.cycles (r.i.sat || sat) r.i.words (keepConv q st)]

/-! ### The charger law -/

/-- The charger block passes the checks of Table 10-11. -/
def chpValid (b : List Word) : Bool :=
  (b.getD 0 0).bits 11 5 == 0 && (b.getD 5 0).bits 3 13 == 0 && blockField b Reg.CHP.MODE_I_RAMP != 0

/-- I_PILOT of Table 10-10, 0.1 A. -/
def pilotLimit (duty hostLim : Nat) (digital : Bool) : Nat :=
  if duty < 300 then 0
  else if duty ≤ 700 then (if digital then hostLim else 0)
  else if duty ≤ 799 then 0
  else if duty ≤ 999 then 60
  else if duty ≤ 8500 then duty * 6 / 100
  else if duty ≤ 9600 then (duty - 6400) * 25 / 100
  else if duty ≤ 9700 then 800
  else 0

/-- A field of the CPL_STAT word of a pilot set (R285). -/
def cplField (w : Word) (f : Field) : Nat := w.bits f.lo f.width

/-- Charging is permitted (R286). -/
def chargePermit (b : List Word) (stat : Word) (pilot : Nat) : Bool :=
  let g := blockField b
  g Reg.CHP.MODE_MODE == 1 &&
    (cplField stat Reg.CPL.CPL_STAT_STATE == 2 || (cplField stat Reg.CPL.CPL_STAT_STATE == 3 && g Reg.CHP.MODE_VENT_OK == 1)) &&
    cplField stat Reg.CPL.CPL_STAT_OSC == 1 && cplField stat Reg.CPL.CPL_STAT_FREQ_OK == 1 && cplField stat Reg.CPL.CPL_STAT_DIODE_FAIL == 0 && pilot != 0

/-- The next state of the charger (R288). -/
def chargerNext (st : Nat) (bad permit busUp zero stop : Bool) : Nat :=
  if bad then 5
  else match st with
    | 0 => if permit then 1 else 0
    | 1 => if !permit then 3 else if busUp then 2 else 1
    | 2 => if permit then 2 else 3
    | 3 => if zero then 4 else 3
    | 4 => if stop then 0 else 4
    | _ => if stop then 0 else 5

/-- Slots that the charger law reads, for the samples from boundary `bound` on (R284, R285). -/
def chgReads (b : List Word) (bound : Nat) : List (Nat × Nat) :=
  let g := blockField b
  let ac := if g Reg.CHP.TOPO_THREE_PHASE = 1 then [0, 1, 2] else [0]
  (ac.map (g Reg.CHP.SLOTS_A_SLOT_VAC + ·) ++ ac.map (g Reg.CHP.SLOTS_A_SLOT_IAC + ·) ++
    [g Reg.CHP.SLOTS_A_SLOT_VBUS, g Reg.CHP.SLOTS_B_SLOT_VOUT, g Reg.CHP.SLOTS_B_SLOT_IOUT, g Reg.CHP.SLOTS_A_SLOT_CPL, g Reg.CHP.SLOTS_A_SLOT_CPL + 1]).map
    fun s => (s, bound)

/-- The charger after a run of period `p` with a current limit in 0.1 A: RUN follows a lower limit at I_RAMP; RAMP_DOWN brings the set point to zero within 100 ms, at I_RAMP if that is faster (R286, R288). -/
def chargerStep (b : List Word) (s : ChgSt) (bad permit busUp : Bool) (limit rise p : Nat) : ChgSt :=
  let ramp := blockField b Reg.CHP.MODE_I_RAMP
  let top := 2500000 * limit
  let ref := match s.state with
    | 2 => if top < s.ref then Nat.max top (s.ref - ramp * p) else Nat.min top (s.ref + 2500000 * rise)
    | 3 => s.ref - s.rate * p
    | _ => 0
  let st := chargerNext s.state bad permit busUp (ref == 0) (blockField b Reg.CHP.MODE_MODE == 0)
  { state := st, ref := if st = 2 ∨ st = 3 then ref else 0,
    rate := if st = 3 then (if s.state = 3 then s.rate else Nat.max ramp ((ref + 249999999) / 250000000)) else 0 }

/-- The state of the charger law is kept with the published block, and travels with it to the standby (R184, R338). -/
def keepChg (q : Quay) (s : ChgSt) : Act :=
  publishes q (.seq (modChg q.idx fun _ => s) (.dyn fun c => when (c.mirrors q) (modGwy q.idx fun g => { g with chgs := g.chgs ++ [(s, c.t)] })))

/-- Edges of a full bridge at 50 % duty, one switching period per frame: its first leg goes HIGH `o` fine steps into the frame of `p8` fine steps, its other leg LOW, and both turn round half a period later (R284). -/
def bridgeEdges (leg p8 o : Nat) : List (Nat × Nat × Nat) :=
  let pair := fun (a b : Nat) => if a ≤ b then [(a, true), (b, false)] else [(b, false), (a, true)]
  (pair (o % p8) ((o + p8 / 2) % p8)).flatMap fun e => [(leg, e.1, if e.2 then 1 else 2), (leg + 1, e.1, if e.2 then 2 else 1)]

/-- Edges of the charger legs, fine steps from the boundary: the PFC legs as its law asks, legs 1 and 2 none with single-phase input, and both bridges of the dual active bridge, the secondary shifted in phase; none before EARLIEST (R284). -/
def chargerEdges (b : List Word) (i : Config.ChargerArith) (p : Nat) : List (Nat × Nat × Nat) :=
  let g := blockField b
  let lo := 8 * g Reg.CHP.TOPO_EARLIEST
  let pfc := (i.pfc.filter fun e => g Reg.CHP.TOPO_THREE_PHASE == 1 || e.1.val == 0 || e.1.val == 3).map fun e => (e.1.val, e.2.1, e.2.2.val + 1)
  (pfc ++ bridgeEdges 4 (8 * p) i.primary ++ bridgeEdges 6 (8 * p) (i.primary + i.shift)).map fun e => (e.1, Nat.max lo e.2.1, e.2.2)

/-- The intermediate bus has reached V_BUS_REF − BAND (R288). -/
def chargerBusUp (b : List Word) (vbus : Word) : Bool :=
  decide (100 * ((blockField b Reg.CHP.SLOTS_B_V_BUS_REF : Int) - Config.chargerBand) ≤ vbus.toInt)

/-- A run of the charger law (R284 to R288). The input current of a single-phase input is the sample of SLOT_IAC. -/
def chargerRun (q : Quay) (l : Nat) (x : Launch) (bound p : Nat) : Act :=
  .dyn fun c =>
    let b := c.paramBlock q x.tL 1600 6
    let g := blockField b
    imageReads q l x (chgReads b bound) fun val sat =>
      let at_ := fun s => (val s bound).v
      let duty := at_ (g Reg.CHP.SLOTS_A_SLOT_CPL)
      let stat := at_ (g Reg.CHP.SLOTS_A_SLOT_CPL + 1)
      let ok := chpValid b
      let pilot := pilotLimit duty.toNat (g Reg.CHP.LIMITS_HOST_I_LIM) (g Reg.CHP.MODE_DIGITAL_OK == 1)
      let host := g Reg.CHP.LIMITS_HOST_I_LIM
      let limit := Nat.min pilot (Nat.min host (g Reg.CHP.LIMITS_I_HW_MAX))
      let term := if pilot = limit then 0 else if host = limit then 1 else 2
      let permit := ok && chargePermit b stat pilot
      let bad := (chgReads b bound).any (fun e => !(val e.1 e.2).valid) || x.safe.contains (g Reg.CHP.TOPO_PFC_BLK) || x.safe.contains (g Reg.CHP.TOPO_DAB_BLK)
      let i := Config.charger ⟨b, lawSamples (chgReads b bound) val, 0, x.tL⟩ (c.chg q.idx) (g Reg.CHP.SLOTS_B_V_BUS_REF) (g Reg.CHP.OUT_V_OUT_REQ)
        (g Reg.CHP.OUT_I_OUT_REQ) limit
      let s := chargerStep b (c.chg q.idx) bad permit (chargerBusUp b (at_ (g Reg.CHP.SLOTS_A_SLOT_VBUS))) limit i.rise p
      let next := bound + p
      let edges := if ok && (s.state == 1 || s.state == 2 || s.state == 3) then (chargerEdges b i p).map fun e => (e.1, 8 * next + e.2.1, e.2.2)
        else (List.range 8).map fun j => (j, 8 * (next + g Reg.CHP.TOPO_EARLIEST), 3)
      let words := [BitVec.ofNat 32 (s.state + (if permit then 2 ^ 3 else 0) + 2 ^ 4 * term + if ok then 0 else 2 ^ 6), BitVec.ofNat 32 limit,
        if g Reg.CHP.TOPO_THREE_PHASE = 1 then i.iIn else at_ (g Reg.CHP.SLOTS_A_SLOT_IAC),
        at_ (g Reg.CHP.SLOTS_A_SLOT_VBUS), at_ (g Reg.CHP.SLOTS_B_SLOT_VOUT), at_ (g Reg.CHP.SLOTS_B_SLOT_IOUT), duty, BitVec.ofNat 32 pilot]
      seqs [
        each [(0, g Reg.CHP.TOPO_PFC_BLK), (1, g Reg.CHP.TOPO_DAB_BLK)] fun e =>
          .seq (each (edges.filter fun f => f.1 / 4 == e.1) fun f => sendEntry q l e.2 f.2.1 f.2.2 (f.1 % 4)) (sendEntry q l e.2 (8 * next) 0 0),
        each (words.zip (List.range 8)) fun e => setWord (mailboxAddr q (288 + e.2)) e.1,
        imageEnd q l i.cycles (i.sat || sat) i.words (keepChg q s)]

/-! ### The start of a run -/

/-- The law image that a descriptor names: 40 to 43 traction, 44 converter, 45 charger (R210, R263). -/
def imageOf (img : ImageRun) (law : Nat) : ImageRun :=
  match img with
  | .none => .none
  | .traction => if 40 ≤ law ∧ law < 44 then .traction else .none
  | .converter => if law = 44 then .converter else .none
  | .charger => if law = 45 then .charger else .none

/-- The run of a law image goes on: it stalls on a sample that has not arrived, or ends. Its generator must run, since its frames give every edge of it. -/
def imageGo (q : Quay) (l : Nat) : Act :=
  .dyn fun c =>
    match (c.laneOf q l).run with
    | none => .skip
    | some r =>
      match (r.launch.fgs.find? fun e => e.1 == r.fg).map Prod.snd, r.img with
      | some (b, p), .traction => tractionRun q l (r.launch.law - 40) r.launch b p
      | some (b, p), .converter => converterRun q l r.launch b p
      | some (b, p), .charger => chargerRun q l r.launch b p
      | _, _ => .skip

/-- RUN_START: a lane serves its next launch request (R184). Where law memory holds a law image unchanged, `img` is the run it makes (R210, R263). -/
def execRunStart (dt : Nat) (q : Quay) (l : Fin 8) (img : ImageRun) (s : State) : Host.Outcome State Fault Refusal :=
  s.act dt (startRun q l (imageOf img) (imageGo q l))

/-- LDS_RELEASE: a sample with a qualifying stamp has arrived; the stall counts in STALL_MAX but not against BUDGET, and one longer than STALL_LIMIT aborts the run (R185, R190). -/
def execLdsRelease (dt : Nat) (q : Quay) (l : Fin 8) (s : State) : Host.Outcome State Fault Refusal :=
  s.act dt (.dyn fun c =>
    match (c.laneOf q l).run with
    | some r =>
      match r.stall with
      | some (slot, tick, d, since) =>
        if r.stallLimit < c.t - since then stallTimeout q l r since
        else when (c.ldsLook q slot tick != .wait)
          (.seq (stallEnd q l since) (if r.img = .none then ldsTry q l slot tick d (r.cyc - 1) else imageGo q l))
      | none => .skip
    | none => .skip)

end Sys2Proof.Machine
end

