-- ==== Sys2Proof/Machine/Position.lean ====
section
/-! DEFINITION. Position interfaces and encoder outputs (Chapter 9). Edges of filtered inputs are commanded at their stamps. -/

namespace Sys2Proof.Machine

open Sys2Proof

def pgEMU (j : Nat) : Page := ⟨.emu, j⟩

/-- MODE of a position interface: 0 SERIAL, 1 QUAD, 2 HALL. -/
def Chip.posMode (c : Chip) (n : Nat) : Nat := c.act (pgPOS n) Reg.POS.POS_CFG_MODE

/-- LEVEL events of a POS page (R259). -/
def Chip.posLevels (c : Chip) (n : Nat) : Nat :=
  (if c.flag (pgPOS n) Reg.POS.POS_STAT_ENC_FAULT then 2 ^ 2 else 0) + (if c.flag (pgPOS n) Reg.POS.POS_STAT_STILL then 2 ^ 4 else 0) +
    if c.flag (pgPOS n) Reg.POS.POS_STAT_WARN then 2 ^ 7 else 0

/-! ### Encoder outputs -/

/-- LEVEL events of an EMU page. -/
def Chip.emuLevels (c : Chip) (j : Nat) : Nat :=
  (if c.flag (pgEMU j) Reg.EMU.EMU_STAT_LAG then 1 else 0) + if c.flag (pgEMU j) Reg.EMU.EMU_STAT_SRC_INVALID then 2 else 0

/-- The source satisfies the condition of the mode (R254). -/
def Chip.emuModeOk (c : Chip) (mode src : Nat) : Bool :=
  match mode with
  | 1 => c.posMode src == 0 || (c.posMode src == 1 && c.act (pgPOS src) Reg.POS.CPT != 0)
  | 2 => c.posMode src == 1 || c.posMode src == 2
  | _ => true

/-- Output levels A, B and Z (R254). -/
def putEmuPins (j : Nat) (a b z : Bool) : Act :=
  .dyn fun c =>
    let sw := c.actFlag (pgEMU j) Reg.EMU.EMU_CFG_DIR_INV
    seqs [putFlag (pgEMU j) Reg.EMU.EMU_STAT_A (if sw then b else a), putFlag (pgEMU j) Reg.EMU.EMU_STAT_B (if sw then a else b),
      putFlag (pgEMU j) Reg.EMU.EMU_STAT_Z z]

/-- OUT_COUNT and the pins in EMULATE. -/
def emuPins (j : Nat) : Act :=
  .dyn fun c =>
    let n := ((c.emu j).out % ((4 * c.act (pgEMU j) Reg.EMU.LINES : Nat) : Int)).toNat
    seqs [put (pgEMU j) Reg.EMU.OUT_COUNT n,
      putEmuPins j (n % 4 == 1 || n % 4 == 2) (n % 4 == 2 || n % 4 == 3)
        (c.actFlag (pgEMU j) Reg.EMU.EMU_CFG_Z_EN && n == c.act (pgEMU j) Reg.EMU.Z_POS)]

/-- LAG_NOW and LAG follow the distance to the target (R255, R260). -/
def emuLag (j : Nat) : Act :=
  .dyn fun c =>
    let p := pgEMU j
    let d := (c.emu j).t - (c.emu j).out
    let now := (sat32 d).1
    let lag := decide (c.act p Reg.EMU.LAG_MAX < d.natAbs)
    .seq (put p Reg.EMU.LAG_NOW (unsigned 32 now))
      (when (lag != c.flag p Reg.EMU.EMU_STAT_LAG)
        (seqs [putFlag p Reg.EMU.EMU_STAT_LAG lag, record p 0 0x01 c.t (if lag then 1 else 0) (unsigned 32 now), raiseLevels p fun c => c.emuLevels j]))

/-- The source of an EMULATE output is invalid (R254, R256). -/
def Chip.emuInvalid (c : Chip) (j : Nat) : Bool :=
  let src := c.act (pgEMU j) Reg.EMU.EMU_CFG_SRC
  (c.emu j).broken ||
    (c.act (pgEMU j) Reg.EMU.EMU_CFG_MODE == 1 &&
      (!c.en (pgPOS src) || c.flag (pgPOS src) Reg.POS.POS_STAT_ENC_FAULT || (c.posMode src == 0 && !(c.pos src).frameOk)))

/-- The target of a position (R255). -/
def Chip.emuTarget (c : Chip) (j : Nat) (p : Int) : Int := p * ((4 * c.act (pgEMU j) Reg.EMU.LINES : Nat) : Int) / 2 ^ 32

/-- SRC_INVALID, the target and LAG follow the source (R255, R256). -/
def emuRefresh (j : Nat) : Act :=
  .dyn fun c => when (c.on (pgEMU j))
    (let p := pgEMU j
     let bad := c.emuInvalid j
     seqs [
       when (bad != c.flag p Reg.EMU.EMU_STAT_SRC_INVALID)
         (seqs [putFlag p Reg.EMU.EMU_STAT_SRC_INVALID bad, record p 0 0x02 c.t (if bad then 1 else 0) (c.act p Reg.EMU.EMU_CFG_SRC),
           raiseLevels p fun c => c.emuLevels j]),
       when (c.act p Reg.EMU.EMU_CFG_MODE == 1)
         (.seq (when (!bad) (modEmu j fun e => { e with t := c.emuTarget j e.p })) (emuLag j))])

/-- The encoder outputs that take their input from interface `n`. -/
def Chip.emusOf (c : Chip) (n : Nat) : List Nat := (List.range 4).filter fun j => c.act (pgEMU j) Reg.EMU.EMU_CFG_SRC == n

/-- Outputs fed by interface `n` follow a change of its validity. -/
def emusRefresh (n : Nat) : Act := .dyn fun c => each (c.emusOf n) emuRefresh

/-- The outputs show what their mode asks for (R254). -/
def emuShow (j : Nat) : Act :=
  .dyn fun c => match c.act (pgEMU j) Reg.EMU.EMU_CFG_MODE with
    | 1 => emuPins j
    | 2 =>
      let v := (c.pos (c.act (pgEMU j) Reg.EMU.EMU_CFG_SRC)).levels
      putEmuPins j (v.testBit 0) (v.testBit 1) (v.testBit 2)
    | _ => putEmuPins j false false false

/-- An output starts: its position and its count restart at 0, and LAG ends (R254, R255; DESIGN CHOICE, log entry 59). -/
def emuStart (j : Nat) : Act :=
  .dyn fun c =>
    let src := c.pos (c.act (pgEMU j) Reg.EMU.EMU_CFG_SRC)
    seqs [modEmu j fun e => { at_ := e.at_, based := src.frameOk }, emuLag j, emuRefresh j, emuShow j]

/-- An output stops: all three pins are low, and the conditions that its flags show end with it (R254, R260). -/
def emuStop (j : Nat) : Act :=
  seqs [putEmuPins j false false false, modEmu j fun e => { at_ := e.at_ }, emuLag j,
    .dyn fun c => when (c.flag (pgEMU j) Reg.EMU.EMU_STAT_SRC_INVALID)
      (.seq (putFlag (pgEMU j) Reg.EMU.EMU_STAT_SRC_INVALID false) (record (pgEMU j) 0 0x02 c.t 0 (c.act (pgEMU j) Reg.EMU.EMU_CFG_SRC)))]

/-- A counted edge moves the source position by 1/CPT; the last bit is open where CPT does not divide 2^32 (R255, log entry 6). -/
def emuEdge (n : Nat) (plus : Bool) : Act :=
  .dyn fun c =>
    let cpt := c.act (pgPOS n) Reg.POS.CPT
    let step : Nat := 2 ^ 32 / cpt + if 2 ^ 32 % cpt = 0 then 0 else Config.freeValue c.free % 2
    each ((c.emusOf n).filter fun j => c.on (pgEMU j) && c.act (pgEMU j) Reg.EMU.EMU_CFG_MODE == 1) fun j =>
      seqs [.prim .freeNext,
        modEmu j fun e => { e with p := if plus then e.p + step else e.p - step, gap := 0 }, emuRefresh j]

/-- A valid serial frame due at `t` is ready: the source position moves by the difference of its ANGLE from that of the frame before (`prev`), or takes its ANGLE in the nearest turn, after an invalid frame and where no frame came before. `t0`: due tick of the valid frame before (R255, R256). -/
def emuFrame (n t : Nat) (angle : Word) (prev : Option Word) (t0 : Option Nat) : Act :=
  .dyn fun c => each ((c.emusOf n).filter fun j => c.on (pgEMU j) && c.act (pgEMU j) Reg.EMU.EMU_CFG_MODE == 1) fun j => .dyn fun c =>
    let p := pgEMU j
    let e := c.emu j
    let pos := match e.based, prev with
      | true, some a => e.p + (angle - a).toInt
      | _, _ => e.p + (angle - BitVec.ofInt 32 e.p).toInt
    seqs [
      modEmu j fun e => { e with p := pos, based := true },
      emuRefresh j,
      .dyn fun c =>
        let d := ((c.emu j).t - e.out).natAbs
        modEmu j fun x => { x with gap := match t0 with | some t0 => (t - t0) / d | none => 0 },
      when (!e.based) (.dyn fun c =>
        seqs [bump p Reg.EMU.RESYNC_CNT, evt p 2,
          record p 0 0x03 c.t (unsigned 32 (c.emuTarget j pos - c.emuTarget j e.p)) (c.fld p Reg.EMU.OUT_COUNT)])]

/-- EMU_COUNT_STEP: an emulated output moves one count towards its target, no closer to the count before than MIN_GAP and the spacing of the latest frame; it holds its levels while the condition of its mode is broken (R254, R255). -/
def execEmuCountStep (dt : Nat) (j : Fin 4) (s : State) : Host.Outcome State Fault Refusal :=
  s.act dt (.dyn fun c =>
    let e := c.emu j
    when (c.on (pgEMU j) && c.act (pgEMU j) Reg.EMU.EMU_CFG_MODE == 1 && e.t != e.out && !e.broken)
      (seqs [match e.at_ with | some a => atTick (a + Nat.max (c.act (pgEMU j) Reg.EMU.MIN_GAP) e.gap) | none => .skip,
        .dyn fun c => modEmu j fun e => { e with out := if e.out < e.t then e.out + 1 else e.out - 1, at_ := some c.t },
        emuPins j, emuLag j]))

/-- EMU_PASS_FOLLOW: the pins follow the filtered inputs of the source (R254, R257). -/
def execEmuPassFollow (dt : Nat) (j : Fin 4) (s : State) : Host.Outcome State Fault Refusal :=
  s.act dt (.dyn fun c =>
    let v := (c.pos (c.act (pgEMU j) Reg.EMU.EMU_CFG_SRC)).levels
    when (c.on (pgEMU j) && c.act (pgEMU j) Reg.EMU.EMU_CFG_MODE == 2 && !(c.emu j).broken)
      (putEmuPins j (v.testBit 0) (v.testBit 1) (v.testBit 2)))

/-! ### Faults and runs of edges -/

/-- The fault wire follows ENC_FAULT while FAULT_EN is 1 (R248). -/
def posWire (n : Nat) : Act :=
  .dyn fun c => if c.actFlag (pgPOS n) Reg.POS.POS_CFG_FAULT_EN && c.flag (pgPOS n) Reg.POS.POS_STAT_ENC_FAULT then raiseFault (fPOS_FAULT n)
    else dropFault (fPOS_FAULT n)

/-- ENC_FAULT sets (R245, R248). -/
def posFault (n : Nat) : Act :=
  .dyn fun c => when (!c.flag (pgPOS n) Reg.POS.POS_STAT_ENC_FAULT)
    (seqs [putFlag (pgPOS n) Reg.POS.POS_STAT_ENC_FAULT true, putFlag (pgPOS n) Reg.POS.POS_STAT_REFERENCED false,
      recordInOrder (pgPOS n) 0 0x03 c.t 1 (c.fld (pgPOS n) Reg.POS.POS_STAT_LAST_ERR), raiseLevels (pgPOS n) fun c => c.posLevels n,
      posWire n, emusRefresh n])

/-- An illegal transition; the third in SPD_WIN ticks sets ENC_FAULT (R247, R248). -/
def posIllegal (n old new : Nat) : Act :=
  .dyn fun c =>
    let p := pgPOS n
    let recent := (c.pos n).illegal.filter fun t => decide (c.t < t + c.act p Reg.POS.SPD_WIN)
    seqs [bump p Reg.POS.ILLEGAL_CNT, evt p 1, put p Reg.POS.POS_STAT_LAST_ERR 7, recordInOrder p 0 0x02 c.t old new,
      modPos n fun s => { s with illegal := c.t :: recent.take 1 },
      when (decide (2 ≤ recent.length)) (posFault n)]

/-- STILL sets at the stamp of the last counted edge plus STILL_TICKS (R252). -/
def posStill (n : Nat) : Act :=
  .dyn fun c =>
    let p := pgPOS n
    match (c.pos n).last with
    | some t => when (c.on p && !c.flag p Reg.POS.POS_STAT_STILL)
        (seqs [putFlag p Reg.POS.POS_STAT_STILL true,
          recordInOrder p 0 0x05 (t + c.act p Reg.POS.STILL) 1 (c.fld p Reg.POS.LIVE_COUNT), raiseLevels p fun c => c.posLevels n])
    | none => .skip

/-- Tick at which STILL sets, if an edge has been counted. -/
def Chip.stillAt (c : Chip) (n : Nat) : Option Nat := (c.pos n).last.map fun t => t + c.act (pgPOS n) Reg.POS.STILL

/-- STILL as it stands now, before an edge or a sample (R252). -/
def posStillNow (n : Nat) : Act := whenC (fun c => match c.stillAt n with | some t => decide (t ≤ c.t) | none => false) (posStill n)

/-- A counted edge (R251 to R253). -/
def posEdge (n : Nat) (plus : Bool) : Act :=
  .seq (posStillNow n) (.dyn fun c =>
    let p := pgPOS n
    let st := c.pos n
    let count := c.word (p.base + Reg.POS.LIVE_COUNT.off) + if plus then 1 else 0xFFFFFFFF
    let still := c.flag p Reg.POS.POS_STAT_STILL
    let turned := st.dir.isSome && st.dir != some plus
    let fresh := still || turned || st.runLen == 0
    seqs [
      put p Reg.POS.LIVE_COUNT count.toNat,
      modPos n fun s =>
        { s with dir := some plus, last := some c.t, runLen := if fresh then 1 else 2, runFirst := if fresh then c.t else s.runFirst,
                 run := if fresh then [c.t] else c.t :: s.run.filter fun t => decide (c.t < t + 2 ^ 24) },
      putFlag p Reg.POS.POS_STAT_DIR (!plus), putFlag p Reg.POS.POS_STAT_SPD_VALID (!fresh),
      when still (.seq (putFlag p Reg.POS.POS_STAT_STILL false) (recordInOrder p 0 0x05 c.t 0 count.toNat)),
      when turned (.seq (evt p 3) (recordInOrder p 0 0x04 c.t (if plus then 0 else 1) count.toNat)),
      when (c.posMode n == 1) (emuEdge n plus)])

/-- Position of a pair of levels in the sequence 00, 10, 11, 01 of A and B (R247). -/
def quadPhase (a b : Bool) : Nat := match a, b with | false, false => 0 | true, false => 1 | true, true => 2 | false, true => 3

/-- The input filter passes new levels that the pins have held at `held` consecutive 200 MHz samples, from the tick of the command on (R247; log entry 103). -/
def Chip.filterPasses (c : Chip) (n held : Nat) : Bool := decide (c.act (pgPOS n) Reg.POS.POS_CFG_FILT + 1 ≤ held)

/-- QUAD_EDGE: the pins A and B take new levels and hold them at `held` samples; the filtered levels change where the filter passes them (R247). -/
def execQuadEdge (dt : Nat) (n : Fin 8) (a b : Bool) (held : Nat) (s : State) : Host.Outcome State Fault Refusal :=
  s.act dt (.dyn fun c =>
    let v := (c.pos n).levels
    let a0 := v.testBit 0
    let b0 := v.testBit 1
    when (c.filterPasses n held) <| .seq (modPos n fun s => { s with levels := v / 4 * 4 + (if a then 1 else 0) + if b then 2 else 0 })
      (when (c.on (pgPOS n) && c.posMode n == 1 && (a != a0 || b != b0))
        (if a != a0 && b != b0 then
          posIllegal n ((if a0 then 2 else 0) + if b0 then 1 else 0) ((if a then 2 else 0) + if b then 1 else 0)
        else posEdge n ((quadPhase a b == (quadPhase a0 b0 + 1) % 4) != c.actFlag (pgPOS n) Reg.POS.POS_CFG_DIR_INV))))

/-- QUAD_INDEX: the pin Z takes a new level and holds it at `held` samples (R247, R249). -/
def execQuadIndex (dt : Nat) (n : Fin 8) (z : Bool) (held : Nat) (s : State) : Host.Outcome State Fault Refusal :=
  s.act dt (.dyn fun c =>
    let p := pgPOS n
    let v := (c.pos n).levels
    let qual := !c.actFlag p Reg.POS.INDEX_CFG_Z_QUAL_EN ||
      c.act p Reg.POS.INDEX_CFG_Z_QUAL == (if v.testBit 0 then 2 else 0) + if v.testBit 1 then 1 else 0
    let mode := c.act p Reg.POS.INDEX_CFG_Z_MODE
    let count := c.fld p Reg.POS.LIVE_COUNT
    let load := mode == 3 || (mode == 2 && (c.pos n).armed)
    when (c.filterPasses n held) <| .seq (modPos n fun s => { s with levels := v % 4 + if z then 4 else 0 })
      (when (c.on p && c.posMode n == 1 && z != v.testBit 2 && z != c.actFlag p Reg.POS.INDEX_CFG_Z_POL && qual && mode != 0)
        (seqs [put p Reg.POS.ZPOS count, evt p 5, recordInOrder p 0 0x06 c.t count (if load then c.act p Reg.POS.Z_VALUE else count),
          modPos n fun s => { s with armed := false },
          when load (.seq (put p Reg.POS.LIVE_COUNT (c.act p Reg.POS.Z_VALUE)) (putFlag p Reg.POS.POS_STAT_REFERENCED true))])))

/-- Sector of a hall code, if it is valid (R250). -/
def Chip.hallSector (c : Chip) (n code : Nat) : Option Nat :=
  if 1 ≤ code ∧ code ≤ 6 then some (c.act (pgPOS n) Reg.POS.HALL_MAP / 8 ^ (code - 1) % 8) else none

/-- Boundary angles B_k (R250). -/
def hallBoundary (k : Nat) : Word := [0#32, 715827883#32, 1431655765#32, 2147483648#32, 2863311531#32, 3579139413#32].getD (k % 6) 0

/-- HALL_EDGE: the hall inputs take a new code and hold it at `held` samples (R247, R250). -/
def execHallEdge (dt : Nat) (n : Fin 8) (code : BitVec 3) (held : Nat) (s : State) : Host.Outcome State Fault Refusal :=
  s.act dt (.dyn fun c =>
    let p := pgPOS n
    let old := (c.pos n).levels
    let new := code.toNat
    let inv := c.actFlag p Reg.POS.POS_CFG_DIR_INV
    when (c.filterPasses n held) <| seqs [modPos n fun s => { s with levels := new },
      when (c.on p && c.posMode n == 2 && new != old)
        (match c.hallSector n old, c.hallSector n new with
          | _, none => posIllegal n old new
          | none, some _ => .skip
          | some i, some k =>
            if k = (i + 1) % 6 ∨ i = (k + 1) % 6 then
              let plus := (k == (i + 1) % 6) != inv
              seqs [modPos n fun s => { s with hall := some (if plus then k else (k + 1) % 6) }, putFlag p Reg.POS.POS_STAT_EXACT true, posEdge n plus]
            else posIllegal n old new)])

/-- STILL_TIMEOUT: no counted edge for STILL_TICKS (R252). -/
def execStillTimeout (dt : Nat) (n : Fin 8) (s : State) : Host.Outcome State Fault Refusal :=
  s.act dt (.dyn fun c =>
    match c.stillAt n with
    | some t => .seq (atTick t) (posStill n)
    | none => .skip)

/-- POS_FAULT_CLR (R248, R250). -/
def execPosFaultClr (dt : Nat) (src : Src) (n : Fin 8) (s : State) : Host.Outcome State Fault Refusal :=
  s.act dt (onPage src (pgPOS n) 0x070 true (.dyn fun c =>
    let p := pgPOS n
    seqs [modPos n fun s => { s with illegal := [], run := [], runLen := 0, hall := none }, putFlag p Reg.POS.POS_STAT_SPD_VALID false,
      putFlag p Reg.POS.POS_STAT_EXACT false,
      when (c.flag p Reg.POS.POS_STAT_ENC_FAULT)
        (seqs [putFlag p Reg.POS.POS_STAT_ENC_FAULT false, recordInOrder p 0 0x03 c.t 0 (c.fld p Reg.POS.POS_STAT_LAST_ERR), posWire n, emusRefresh n])]))

/-- ZARM (R249). -/
def execZarm (dt : Nat) (src : Src) (n : Fin 8) (s : State) : Host.Outcome State Fault Refusal :=
  s.act dt (onPage src (pgPOS n) 0x070 true (modPos n fun s => { s with armed := true }))

/-! ### Samples -/

/-- WIN_PARTIAL at tick `t` (R251). -/
def Chip.winPartial (c : Chip) (n t : Nat) : Bool :=
  (c.pos n).runLen != 0 && decide (t < (c.pos n).runFirst + c.act (pgPOS n) Reg.POS.SPD_WIN)

/-- SPEED at tick `t` (R251, R252). -/
def Chip.posSpeed (c : Chip) (n t : Nat) : Int :=
  let edges := ((c.pos n).run.filter fun s => decide (t < s + c.act (pgPOS n) Reg.POS.SPD_WIN)).length
  if c.flag (pgPOS n) Reg.POS.POS_STAT_STILL then 0 else if (c.pos n).dir == some true then edges else -edges

/-- POS_STAT[15:0] at tick `t`. -/
def Chip.posStatus (c : Chip) (n t : Nat) : Word :=
  BitVec.ofNat 32 ((c.word ((pgPOS n).base + 0x074)).toNat % 2 ^ 6 + (if c.winPartial n t then 2 ^ 6 else 0) +
    2 ^ 7 * ((c.word ((pgPOS n).base + 0x074)).bits 7 2) + 2 ^ 9 * (if c.posMode n = 2 then (c.pos n).levels % 8 else 0) +
    2 ^ 12 * ((c.word ((pgPOS n).base + 0x074)).bits 12 4))

/-- Words 0 to 4 of a QUAD or HALL sample at tick `t` (Tables 9-2, 9-3). -/
def Chip.posWords (c : Chip) (n t : Nat) : List (Word × Bool) :=
  let p := pgPOS n
  let ok := !c.flag p Reg.POS.POS_STAT_ENC_FAULT
  let count := c.word (p.base + Reg.POS.LIVE_COUNT.off)
  let cpt := c.act p Reg.POS.CPT
  let angle : Word × Bool :=
    if c.posMode n = 1 then (BitVec.ofNat 32 ((count.toInt % (cpt : Int)).toNat * 2 ^ 32 / cpt), cpt != 0 && c.flag p Reg.POS.POS_STAT_REFERENCED)
    else
      let ofs := BitVec.ofNat 32 (c.act p Reg.POS.HALL_OFS)
      match c.hallSector n (c.pos n).levels with
      | none => (0, false)
      | some k => match (c.pos n).hall with
        | some b => (hallBoundary b + ofs, true)
        | none => (hallBoundary k + 357913941 + ofs, true)
  let speedOk := c.flag p Reg.POS.POS_STAT_SPD_VALID || c.flag p Reg.POS.POS_STAT_STILL
  let age := match (c.pos n).last with | some e => Nat.min (t - e) (2 ^ 31 - 1) | none => 0
  [(angle.1, angle.2 && ok), (count, ok), (BitVec.ofInt 32 (if speedOk then c.posSpeed n t else 0), speedOk && ok),
    (BitVec.ofNat 32 age, (c.pos n).last.isSome && ok), (c.posStatus n t, true)]

/-- A field of the set that governs a serial request. -/
def serField (ws : List Word) (f : Field) : Nat := (ws.getD ((f.off - 0x040) / 4) 0).bits f.lo f.width

/-- A SAMPLE action strikes interface `n` at due tick `t`, from action entry `entry` (R239, R246). -/
def posStrobe (n t entry : Nat) : Act :=
  .seq (posStillNow n) (.dyn fun c =>
    let p := pgPOS n
    if !c.en p then modPos n fun s => { s with out := s.out ++ [⟨t, t + 40, List.replicate 5 (0, false), none⟩] }
    else if c.posMode n ≠ 0 then modPos n fun s => { s with out := s.out ++ [⟨t, t + 40, c.posWords n t, none⟩] }
    else if (c.pos n).req.isSome || decide (t < (c.pos n).free) then
      seqs [bump p Reg.POS.BUSY_CNT, evt p 6, recordInOrder p 0 0x07 t entry 0]
    else
      let ws := (List.range 5).map fun i => c.word (p.base + 0x840 + 4 * i)
      .seq (recordPend p 0 t) (modPos n fun s => { s with req := some (t, ws), clock := some (t, serField ws Reg.POS.SER_TIME_HALF, none) }))

/-- Level of POS_OUT[n]: idle high; falling edge k of a request lies at t + 2k × HALF and rising edge k at t + (2k − 1) × HALF, up to the final rising edge (R241). -/
def Chip.posOut (c : Chip) (n : Nat) : Bool :=
  match (c.pos n).clock with
  | none => true
  | some (t, half, fin) => decide (c.t < t) || (match fin with | some f => decide (f ≤ c.t) | none => false) || (c.t - t) / half % 2 == 1

/-- What a serial request ends with: cause 0 to 6 of LAST_ERR, last sample, angle, multiturn value, received singleturn field, warning. -/
structure SerialFrame where
  cause : Nat
  last : Nat
  angle : Word
  multi : Nat
  single : Option Nat
  warn : Bool
  deriving DecidableEq, Repr

/-- The number of a bit list, most significant first. -/
def ofBits (l : List Bool) : Nat := l.foldl (fun n b => 2 * n + if b then 1 else 0) 0

/-- Gray code to binary (R243). -/
def grayDecode (n v : Nat) : Nat := (List.range n).foldl (fun x i => x ^^^ (v >>> (i + 1))) v

/-- Sample at which the header run ends, if one does within HDR_MAX (R242). -/
def headerEnd (hdr len max : Nat) (sample : Nat → Bool) : Option Nat :=
  (List.range (max + 1)).find? fun e => decide (len ≤ e) && ofBits ((List.range len).map fun i => sample (e - len + 1 + i)) == hdr % 2 ^ len

/-- Reads a serial frame (R242 to R245). `low`: the line reads 0 before the clock; `bits`: samples 1 upward. -/
def readSerial (ws : List Word) (passed : Option Word) (low : Bool) (bits : List Bool) : SerialFrame :=
  let g := serField ws
  let sample := fun k => bits.getD (k - 1) true
  let nStat := g Reg.POS.POS_CFG_STAT_BITS
  let nSt := g Reg.POS.SER_LEN_ST_BITS
  let nMt := g Reg.POS.SER_LEN_MT_BITS
  let nCrc := g Reg.POS.SER_LEN_CRC_LEN
  let total := nStat + nSt + nMt + nCrc
  let len := g Reg.POS.POS_CFG_HDR_LEN + 1
  let max := g Reg.POS.SER_LEN_HDR_MAX
  if low then ⟨1, 0, 0, 0, none, false⟩
  else match (if g Reg.POS.POS_CFG_FRAMING = 0 then some 0 else headerEnd (g Reg.POS.POS_CFG_HDR) len max sample) with
    | none => ⟨if (List.range max).all (fun i => sample (i + 1)) then 2 else 3, max, 0, 0, none, false⟩
    | some h =>
      let frame := (List.range total).map fun i => sample (h + 1 + i)
      let stat := frame.take nStat
      let stRaw := ofBits ((frame.drop nStat).take nSt)
      let mtRaw := ofBits ((frame.drop (nStat + nSt)).take nMt)
      let body := frame.take (nStat + nSt + nMt)
      let mask := 2 ^ nCrc - 1
      let crc := crcBits nCrc (g Reg.POS.SER_CRC_POLY &&& mask) (g Reg.POS.SER_CRC_INIT &&& mask) body
      let want := if g Reg.POS.SER_CRC_INV = 1 then crc ^^^ mask else crc
      let active := fun j => j < nStat && (stat.getD j false == (g Reg.POS.POS_CFG_STAT_POL).testBit j)
      let gray := g Reg.POS.POS_CFG_GRAY == 1
      let st := if gray then grayDecode nSt stRaw else stRaw
      let mt := if gray then grayDecode nMt mtRaw else mtRaw
      let angle : Word := BitVec.ofNat 32 (st * 2 ^ (32 - nSt))
      let cause :=
        if nCrc ≠ 0 ∧ ofBits (frame.drop (nStat + nSt + nMt)) ≠ want then 4
        else if (List.range 4).any fun j => active j && (g Reg.POS.POS_CFG_ERR_MASK).testBit j then 5
        else match passed with
          | some a => if g Reg.POS.SER_CHK_JUMP_MAX ≠ 0 ∧ g Reg.POS.SER_CHK_JUMP_MAX * 2 ^ 16 < (angle - a).toInt.natAbs then 6 else 0
          | none => 0
      ⟨cause, h + total, angle, mt, some stRaw, (List.range 4).any fun j => active j && (g Reg.POS.POS_CFG_WARN_MASK).testBit j⟩

/-- SERIAL_FRAME_DONE: the serial request under way ends with its last sample, at the first 200 MHz sampling point from its nominal tick on: less than 12.5 ticks later, by the phase of the position clock, which the manual leaves open (R241 to R246, log entry 6). -/
def execSerialFrameDone (dt : Nat) (n : Fin 8) (low : Bool) (bits : List Bool) (s : State) : Host.Outcome State Fault Refusal :=
  s.act dt (.dyn fun c =>
    let p := pgPOS n
    let st := c.pos n
    match st.req with
    | none => .skip
    | some (t, ws) =>
      let g := serField ws
      let f := readSerial ws st.passed low bits
      let half := g Reg.POS.SER_TIME_HALF
      let rise := t + (2 * f.last + 1) * half
      let fin := if f.cause = 1 then t else t + 2 * f.last * half + g Reg.POS.SER_TIME_LINE_DELAY + Config.freeValue c.free % 13
      let valid := f.cause == 0
      seqs [
        .prim .freeNext, atTick fin,
        modPos n fun s =>
          { s with req := none, clock := if f.cause = 1 then none else some (t, half, some rise),
                   free := if f.cause = 1 then s.free else rise + g Reg.POS.SER_CHK_RECOVERY, passed := if f.cause = 0 ∨ f.cause = 6 then some f.angle else s.passed, frameOk := valid, bad := if valid then 0 else s.bad + 1, validAt := if valid then some t else s.validAt },
        if valid then .seq (putFlag p Reg.POS.POS_STAT_WARN f.warn) (raiseLevels p fun c => c.posLevels n)
        else seqs [
          put p Reg.POS.POS_STAT_LAST_ERR f.cause, bump p Reg.POS.FRAME_ERR_CNT, evt p 0,
          .dyn fun c => .seq (recordInOrder p 0 0x01 t f.cause (f.single.getD (Config.freeValue c.free % 2 ^ 32))) (.prim .freeNext),
          whenC (fun c => decide (3 ≤ (c.pos n).bad)) (posFault n),
          .dyn fun c => .seq (each (c.emusOf n) fun j => modEmu j fun e => { e with based := false }) (emusRefresh n)],
        recordSettle p 0 t,
        .dyn fun c =>
          let ok := valid && !c.flag p Reg.POS.POS_STAT_ENC_FAULT
          modPos n fun s => { s with out := s.out ++ [⟨t, fin + 40, [(f.angle, ok), (BitVec.ofNat 32 f.multi, ok && g Reg.POS.SER_LEN_MT_BITS != 0),
            (0, false), (0, false), (c.posStatus n fin, true)], if valid then some (f.angle, st.passed, st.validAt) else none⟩] }])

/-- POS_WORDS_READY: the oldest sampled words become ready (R239, R240). -/
def execPosWordsReady (dt : Nat) (n : Fin 8) (s : State) : Host.Outcome State Fault Refusal :=
  s.act dt (.dyn fun c =>
    let p := pgPOS n
    match (c.pos n).out with
    | [] => .skip
    | w :: rest =>
      .seq (.seq (atTick w.ready) (modPos n fun s => { s with out := rest })) (.dyn fun c =>
        let live := c.en p && c.domainOn 10 && !c.flag p Reg.HDR.PAGE_STAT_SAFE
        let ws := w.words.map fun e => if live && e.2 then e else (0, false)
        let v := fun i => (ws.getD i (0, false)).1.toNat
        seqs [putFlag p Reg.POS.POS_STAT_ANGLE_VALID (ws.getD 0 (0, false)).2, put p Reg.POS.ANGLE (v 0), put p Reg.POS.COUNT (v 1),
          put p Reg.POS.SPEED (v 2), put p Reg.POS.EDGE_AGE (v 3), put p Reg.POS.RES_TIDE w.t,
          (match w.frame with | some (angle, prev, t0) => when live (emuFrame n w.t angle prev t0) | none => .skip),
          each (ws.zip (List.range 5)) fun e => deliver ⟨0x0A, n, 0, e.2, e.1.1, e.1.2, w.t⟩]))

/-! ### Start and stop -/

/-- EN = 1 takes effect (R240). -/
def posStart (n : Nat) : Act :=
  let p := pgPOS n
  seqs [put p Reg.POS.LIVE_COUNT 0, putFlag p Reg.POS.POS_STAT_REFERENCED false, putFlag p Reg.POS.POS_STAT_STILL true,
    putFlag p Reg.POS.POS_STAT_SPD_VALID false, putFlag p Reg.POS.POS_STAT_EXACT false,
    modPos n fun s => { s with run := [], runLen := 0, dir := none, last := none, illegal := [], hall := none },
    raiseLevels p fun c => c.posLevels n, emusRefresh n]

/-- EN = 0: the request under way is abandoned with the clock high (R246). -/
def posStop (n : Nat) : Act :=
  .dyn fun c => .seq
    (match (c.pos n).req with
      | some (t, ws) => .seq (modPos n fun s => { s with req := none, clock := none, free := c.t + serField ws Reg.POS.SER_CHK_RECOVERY }) (recordSettle (pgPOS n) 0 t)
      | none => .skip)
    (emusRefresh n)

end Sys2Proof.Machine
end

