-- ==== Sys2Proof/Machine/Checks.lean ====
section
/-! DEFINITION. The checks of R57: the range, encoding and zero rules of every field, and the consistency rules that each chapter states for its pages. A check is a list of the codes that fail; `v` gives the values of the set that is judged. -/

namespace Sys2Proof.Machine

open Sys2Proof

/-- A set of ST values that is judged: a snapshot, or the active set. -/
abbrev ValueOf := Page → Field → Nat → Nat

/-- Offsets of the words of a page that hold ST fields. -/
def stWords (p : Page) : List Nat := ((List.range 496).map fun i => 0x040 + 4 * i).filter fun o => p.mask (fun f => f.acc == .st) o != 0

/-- The word at offset `o` of a snapshot. -/
def Snap.word (x : Snap) (strap : BitVec 16) (p : Page) (o : Nat) : Word :=
  match x.words.find? fun e => e.1 == o with
  | some e => e.2
  | none => resetWord strap.toNat (p.base + o)

/-- PAGE_CTRL.EN of the pages of a group as it read when the GO was accepted (R60, R117); of every other page, now. -/
def Chip.snapEn (c : Chip) (l : List (Page × Snap)) (p : Page) : Bool :=
  match l.find? fun e => e.1 == p with
  | some (_, x) => x.en
  | none => c.en p

/-- The values of a group of snapshots; every other page counts with its active set. -/
def Chip.snapValue (c : Chip) (l : List (Page × Snap)) : ValueOf := fun p f k =>
  match l.find? fun e => e.1 == p with
  | some (_, x) => (x.word c.strap p (f.word k)).bits (f.bit k) f.width
  | none => c.act p f k

/-- The code fails if the condition holds. -/
def failIf (code : Nat) (b : Bool) : List Nat := if b then [code] else []

/-- Range, encoding and zero rule of one element (R57, R60). -/
def elemCodes (f : Field) (exempt : Bool) (v : Nat) : List Nat :=
  if v = 0 ∧ f.zero = .ok then []
  else if v = 0 ∧ f.zero = .invalid then failIf 4 (!exempt)
  else if f.resv ≤ v then [5]
  else failIf 3 (decide (v < f.min) || decide (f.max < v))

/-- Range, encoding and zero rules of every ST field of the page. -/
def fieldCodes (p : Page) (exempt : Bool) (v : ValueOf) : List Nat :=
  (p.blockFields.filter fun f => f.acc == .st).flatMap fun f => (List.range f.count).flatMap fun k => elemCodes f exempt (v p f k)

/-- Some element of the field differs from the active set. -/
def Chip.changes (c : Chip) (v : ValueOf) (p : Page) (f : Field) : Bool := (List.range f.count).any fun k => v p f k != c.act p f k

/-- Some field differs from the active set. -/
def Chip.changesAny (c : Chip) (v : ValueOf) (p : Page) (l : List Field) : Bool := l.any fun f => c.changes v p f

/-- The value that a field of a page has once the commits checked so far have applied. -/
def Chip.standing (c : Chip) (p : Page) (f : Field) : Nat :=
  match ((c.pst p).snaps.filter fun x => x.ok == some true).getLast? with
  | some x => (x.word c.strap p f.off).bits (f.bit 0) f.width
  | none => c.act p f

/-- STRAP[15:14] LEG_SAFE_DEFAULT allows SHORT-LOW (R117, R150). -/
def Chip.ascAllowed (c : Chip) : Bool := c.strap.toNat / 2 ^ 14 == 1

/-- A page has EN = 1 or an accepted commit that waits (R77). -/
def Chip.inUse (c : Chip) (p : Page) : Bool := c.en p || !(c.pst p).snaps.isEmpty

/-- The pages that one FRAME_MAP selector moves (Table 3-2). -/
def mapGroups : List (Field × Nat × List Page) :=
  ((List.range 24).map fun k => (Reg.TIDE.FRAME_MAP, k, (legsOf k).map pgLEG ++ [pgLLP k])) ++
  [(Reg.TIDE.FRAME_MAP3_CNV_VCL, 0, [pgCNV, pgVCL]),
    (Reg.TIDE.FRAME_MAP3_AC, 0, allPages.filter fun p => p.region == 4),
    (Reg.TIDE.FRAME_MAP3_SN, 0, allPages.filter fun p => p.region == 3)]

/-- TIDE subpage 0 (R72, R77). -/
def Chip.tideCodes (c : Chip) (v : ValueOf) : List Nat :=
  let trim := signed 32 (v pgTIDE Reg.TIDE.TRIM_TARGET 0)
  let changed := mapGroups.filter fun e => v pgTIDE e.1 e.2.1 != c.act pgTIDE e.1 e.2.1
  failIf 3 (decide (trim < -trimLimit) || decide (trimLimit < trim)) ++
    failIf 0x40 (changed.any fun e => e.2.2.any c.inUse) ++
    failIf 0x41 (changed.any fun e => !c.en (pgFG (v pgTIDE e.1 e.2.1)))

/-- A leg cell: EARLIEST and the generator are those of its block (R117). -/
def Chip.legCodes (c : Chip) (v : ValueOf) (en : Page → Bool) (p : Page) : List Nat :=
  let mp := v p Reg.LEG.MIN_PULSE 0
  let dts := (List.range 4).flatMap fun b => [v p Reg.LEG.DT_HL b, v p Reg.LEG.DT_LH b]
  failIf 0x42 (v p Reg.LEG.LEG_CFG_SAFE_MODE 0 == 1 && !c.ascAllowed) ++
    (if en p then
      failIf 0x40 (decide (8 * mp ≤ dts.foldl Nat.max 0)) ++
        failIf 0x41 (decide (c.fgPeriod (c.fgOf p) < v (pgLead (p.idx / 4)) Reg.LEGL.EARLIEST 0 + 2 * mp))
    else [])

/-- Sampling inputs (R157, R160, R169, R173 to R178). -/
def Chip.senseCodes (c : Chip) (v : ValueOf) (p : Page) : List Nat :=
  match p.blk with
  | .adc => (List.range 4).flatMap fun i => failIf 0x40 (decide (v p Reg.ADC.LIMIT_HI i < v p Reg.ADC.LIMIT_LO i))
  | .dsf => failIf 0x40 (decide (p.idx < 4) && c.changesAny v p [Reg.DSF.CLKGEN_DIR, Reg.DSF.CLKGEN_DIV, Reg.DSF.CLKGEN_DATA_DELAY] &&
      (c.pinPages p.idx).any fun n => c.en (pgDSF n))
  | .cpl =>
    let s := fun f => signed 8 (v p f 0)
    failIf 0x40 (!(decide (s Reg.CPL.CPL_TH0_BC < s Reg.CPL.CPL_TH0_AB) && decide (s Reg.CPL.CPL_TH0_CD < s Reg.CPL.CPL_TH0_BC) &&
      decide (s Reg.CPL.CPL_TH0_DE < s Reg.CPL.CPL_TH0_CD) && decide (s Reg.CPL.CPL_TH1_EF < s Reg.CPL.CPL_TH0_DE)))
  | .tsn =>
    let s := fun f k => signed 12 (v p f k)
    let order := fun (a b d w t : Int) => failIf 0x40 (!(decide (a < b) && decide (b < d))) ++ failIf 0x41 (!decide (w < t))
    order (s Reg.TSN.BANDTH_A_TH1 0) (s Reg.TSN.BANDTH_A_TH2 0) (s Reg.TSN.BANDTH_B 0) (s Reg.TSN.LIMITS_WARN 0) (s Reg.TSN.LIMITS_TRIP 0) ++
      failIf 0x42 (decide (v p Reg.TSN.EVAL_SLOW_US 0 < v p Reg.TSN.EVAL_FAST_US 0)) ++
      (if p.idx = 2 then (List.range 24).flatMap fun k =>
        order (s Reg.TSN.NTC_BAND_A_TH1 k) (s Reg.TSN.NTC_BAND_A_TH2 k) (s Reg.TSN.NTC_BAND_B k) (s Reg.TSN.NTC_LIM_WARN k) (s Reg.TSN.NTC_LIM_TRIP k)
      else [])
  | _ => []

/-- Position interfaces and encoder outputs (R241 to R243, R250, R254; Tables 9-9 and 9-11). -/
def Chip.positionCodes (c : Chip) (v : ValueOf) (p : Page) : List Nat :=
  match p.blk with
  | .pos =>
    let g := fun f => v p f 0
    let len := g Reg.POS.POS_CFG_HDR_LEN + 1
    let map := g Reg.POS.HALL_MAP
    let sectors := (List.range 6).map fun i => map / 8 ^ i % 8
    failIf 3 (g Reg.POS.POS_CFG_FRAMING == 1 &&
        (decide (g Reg.POS.SER_LEN_HDR_MAX < len + 1) || g Reg.POS.POS_CFG_HDR % 2 ^ len == 2 ^ len - 1)) ++
      failIf 0x40 (decide (64 < g Reg.POS.POS_CFG_STAT_BITS + g Reg.POS.SER_LEN_ST_BITS + g Reg.POS.SER_LEN_MT_BITS + g Reg.POS.SER_LEN_CRC_LEN)) ++
      failIf 0x41 (decide (2 * g Reg.POS.SER_TIME_HALF ≤ g Reg.POS.SER_TIME_LINE_DELAY + 13)) ++
      failIf 0x42 (!(List.range 6).all fun x => sectors.contains x) ++
      failIf 0x43 (c.en p && c.changes v p Reg.POS.POS_CFG_MODE)
  | .emu =>
    let g := fun f => v p f 0
    let mode := g Reg.EMU.EMU_CFG_MODE
    failIf 0x40 (!c.emuModeOk mode (g Reg.EMU.EMU_CFG_SRC)) ++
      failIf 4 (mode == 1 && g Reg.EMU.LINES == 0) ++
      failIf 3 (decide (0 < g Reg.EMU.LINES) && decide (4 * g Reg.EMU.LINES ≤ g Reg.EMU.Z_POS))
  | _ => []

/-- The converter, the voltage command port and the charger's pages (Tables 10-12, 10-13). -/
def Chip.converterCodes (c : Chip) (v : ValueOf) (p : Page) : List Nat :=
  let g := fun f => v p f 0
  match p.blk with
  | .cnv =>
    failIf 0x40 (decide (24 < g Reg.CNV.CNV_CFG_FIRST_BLK + (g Reg.CNV.CNV_CFG_PHASES + 3) / 4) ||
        decide (g Reg.CNV.CNV_CFG_PHASES < g Reg.CNV.SHED_CFG_PHASE_MIN)) ++
      failIf 0x41 (decide (g Reg.CNV.SHED_I_RESTORE_I ≤ g Reg.CNV.SHED_I_SHED_I)) ++
      failIf 0x42 (c.cnvState != cvOFF && c.changesAny v p [Reg.CNV.CNV_CFG_FIRST_BLK, Reg.CNV.CNV_CFG_PHASES, Reg.CNV.CNV_CFG_LANE])
  | .vcl => failIf 0x40 (decide (g Reg.VCL.V_LIMITS_V_MAX ≤ g Reg.VCL.V_LIMITS_V_MIN))
  | _ => []

/-- Bridge cells (R299, R306). -/
def Chip.bridgeCodes (c : Chip) (v : ValueOf) (p : Page) : List Nat :=
  let g := fun f => v p f 0
  let dt := g Reg.BRG.DT
  let direct := g Reg.BRG.BRG_CFG_MODE == 2
  let per := g Reg.BRG.PWM_PERIOD
  let units := (List.range 5).filter fun u => (c.sscCells u).contains p.idx
  let out := fun n => if c.strap.getLsbD 12 then decide (n < 150) || decide (660 < n) else decide (n < 60) || decide (320 < n)
  failIf 0x42 ((direct && decide (per ≤ 100 * dt)) || units.any fun u => decide (c.act (pgSSC u) Reg.SSC.SSC_PWM_PERIOD ≤ 100 * dt)) ++
    (if direct ∧ per = 0 then [4] else failIf 3 (direct && (decide (per < 25000) || decide (2500000 < per)))) ++
    (if p.idx % 4 = 0 then failIf 0x43 (out (g Reg.BRG.SUP_CFG_UV) || out (g Reg.BRG.SUP_CFG_OV)) else [])

/-- Six-step units (R299, R307, R313, R314, R324; Table 11-10). DT_PERIOD, which an SSC page records too, has the code 0x42 that the bridge cells give it. -/
def Chip.unitCodes (c : Chip) (v : ValueOf) (p : Page) : List Nat :=
  let g := fun f => v p f 0
  let cells := [g Reg.SSC.SSC_CFG_CELL_A, g Reg.SSC.SSC_CFG_CELL_B, g Reg.SSC.SSC_CFG_CELL_C]
  let others := (List.range 5).filter fun u => u != p.idx
  let speeds := (List.range 8).map fun i => v p Reg.SSC.ADV_SPEED i
  failIf 0x40 (!decide cells.Nodup || others.any fun u => (c.sscCells u).any fun n => cells.contains n) ++
    failIf 0x41 (c.sscState p.idx != ssOFF && c.changesAny v p
      [Reg.SSC.SSC_CFG_CELL_A, Reg.SSC.SSC_CFG_CELL_B, Reg.SSC.SSC_CFG_CELL_C, Reg.SSC.SSC_CFG_DIR, Reg.SSC.SSC_CFG_POLE_PAIRS]) ++
    failIf 0x42 ((speeds.zip (speeds.drop 1)).any fun e => decide (e.2 < e.1)) ++
    failIf 0x43 (decide (g Reg.SSC.START_A_DET_SPEED * g Reg.SSC.SSC_CFG_POLE_PAIRS < 2000)) ++
    failIf 0x44 (g Reg.SSC.SPD_CMD != 0 && decide (g Reg.SSC.SPD_CMD < g Reg.SSC.START_C_OL_MAX)) ++
    failIf 0x42 (cells.any fun n => decide (g Reg.SSC.SSC_PWM_PERIOD ≤ 100 * c.act (pgBRG n) Reg.BRG.DT)) ++
    failIf 3 (decide (g Reg.SSC.START_C_OL_MAX ≤ g Reg.SSC.START_A_DET_SPEED) || decide (g Reg.SSC.KE_BAND_KE_HI ≤ g Reg.SSC.KE_BAND_KE_LO)) ++
    failIf 4 (g Reg.SSC.KE_CFG_KE_WIN != 0 && g Reg.SSC.KE_CFG_KE_REF == 0)

/-- A SLOT_MAP binding names a source (R188, R239, R264). -/
def sourceOk (type inst chan word : Nat) : Bool :=
  match type with
  | 0x07 => decide (inst < 12) && decide (chan < 4) && word == 0
  | 0x08 => decide (inst < 32) && chan == 0 && word == 0
  | 0x09 => decide (inst < 8) && decide (chan < 3) && word == 0
  | 0x0C => inst == 0 && chan == 0 && decide (word < 5)
  | 0x03 => decide (inst < 24) && decide (chan < 4) && decide (word < 3)
  | 0x0A => decide (inst < 8) && chan == 0 && decide (word < 5)
  | 0x05 => inst == 0 && chan == 0 && decide (word < 4)
  | _ => false

/-- The pages of a Quay (R188, R202, R206, R208, R352). -/
def Chip.quayCodes (c : Chip) (v : ValueOf) (p : Page) : List Nat :=
  match p.blk with
  | .eng =>
    failIf 0x40 ((List.range 256).any fun s => v p Reg.ENG.SLOT_MAP_EN s == 1 &&
        !sourceOk (v p Reg.ENG.SLOT_MAP_TYPE s) (v p Reg.ENG.SLOT_MAP_INST s) (v p Reg.ENG.SLOT_MAP_CHAN s) (v p Reg.ENG.SLOT_MAP_WORD s)) ++
      failIf 0x41 (c.en p && c.changesAny v p
        [Reg.ENG.SLOT_MAP_TYPE, Reg.ENG.SLOT_MAP_INST, Reg.ENG.SLOT_MAP_CHAN, Reg.ENG.SLOT_MAP_WORD, Reg.ENG.SLOT_MAP_EN])
  | .inj => (List.range 4).flatMap fun i =>
      let mode := v p Reg.INJ.INJ_CFG_MODE i
      failIf 0x42 (decide (v p Reg.INJ.LIMIT i < v p Reg.INJ.AMPL i)) ++
        failIf 4 ((mode == 2 && (v p Reg.INJ.INJ_CFG_SEED i == 0 || v p Reg.INJ.INC i == 0)) || (mode != 0 && v p Reg.INJ.DURATION i == 0))
  | .qctl => (List.range (if c.strap.getLsbD 3 then 4 else 2)).flatMap fun w =>
      failIf 0x40 (decide (v p Reg.QCTL.WD_CFG_PERIOD w ≤ v p Reg.QCTL.WD_CFG_MIN w))
  | _ => []

/-- Producer and consumer codes of Table 14-2. -/
def prodOk (n : Nat) : Bool := decide (n ≤ 1) || (decide (0x20 ≤ n) && decide (n ≤ 0x25)) || n == 0x28 || n == 0x29
def consOk (n : Nat) : Bool := n == 0 || (decide (0x30 ≤ n) && decide (n ≤ 0x35)) || n == 0x38 || n == 0x39

/-- Queues (R394, R395, R398, R407). -/
def Chip.queueCodes (c : Chip) (v : ValueOf) (p : Page) : List Nat :=
  let g := fun f => v p f 0
  let prod := g Reg.QUE.QUE_CFG_PROD
  let cons := g Reg.QUE.QUE_CFG_CONS
  let others := (List.range 64).filter fun n => n != p.idx
  let sum := (((others.filter fun n => c.storeOf n == g Reg.QUE.QUE_CFG_STORE).map fun n => c.act (pgQUE n) Reg.QUE.QUE_RSV).sum) + g Reg.QUE.QUE_RSV
  let taken := fun f (n : Nat) => others.any fun m => c.act (pgQUE m) f == n
  failIf 5 (!prodOk prod || !consOk cons) ++
    failIf 0x42 ((decide (0x20 ≤ prod) && taken Reg.QUE.QUE_CFG_PROD prod) || (decide (0x20 ≤ cons) && taken Reg.QUE.QUE_CFG_CONS cons)) ++
    failIf 0x43 (decide ((storeRange (g Reg.QUE.QUE_CFG_STORE)).2 < sum) ||
      (g Reg.QUE.QUE_LIM != 0 && decide (g Reg.QUE.QUE_LIM < g Reg.QUE.QUE_RSV))) ++
    failIf 0x46 (c.en p && c.changesAny v p [Reg.QUE.QUE_CFG_STORE, Reg.QUE.QUE_CFG_PROD, Reg.QUE.QUE_CFG_CONS])

/-- CAN controllers (R411, R427). -/
def Chip.canCodes (c : Chip) (v : ValueOf) (p : Page) : List Nat :=
  let g := fun f => v p f 0
  let nom := (g Reg.CAN.NBT_BRP + 1) * (3 + g Reg.CAN.NBT_TSEG1 + g Reg.CAN.NBT_TSEG2)
  let dat := (g Reg.CAN.DBT_BRP + 1) * (3 + g Reg.CAN.DBT_TSEG1 + g Reg.CAN.DBT_TSEG2)
  failIf 0x43 (decide (nom < 80) || decide (dat < 10) || decide (nom < dat) || decide (g Reg.CAN.NBT_TSEG2 < g Reg.CAN.NBT_SJW) ||
      decide (g Reg.CAN.DBT_TSEG2 < g Reg.CAN.DBT_SJW)) ++
    failIf 0x46 (c.en p && c.changesAny v p
      [Reg.CAN.CAN_CFG_FD_EN, Reg.CAN.CAN_CFG_PXHD, Reg.CAN.CAN_CFG_MODE, Reg.CAN.CAN_CFG_TDC_EN, Reg.CAN.CAN_CFG_NOMATCH_EN,
        Reg.CAN.CAN_CFG_RETRY_MAX, Reg.CAN.NBT_BRP, Reg.CAN.NBT_TSEG1, Reg.CAN.NBT_TSEG2, Reg.CAN.NBT_SJW,
        Reg.CAN.DBT_BRP, Reg.CAN.DBT_TSEG1, Reg.CAN.DBT_TSEG2, Reg.CAN.DBT_SJW, Reg.CAN.TDC]) ++
    failIf 3 (! [0, 1, 3, 7, 15, 31, 63].contains (g Reg.CAN.TT_CFG_CYCLE_MAX))

/-- The consistency rules of the page's chapter (R57, R98). -/
def Chip.blockCodes (c : Chip) (v : ValueOf) (bank : Nat → Word) (en : Page → Bool) (p : Page) : List Nat :=
  match p.blk with
  | .tide => c.tideCodes v
  | .fg => failIf 0x40 (v p Reg.FG.PERIOD 0 != c.standing p Reg.FG.PERIOD && (List.range 24).any fun k => c.en (pgLead k) && c.fgOf (pgLead k) == p.idx)
  | .act => bankCodes bank
  | .leg => c.legCodes v en p
  | .llp => failIf 0x40 (v p Reg.LLP.LINK_CFG_TIMEOUT_MODE 0 == 1 && !c.ascAllowed) ++
      failIf 0x41 (c.lstate p.idx != 0 && c.changes v p Reg.LLP.LINK_CFG_RATE)
  | .adc | .dsf | .cpl | .tsn => c.senseCodes v p
  | .pos | .emu => c.positionCodes v p
  | .cnv | .vcl => c.converterCodes v p
  | .brg => c.bridgeCodes v p
  | .ssc => c.unitCodes v p
  | .eng | .inj | .qctl => c.quayCodes v p
  | .que => c.queueCodes v p
  | .can => c.canCodes v p
  | .eth => failIf 0x42 (c.en p && c.changesAny v p
      [Reg.ETH.ETH_CFG_AN_EN, Reg.ETH.ETH_CFG_PROMISC, Reg.ETH.ETH_CFG_BCAST_EN, Reg.ETH.ETH_CFG_MCAST_ALL, Reg.ETH.MAC_LO, Reg.ETH.MAC_HI,
        Reg.ETH.LAT_RX_LAT, Reg.ETH.LAT_TX_LAT])
  | .saf => failIf 0x40 (decide (c.ss1Max < v p Reg.SAF.SS1_TIME 0))
  | .sio => failIf 0x40 (decide (c.degrMax < v p Reg.SIO.DEGR 0))
  | _ => []

/-- The codes that the set of the page fails (R57, R60). -/
def Chip.pageCodes (c : Chip) (v : ValueOf) (bank : Nat → Word) (en : Page → Bool) (p : Page) : List Nat :=
  fieldCodes p (p.grouped && !en p) v ++ c.blockCodes v bank en p

/-- The lowest code that fails; 0 when the set passes (R58). -/
def lowestCode (l : List Nat) : Nat := match l with
  | [] => 0
  | x :: xs => xs.foldl Nat.min x

/-- The active set fails a check (R52). -/
def Chip.activeFails (c : Chip) (p : Page) : Bool :=
  !(c.pageCodes (fun p f k => c.act p f k) (fun o => c.word (0x4201B000 + o)) c.en p).isEmpty

end Sys2Proof.Machine
end

