-- ==== Sys2Proof/Machine/Hooks.lean ====
section
/-! DEFINITION. What each block does when its page starts, stops, is reset or takes a new active set: the stopped behaviours and the effects of a commit that the chapters state (R52, R53, R56). -/

namespace Sys2Proof.Machine

open Sys2Proof

/-- Quay of a page of QA or QB. -/
def quayOfPage (p : Page) : Quay := Quay.ofIdx p.region

/-- EN = 1 of a page takes effect at boundary `b`. -/
def startHook (p : Page) (b : Nat) : Act :=
  match p.blk with
  | .act => seqs [modTideS fun s => { s with enAt := b }, lateRetire b,
      .dyn fun c => each ((List.range 8).filter fun g => c.fgOn g && !c.tideSt.firsts.contains g && c.fgLast g == b) fun g => skipEntries g b]
  | .leg => if p.idx % 4 = 0 then startBlk (p.idx / 4) else refreshBlk (p.idx / 4)
  | .vcl => .seq (modCnvS fun x => { x with heard := b }) (putFlag p Reg.VCL.VCL_STAT_EXT_OK false)
  | .dsf => dsfRestart p.idx
  | .tsn => seqs [modTemp p.idx TempSt.restart, when (p.idx = 2) (each (List.range 96) fun n => modTemp (8 + n) TempSt.restart)]
  | .pos => posStart p.idx
  | .emu => emuStart p.idx
  | .brg => brgStart p.idx b
  | .que => basinSettle
  | .can => .seq (modCan p.idx fun s => { s with integ := some b }) (canTimeMaster p.idx)
  | _ => .skip

/-- The function of a page stops at once; a soft reset sends no IMM frames (R52, R148). The cell safe reactions of a leg block end as its lead stops (log entry 44). -/
def stopHook (p : Page) (soft : Bool) : Act :=
  match p.blk with
  | .act => modTideS fun s => { s with dispatched := [] }
  | .leg =>
    seqs [pauseLegTemp p.idx, whenC (fun c => (c.leg p.idx).rank.isSome) (dropEdges p.idx),
      if p.idx % 4 = 0 then seqs [each (legsOf (p.idx / 4)) fun n => putFlag (pgLEG n) Reg.HDR.PAGE_STAT_SAFE false, stopBlk (p.idx / 4), redrive (p.idx / 4)]
      else redrive (p.idx / 4)]
  | .llp => linkToDown p.idx (!soft)
  | .dsf => seqs [dsfInvalid p.idx, putFlag p Reg.DSF.RES_STAT_COMP_LO false, putFlag p Reg.DSF.RES_STAT_COMP_HI false, dropFault (fDSF_COMP p.idx)]
  | .cpl => s2Open
  | .pos => posStop p.idx
  | .emu => emuStop p.idx
  | .brg => brgStop p.idx
  | .ssc => sscStop p.idx
  | .vcl => .dyn fun c => .seq (modCnvS fun x => { x with reports := [], trackrefs := [], sets := if soft then [] else x.sets })
      (when soft (.seq (endActive akABORTED reSTATE c.t) (each c.cnvSt.sets fun x => ack x.word x.src akABORTED reSTATE c.t)))
  | .lane => stopLane (quayOfPage p) (p.idx % 8)
  | .eng => each (List.range 8) fun l => stopLane (quayOfPage p) l
  | .que => basinSettle
  | .can => canStop p.idx
  | _ => .skip

/-- Bits of a word that a soft reset of the page leaves: FLT[r], which returns to its reset values only at a power-on reset (R24), the active faults, which stay until FLT_CLR names them, their lines and the applied matrix of FLT[8] (R375), the counts since power-on of QCTL (Table 12-7), and the fields that show a state which the page does not hold itself and which its reset does not change: the fuses and the SCB, supplies, clocks, straps and the cause of the reset, the states of the Quays and lockstep pairs, the Shutter distribution, the cells in use, the debug port, the driven state and Shutter view of a leg or bridge cell, the bus-off states of a CAN controller (R424) (log entry 13). DESAT_OFF is none of them: it returns to 0 with the other fields of its page (R53; log entry 95). -/
def liveMask (p : Page) (o : Nat) : Word :=
  let ro := p.mask (fun f => f.acc == .ro && decide (0x040 ≤ f.off)) o
  match p.blk with
  | .fltr => 0xFFFFFFFF#32
  | .flt8 => if o = 0x090 ∨ (0x080 ≤ o ∧ o < 0x08C) then 0 else ro
  | .saf => 0
  | .seal => if o = 0x040 then 0x00007130#32 else if o = 0x044 ∨ o = 0x050 then 0 else ro
  | .pwr => if o = 0x048 ∨ o = 0x050 then ro else 0
  | .clk => if o = 0x040 then ro else 0
  | .rst => if o = 0x04C then 0 else ro
  | .strp | .sht | .bsn => ro
  | .qctl => if o = 0x040 then 0x00003017#32 else if o = 0x044 then 0x00000017#32 else if o = 0x058 ∨ 0x0A0 ≤ o then ro else 0
  | .lck => if o = 0x040 then 0x0000000F#32 else if o = 0x054 then ro else 0
  | .gwy => if o = 0x040 then ro else 0
  | .xsp => if o = 0x044 ∨ o = 0x058 then ro else 0
  | .dbg => if o = 0x040 then 0x0000FF07#32 else 0
  | .tide => if o = 0x04C then 0x000000D8#32 else 0
  | .can => if o = 0x054 then 0x00030000#32 else 0
  | .leg => if o = 0x05C then 0x0000070F#32 else if o = 0x10C ∧ p.idx % 4 = 0 then 0x00000010#32 else 0
  | .brg => if o = 0x05C then 0x00000103#32 else 0
  | _ => 0

/-- Every field of the page returns to its reset value; LOCKOUT ends only at a power-on reset or a restart (R53, R65). -/
def resetRegs (p : Page) (keepLockout : Bool) : Act :=
  .dyn fun c =>
    let live := c.regs.filter fun e => decide (p.base ≤ e.1) && decide (e.1 < p.base + 0x800) && liveMask p (e.1 - p.base) != 0
    seqs [.prim (.regsReset p.base (p.base + 0x1000)),
      each live fun e => .dyn fun c =>
        let m := liveMask p (e.1 - p.base)
        setWord e.1 ((c.word e.1 &&& ~~~m) ||| (e.2 &&& m)),
      when (keepLockout && c.flag p Reg.HDR.LOCK_LOCKOUT) (putFlag p Reg.HDR.LOCK_LOCKOUT true)]

/-- Sources of FLT[8] whose lines a reset of SIO lets fall. -/
def soutLines : Act := each (List.range 8) fun j => dropFault (fSOUT_FAULT j)

/-- What a soft reset or a loss of power does to a page of SF before its fields return: every function enters STO on a reset of SAF or SEAL, and the brake engages on one of SBC (R53, R363, R366, R381; log entry 13). -/
def resetFirst (p : Page) : Act :=
  match p.blk with
  | .saf | .seal => each (List.range 7) enterSto
  | .sbc => brakeEngage 1
  | _ => .skip

/-- What the block holds beyond its registers returns to its reset state; `wasOn`: EN read 1 (R53, R424). -/
def resetHook (p : Page) (wasOn : Bool) : Act :=
  let n := p.idx
  match p.blk with
  | .act => seqs [.prim (.regsReset 0x4201A000 0x4201C000), modTideS fun s => { s with executed := [], judged := [], dispatched := [], bankAt := 0, enAt := 0 }]
  | .leg => seqs [modLeg n fun l => { ({} : LegSt) with offH := l.offH, offL := l.offL }, when (n % 4 = 0) (.prim (.blk (n / 4) { imposed := true })), redrive (n / 4)]
  | .llp => .prim (.link n {})
  | .cnv => seqs [modCnvS fun x => { x with miss := 0, inband := 0, shed := 0, ann := 0, ctrl := [], restore := false, parity := false }, dropFault fCNV_FAULT]
  | .vcl => modCnvS fun x => { x with sets := [], reports := [], trackrefs := [], active := none, target := 0, heard := 0, abort_ := false, okAt := none, lostRecs := [], tx := [], sent := [] }
  | .adc => seqs [.prim (.adc n {}), dropFault (fADC_LIMIT n), dropFault (fADC_REF n)]
  | .dsf => seqs [.prim (.dsf n {}), dropFault (fDSF_COMP n)]
  | .tsn => seqs [.prim (.tsn n {}), .prim (.temp n {}), dropFault (fTSN_TRIP n), dropFault (fTSN_XCHK n),
      when (n = 2) (.seq (each (List.range 96) fun i => .prim (.temp (8 + i) {})) (each (List.range 24) fun k => dropFault (fNTC_TRIP k)))]
  | .pos => seqs [modPos n fun s => { ({} : PosSt) with levels := s.levels }, dropFault (fPOS_FAULT n), emusRefresh n]
  | .emu => .prim (.emu n {})
  | .cpl => .prim (.cplS {})
  | .brg => seqs [modBrg n fun b => { offH := b.offH, offL := b.offL }, dropFault (fBRG_VDS n), brgUpdate n]
  | .ssc => .prim (.ssc n {})
  | .eng => seqs [.prim (.regsReset ((quayOfPage p).origin + 0xC00000) ((quayOfPage p).origin + 0xC10000)), .prim (.eng n {}),
      each (List.range 256) fun i => .prim (.slot (256 * n + i) {})]
  | .lane => .prim (.lane n {})
  | .inj => modEng (quayOfPage p).idx fun e => { e with edges := [] }
  | .que => .seq (queClear n) basinSettle
  | .bsn => basinSettle
  | .cap => .seq (modCapWins fun _ => []) basinSettle
  | .can => canClear n wasOn
  | .eth => .seq (.prim (.eth n {})) (.prim (.port (0x28 + n) {}))
  | .clk => refRefresh
  | .pwr => .dyn fun c =>
    let v := (if c.strap.getLsbD 11 then 0x3FFF else 0x1FFF) &&& (0x3FFF ^^^ c.seqSt.leftOff)
    .seq (put p Reg.PWR.DOM_STAT v) (put p Reg.PWR.DOM_GOOD v)
  | .saf => seqs [closeWires 0xFFFFFFF 0xFFFFFFF, modSaf fun s => { s with swSto := 0, swSs1 := 0, fresh := 0, ss1 := [], reset := none },
      .dyn fun c => when c.safSt.placed (.seq (put p Reg.SAF.SS1_TIME c.ss1Max) (putActive p Reg.SAF.SS1_TIME c.ss1Max)), demandRefresh]
  | .sio => .dyn fun c => seqs [each (List.range 16) fun i => modSin i fun s => match s.since with
        | some t => { left := s.left.map fun l => l - (c.t - t), outAt := c.t }
        | none => { left := s.left, outAt := s.outAt },
      soutLines, soutRefresh, demandRefresh]
  | .seal => .seq (.dyn fun c => .prim (.sealS { c.sealSt with agree := 0 })) (putFlag pgSAF Reg.SAF.SAF_STAT_SEALED false)
  | .sbc => seqs [.dyn fun c => .prim (.brakeS { hours := c.brakeSt.hours }),
      whenC (fun c => c.faultActive fSBC_FAULT) (put p Reg.SBC.SBC_STAT_STATE 3), hoursLeft]
  | .gwy => .seq (modGwy n fun g => { g with inbox := [], flight := [], granted := 0 }) gwyRefresh
  | _ => .skip

/-- A temperature source's thresholds differ from those of `c0`. -/
def restartTemp (c0 : Chip) (i : Nat) : Act := whenC (fun c => c.tempCfg i != c0.tempCfg i) (tempRestart i)

/-- What follows from the new active set of a page; `c0` is the chip before it, `t` the tick at which it applied. -/
def commitHook (c0 : Chip) (p : Page) (t : Nat) : Act :=
  let n := p.idx
  match p.blk with
  | .tide => refModeChange c0.refSrc
  | .eng => .dyn fun c =>
    each ((List.range 256).filter fun i => c0.word (p.base + 0x900 + 4 * i) != c.word (p.base + 0x900 + 4 * i)) fun i => .prim (.slot (256 * n + i) {})
  | .fg => .dyn fun c => when (c.fgPeriod n != c0.fgPeriod n)
      (seqs [when (c.on p) (putWide p Reg.FG.NEXT_LO Reg.FG.NEXT_HI (t + c.fgPeriod n)), evt p 2])
  | .leg => redrive (n / 4)
  | .dsf => whenC (fun c => c.act p Reg.DSF.DSF_CFG_CLK_PIN != c0.act p Reg.DSF.DSF_CFG_CLK_PIN) (dsfRestart n) |>.seq (dsfSpan n t)
  | .llp => .dyn fun c => when (c.linkUp n)
      (.seq (when (c.changes (fun p f k => c0.act p f k) p Reg.LLP.LINK_CFG_TIMEOUT_MODE) (cfgWrite n 0x01 (c.act p Reg.LLP.LINK_CFG_TIMEOUT_MODE)))
        (when (c.changes (fun p f k => c0.act p f k) p Reg.LLP.VCE_CFG) (cfgWrite n 0x02 (c.act p Reg.LLP.VCE_CFG))))
  | .tsn => .seq (restartTemp c0 n) (when (n = 2) (each (List.range 96) fun i => restartTemp c0 (8 + i)))
  | .vcl => .seq (.dyn fun c => putRamp (c.fld p Reg.VCL.RAMP))
      (whenC (fun c => c.act p Reg.VCL.VCL_CFG_SRC == 2 && c0.act p Reg.VCL.VCL_CFG_SRC != 2) (modCnvS fun x => { x with heard := t }))
  | .pos => .seq (posWire n) (.dyn fun c => each (c.emusOf n) fun j =>
      .seq (when (c.on (pgEMU j) && !c.emuModeOk (c.act (pgEMU j) Reg.EMU.EMU_CFG_MODE) n) (modEmu j fun e => { e with broken := true })) (emuRefresh j))
  | .emu => .dyn fun c => when (c.on p)
      (if c.changesAny (fun p f k => c0.act p f k) p [Reg.EMU.EMU_CFG_MODE, Reg.EMU.EMU_CFG_SRC] then emuStart n
       else .seq (modEmu n fun e => { e with broken := false }) (.seq (emuRefresh n) (emuShow n)))
  | .brg => brgUpdate n
  | .ssc => sscCommitted n
  | .que | .bsn | .cap => basinSettle
  | .can => .dyn fun c => canTimeMaster n (c.changesAny (fun p f k => c0.act p f k) p [Reg.CAN.REF_PERIOD, Reg.CAN.REF_ANCHOR_LO, Reg.CAN.REF_ANCHOR_HI])
  | _ => .skip

end Sys2Proof.Machine
end

