-- ==== Sys2Proof/Machine/Levels.lean ====
section
/-! DEFINITION. The LEVEL events of every page (R49). -/

namespace Sys2Proof.Machine

open Sys2Proof

/-- LEVEL events of a page whose condition holds now (R49). -/
def Chip.levels (c : Chip) (p : Page) : Nat :=
  let bit := fun (b : Bool) k => if b then 2 ^ k else 0
  match p.blk with
  | .tide => c.tideLevels
  | .leg => c.legLevels p.idx
  | .llp => c.llpLevels p.idx
  | .cnv => c.cnvLevels
  | .vcl => c.vclLevels
  | .adc => c.adcLevels p.idx
  | .dsf => c.dsfLevels p.idx
  | .tsn => c.tsnLevels p.idx
  | .pos => c.posLevels p.idx
  | .emu => c.emuLevels p.idx
  | .cpl => c.cplLevels
  | .brg => c.brgLevels p.idx
  | .ssc => c.sscLevels p.idx
  | .qctl => bit (c.rstate == 2) 2
  | .gwy => c.gwyLevels (quayOfPage p)
  | .bsn => c.bsnLevels
  | .que => c.queLevels p.idx
  | .cap => bit (c.fld p Reg.CAP.WIN_STAT != 0) 1
  | .can => c.canLevels p.idx
  | .eth => bit (c.flag p Reg.ETH.ETH_STAT_LINK) 0
  | .dbg => bit (c.flag p Reg.DBG.DBG_STAT_PORT_OPEN) 0 + bit (c.fld p Reg.DBG.DBG_STAT_HALTED != 0) 1
  | .saf => c.safLevels
  | .sio => c.sioLevels
  | .seal => let st := c.fld p Reg.SEAL.SEAL_STAT_STATE
    bit ((decide (2 ≤ st) && decide (st ≤ 6)) || (st == 1 && (c.fld p Reg.SEAL.SW_READ_CODE_A != c.fld p Reg.SEAL.SW_READ_CODE_B || c.fld p Reg.SEAL.SW_READ_CODE_A != c.sealSt.code))) 0
  | .sbc => let st := c.fld p Reg.SBC.SBC_STAT_STATE
    bit (st != 1) 0 + bit (st == 3) 2 + bit (c.flag p Reg.SBC.SBC_STAT_BT_OVERDUE) 3
  | .flt8 => c.fltLevels
  | .pwr => bit (c.fld p Reg.PWR.DOM_FAULT != 0) 2 +
      bit (c.flag p Reg.PWR.SUP_STAT_VDD_WARN || c.flag p Reg.PWR.SUP_STAT_IO18_WARN || c.flag p Reg.PWR.SUP_STAT_IO33_WARN || c.flag p Reg.PWR.SUP_STAT_VDDA_WARN) 3
  | .clk => c.clkLevels
  | .strp => bit (c.fld p Reg.STRP.STRAP_LIVE != c.strap.toNat) 0 + bit (c.flag p Reg.STRP.STRAP_STAT_INVALID) 1
  | _ => 0

/-- The LEVEL events of a page whose conditions hold occur (R49). -/
def raiseLevelsOf (p : Page) : Act := raiseLevels p fun c => c.levels p

end Sys2Proof.Machine
end

