-- ==== Sys2Proof/Machine/Pages.lean ====
section
/-! DEFINITION. Enable, soft reset, commits and key windows of register pages (Chapter 2, R52 to R65), and the copies of the action and coefficient banks (R78, R191). -/

namespace Sys2Proof.Machine

open Sys2Proof

/-! ### Mirrored pages -/

/-- The same page of the other Quay, for the pages that the mirror carries (R338). -/
def mirrorPage (p : Page) : Option Page :=
  match p.blk with
  | .eng | .inj => some ⟨p.blk, 1 - p.idx⟩
  | .lane => some ⟨.lane, if p.idx < 8 then p.idx + 8 else p.idx - 8⟩
  | _ => none

/-- A write to an ENG, lane or INJ page by a standby's own requester has no effect while the mirror runs (R341). Otherwise it acts, and the mirror takes every write to a lane page and what else is `carried` to the same page of the other Quay (R338, Table 12-4). -/
def mirrorAct (p : Page) (carried : Bool) (k : Page → Act) : Act :=
  match mirrorPage p with
  | some m => mirrorGuard (quayOfPage p) (.dyn fun c => .seq (k p) (when (c.mirrors (quayOfPage p) && (carried || p.blk == .lane)) (k m)))
  | none => k p

/-- A write that the mirror never carries, to a page of a Quay. -/
def mirrorBlocks (p : Page) (a : Act) : Act := if (mirrorPage p).isSome then mirrorGuard (quayOfPage p) a else a

/-- A command names a register page that exists; of any other, only its time passes. -/
def onValid (p : Page) (a : Act) : Act := when (p.valid && p.blk != .obj) a

/-! ### Key windows -/

/-- PAGE_ID[15:0], which binds the key words to the page (R63). -/
def keyId (p : Page) : Nat := p.pageId % 2 ^ 16

/-- The first and the second key word (R63). -/
def firstWord (p : Page) : Word := BitVec.ofNat 32 (0xA5C3 * 2 ^ 16 + keyId p)
def secondWord (p : Page) : Word := BitVec.ofNat 32 (0x5A3C * 2 ^ 16 + (0xFFFF - keyId p))

/-- The fields of a word that `q` selects return in staging to their active values. -/
def restoreWord (p : Page) (q : Field → Bool) (o : Nat) : Act :=
  .dyn fun c =>
    let m := p.mask (fun f => f.acc == .st && q f) o
    setWord (p.base + o) ((c.word (p.base + o) &&& ~~~m) ||| (c.word (p.base + 0x800 + o) &&& m))

/-- The key window closes; without an accepted GO the protected fields written in it return to their active values (R64). -/
def closeWindow (p : Page) (committed : Bool) : Act :=
  .dyn fun c =>
    let prot := (c.pst p).prot
    when (c.pst p).holder.isSome
      (seqs [modPst p fun s => { s with holder := none, prot := [] },
        putFlag p Reg.HDR.LOCK_OPEN false, putFlag p Reg.HDR.PAGE_STAT_LOCK_OPEN false, put p Reg.HDR.LOCK_OWNER 0, put p Reg.HDR.LOCK_REMAIN 0,
        when (!committed && !prot.isEmpty) (.seq (each prot fun o => restoreWord p (fun f => f.lock) o) (err p 0x0E))])

/-- A window whose 8,192 SYS cycles have passed closes (R64). -/
def expireWindow (p : Page) : Act :=
  .dyn fun c => match (c.pst p).holder with
    | some (_, t) => when (decide (t + 20480 ≤ c.now)) (closeWindow p false)
    | none => .skip

/-- The window opens (R64). -/
def openWindowOf (p : Page) (src : Src) : Act :=
  .dyn fun c =>
    seqs [disarm p src, modPst p fun s => { s with holder := some (src.code, c.now), prot := if s.holder.isSome then s.prot else [] },
      put p Reg.HDR.LOCK_FAILS 0, putFlag p Reg.HDR.LOCK_OPEN true, putFlag p Reg.HDR.PAGE_STAT_LOCK_OPEN true,
      put p Reg.HDR.LOCK_OWNER src.code, put p Reg.HDR.LOCK_REMAIN 8192]

/-- A wrong sequence (R65). -/
def wrongSequence (p : Page) (src : Src) : Act :=
  .dyn fun c =>
    let fails := c.fld p Reg.HDR.LOCK_FAILS + 1
    seqs [disarm p src, closeWindow p false, put p Reg.HDR.LOCK_FAILS (Nat.min fails 3), err p 0x0C src.code,
      when (decide (3 ≤ fails)) (.seq (putFlag p Reg.HDR.LOCK_LOCKOUT true) (raiseFault fLOCKOUT 0 true))]

/-- A write of `v` to LOCK (R63 to R65). DESIGN CHOICE: the holder's own correct sequence opens its window anew, without ARMED; the rules state nothing for it (log entry 67). -/
def lockWrite (src : Src) (p : Page) (v : Word) : Act :=
  onPage src p 0x024 true (mirrorBlocks p (.seq (expireWindow p) (.dyn fun c =>
    let st := c.pst p
    let armed := st.armed.any fun e => e.1 == src.code && decide (c.now ≤ e.2 + 640)
    match st.holder with
    | some (h, _) =>
      if h != src.code then err p 0x10 src.code
      else if v = 0 then .seq (disarm p src) (closeWindow p false)
      else if v = firstWord p then .seq (disarm p src) (modPst p fun s => { s with armed := (src.code, c.now) :: s.armed })
      else if v = secondWord p ∧ armed then openWindowOf p src
      else wrongSequence p src
    | none =>
      if v = 0 then disarm p src
      else if c.flag p Reg.HDR.LOCK_LOCKOUT then err p 0x0D src.code
      else if v = firstWord p then
        seqs [disarm p src, modPst p fun s => { s with armed := (src.code, c.now) :: s.armed }, putFlag p Reg.HDR.LOCK_ARMED true]
      else if v = secondWord p ∧ armed then openWindowOf p src
      else wrongSequence p src)))

/-- LOCK_FIRST_WORD: the correct first key word (R63). -/
def execLockFirstWord (dt : Nat) (src : Src) (p : Page) (s : State) : Host.Outcome State Fault Refusal :=
  s.act dt (onValid p (lockWrite src p (firstWord p)))

/-- LOCK_SECOND_WORD: the correct second key word (R63). -/
def execLockSecondWord (dt : Nat) (src : Src) (p : Page) (s : State) : Host.Outcome State Fault Refusal :=
  s.act dt (onValid p (lockWrite src p (secondWord p)))

/-- LOCK_BAD_WORD: a write of another value to LOCK (R65). -/
def execLockBadWord (dt : Nat) (src : Src) (p : Page) (v : Word) (s : State) : Host.Outcome State Fault Refusal :=
  s.act dt (onValid p (lockWrite src p v))

/-- LOCK_BUSY_WRITE: a write to LOCK while another requester holds the window (R65). -/
def execLockBusyWrite (dt : Nat) (src : Src) (p : Page) (v : Word) (s : State) : Host.Outcome State Fault Refusal :=
  s.act dt (onValid p (lockWrite src p v))

/-- LOCK_RELEASE: a write of 0 to LOCK (R64). -/
def execLockRelease (dt : Nat) (src : Src) (p : Page) (s : State) : Host.Outcome State Fault Refusal :=
  s.act dt (onValid p (lockWrite src p 0))

/-- LOCK_ARM_EXPIRE: 256 SYS cycles (640 ticks) pass after a first word (R63). -/
def execLockArmExpire (dt : Nat) (src : Src) (p : Page) (s : State) : Host.Outcome State Fault Refusal :=
  s.act dt (onValid p (.dyn fun c => match (c.pst p).armed.find? fun e => e.1 == src.code with
    | some (_, t) => .seq (.prim (.elapse (t + 640 - c.now))) (disarm p src)
    | none => .skip))

/-- LOCK_WINDOW_EXPIRE: 8,192 SYS cycles (20,480 ticks) pass after the window opened (R64). -/
def execLockWindowExpire (dt : Nat) (p : Page) (s : State) : Host.Outcome State Fault Refusal :=
  s.act dt (onValid p (.dyn fun c => match (c.pst p).holder with
    | some (_, t) => .seq (.prim (.elapse (t + 20480 - c.now))) (closeWindow p false)
    | none => .skip))

/-- Every open key window closes as the token passes (R64). -/
def closeAllWindows : Act := .dyn fun c => each (c.pages.filterMap fun e => if e.2.holder.isSome then pageOf e.1 else none) fun p => closeWindow p false

/-! ### Snapshots -/

/-- The lead of the page's commit group, or the page itself. -/
def leadOf (p : Page) : Page := if p.blk = .leg then ⟨.leg, p.idx / 4 * 4⟩ else p

/-- Staging bank, active bank and size of the bank that belongs to the staged set of ACT or of ENG subpage 0 (R78, R191). -/
def bankOf (p : Page) : Option (Nat × Nat × Nat) :=
  match p.blk with
  | .act => some (0x4201A000, 0x4201B000, 0x1000)
  | .eng => some ((quayOfPage p).origin + 0xC00000, (quayOfPage p).origin + 0xC08000, 0x8000)
  | _ => none

/-- The words of a range that are listed, by offset. -/
def Chip.wordsIn (c : Chip) (lo size : Nat) : List (Nat × Word) :=
  c.regs.filterMap fun e => if lo ≤ e.1 ∧ e.1 < lo + size then some (e.1 - lo, e.2) else none

/-- A page copies its staged set into a snapshot (R54). -/
def Chip.takeSnap (c : Chip) (p : Page) (wait src : Nat) : Snap :=
  { words := c.wordsIn p.base 0x800,
    bank := match bankOf p with
      | some (lo, _, n) => c.wordsIn lo n
      | none => [],
    wait := wait, at_ := c.t, src := src, en := c.en p, ok := none }

/-- Word of the bank of a snapshot. -/
def Snap.bankWord (x : Snap) (o : Nat) : Word := ((x.bank.find? fun e => e.1 == o).map Prod.snd).getD 0

/-- COMMIT_PEND and PEND show whether a checked snapshot waits for its boundary (Table 2-1). -/
def pendRefresh (p : Page) : Act :=
  .dyn fun c =>
    let b := (c.pst p).snaps.any fun x => x.ok == some true && x.wait != 0
    .seq (putFlag p Reg.HDR.PAGE_STAT_COMMIT_PEND b) (putFlag p Reg.HDR.COMMIT_PEND b)

/-- A set of the page is rejected (R57, R62). -/
def reject (p : Page) (code src : Nat) : Act :=
  seqs [putFlag p Reg.HDR.COMMIT_REJECTED true, err p code src, evt p evREJ]

/-- Boundaries that a GO accepted now on the page waits for (R55). -/
def Chip.goWait (c : Chip) (p : Page) : Nat := if c.en p then c.boundaryWait p else 0

/-- A GO is accepted: every page of the group takes a snapshot, assigned to the same boundary (R54, R55, R61). -/
def acceptGo (src wait : Nat) (p : Page) : Act :=
  .dyn fun c =>
    seqs [each p.group fun m => .dyn fun c => seqs [
        modPst m fun s => { s with snaps := s.snaps ++ [c.takeSnap m wait src] },
        putFlag m Reg.HDR.PAGE_STAT_DIRTY false, putFlag m Reg.HDR.COMMIT_REJECTED false,
        when (match (c.pst m).holder with | some (h, _) => h == src | none => false) (closeWindow m true)],
      bumpWrap p Reg.HDR.COMMIT_ACCEPT_CNT,
      when (p.blk == .act) (each (List.range 8) fun i => put p Reg.ACT.RETIRED 0 i)]

/-- COPY_BUSY of the page of a bank. -/
def putCopyBusy (p : Page) (b : Bool) : Act :=
  if p.blk = .act then putFlag p Reg.ACT.ACT_STAT_COPY_BUSY b else putFlag p Reg.ENG.ENG_STAT_COPY_BUSY b

/-- The copy of the active bank into the staging bank starts at tick `t` (R78, R191). -/
def startCopy (p : Page) (t : Nat) : Act :=
  .seq (putCopyBusy p true) (modPst p fun s => { s with copyDue := some (t + if p.blk = .act then 5120 else 10240) })

/-- DISCARD: staging returns to the active values; on a lead page, in every member, and the group's snapshots are cancelled (R59). -/
def discardPage (p : Page) : Act :=
  let back := fun m => seqs [each (stWords m) fun o => restoreWord m (fun _ => true) o, putFlag m Reg.HDR.PAGE_STAT_DIRTY false]
  .seq (closeWindow p false)
    (if p.grouped && !p.groupLead then back p
     else .seq (each p.group fun m => seqs [back m, modPst m fun s => { s with snaps := [] }, pendRefresh m])
       (when (bankOf p).isSome (.dyn fun c => startCopy p c.t)))

/-- A GO reaches the page: rejected on a member, held while a bank copy runs, else accepted with the boundary that `wait` assigns (R61, R78). -/
def goWrite (src : Src) (wait : Nat) (p : Page) : Act :=
  .dyn fun c =>
    if p.grouped && !p.groupLead then reject p 7 src.code
    else if (c.pst p).copyDue.isSome then modPst p fun s => { s with held := s.held ++ [.go src] }
    else acceptGo src.code wait p

/-- COMMIT_GO: a write of COMMIT.GO, with DISCARD where the same write sets it, which acts first (R54, R59). The mirror carries it with the boundary assigned on the active Quay (Table 12-4). -/
def execCommitGo (dt : Nat) (src : Src) (p : Page) (discard : Bool) (s : State) : Host.Outcome State Fault Refusal :=
  s.act dt (onValid p (onPage src p 0x028 true (.seq (expireWindow p) (.dyn fun c =>
    mirrorAct p true fun m => .seq (when discard (discardPage m)) (goWrite src (c.goWait p) m)))))

/-- COMMIT_DISCARD: a write of COMMIT.DISCARD alone, which writes the staging that the mirror carries (R59, R338). -/
def execCommitDiscard (dt : Nat) (src : Src) (p : Page) (s : State) : Host.Outcome State Fault Refusal :=
  s.act dt (onValid p (onPage src p 0x028 true
    (.seq (expireWindow p) (mirrorAct p true discardPage))))

/-- The snapshots that the check of `l` passes stay, and replace an earlier checked one assigned to the same boundary (R56, R57). -/
def keepSnap (i : Nat) (l : List Snap) : List Snap :=
  match l[i]? with
  | none => l
  | some x =>
    (l.take i).filter (fun y => !(y.ok == some true && y.wait == x.wait && x.wait != 0)) ++ [{ x with ok := some true }] ++ l.drop (i + 1)

/-- SNAPSHOT_CHECK_DONE: the oldest snapshot of the page's group not yet checked is checked; `parity`: the staging or the snapshot of page `p` has a parity error (R57, R58, R60, R62, Table 2-4). -/
def execSnapshotCheckDone (dt : Nat) (p : Page) (parity : Bool) (s : State) : Host.Outcome State Fault Refusal :=
  s.act dt (onValid p (.dyn fun c =>
    let q := leadOf p
    match (c.pst q).snaps.findIdx? fun x => x.ok.isNone with
    | none => .skip
    | some i =>
      let l := q.group.filterMap fun m => ((c.pst m).snaps[i]?).map fun x => (m, x)
      let codes := l.map fun e => (e.1, e.2.src,
        lowestCode ((if parity ∧ e.1 = p then [2] else []) ++ c.pageCodes (c.snapValue l) e.2.bankWord (c.snapEn l) e.1))
      if codes.all fun e => e.2.2 == 0 then
        each l fun e => .seq (modPst e.1 fun s => { s with snaps := keepSnap i s.snaps }) (pendRefresh e.1)
      else
        each codes fun e => seqs [modPst e.1 fun s => { s with snaps := s.snaps.eraseIdx i },
          reject e.1 (if e.2.2 = 0 then 8 else e.2.2) e.2.1, pendRefresh e.1]))

/-- The banks of ACT or ENG exchange roles at tick `t`, and the copy starts (R78, R82, R191). -/
def exchangeBanks (p : Page) (x : Snap) (t : Nat) : Act :=
  match bankOf p with
  | none => .skip
  | some (_, lo, n) =>
    .dyn fun c =>
      seqs [when (p.blk == .eng) (modEng p.idx fun e =>
          { e with banks := (e.banks.filter fun b => c.launchTicks.any fun t => decide (t < b.1)) ++ [(t, c.wordsIn lo n)] }),
        .prim (.regsReset lo (lo + n)), each x.bank fun e => setWord (lo + e.1) e.2, startCopy p t,
        if p.blk = .act then
          seqs [putFlag p Reg.ACT.ACT_STAT_BANK (!c.flag p Reg.ACT.ACT_STAT_BANK), modTideS fun s => { s with bankAt := t }, absPend,
            when (c.on p) (lateRetire t)]
        else
          .seq (putFlag p Reg.ENG.ENG_STAT_BANK (!c.flag p Reg.ENG.ENG_STAT_BANK))
            (.dyn fun c => put p Reg.ENG.COEF_SIG (crc32 (c.bytesOf lo 8192)))]

/-- A snapshot replaces the active set in one step (R56). -/
def applySnap (p : Page) (x : Snap) : Act :=
  .dyn fun c =>
    seqs [each (stWords p) fun o => setWord (p.base + 0x800 + o) (x.word c.strap p o), exchangeBanks p x x.at_,
      putWide p Reg.HDR.LAST_COMMIT_TIDE_LO Reg.HDR.LAST_COMMIT_TIDE_HI x.at_, bumpWrap p Reg.HDR.COMMIT_SEQ,
      put p Reg.HDR.COMMIT_SRC x.src, evt p evDONE]

/-- A snapshot applies now. -/
def Snap.due (x : Snap) : Bool := x.ok == some true && x.wait == 0

/-- Every snapshot of the page's group that is due applies, oldest first, in all members together (R56, R62). -/
def applyDue (p : Page) : Act :=
  .dyn fun c =>
    let q := leadOf p
    let ready := fun m => (c.pst m).snaps.filter Snap.due
    seqs [each q.group fun m => modPst m fun s => { s with snaps := s.snaps.filter fun x => !x.due },
      each (List.range (ready q).length) fun i => .dyn fun c0 =>
        let l := q.group.filterMap fun m => ((ready m)[i]?).map fun x => (m, x)
        .seq (each l fun e => applySnap e.1 e.2) (each l fun e => commitHook c0 e.1 e.2.at_),
      each q.group pendRefresh]

/-- The oldest checked snapshot of a page waits for the next boundary of its generator. -/
def Chip.nextIsSnap (c : Chip) (p : Page) : Bool :=
  c.fgOn (c.fgOf p) && (c.pst (leadOf p)).snaps.any fun x => x.ok == some true && x.wait == 1

/-- SNAPSHOT_APPLY: the snapshots due at acceptance, or assigned to the boundary of the page's generator that has just been or is next, apply at its tick (R56). A generator's own snapshot applies with its FRAME_BOUNDARY. -/
def execSnapshotApply (dt : Nat) (p : Page) (s : State) : Host.Outcome State Fault Refusal :=
  s.act dt (onValid p (.dyn fun c =>
    .seq (when (p.blk != .fg && c.nextIsSnap p && !(c.pst (leadOf p)).snaps.any Snap.due)
        (let b := c.fgNext (c.fgOf p)
         .seq (atTick b) (each p.group fun m => modPst m fun s =>
           { s with snaps := s.snaps.map fun x => if x.ok == some true && x.wait == 1 then { x with wait := 0, at_ := b } else x })))
      (applyDue p)))

/-- Served in the order of arrival after a copy: a held write overwrites the copied value (R78). -/
def serveHeld (p : Page) (h : Held) : Act :=
  match h with
  | .go src => .dyn fun c => goWrite src (c.goWait p) p
  | .write _ a v => .seq (setWord a v) (putFlag p Reg.HDR.PAGE_STAT_DIRTY true)

/-- The copy of the active bank into the staging bank completes (R78, R191). -/
def copyDone (p : Page) : Act :=
  .dyn fun c =>
    match (c.pst p).copyDue, bankOf p with
    | some d, some (lo, act, n) =>
      .seq (atTick d) (.dyn fun c =>
        let held := (c.pst p).held
        seqs [.prim (.regsReset lo (lo + n)), each (c.wordsIn act n) fun e => setWord (lo + e.1) e.2,
          modPst p fun s => { s with copyDue := none, held := [] }, putCopyBusy p false,
          evt p (if p.blk = .act then 5 else 0), each held (serveHeld p)])
    | _, _ => .skip

/-- BANK_COPY_DONE: the copy of the action table completes (R78). -/
def execBankCopyDone (dt : Nat) (s : State) : Host.Outcome State Fault Refusal := s.act dt (copyDone pgACT)

/-- COEF_COPY_DONE: the copy of the coefficient store of a Quay completes (R191). -/
def execCoefCopyDone (dt : Nat) (q : Quay) (s : State) : Host.Outcome State Fault Refusal := s.act dt (copyDone (pgENG q))

/-- Pages that hold a snapshot or a pending EN = 1. -/
def Chip.waiting (c : Chip) : List Page :=
  c.pages.filterMap fun e => if e.2.snaps.isEmpty && e.2.enWait.isNone then none else pageOf e.1

/-- A boundary at tick `b` of generator `g`: what waits for it becomes due, and snapshots take its tick (R52, R55, R56). -/
def boundaryDue (g b : Nat) : Act :=
  .dyn fun c => each (c.waiting.filter fun p => c.fgOf p == g) fun p =>
    .seq (modPst p fun s =>
      { s with
        enWait := s.enWait.map fun e => (e.1 - 1, e.2),
        snaps := s.snaps.map fun x => if x.wait = 1 then { x with wait := 0, at_ := b } else { x with wait := x.wait - 1 } }) (pendRefresh p)

/-! ### Enable and soft reset -/

/-- PAGE_CTRL.EN. DEDUCED: of ENG subpage 0 the mirror carries it too, for a new active Quay takes every LAUNCH (R343) and the standby's own writes of it have no effect (R341; log entry 12). -/
def enField : Field := Reg.HDR.PAGE_CTRL_EN

/-- Some page other than a generator follows generator `g` with EN = 1 (R77). -/
def Chip.followed (c : Chip) (g : Nat) : Bool := allPages.any fun p => p.blk != .fg && c.fgOf p == g && c.en p

/-- Stops the function of a page; a generator's waiting snapshots apply at this tick (R52, R56, R77). -/
def stopPage (p : Page) (soft : Bool) : Act :=
  .dyn fun c =>
    let was := c.en p
    seqs [put p enField 0, putFlag p Reg.HDR.PAGE_STAT_ENABLED false, modPst p fun s => { s with enWait := none },
      when (was || p.blk == .cpl) (stopHook p soft),
      when (was && p.blk == .fg) (.dyn fun c =>
        let l := c.waiting.filter fun m => c.fgOf m == p.idx
        .seq (each l fun m => modPst m fun s => { s with snaps := s.snaps.map fun x => if x.wait = 0 then x else { x with wait := 0, at_ := c.t } })
          (each (l.filter fun m => leadOf m == m) applyDue))]

/-- A write of EN = 0 or of SRST to this page has no effect, with its code (R77). -/
def Chip.stopRefused (c : Chip) (p : Page) : Option Nat :=
  match p.blk with
  | .tide => some 0x42
  | .fg => if p.idx = 0 then some 0x42 else if c.followed p.idx then some 0x40 else none
  | _ => none

/-- EN_CLEAR: a write of EN = 0 (R52, R77). -/
def execEnClear (dt : Nat) (src : Src) (p : Page) (s : State) : Host.Outcome State Fault Refusal :=
  s.act dt (onValid p (onPage src p 0x008 true (.dyn fun c => match c.stopRefused p with
    | some code => err p code src.code
    | none => mirrorAct p (p.blk == .eng) fun m => stopPage m false)))

/-- First boundary of a generator started now: ANCHOR + n × PERIOD, at least 250 ticks ahead (R75). -/
def Chip.fgFirst (c : Chip) (g : Nat) : Nat :=
  let a := c.actWide (pgFG g) Reg.FG.ANCHOR_LO Reg.FG.ANCHOR_HI
  let p := c.fgPeriod g
  if c.t + 250 ≤ a then a else a + (c.t + 250 - a + p - 1) / p * p

/-- A stopped generator starts at acceptance (R75). -/
def startFg (src : Nat) (g : Nat) : Act :=
  .dyn fun c =>
    let p := pgFG g
    when (!c.on p)
      (if c.activeFails p then err p 9 src
       else seqs [put p enField 1, putFlag p Reg.HDR.PAGE_STAT_ENABLED true, put p Reg.FG.COUNT 0,
         putWide p Reg.FG.NEXT_LO Reg.FG.NEXT_HI (c.fgFirst g), modTideS fun s => { s with firsts := g :: s.firsts }, evt p 1])

/-- FG_START: a write of EN = 1 to a generator's page (R75). -/
def execFgStart (dt : Nat) (src : Src) (g : Fin 8) (s : State) : Host.Outcome State Fault Refusal :=
  s.act dt (onPage src (pgFG g) 0x008 true (startFg src.code g))

/-- The three cells of a unit have MODE 1 and EN = 1 (R307). -/
def Chip.cellsReady (c : Chip) (u : Nat) : Bool :=
  (c.sscCells u).all fun n => c.act (pgBRG n) Reg.BRG.BRG_CFG_MODE == 1 && c.en (pgBRG n)

/-- EN_SET: a write of EN = 1 waits for its boundary (R52, R75, R305, R307). -/
def execEnSet (dt : Nat) (src : Src) (p : Page) (s : State) : Host.Outcome State Fault Refusal :=
  s.act dt (onValid p (onPage src p 0x008 true (.dyn fun c =>
    if p.blk = .fg then startFg src.code p.idx
    else when (!c.en p)
      (if p.blk = .brg ∧ c.flag p Reg.BRG.BRG_STAT_ST_FAIL then err p 0x40 src.code
       else if p.blk = .ssc ∧ !c.cellsReady p.idx then err p 9 src.code
       else if !c.fgOn (c.fgOf p) then err p 9 src.code
       else .seq (mirrorAct p (p.blk == .eng) fun m => .seq (put m enField 1) (modPst m fun s => { s with enWait := some (c.boundaryWait p, src.code) }))
         (match p.blk with
           | .pos => emusRefresh p.idx
           | .brg => brgUpdate p.idx
           | _ => .skip)))))

/-- The leg lies at or above the LEGS of its board (R149). -/
def Chip.legMissing (c : Chip) (p : Page) : Bool :=
  p.blk == .leg &&
    (let k := p.idx / 4
     !c.flag (pgLLP k) Reg.LLP.LINK_STAT_CAPS_OK || decide (c.fld (pgLLP k) Reg.LLP.DRV_CAPS0_LEGS ≤ p.idx % 4))

/-- EN_APPLY: at its boundary EN = 1 takes effect if the active set passes its checks (R52, R149). DESIGN CHOICE: ERR_CODE.SRC of ENABLE_REFUSED is the requester that wrote EN, not 0xFF (log entry 68). -/
def execEnApply (dt : Nat) (p : Page) (s : State) : Host.Outcome State Fault Refusal :=
  s.act dt (onValid p (.dyn fun c =>
    match (c.pst p).enWait with
    | some (0, src) =>
      .seq (modPst p fun s => { s with enWait := none })
        (if c.activeFails p || c.legMissing p || !c.fgOn (c.fgOf p) then .seq (put p enField 0) (err p 9 src)
         else .seq (putFlag p Reg.HDR.PAGE_STAT_ENABLED true) (startHook p (c.fgLast (c.fgOf p))))
    | _ => .skip))

/-- The page is the source of the stream: the lanes are those of ENG, the interrupt controller and the injection page write no records, and every other page is the source of its instance's streams (R85, R209, R356). -/
def sourceOf (p : Page) (id : Nat) : Bool :=
  match p.blk with
  | .eng | .inj | .irq | .obj => false
  | .lane => id % 2 ^ 15 == p.srcId 0 % 2 ^ 15 && id / 2 ^ 15 == p.idx % 8
  | _ => id % 2 ^ 15 == p.srcId 0 % 2 ^ 15

/-- The sources of the page restart their SEQ (R85). -/
def resetStreams (p : Page) : Act :=
  .dyn fun c => each (c.streams.filter fun e => sourceOf p e.1) fun e => .prim (.stream e.1 { e.2 with seq := 0, pend := [], later := [] })

/-- The page returns to its reset values (R53): commits are cancelled, in the whole group, and the key window closes. LEVEL events whose condition holds occur again (R49). DESIGN CHOICE: a window that closes with uncommitted protected writes leaves no LOCK_EXPIRED, for ERR_CODE itself returns to its reset value; R53 and R64 give no order (log entry 94). -/
def resetPage (p : Page) (soft : Bool) : Act :=
  .dyn fun c =>
    let was := c.en p
    let others := if p.grouped ∧ (c.pst p).snaps ≠ [] then p.group.filter fun m => m != p else []
    seqs [stopPage p soft, resetFirst p,
      each others fun m => seqs [modPst m fun s => { s with snaps := [] }, reject m 8 0xFF, pendRefresh m],
      resetRegs p soft, .prim (.page p.base {}), resetStreams p, resetHook p was, putFlag p Reg.HDR.PAGE_STAT_ENABLED (p.enReset == 1), raiseLevelsOf p]

/-- SRST: a write of PAGE_CTRL.SRST (R53, R77). -/
def execSrst (dt : Nat) (src : Src) (p : Page) (s : State) : Host.Outcome State Fault Refusal :=
  s.act dt (onValid p (onPage src p 0x008 true (.dyn fun c => match c.stopRefused p with
    | some code => err p code src.code
    | none =>
      if p.hasLock && !c.windowHeld p src then err p 0x0A src.code
      else mirrorAct p false fun m => .dyn fun c => seqs [resetPage m true,
        when (m.blk == .llp && c.linkUp m.idx) (put m Reg.LLP.LINK_STAT_FAULT_CAUSE lcSOFTWARE),
        putFlag m Reg.HDR.PAGE_STAT_BUSY true, putFlag m Reg.HDR.PAGE_CTRL_SRST true,
        modPst m fun s => { s with srstDue := some (c.now + 160) }])))

/-- SRST_COMPLETE: 64 SYS cycles (160 ticks) after a soft reset it completes (R53). -/
def execSrstComplete (dt : Nat) (p : Page) (s : State) : Host.Outcome State Fault Refusal :=
  s.act dt (onValid p (.dyn fun c => match (c.pst p).srstDue with
    | some t => .seq (.prim (.elapse (t - c.now))) (srstDone p)
    | none => .skip))

end Sys2Proof.Machine
end

