-- ==== Sys2Proof/Machine/RegWrite.lean ====
section
/-! DEFINITION. Register and memory writes that have no row of their own (R47, Table 2-3, Table 1-10). -/

namespace Sys2Proof.Machine

open Sys2Proof

/-- Registers that are written by a row of their own: the header words with an action, PUSH_DATA, WD_KICK, FLT_CLR, CPL_CTRL, DBG_ATTACH and SOUT_CMD; W1S, WO and RC fields have one too or ignore the write. -/
def ownRow (p : Page) (f : Field) : Bool :=
  match f.acc with
  | .rw => f.off == 0x008 || (p.blk == .cpl && f.off == 0x048) || (p.blk == .dbg && f.off == 0x04C) || (p.blk == .sio && f.off == 0x058) ||
      (p.blk == .can && f.off == 0x100)
  | .st => false
  | _ => true

/-- Registers that do not exist on this chip as strapped: watchdogs 2 and 3 outside CORE_SPLIT, at their offsets and at the active aliases 0x800 above them (R46, R352). -/
def Chip.absent (c : Chip) (p : Page) (off : Nat) : Bool :=
  p.blk == .qctl && decide (0x080 ≤ off % 0x800) && decide (off % 0x800 < 0x0B0) && decide (2 ≤ off / 4 % 4) && !c.strap.getLsbD 3

/-- The fields of a word that a write of `v` changes; `held`: the writer holds the key window (R47, R60, R65). -/
def takenFields (p : Page) (off : Nat) (v : Word) (held : Bool) : List Field :=
  p.fields.filter fun f => f.covers off && !ownRow p f && (!f.lock || held) && !(f.acc == .rw && f.zero == .invalid && (v &&& f.mask off) == 0)

/-- The bits of the fields in their word. -/
def fieldsMask (l : List Field) (off : Nat) : Word := l.foldl (fun w f => w ||| f.mask off) 0

/-- The fields that a mirrored write changes change alike in the same page `m` of the other Quay: those of a lane page, and of ENG subpage 0 and INJ the staged ones (R338, Table 12-4). -/
def mirrorFields (p m : Page) (off : Nat) (v : Word) (held : Bool) : Act :=
  .dyn fun c =>
    let take := (takenFields p off v held).filter fun f => p.blk == .lane || f.acc == .st
    .seq (setWord (m.base + off) ((c.word (m.base + off) &&& ~~~fieldsMask take off) ||| (v &&& fieldsMask take off)))
      (when (take.any fun f => f.acc == .st) (putFlag m Reg.HDR.PAGE_STAT_DIRTY true))

/-- A write to the word of a page at `off`; `held`: the writer holds the key window. RW and ST fields take the written value; a protected field without the window stays; a zero with no meaning has no effect on an RW field (R47, R60, R65). -/
def writeFields (src : Src) (p : Page) (off : Nat) (v : Word) (held : Bool) : Act :=
  .dyn fun c =>
    let writable := p.fields.filter fun f => f.covers off && !ownRow p f
    let zero := fun (f : Field) => f.acc == .rw && f.zero == .invalid && (v &&& f.mask off) == 0
    let take := takenFields p off v held
    let m := fieldsMask take off
    let clear := (p.fields.filter fun f => f.covers off && f.acc == .w1c && decide (0x040 ≤ f.off)).foldl (fun w f => w ||| (f.mask off &&& v)) (0 : Word)
    seqs [setWord (p.base + off) (((c.word (p.base + off) &&& ~~~m) ||| (v &&& m)) &&& ~~~clear),
      when (take.any fun f => f.acc == .st) (putFlag p Reg.HDR.PAGE_STAT_DIRTY true),
      when (take.any fun f => f.acc == .st && f.lock) (modPst p fun s => { s with prot := if s.prot.contains off then s.prot else off :: s.prot }),
      when (writable.any zero) (err p 4 src.code),
      when (!held && writable.any fun f => f.lock) (err p 0x0B src.code)]

/-- A write to a register of a page. -/
def writeRegister (src : Src) (p : Page) (off : Nat) (v : Word) : Act :=
  seqs [expireWindow p, .dyn fun c =>
    if p.blk = .can ∧ off = 0x100 then setObjSel src p.idx v.toNat
    else if p.blk = .can ∧ 0x104 ≤ off ∧ off < 0x180 then objWrite src p.idx off v
    else if off = 0x024 ∨ c.absent p off then .skip
    else
      let held := c.windowHeld p src
      let write := writeFields src p off v held
      match mirrorPage p with
      | some m => mirrorGuard (quayOfPage p) (.seq write (whenC (fun c => c.mirrors (quayOfPage p)) (mirrorFields p m off v held)))
      | none => write]

/-- A write to a word of a bank window: the staging banks of ACT and ENG; every other word is RO or has a row of its own (Tables 3-10, 7-12; R78, R191, R338). Bits [31:8] of a coefficient's second word are reserved (Table 7-5). -/
def writeWindow (src : Src) (a : Nat) (v : Word) : Act :=
  .dyn fun c =>
    let hold := fun (p : Page) (w : Word) (k : Act) =>
      if (c.pst p).copyDue.isSome then modPst p fun s => { s with held := s.held ++ [.write src a w] }
      else .seq k (putFlag p Reg.HDR.PAGE_STAT_DIRTY true)
    if 0x4201A000 ≤ a ∧ a < 0x4201B000 then hold pgACT v (setWord a v)
    else
      let q := Quay.ofIdx (a / 0x01000000 % 16)
      let off := a % 0x01000000
      when (decide (0xC00000 ≤ off) && decide (off < 0xC08000))
        (mirrorGuard q (let w : Word := if a % 8 = 4 then v &&& 0xFF#32 else v
          .seq (hold (pgENG q) w (setWord a w)) (when (c.mirrors q)
            (.seq (setWord (q.other.origin + off) w) (putFlag (pgENG q.other) Reg.HDR.PAGE_STAT_DIRTY true)))))

/-- REG_WRITE: a write of 2^size bytes (size 0 to 2) at an address that no other row covers (R13, R47, Table 2-3). -/
def execRegWrite (dt : Nat) (src : Src) (a : BitVec 32) (size : Fin 3) (v : Word) (s : State) : Host.Outcome State Fault Refusal :=
  s.act dt (access src a.toNat (8 * 2 ^ size.val) true (.dyn fun c =>
    let bytes := fun base => each (List.range (2 ^ size.val)) fun i => .prim (.byte (base + i) (BitVec.ofNat 8 (v.bits (8 * i) 8)))
    match c.target src a.toNat with
    | .page p => served src p (.seq (when (a.toNat % 4096 != 0x024) (disarm p src)) (writeRegister src p (a.toNat % 4096) v))
    | .window => writeWindow src a.toNat v
    | .sram q => bytes (sramAddr q a.toNat)
    | .pool | .capture => bytes a.toNat
    | .none => .skip))

end Sys2Proof.Machine
end

