-- ==== Sys2Proof/Machine/RegionReset.lean ====
section
/-! DEFINITION. The reset of a region at its restart, and of one Quay (R24, R347). -/

namespace Sys2Proof.Machine

open Sys2Proof

/-- Pages of region `r` other than FLT[r]. -/
def pagesOf (r : Nat) : List Page := allPages.filter fun p => p.region == r && p.blk != .fltr && p.blk != .flt8

/-- Domains of region `r` (Table 17-2). -/
def domainsOf (r : Nat) : List Nat :=
  match r with
  | 0 => [2]
  | 1 => [3]
  | 2 => [5, 6, 7]
  | 3 => [8]
  | 4 => [9]
  | 5 => [10, 11]
  | 6 => [4, 12]
  | _ => [1]

/-- A Quay's region returns to its reset values, with the arbiters at its port and of its end of the Gangway (R24, R347). In QCTL the redundancy state stays, which SF holds (R337), LAST_CAUSE, which survives the reset (R354), and FAULTS and SW_CNT, which count since power-on (Table 12-7); OWNER_Q takes the strap again (R67, Table 17-7). LEVEL events whose condition holds occur again (R49). -/
def resetQuay (q : Quay) : Act :=
  .dyn fun c =>
    let keep := [0x040, 0x044, 0x058].map fun o => ((pgQCTL q).base + o, c.word ((pgQCTL q).base + o))
    seqs [.prim (.arb q.idx {}), .prim (.arb (24 + q.idx) {}), each (pagesOf q.idx) fun p => .seq (resetStreams p) (.prim (.page p.base {})),
      .prim (.regsReset (q.origin + 0x1000) (q.origin + 0x01000000)),
      .prim (.memReset (q.idx * 0x00800000) ((q.idx + 1) * 0x00800000)),
      each keep fun e => setWord e.1 e.2,
      put (pgQCTL q) Reg.QCTL.RED_STAT_OWNER_Q (if c.strap.getLsbD 2 then 1 else 0),
      each (List.range 8) fun l => .seq (.prim (.lane (8 * q.idx + l) {})) (putFlag (pgLANE q l) Reg.HDR.PAGE_STAT_ENABLED true),
      each (List.range 256) fun i => .prim (.slot (256 * q.idx + i) {}),
      each (List.range 16) fun i => .prim (.tap (16 * q.idx + i) {}),
      each (List.range 4) fun m => .prim (.trac (4 * q.idx + m) {}),
      .prim (.conv q.idx {}), .prim (.chg q.idx {}), .prim (.eng q.idx {}), .prim (.gwy q.idx {}), .prim (.quay q.idx {}),
      modOutbox fun o => o.filter fun e => e.q != q, modVcmds fun v => v.filter fun e => e.1 != q, canLocksOf q,
      each (pagesOf q.idx) raiseLevelsOf]

/-- A generator that EN = 1 at reset runs on from the next boundary of its grid. -/
def restartTide : Act :=
  .dyn fun c =>
    let seen := c.refSrc == 1 && c.flag pgTIDE Reg.TIDE.REF_STAT_EXT_OK
    seqs [putWide (pgFG 0) Reg.FG.NEXT_LO Reg.FG.NEXT_HI (c.fgFirst 0),
      modTideS fun s => { s with firsts := [0], refLost := false, refSeen := seen },
      refRefresh]

/-- Every page of region `r` but FLT[r] returns to its reset values, and so does the region's arbiter (R24). -/
def resetRegion (r : Nat) : Act :=
  if r < 2 then resetQuay (Quay.ofIdx r)
  else
    seqs [.prim (.arb r {}), each (pagesOf r) fun p => resetPage p false,
      when (r == 2) restartTide,
      when (r == 5) (each [pgXSP, pgDBG] fun p => .prim (.regsReset p.base (p.base + 0x1000))),
      when (r == 5) fuseRefresh,
      when (r == 6) (.seq (each (List.range 2) fun i => .prim (.store i {})) basinSettle)]

/-- A domain is on and good again; a fault of it clears (R458, Table 17-9). -/
def domainGood (d : Nat) : Act :=
  .dyn fun c =>
    let bad := (c.fld pgPWR Reg.PWR.DOM_FAULT).testBit d
    seqs [domainOnTo d true, domainGoodTo d true, modSeqS fun s => { s with leftOff := withBit s.leftOff d false },
      when bad (.seq (put pgPWR Reg.PWR.DOM_FAULT (c.fld pgPWR Reg.PWR.DOM_FAULT - 2 ^ d)) (dropFault (fPWR_DOM d)))]

/-- PLLs of region `r` (Table 17-4, R469). -/
def pllsOf (r : Nat) : List Nat :=
  match r with
  | 0 => [3]
  | 1 => [4]
  | 2 => [1, 2, 5]
  | _ => []

/-- A PLL failure clears at a restart of the region that holds the PLL (R469). -/
def pllClear (i : Nat) : Act :=
  .dyn fun c => when ((c.fld pgCLK Reg.CLK.CLK_STAT_FAULT).testBit i)
    (seqs [put pgCLK Reg.CLK.CLK_STAT_FAULT (c.fld pgCLK Reg.CLK.CLK_STAT_FAULT - 2 ^ i),
      put pgCLK Reg.CLK.CLK_STAT_LOCK (c.fld pgCLK Reg.CLK.CLK_STAT_LOCK ||| 2 ^ i),
      record pgCLK 0 0x01 c.t i 0, raiseLevels pgCLK Chip.clkLevels,
      when (i == 1) (seqs [putFlag pgTIDE Reg.TIDE.REF_STAT_PLL_LOCK true, refRefresh, dropFault fTIDE_UNLOCK]),
      .dyn fun c => when ((i == 2 || i == 5) && c.fld pgCLK Reg.CLK.CLK_STAT_FAULT &&& 0x24 == 0) (dropFault fCLK_FAULT)])

/-- Domains that a domain needs (Table 17-2). -/
def needs (d : Nat) : List Nat :=
  match d with
  | 0 => []
  | 1 => [0]
  | 5 => [1]
  | 11 | 13 => [10]
  | 12 => [4]
  | _ => [5]

/-- Every domain that `d` needs is on and good, and so is VDDA for PD_ADC (R456). -/
def Chip.needsMet (c : Chip) (d : Nat) : Bool :=
  (needs d).all c.domainIsGood && !(d == 8 && c.flag pgPWR Reg.PWR.SUP_STAT_VDDA_FAIL)

/-- Domains of a region return to their state after power-on reset, each where what it needs is on and good: all on and good but PD_DBG without DEBUG_ALLOW (R24, R456, Table 17-9). -/
def domainsBack (r : Nat) : Act :=
  seqs [each (domainsOf r) fun d => whenC (fun c => c.needsMet d) (domainGood d), each (pllsOf r) pllClear,
    whenC (fun c => r == 5 && c.strap.getLsbD 11 && c.needsMet 13) (domainGood 13)]

end Sys2Proof.Machine
end

