-- ==== Sys2Proof/Machine/Redundancy.lean ====
section
/-! DEFINITION. The two Quays: lockstep, debug, watchdogs, the Gangway, and the passing of the ownership token (Chapter 12). -/

namespace Sys2Proof.Machine

open Sys2Proof

def pgLCK (q : Quay) : Page := ⟨.lck, q.idx⟩

/-- Changes what a Quay holds beyond its registers. -/
def modQuayOf (q : Quay) (f : QuaySt → QuaySt) : Act := modQuay q.idx f

/-- Ticks of one microsecond. -/
def usTicks : Nat := 2500

/-- A field that reads the same in QCTL of both Quays (R337). -/
def putBoth (f : Field) (v : Nat) : Act := .seq (put (pgQCTL .A) f v) (put (pgQCTL .B) f v)

/-- SINGLE of QCTL, a LEVEL event (R356). -/
def qctlLevels (q : Quay) : Act := raiseLevels (pgQCTL q) fun c => if c.rstate == 2 then 4 else 0

/-- A Quay enters a state of Table 12-2. -/
def quayTo (q : Quay) (st : Nat) : Act := .seq (put (pgQCTL q) Reg.QCTL.Q_STAT_QSTATE st) gwyRefresh

/-- The chip enters a redundancy state of Table 12-3 (R337, R349, R350, R356). -/
def redTo (st : Nat) : Act :=
  .dyn fun c =>
    when (c.rstate != st)
      (seqs [putBoth Reg.QCTL.RED_STAT_RSTATE st, putBoth Reg.QCTL.RED_STAT_REMAIN c.singleLimit,
        when (st == 2) (modRedS fun r => { r with singleAt := c.t }), when (st == 3) (raiseFault fNO_OWNER),
        when (st == 0) (match c.owner with | some q => evt (pgQCTL q) 3 | none => .skip),
        qctlLevels .A, qctlLevels .B])

/-! ### Quay faults -/

/-- Q_FAULT goes to FLT[8] with its code (R335). -/
def reportFault (q : Quay) (code : Nat) : Act := raiseFault (fQ_FAULT q) code true

/-- The Quay enters RESET, or FAILED at its fourth fault. Its runs in progress continue until QUAY_RESET resets the region, from when it shows RESTARTING (R335, R347, R496). -/
def quayDown (q : Quay) (code : Nat) : Act :=
  .dyn fun c =>
    seqs [putBoth Reg.QCTL.Q_STAT_LAST_CAUSE code,
      quayTo q (if c.fld (pgQCTL q) Reg.QCTL.Q_STAT_FAULTS = 3 then 5 else 0), bump (pgQCTL q) Reg.QCTL.Q_STAT_FAULTS,
      whenC (fun c => c.qstate q == 0) (canLocksOf q), whenC (fun c => c.qstate q == 5) (putFlag (pgFLT q.idx) Reg.FLTR.REG_STAT_READY false)]

/-- The Gangway end of Quay `q` forgets what it has streamed and not seen accepted: the bulk copy that follows carries all of it (R339, R347). -/
def forgetSent (q : Quay) : Act := modGwy q.idx fun g => { g with blocks := [], tracs := [], convs := [], chgs := [], marks := [] }

/-- BIST fails: the Quay is FAILED (R336, R347, R351). -/
def bistFails (q : Quay) : Act :=
  seqs [reportFault q 12, putBoth Reg.QCTL.Q_STAT_LAST_CAUSE 12, modQuayOf q fun s => { s with bist := none }, quayTo q 5,
    putFlag (pgFLT q.idx) Reg.FLTR.REG_STAT_RESTARTING false, putFlag (pgFLT q.idx) Reg.FLTR.REG_STAT_READY false,
    whenC (fun c => c.rstate == 4 && c.qstate q.other == 5) (redTo 3)]

/-- The active Quay loses its standby (R334, R350, R356). -/
def standbyLost (q : Quay) (code : Nat) : Act :=
  .dyn fun c =>
    let p := pgQCTL q.other
    .seq (.seq (forgetSent q.other) (when (c.qstate q.other == 4) (.seq (evt p 1) (record p 0 0x02 c.t code (c.qstate q)))))
      (if c.rstate = 0 then redTo 2 else when (c.rstate == 1) (redTo 3))

/-- A Quay fault of Table 12-1, codes 1 to 10, is detected (R334 to R336, Table 12-5). DEDUCED: one that is detected in BIST fails the BIST, since Table 12-2 lists no other way out of it (log entry 96). -/
def quayFault (q : Quay) (code : Nat) : Act :=
  .seq (reportFault q code) (.dyn fun c =>
    match c.qstate q with
    | 4 => when c.redSt.pend.isNone (modRedS fun r => { r with pend := some (q, code, c.t) })
    | 3 => .seq (quayDown q code) (standbyLost q code)
    | 2 => .seq (quayDown q code) (forgetSent q.other)
    | 6 => quayDown q code
    | 1 => .seq (modQuayOf q fun s => { s with bistBad := true }) (when (c.quay q.idx).bist.isSome (bistFails q))
    | _ => .skip)

/-- What acceptance of the blocks that Quay `q` published before `b` is about to replace. -/
def Chip.snapUndo (c : Chip) (q : Quay) (b : Nat) : SnapUndo :=
  let g := c.gwy q.idx
  let o := q.other
  let old := fun a => (a, c.word a)
  { words := (g.blocks.filter fun e => decide (e.2.2 < b)).flatMap (fun e => (List.range e.2.1.length).map fun i => old (o.origin + 0x00800000 + e.1 + 4 * i)) ++
      ([0x044, 0x048, 0x04C, 0x050, 0x054].map fun k => old ((pgGWY o).base + k)) ++ [old ((pgQCTL o).base + 0x040)],
    tracs := (List.range 4).map fun m => (4 * o.idx + m, c.trac (4 * o.idx + m)), conv := c.conv o.idx, chg := c.chg o.idx,
    accepted := (c.gwy o.idx).accepted, missed := (c.gwy o.idx).missed }

/-- A snapshot accepted in the tick of the release counts as not accepted (Table 12-5). -/
def snapRevert (o : Quay) : Act :=
  .dyn fun c => match (c.gwy o.idx).undo with
    | some (t, u) => when (t == c.t)
        (seqs [each u.words fun e => setWord e.1 e.2, each u.tracs fun e => modTrac e.1 fun _ => e.2, modConv o.idx fun _ => u.conv,
          modChg o.idx fun _ => u.chg, modGwy o.idx fun g => { g with accepted := u.accepted, missed := u.missed, undo := none }])
    | none => .skip

/-- The leg blocks in RUN or HOLD enter SWITCH_HOLD as the token is released (R104). -/
def switchHold : Act :=
  .dyn fun c => each ((List.range 24).filter fun k => c.bstate k == 2 || c.bstate k == 3) fun k =>
    .seq (putFlag (pgLead k) Reg.LEGL.BLK_STAT_SWITCH_HOLD true) (blkLevels k)

/-- TOKEN_RELEASE: the release that is due, on a fault within 160 ticks of its detection, or at B_s of a commanded switch-over (R335, R343, R345, R350). -/
def execTokenRelease (dt : Nat) (s : State) : Host.Outcome State Fault Refusal :=
  s.act dt (.dyn fun c =>
    match c.redSt.pend, c.redSt.switchAt, c.owner with
    | some (q, code, _), _, _ => go q code
    | none, some b, some q => .seq (atTick b) (go q 13)
    | _, _, _ => .skip)
where
  go (q : Quay) (code : Nat) : Act :=
    .dyn fun c =>
      let n := q.other
      .seq (snapRevert n) (.dyn fun c =>
      let bt := if code = 13 then c.firstBoundary 0 (c.t + 1) else c.firstBoundary 0 (c.t + 250)
      seqs [.prim (.owner none), putFlag (pgQCTL q) Reg.QCTL.Q_STAT_OWNER false, putFlag (pgQCTL q) Reg.QCTL.SW_CTRL false,
        putBoth Reg.QCTL.LAST_REL (c.t % 2 ^ 32), modGwy q.idx fun g => { g with flight := [], granted := 0 },
        modRedS fun r => { r with pend := none, switchAt := none, rel := some (q, code, c.t, bt) },
        if code = 13 then .seq (putBoth Reg.QCTL.Q_STAT_LAST_CAUSE 13) (quayTo q 6) else quayDown q code,
        redTo (if c.inStep n then 1 else 3), switchHold, gwyRefresh])

/-- TAKEOVER: at B_T the standby takes the token and becomes ACTIVE; a Quay in HANDOVER enters STANDBY (R336, R343, R345). -/
def execTakeover (dt : Nat) (s : State) : Host.Outcome State Fault Refusal :=
  s.act dt (.dyn fun c0 =>
    match c0.redSt.rel with
    | none => .skip
    | some (old, code, _, bt) =>
      let q := old.other
      if c0.rstate = 3 then when (c0.qstate old == 6) (seqs [atTick bt, modRedS fun r => { r with rel := none }, quayTo old 3])
      else when (c0.rstate == 1)
        (seqs [atTick bt, .dyn fun c =>
          let age := match (c.gwy q.idx).accepted with
            | some b => (bt - b) / c.fgPeriod 0
            | none => 0
          seqs [.prim (.owner (some q)), modRedS fun r => { r with rel := none },
            quayTo q 4, putFlag (pgQCTL q) Reg.QCTL.Q_STAT_OWNER true, putBoth Reg.QCTL.RED_STAT_OWNER_Q q.idx,
            when (c.qstate old == 6) (seqs [forgetSent old, modGwy old.idx fun g => { g with accepted := some (bt - c.fgPeriod 0), missed := 0 }, quayTo old 3]),
            putBoth Reg.QCTL.LAST_BT_LO (bt % 2 ^ 32), putBoth Reg.QCTL.LAST_BT_HI (bt / 2 ^ 32),
            bump (pgQCTL .A) Reg.QCTL.SW_CNT, bump (pgQCTL .B) Reg.QCTL.SW_CNT, putBoth Reg.QCTL.SNAP_AGE (Nat.min age 255),
            each (List.range 8) fun l => .seq (modLaneOf q l fun s => { s with queue := [], run := none }) (putQueued q l),
            redTo (if c.qstate old = 6 then 0 else 2),
            evt (pgQCTL q) 0, record (pgQCTL q) 0 0x01 bt code age, basinTokenPass c old, closeAllWindows, gwyRefresh]]))

/-- SWITCH_REQ: a write of SW_CTRL.SWITCH_REQ (R345). -/
def execSwitchReq (dt : Nat) (src : Src) (q : Quay) (s : State) : Host.Outcome State Fault Refusal :=
  let p := pgQCTL q
  s.act dt (onPage src p 0x048 true (locked src p (.dyn fun c =>
    if c.rstate == 0 && c.owner == some q then
      when (c.redSt.switchAt.isNone && c.redSt.pend.isNone)
        (.seq (putFlag p Reg.QCTL.SW_CTRL true) (modRedS fun r => { r with switchAt := some (c.firstBoundary 0 (c.t + 250)) }))
    else err p 0x41 src.code)))

/-- QUAY_RESET: a Quay in RESET resets its region and enters BIST (R347). -/
def execQuayReset (dt : Nat) (q : Quay) (s : State) : Host.Outcome State Fault Refusal :=
  s.act dt (.dyn fun c => when (c.tideOn && c.qstate q == 0)
    (seqs [resetQuay q, quayHeld q, xspNext, domainsBack q.idx, putFlag (pgFLT q.idx) Reg.FLTR.REG_STAT_RESTARTING true,
      putFlag (pgFLT q.idx) Reg.FLTR.REG_STAT_READY false, quayTo q 1]))

/-- A Quay leaves BIST: its watchdogs start, and its region serves accesses again (R333, R496). -/
def leaveBist (q : Quay) : Act :=
  .dyn fun c =>
    seqs [modQuayOf q fun s => { s with bist := none, wd := List.replicate 4 c.now, resync := c.t },
      each (List.range (if c.split then 4 else 2)) fun w =>
        seqs [put (pgQCTL q) Reg.QCTL.WD_STAT_NEXT 1 w, putFlag (pgQCTL q) Reg.QCTL.WD_STAT_RUNNING true w,
          put (pgQCTL q) Reg.QCTL.WD_STAT_REMAIN (c.act (pgQCTL q) Reg.QCTL.WD_CFG_PERIOD w) w],
      putFlag (pgFLT q.idx) Reg.FLTR.REG_STAT_ISOLATED false, dropFault (fREGION_ISO q.idx),
      .dyn fun c => when (c.flag (pgFLT q.idx) Reg.FLTR.REG_STAT_RESTARTING)
        (seqs [putFlag (pgFLT q.idx) Reg.FLTR.REG_STAT_RESTARTING false, putFlag (pgFLT q.idx) Reg.FLTR.REG_STAT_READY true,
          bump (pgFLT q.idx) Reg.FLTR.RESTART_CNT])]

/-- BIST_DONE: the self-test of a Quay ends (R336, R347, R351). -/
def execBistDone (dt : Nat) (q : Quay) (pass : Bool) (s : State) : Host.Outcome State Fault Refusal :=
  s.act dt (.dyn fun c =>
    when (c.qstate q == 1 && (c.quay q.idx).bist.isNone)
      (if !(pass && c.domainIsGood (2 + q.idx) && !(c.quay q.idx).bistBad) then
        bistFails q
      else if c.rstate == 4 then modQuayOf q fun s => { s with bist := some c.t }
      else .seq (leaveBist q) (quayTo q 2)))

/-- Quay that STRAP[2] ACTIVE_FIRST names (R351). -/
def Chip.activeFirst (c : Chip) : Quay := if c.strap.getLsbD 2 then .B else .A

/-- The Quay that takes the token at start-up, with the tick at which its BIST passed (R351). -/
def Chip.startTaker (c : Chip) : Option (Quay × Nat) :=
  let q := c.activeFirst
  match (c.quay q.idx).bist, (c.quay q.other.idx).bist with
  | some t, _ => some (q, t)
  | none, some t => if c.qstate q = 5 then some (q.other, t) else none
  | none, none => none

/-- STARTUP_TAKE: the first owner takes the token at an FG[0] boundary after its BIST passed (R351). -/
def execStartupTake (dt : Nat) (s : State) : Host.Outcome State Fault Refusal :=
  s.act dt (.dyn fun c => match c.startTaker with
    | none => .skip
    | some (q, t) =>
      when (c.rstate == 4)
        (seqs [atTick (c.firstBoundary 0 (Nat.max (t + 1) c.t)), .prim (.owner (some q)), leaveBist q, quayTo q 4,
          putFlag (pgQCTL q) Reg.QCTL.Q_STAT_OWNER true, putBoth Reg.QCTL.RED_STAT_OWNER_Q q.idx, redTo 2,
          when (c.quay q.other.idx).bist.isSome (.seq (leaveBist q.other) (quayTo q.other 2)), gwyRefresh]))

/-- SINGLE_EXPIRE: SINGLE has lasted SINGLE_LIMIT (R349). -/
def execSingleExpire (dt : Nat) (s : State) : Host.Outcome State Fault Refusal :=
  s.act dt (.dyn fun c => when (c.rstate == 2 && c.safSt.placed && !c.flag (pgQCTL .A) Reg.QCTL.RED_STAT_EXPIRED)
    (seqs [atTick (c.redSt.singleAt + c.singleLimit * 1000 * msTicks), putBoth Reg.QCTL.RED_STAT_REMAIN 0,
      putBoth Reg.QCTL.RED_STAT_EXPIRED 1, raiseFault fSINGLE_EXPIRED]))

/-! ### Lockstep -/

/-- A pair enters its safe state, or a lane halts with its outputs blocked, and the Quay faults (R326 to R330). `unit` is 0 or 1 for a pair and 2 + l for lane l; `lck` is the code of LCK_STAT. -/
def mismatch (q : Quay) (unit lck code : Nat) : Act :=
  .dyn fun c =>
    let p := pgLCK q
    seqs [if unit = 0 then putFlag p Reg.LCK.LCK_STAT_PAIR0_OK false
      else if unit = 1 then putFlag p Reg.LCK.LCK_STAT_PAIR1_OK false
      else seqs [putFlag p Reg.LCK.LCK_STAT_LANES_OK false, modLaneOf q (unit - 2) fun s => { s with halted := true, run := none },
        putRunning q (unit - 2) false],
      put p Reg.LCK.LCK_STAT_LAST_CAUSE lck, put p Reg.LCK.LCK_STAT_LAST_UNIT (if unit < 2 then unit else unit - 2),
      putWide p Reg.LCK.LAST_TIDE_LO Reg.LCK.LAST_TIDE_HI c.t, quayFault q code]

/-- The comparators of the pair work: the Quay is out of reset and its cores run as pairs (R329). -/
def Chip.pairRuns (c : Chip) (q : Quay) : Bool := c.quayUp q && !c.split

/-- LOCKSTEP_MISMATCH of a pair of a Quay (R326), or of the safety pair, which is the fault SF_INTERNAL (R357). -/
def execLockstepMismatch (dt : Nat) (u : LockstepUnit) (s : State) : Host.Outcome State Fault Refusal :=
  s.act dt (match u with
    | .pair q pair => whenC (fun c => c.pairRuns q) (mismatch q pair.val 1 1)
    | .safety => raiseFault fSF_INTERNAL 0 true)

/-- LANE_MISMATCH (R328). -/
def execLaneMismatch (dt : Nat) (q : Quay) (l : Fin 8) (s : State) : Host.Outcome State Fault Refusal :=
  s.act dt (whenC (fun c => c.quayUp q) (mismatch q (2 + l.val) 2 2))

/-- COMP_TEST: the test of the comparator of a pair (0, 1) or of lane `unit` − 2, in BIST and every 1 ms after it (R327). -/
def execCompTest (dt : Nat) (q : Quay) (unit : Fin 10) (ok : Bool) (s : State) : Host.Outcome State Fault Refusal :=
  s.act dt (whenC (fun c => (c.quayUp q || c.qstate q == 1) && (decide (2 ≤ unit.val) || !c.split))
    (if ok then bumpWrap (pgLCK q) Reg.LCK.TEST_CNT else mismatch q unit.val 3 3))

/-- CORE_SCRUB: the signatures of a pair are compared; the scrub timer of a halted pair stands still (R330, R332). -/
def execCoreScrub (dt : Nat) (q : Quay) (pair : Fin 2) (ok : Bool) (s : State) : Host.Outcome State Fault Refusal :=
  s.act dt (whenC (fun c => c.pairRuns q && !(c.quay q.idx).halted.any fun e => e.1 == pair.val)
    (if ok then bumpWrap (pgLCK q) Reg.LCK.SCRUB_CNT else mismatch q pair.val 4 4))

/-- LANE_SCRUB: the signatures of an idle lane are compared (R330). -/
def execLaneScrub (dt : Nat) (q : Quay) (l : Fin 8) (ok : Bool) (s : State) : Host.Outcome State Fault Refusal :=
  s.act dt (whenC (fun c => c.quayUp q && (c.laneOf q l).run.isNone)
    (if ok then bumpWrap (pgLCK q) Reg.LCK.SCRUB_CNT else mismatch q (2 + l.val) 4 4))

/-- LCK_FORCE: a write of LCK_CTRL.FORCE (R354). -/
def execLckForce (dt : Nat) (src : Src) (q : Quay) (s : State) : Host.Outcome State Fault Refusal :=
  s.act dt (onPage src (pgLCK q) 0x058 true (locked src (pgLCK q)
    (.dyn fun c => if c.split then err (pgLCK q) 5 src.code else mismatch q 0 5 1)))

/-- RUN_UNCORR: an uncorrectable error in law memory, coefficients or slots aborts the run, and is a Quay fault (R185, R334). -/
def execRunUncorr (dt : Nat) (q : Quay) (l : Fin 8) (s : State) : Host.Outcome State Fault Refusal :=
  s.act dt (uncorr q l (.seq (bump (pgFLT q.idx) Reg.FLTR.UNCORR_CNT) (quayFault q 7)))

/-! ### Debug of a pair -/

/-- Quay and unit (pair, or core under CORE_SPLIT) that the debug port is attached to (R331, R449). -/
def Chip.debugged (c : Chip) : Quay × Nat :=
  let n := c.fld pgDBG Reg.DBG.DBG_ATTACH
  (Quay.ofIdx (n / 4), if c.split then n % 4 else n % 4 / 2)

/-- HALTED of DBG_STAT: bit 4 × Quay + core for each halted core (Table 16-6). -/
def Chip.haltedCores (c : Chip) : Nat :=
  let bits := [Quay.A, Quay.B].flatMap fun q => (c.quay q.idx).halted.flatMap fun e =>
    (if c.split then [e.1] else [2 * e.1, 2 * e.1 + 1]).map fun n => 2 ^ (4 * q.idx + n)
  bits.sum

/-- FILL0 and FILL1 follow the replay queues. -/
def replayRefresh (q : Quay) : Act :=
  .dyn fun c => .seq (put (pgLCK q) Reg.LCK.REPLAY_STAT_FILL0 (c.quay q.idx).replay0.length)
    (put (pgLCK q) Reg.LCK.REPLAY_STAT_FILL1 (c.quay q.idx).replay1.length)

/-- DEBUG_HALT: the debugger halts the pair it is attached to; its watchdog stands still (R331, R332). -/
def execDebugHalt (dt : Nat) (s : State) : Host.Outcome State Fault Refusal :=
  s.act dt (.dyn fun c =>
    let (q, u) := c.debugged
    when (c.flag pgDBG Reg.DBG.DBG_STAT_PORT_OPEN && !(c.quay q.idx).halted.any fun e => e.1 == u)
      (seqs [modQuayOf q fun s => { s with halted := s.halted ++ [(u, c.now)] },
        putFlag (pgQCTL q) Reg.QCTL.WD_STAT_FROZEN (c.flag (pgQCTL q) Reg.QCTL.WD_STAT_RUNNING u) u,
        put (pgQCTL q) Reg.QCTL.WD_STAT_REMAIN ((c.act (pgQCTL q) Reg.QCTL.WD_CFG_PERIOD u * usTicks - (c.now - (c.quay q.idx).wd.getD u 0)) / usTicks) u, haltRecord q u 1]))
where
  haltRecord (q : Quay) (u on : Nat) : Act :=
    seqs [.dyn fun c => put pgDBG Reg.DBG.DBG_STAT_HALTED c.haltedCores,
      when (on == 1) (evt pgDBG 1), .dyn fun c => record pgDBG 0 0x02 c.t (4 * q.idx + (if c.split then u else 2 * u)) on]

/-- The checker applies the replay queue of its pair, oldest entry first (R331). -/
def QuaySt.replay (s : QuaySt) (u : Nat) : QuaySt :=
  let l := if u = 0 then s.replay0 else s.replay1
  let regs := l.foldl (fun m e => SMap.put (fun _ => 0) m (256 * (2 * u + 1) + e.1) e.2) s.regs
  if u = 0 then { s with regs := regs, replay0 := [] } else { s with regs := regs, replay1 := [] }

/-- DEBUG_RESUME: the pair resumes, or steps one instruction and stays halted, after the replay (R331, R332). -/
def execDebugResume (dt : Nat) (single : Bool) (s : State) : Host.Outcome State Fault Refusal :=
  s.act dt (.dyn fun c =>
    let (q, u) := c.debugged
    match (c.quay q.idx).halted.find? fun e => e.1 == u with
    | none => .skip
    | some (_, t) =>
      when (c.flag pgDBG Reg.DBG.DBG_STAT_PORT_OPEN)
        (seqs [when (!c.split) (modQuayOf q fun s => s.replay u), replayRefresh q,
          when (!single)
            (seqs [modQuayOf q fun s => { s with halted := s.halted.filter fun e => e.1 != u, wd := s.wd.set u (s.wd.getD u 0 + (c.now - t)) },
              putFlag (pgQCTL q) Reg.QCTL.WD_STAT_FROZEN false u, execDebugHalt.haltRecord q u 0])]))

/-- DEBUG_REG_WRITE: the debugger writes architectural register `r` of the core it is attached to, which is halted; under lockstep the write also joins the replay queue of 64, and the debug port refuses it when that is full (R331, Table 16-6). -/
def execDebugRegWrite (dt : Nat) (r : BitVec 8) (v : Word) (s : State) : Host.Outcome State Fault Refusal :=
  s.act dt (.dyn fun c =>
    let (q, u) := c.debugged
    let s := c.quay q.idx
    let core := if c.split then u else 2 * u
    let set := fun (s : QuaySt) => { s with regs := SMap.put (fun _ => 0) s.regs (256 * core + r.toNat) v }
    when (c.flag pgDBG Reg.DBG.DBG_STAT_PORT_OPEN && s.halted.any fun e => e.1 == u)
      (if c.split then modQuayOf q set
       else if (if u = 0 then s.replay0 else s.replay1).length < 64 then
         .seq (modQuayOf q fun s =>
           if u = 0 then { set s with replay0 := s.replay0 ++ [(r.toNat, v)] } else { set s with replay1 := s.replay1 ++ [(r.toNat, v)] }) (replayRefresh q)
       else seqs [bump (pgLCK q) Reg.LCK.REPLAY_STAT_FULL_CNT, evt (pgLCK q) 0, bump pgDBG Reg.DBG.REFUSED_CNT, evt pgDBG 2]))

/-! ### Watchdogs -/

/-- WD_KICK: a write of `v` to WD_KICK[w] (R333). The expected value is compared with bits [15:0]. -/
def execWdKick (dt : Nat) (src : Src) (q : Quay) (w : Fin 4) (v : Word) (s : State) : Host.Outcome State Fault Refusal :=
  let p := pgQCTL q
  s.act dt (onPage src p (0x090 + 4 * w.val) true (.dyn fun c =>
    let t := (c.quay q.idx).wd.getD w 0
    let next := c.fld p Reg.QCTL.WD_STAT_NEXT w
    when (c.flag p Reg.QCTL.WD_STAT_RUNNING w && !c.flag p Reg.QCTL.WD_STAT_FROZEN w)
      (if usTicks * c.act p Reg.QCTL.WD_CFG_PERIOD w < c.now - t then quayFault q 5
       else if v.bits 0 16 ≠ 0xD000 + next ∨ c.now - t < usTicks * c.act p Reg.QCTL.WD_CFG_MIN w then quayFault q 6
       else seqs [put p Reg.QCTL.WD_STAT_NEXT (next + 1) w, modQuayOf q fun s => { s with wd := s.wd.set w c.now },
         put p Reg.QCTL.WD_STAT_REMAIN (c.act p Reg.QCTL.WD_CFG_PERIOD w) w])))

/-- WD_TIMEOUT: PERIOD passes without a correct kick (R333). -/
def execWdTimeout (dt : Nat) (q : Quay) (w : Fin 4) (s : State) : Host.Outcome State Fault Refusal :=
  let p := pgQCTL q
  s.act dt (.dyn fun c => when (c.flag p Reg.QCTL.WD_STAT_RUNNING w && !c.flag p Reg.QCTL.WD_STAT_FROZEN w)
    (seqs [.prim (.elapse ((c.quay q.idx).wd.getD w 0 + usTicks * c.act p Reg.QCTL.WD_CFG_PERIOD w - c.now)),
      put p Reg.QCTL.WD_STAT_REMAIN 0 w, quayFault q 5]))

/-! ### The Gangway -/

/-- Quay that sends snapshots, if one does. -/
def Chip.sender (c : Chip) : Option Quay := [Quay.A, Quay.B].find? fun q => (c.qstate q == 4 && (c.qstate q.other == 2 || c.qstate q.other == 3)) || c.qstate q == 6

/-- At a boundary `b` of FG[0] the marker of the frame that ends there is due, with its COUNT; to a resynchronising Quay from the end of the bulk copy on, and in HANDOVER only the one that ends at B_s (R339, R345, R347). -/
def snapMark (b count : Nat) : Act :=
  .dyn fun c => match c.sender with
    | none => .skip
    | some q =>
      let last := match c.redSt.rel with
        | some (_, _, tr, _) => tr
        | none => 0
      when (if c.qstate q == 4 then c.qstate q.other == 3 || (c.gwy q.other.idx).copied else b == last) (modGwy q.idx fun g => { g with marks := g.marks ++ [(count, b, false)] })

/-- Bytes of the blocks of a snapshot (R339). -/
def GwySt.bytes (g : GwySt) (b : Nat) : Nat := 4 * ((g.blocks.filter fun e => decide (e.2.2 < b)).map fun e => e.2.1.length).sum

/-- The blocks published before `b` replace those of the standby in one step (R339). -/
def acceptBlocks (q : Quay) (b : Nat) : Act :=
  .dyn fun c =>
    let g := c.gwy q.idx
    let o := q.other
    seqs [each (g.blocks.filter fun e => decide (e.2.2 < b)) fun e => each (e.2.1.zip (List.range e.2.1.length)) fun x =>
        setWord (o.origin + 0x00800000 + e.1 + 4 * x.2) x.1,
      each (g.tracs.filter fun e => decide (e.2.2 < b)) fun e => modTrac (4 * o.idx + e.1) fun _ => e.2.1,
      each (g.convs.filter fun e => decide (e.2 < b)) fun e => modConv o.idx fun _ => e.1,
      each (g.chgs.filter fun e => decide (e.2 < b)) fun e => modChg o.idx fun _ => e.1,
      modGwy q.idx fun g =>
        { g with blocks := g.blocks.filter fun e => !decide (e.2.2 < b), tracs := g.tracs.filter fun e => !decide (e.2.2 < b),
                 convs := g.convs.filter fun e => !decide (e.2 < b), chgs := g.chgs.filter fun e => !decide (e.2 < b),
                 marks := g.marks.filter fun m => decide (b < m.2.1) }]

/-- The first snapshot accepted after the bulk copy ends the resynchronisation (R347, R356). -/
def resyncDone (o : Quay) : Act :=
  .dyn fun c =>
    let n := c.t - (c.quay o.idx).resync
    seqs [modGwy o.idx fun g => { g with outOfStep := false }, quayTo o 3, put (pgGWY o) Reg.GWY.RESYNC_TICKS n, evt (pgGWY o) 2, redTo 0,
      record (pgQCTL o.other) 0 0x03 c.t n 0]

/-- A snapshot is discarded (R340). -/
def snapLate (o : Quay) : Act := .seq (bump (pgGWY o) Reg.GWY.SNAP_LATE_CNT) (evt (pgGWY o) 0)

/-- SNAPSHOT_MARKER: the oldest marker under way arrives (R339, R340, R345). -/
def execSnapshotMarker (dt : Nat) (chk : MarkerCheck) (s : State) : Host.Outcome State Fault Refusal :=
  s.act dt (.dyn fun c => match c.sender with
    | none => .skip
    | some q =>
      let o := q.other
      let p := pgGWY o
      match (c.gwy q.idx).marks.find? fun m => !m.2.2 with
      | none => .skip
      | some (count, b, _) =>
        let bytes := (c.gwy q.idx).bytes b
        let limit := match c.qstate q, c.redSt.rel with
          | 6, some (_, _, _, bt) => bt - 250
          | _, _ => b + c.fgPeriod 0
        if chk == .good && decide (bytes ≤ 131072) then
          when (decide (c.t < limit))
            (seqs [modGwy o.idx fun g => { g with undo := some (c.t, c.snapUndo q b) }, acceptBlocks q b,
              modGwy o.idx fun g => { g with accepted := some b, missed := 0 },
              put p Reg.GWY.SNAP_SEQ count, putWide p Reg.GWY.SNAP_TIDE_LO Reg.GWY.SNAP_TIDE_HI b,
              putMax p Reg.GWY.SNAP_BYTES_MAX bytes, putMin p Reg.GWY.SNAP_MARGIN_MIN (b + c.fgPeriod 0 - c.t),
              when (c.qstate o == 2 && (c.gwy o.idx).copied) (resyncDone o)])
        else
          seqs [modGwy q.idx fun g => { g with marks := g.marks.map fun m => if m.2.1 = b then (m.1, m.2.1, true) else m },
            when (chk == .mismatch) (bump p Reg.GWY.CRC_ERR_CNT), snapLate o])

/-- SNAPSHOT_DEADLINE: B_(n+2) of the oldest snapshot not accepted (R340, Table 12-1 code 11). -/
def execSnapshotDeadline (dt : Nat) (s : State) : Host.Outcome State Fault Refusal :=
  s.act dt (.dyn fun c => match c.sender with
    | none => .skip
    | some q =>
      let o := q.other
      match (c.gwy q.idx).marks with
      | [] => .skip
      | (_, b, bad) :: rest =>
        seqs [atTick (b + c.fgPeriod 0), modGwy q.idx fun g => { g with marks := rest }, when (!bad) (snapLate o),
          modGwy o.idx fun g => { g with missed := g.missed + 1 },
          .dyn fun c => when (c.qstate o == 3 && decide (2 ≤ (c.gwy o.idx).missed))
            (seqs [reportFault o 11, putBoth Reg.QCTL.Q_STAT_LAST_CAUSE 11, modGwy o.idx fun g => { g with copied := false, outOfStep := true },
              modQuayOf o fun s => { s with resync := c.t }, quayTo o 2, standbyLost o 11])])

/-- Words that the bulk copy carries, by offset in the region: law memory, both coefficient banks, the active and staged sets of ENG subpage 0 and INJ, the EN of the engine (log entry 12), and the settings of the lane pages (R347). -/
def copiedWord (o : Nat) : Bool :=
  (decide (0x800000 ≤ o) && decide (o < 0x840000)) || (decide (0xC00000 ≤ o) && decide (o < 0xC10000)) ||
    (match pageOf (0x40000000 + o) with
      | some p => ((p.blk == .eng || p.blk == .inj) && p.mask (fun f => f.acc == .st) (o % 2048) != 0) ||
        ((p.blk == .eng || p.blk == .lane) && o % 4096 == 0x008) ||
        (p.blk == .lane && p.mask (fun f => f.acc == .rw) (o % 2048) != 0)
      | none => false)

/-- BULK_COPY_DONE: the bulk copy to the resynchronising Quay completes (R347). -/
def execBulkCopyDone (dt : Nat) (s : State) : Host.Outcome State Fault Refusal :=
  s.act dt (.dyn fun c => match c.sender with
    | none => .skip
    | some q =>
      let o := q.other
      when (c.qstate o == 2 && !(c.gwy o.idx).copied)
        (seqs [each (c.regs.filter fun e => decide (o.origin ≤ e.1) && decide (e.1 < o.origin + 0x01000000) && copiedWord (e.1 - o.origin)) fun e =>
            setWord e.1 (c.word (e.1 - o.origin + q.origin)),
          each (c.regs.filter fun e => decide (q.origin ≤ e.1) && decide (e.1 < q.origin + 0x01000000) && copiedWord (e.1 - q.origin)) fun e =>
            setWord (e.1 - q.origin + o.origin) e.2,
          each [pgENG q, pgINJ q] fun p => match mirrorPage p with
            | some m => modPst m fun s => { s with snaps := (c.pst p).snaps, copyDue := (c.pst p).copyDue, held := (c.pst p).held, enWait := if p.blk == .eng then (c.pst p).enWait else s.enWait }
            | none => .skip,
          each (pgENG q :: (List.range 8).map fun l => pgLANE q l) fun p => match mirrorPage p with
            | some m => .seq (putFlag m Reg.HDR.PAGE_STAT_ENABLED (c.on p)) (pendRefresh m)
            | none => .skip,
          each (List.range 4) fun m => modTrac (4 * o.idx + m) fun _ => c.trac (4 * q.idx + m),
          modConv o.idx fun _ => c.conv q.idx, modChg o.idx fun _ => c.chg q.idx,
          .prim (.eng o.idx { c.eng o.idx with banks := (c.eng q.idx).banks }),
          forgetSent q, modGwy o.idx fun g => { g with copied := true, missed := 0 }, gwyRefresh]))

/-- A message of Quay `q` waits for the Gangway to carry it (R28, R342). -/
def Chip.messageWaits (c : Chip) (q : Quay) : Bool := decide ((c.gwy q.idx).granted < (c.gwy q.idx).flight.length)

/-- MSG_SEND: a write of MSG_CTRL.SEND (R342). -/
def execMsgSend (dt : Nat) (src : Src) (q : Quay) (s : State) : Host.Outcome State Fault Refusal :=
  let p := pgGWY q
  s.act dt (onPage src p 0x0A0 true (.dyn fun c =>
    if c.fld p Reg.GWY.MSG_STAT_TX_FREE = 0 then .seq (err p 0x40 src.code) (evt p 4)
    else .seq (modGwy q.idx fun g => { g with flight := g.flight ++ [(List.range 8).map fun i => BitVec.ofNat 32 (c.fld p Reg.GWY.MSG_TX i)] }) gwyRefresh))

/-- MSG_ARRIVE: the oldest message sent by the other Quay, whose burst the Gangway has granted, arrives in Quay `q` (R28, R342). -/
def execMsgArrive (dt : Nat) (q : Quay) (s : State) : Host.Outcome State Fault Refusal :=
  s.act dt (.dyn fun c => match (c.gwy q.other.idx).flight with
    | [] => .skip
    | m :: rest => when (c.quayUp q && c.quayUp q.other && decide (0 < (c.gwy q.other.idx).granted))
      (seqs [modGwy q.other.idx fun g => { g with flight := rest, granted := g.granted - 1 }, modGwy q.idx fun g => { g with inbox := g.inbox ++ [m] }, gwyRefresh]))

/-- MSG_POP: a write of MSG_CTRL.POP (Table 12-10). -/
def execMsgPop (dt : Nat) (src : Src) (q : Quay) (s : State) : Host.Outcome State Fault Refusal :=
  s.act dt (onPage src (pgGWY q) 0x0A0 true (.seq (modGwy q.idx fun g => { g with inbox := g.inbox.drop 1 }) gwyRefresh))

end Sys2Proof.Machine
end

