-- ==== Sys2Proof/Machine/Frames.lean ====
section
/-! DEFINITION. Frame boundaries and the action scheduler (R75 to R84). Where a boundary and an action fall on one tick, the boundary's command comes first (R80). -/

namespace Sys2Proof.Machine

open Sys2Proof

/-! ### Boundaries -/

/-- What the blocks that follow generator `g` do at its boundary `b`, with the sets active from `b`. -/
def boundaryBlocks (g b : Nat) : Act :=
  .dyn fun c => seqs [
    each ((List.range 24).filter fun k => c.fgOf (pgLLP k) == g) fun k => telLatch k b,
    tempBoundary g b,
    when (c.fgOf pgCNV == g) (cnvBoundary b),
    when (c.fgOf (pgSSC 0) == g) (each (List.range 5) fun u => sscBoundary u b)]

/-- FRAME_BOUNDARY: generator `g` reaches its next boundary; snapshots assigned to it apply before the blocks act (R55, R56, R75). -/
def execFrameBoundary (dt : Nat) (g : Fin 8) (s : State) : Host.Outcome State Fault Refusal :=
  s.act dt (whenC (fun c => c.tideOn && c.fgOn g) (.dyn fun c =>
    let b := c.fgNext g
    seqs [atTick b,
      when (g.val = 0) (snapMark b (c.fgCount g)),
      if c.tideSt.firsts.contains g.val then modTideS fun s => { s with firsts := s.firsts.filter fun x => x != g.val }
      else bumpWrap (pgFG g) Reg.FG.COUNT,
      putWide (pgFG g) Reg.FG.NEXT_LO Reg.FG.NEXT_HI (b + c.fgPeriod g),
      evt (pgFG g) 0,
      boundaryDue g b,
      .dyn fun c => each (c.waiting.filter fun p => c.fgOf p == g.val && leadOf p == p) applyDue,
      boundaryBlocks g b,
      whenC (fun c => c.on pgACT) (skipEntries g b)]))

/-! ### Actions -/

/-- Due tick of entry `i` when it is due in the current frame or at its absolute tick. It is judged once every boundary of FG[0] up to its due tick has been reached, so that it is taken from the bank active then (R79, R80, R81). -/
def Chip.dueOf (c : Chip) (i : Nat) : Option Nat :=
  let e := c.action i
  if !e.valid then none
  else if e.abs then some e.time
  else if c.fgOn e.fg && !c.tideSt.firsts.contains e.fg && c.fgCount e.fg % e.div == e.phase && decide (e.offset < c.fgPeriod e.fg) then
    some (c.fgLast e.fg + e.offset)
  else none

/-- A dispatched action that comes before entry `i` at `t` has not been judged yet: the scheduler judges in order of due tick and then of entry index (R84). -/
def Chip.earlier (c : Chip) (i t : Nat) : Bool :=
  c.tideSt.dispatched.any fun e => (decide (e.2 < t) || (e.2 == t && decide (e.1 < i))) && c.dueOf e.1 == some e.2

/-- Entry `i` may be judged at its due tick `t`: it has been dispatched, every boundary up to `t` has been reached, and no action that comes before it is still to be judged (R80, R82, R84). -/
def Chip.judgeable (c : Chip) (i t : Nat) : Bool :=
  c.tideOn && c.on pgACT && decide (c.t ≤ t) && ((List.range 8).all fun g => !c.fgOn g || decide (t < c.fgNext g)) &&
    c.tideSt.dispatched.contains (i, t) && !c.tideSt.judged.contains (i, t) && !c.earlier i t &&
    (!(c.action i).abs || (decide (c.tideSt.bankAt ≤ t) && decide (c.tideSt.enAt ≤ t)))

/-- Two entries act alike on one target and CHANNEL (R83). -/
def ActionEntry.same (a b : ActionEntry) : Bool := a.kind == b.kind && a.type == b.type && a.inst == b.inst && a.chan == b.chan

/-- An entry of lower index collides with entry `i` at `t`: it is due then too, or has been judged then (R83). -/
def Chip.collides (c : Chip) (i t : Nat) : Bool :=
  (List.range i).any fun j => (c.dueOf j == some t || c.tideSt.judged.contains (j, t)) && (c.action j).same (c.action i)

/-- A SAMPLE strikes its target at its due tick (Table 3-4). -/
def sampleTarget (e : ActionEntry) (i t : Nat) : Act :=
  .dyn fun c =>
    if e.type = 0x07 then adcStrobe e.inst e.chan t i
    else if e.type = 0x08 then
      let p := pgDSF e.inst
      modDsf e.inst fun s => { s with due := s.due ++ [⟨t, c.act p Reg.DSF.DSF_CFG_ORDER, c.act p Reg.DSF.DSF_CFG_OSR,
        !c.dsfBarred e.inst⟩] }
    else if e.type = 0x09 then modTsn e.inst fun s => { s with
      due := s.due ++ [(t, e.chan, c.fld (pgTSN e.inst) Reg.TSN.DIE_TEMP e.chan, c.flag (pgTSN e.inst) Reg.TSN.DIE_VALID e.chan)] }
    else if e.type = 0x0A then posStrobe e.inst t i
    else if e.type = 0x0C then modCplS fun s => { s with
      due := s.due ++ [(t, s.set ++ [(c.word (pgCPL.base + Reg.CPL.CPL_STAT_STATE.off)).bits 0 7])] }
    else .skip

/-- What the action does at its due tick (Table 3-4). -/
def actionEffect (e : ActionEntry) (i t : Nat) : Act :=
  .dyn fun c =>
    if e.kind = akSAMPLE then sampleTarget e i t
    else if e.kind = akLAUNCH then
      (match c.owner with
        | some q => when (c.qstate q == 4) (launch q e.chan e.arg t)
        | none => .skip)
    else if e.kind = akCAPTURE then openWindow e.chan t e.arg
    else if e.kind = akVSTEP then vstep e.arg t
    else if e.kind = akMARK then record pgACT 0 0x05 t e.arg i
    else .skip

/-- Entry `i` is judged at its due tick `t`: it collides, overruns or executes, and a MODE 1 entry retires (R82 to R84). -/
def judge (i t : Nat) : Act :=
  .seq (atTick t) (.dyn fun c =>
    let e := c.action i
    let recent := c.tideSt.executed.filter fun d => decide (t < d + 128) && decide (d ≤ t)
    seqs [
      modTideS fun s => { s with judged := (i, t) :: s.judged.filter (fun x => x.2 == t), dispatched := s.dispatched.filter fun x => x != (i, t) },
      if c.collides i t then actRecord 4 i t e.arg
      else if 32 ≤ recent.length then actRecord 1 i t e.arg
      else .seq (modTideS fun s => { s with executed := t :: recent }) (actionEffect e i t),
      when e.abs (retire i)])

/-- The action of entry `i`, if it is of the kind and due. -/
def actionOf (kind i : Nat) : Act :=
  .dyn fun c => match c.dueOf i with
    | some t => when ((c.action i).kind == kind && c.judgeable i t) (judge i t)
    | none => .skip

/-- Next due tick at or after `from_` of an entry, in the current or the next frame or at its absolute tick (R79, R80). -/
def Chip.nextDue (c : Chip) (from_ : Nat) (e : ActionEntry) : Option Nat :=
  if !e.valid then none
  else if e.abs then (if from_ ≤ e.time then some e.time else none)
  else if !c.fgOn e.fg || decide (c.fgPeriod e.fg ≤ e.offset) then none
  else
    let first := c.tideSt.firsts.contains e.fg
    let here := c.fgLast e.fg + e.offset
    let next := if first then 0 else c.fgCount e.fg + 1
    if !first && c.fgCount e.fg % e.div == e.phase && decide (from_ ≤ here) then some here
    else if next % 2 ^ 32 % e.div == e.phase && decide (from_ ≤ c.fgNext e.fg + e.offset) then some (c.fgNext e.fg + e.offset)
    else none

/-- Due tick at which the dispatcher knows entry `i`: at or after a bank exchange the entry comes from the new bank (R80). -/
def Chip.dispatchDue (c : Chip) (i : Nat) : Option Nat :=
  match (c.pst pgACT).snaps.find? fun x => x.ok == some true && x.wait == 1 with
  | none => c.nextDue c.t (c.action i)
  | some x =>
    match c.nextDue c.t (c.action i) with
    | some t => if t < c.fgNext 0 then some t else c.nextDue (c.fgNext 0) (actionEntry x.bankWord i)
    | none => c.nextDue (c.fgNext 0) (actionEntry x.bankWord i)

/-- EN = 1 of ACT has taken effect, or takes effect at the next boundary and not after `t` (R52, R93). -/
def Chip.actRuns (c : Chip) (t : Nat) : Bool :=
  c.on pgACT || (match (c.pst pgACT).enWait with | some (w, _) => w == 1 && c.fgOn 0 && decide (c.fgNext 0 ≤ t) | none => false)

/-- ACTION_DISPATCH: 160 ticks before its due tick entry `i` goes to the timer beside its target (R80). -/
def execActionDispatch (dt : Nat) (i : Fin 256) (s : State) : Host.Outcome State Fault Refusal :=
  s.act dt (.dyn fun c => match c.dispatchDue i with
    | some t => when (c.tideOn && c.actRuns t && !c.tideSt.dispatched.contains (i.val, t) && !c.tideSt.judged.contains (i.val, t))
        (.seq (atTick (t - 160)) (modTideS fun s => { s with dispatched := s.dispatched ++ [(i.val, t)] }))
    | none => .skip)

/-- ACTION_SAMPLE (R79, R80). -/
def execActionSample (dt : Nat) (i : Fin 256) (s : State) : Host.Outcome State Fault Refusal := s.act dt (actionOf akSAMPLE i)

/-- ACTION_LAUNCH (R79, R183). -/
def execActionLaunch (dt : Nat) (i : Fin 256) (s : State) : Host.Outcome State Fault Refusal := s.act dt (actionOf akLAUNCH i)

/-- ACTION_CAPTURE (R79, R203). -/
def execActionCapture (dt : Nat) (i : Fin 256) (s : State) : Host.Outcome State Fault Refusal := s.act dt (actionOf akCAPTURE i)

/-- ACTION_VSTEP (R79, R267). -/
def execActionVstep (dt : Nat) (i : Fin 256) (s : State) : Host.Outcome State Fault Refusal := s.act dt (actionOf akVSTEP i)

/-- ACTION_MARK (R79). -/
def execActionMark (dt : Nat) (i : Fin 256) (s : State) : Host.Outcome State Fault Refusal := s.act dt (actionOf akMARK i)

end Sys2Proof.Machine
end

