-- ==== Sys2Proof/Machine/Reads.lean ====
section
/-! DEFINITION. Reads of registers, the interrupt lines, and the acknowledging writes of a page's header (R38, R42 to R51, R66). -/

namespace Sys2Proof.Machine

open Sys2Proof

/-! ### Interrupt lines -/

/-- EVT_PEND of a page: RAW and EN. -/
def Chip.evtPend (c : Chip) (p : Page) : Nat := c.fld p Reg.HDR.EVT_RAW &&& c.fld p Reg.HDR.EVT_EN

/-- The page drives the line of its block; the notice of a queue has a line of its own (R42). -/
def Chip.requests (c : Chip) (p : Page) : Bool := (if p.blk = .que then c.evtPend p / 2 else c.evtPend p) != 0

/-- Bit n: some page of block index n of region `r` has the property (Table 1-5). -/
def blockVector (r : Nat) (f : Page → Bool) : Nat :=
  ((pagesOf r ++ (if r = 7 then [pgFLT8] else [])).filter f).foldl (fun v p => v ||| 2 ^ p.blockIndex) 0

/-- BLK_ERR of FLT[r] (R18). -/
def Chip.blkErr (c : Chip) (r : Nat) : Nat := blockVector r fun p => c.fld p Reg.HDR.ERR_CODE_LAST != 0

/-- BLK_IRQ of FLT[r] (R42). -/
def Chip.blkIrq (c : Chip) (r : Nat) : Nat := blockVector r fun p => c.requests p

/-- Region and block index that drive an input of an interrupt controller, and whether only the owning Quay receives it (Table 1-11). -/
def irqSource (q : Quay) (i : Nat) : Option (Nat × Nat × Bool) :=
  if i < 4 then some (q.idx, i, false)
  else if 16 ≤ i ∧ i < 43 then some (2, i - 16, true)
  else if 48 ≤ i ∧ i < 54 then some (3, i - 48, true)
  else if 56 ≤ i ∧ i < 61 then some (4, i - 56, true)
  else if 64 ≤ i ∧ i < 68 then some (5, i - 64, false)
  else if 72 ≤ i ∧ i < 75 then some (6, i - 72, false)
  else if 80 ≤ i ∧ i < 89 then some (7, i - 80, true)
  else none

/-- Input `i` of the interrupt controller of Quay `q` is asserted (R43, R44). -/
def Chip.irqLevel (c : Chip) (q : Quay) (i : Nat) : Bool :=
  if 96 ≤ i ∧ i < 104 then c.requests (pgFLT (i - 96))
  else if 128 ≤ i ∧ i < 192 then (c.evtPend (pgQUE (i - 128))).testBit 0
  else match irqSource q i with
    | some (r, n, owned) => (c.blkIrq r).testBit n && (!owned || c.owner == some q)
    | none => false

def pgIRQ (q : Quay) : Page := ⟨.irq, q.idx⟩

/-- Input that core `k` claims: the highest priority above THR, and among equals the lowest number (R353). -/
def Chip.irqClaim (c : Chip) (q : Quay) (k : Nat) : Option Nat :=
  let p := pgIRQ q
  let ok := (List.range 192).filter fun i =>
    c.irqLevel q i && c.bitAt p Reg.IRQ.IRQ_EN i && (c.fld p Reg.IRQ.IRQ_TGT i).testBit k && (c.split || k % 2 == 0) &&
      decide (c.fld p Reg.IRQ.IRQ_THR k < c.fld p Reg.IRQ.IRQ_PRIO i)
  ok.foldl (fun best i => match best with
    | some j => if c.fld p Reg.IRQ.IRQ_PRIO j < c.fld p Reg.IRQ.IRQ_PRIO i then some i else some j
    | none => some i) none

/-! ### What a read returns -/

/-- LO words whose HI word follows the holding rule of R48. -/
def holdingLo (p : Page) (off : Nat) : Bool :=
  off == 0x030 ||
    (match p.blk with
      | .tide => off == 0x040
      | .fg => off == 0x050
      | .evs => decide (0x200 ≤ off) && decide (off < 0x400) && off % 8 == 0
      | .leg => off == 0x060
      | .lane | .lck => off == 0x044
      | .qctl => off == 0x04C
      | .gwy => off == 0x048
      | .flt8 => off == 0x084
      | .can => off == 0x09C
      | _ => false)

/-- Bits that read 0: those of WO fields that no other field shows. -/
def hidden (p : Page) (off : Nat) : Word := p.mask (fun f => f.acc == .wo) off &&& ~~~ p.mask (fun f => f.acc != .wo) off

/-- Seconds left in SINGLE (R349). -/
def Chip.singleRemain (c : Chip) : Nat :=
  if c.rstate = 2 then c.singleLimit - (c.t - c.redSt.singleAt) / (1000 * msTicks) else c.singleLimit

/-- POS_STAT, with the view of the running window (Chapter 9). -/
def Chip.posStat (c : Chip) (n : Nat) : Word := c.posStatus n c.t

/-- PAGE_STAT.BLOCK_STAT: the status bits that each block mirrors there (Table 2-1 and the register section of each chapter). -/
def Chip.blockStat (c : Chip) (p : Page) : Nat :=
  match p.blk with
  | .leg => (c.word (p.base + 0x05C)).bits 0 2 + 4 * c.fld p Reg.LEG.LEG_STAT_DESAT_OFF + (if p.idx % 4 = 0 then 8 * c.bstate (p.idx / 4) else 0)
  | .llp => c.lstate p.idx
  | .pos => (c.posStat p.idx).bits 0 16
  | .brg => (c.brgStat p.idx).bits 0 4
  | .ssc => c.fld p Reg.SSC.SSC_STAT_STATE
  | .can => c.fld p Reg.CAN.ERR_STAT_STATE
  | _ => 0

/-- Action bits of W1S fields whose action has not completed; those of the other actions are stored or never seen (Table 2-3). -/
def Chip.actionBits (c : Chip) (p : Page) (off : Nat) : Word :=
  let bit := fun (b : Bool) (k : Nat) => if b then (1#32 <<< k) else 0
  if off = 0x028 then bit (!(c.pst p).snaps.isEmpty) 0
  else match p.blk with
    | .fltr => if off = 0x044 then bit (c.flag p Reg.FLTR.REG_STAT_RESTARTING) 1 else 0
    | .llp => if off = 0x04C then bit (decide (1 ≤ c.lstate p.idx) && decide (c.lstate p.idx ≤ 3)) 0 ||| bit ((c.link p.idx).cfg.any fun e => e.1 == 3) 1 else 0
    | .cnv => if off = 0x050 then (List.range 3).foldl (fun v i => v ||| bit (c.cnvSt.ctrl.any fun e => e.1 == i) i) 0 else 0
    | .pos => if off = 0x070 then bit (c.pos p.idx).armed 1 else 0
    | .ssc => if off = 0x094 then bit (c.ssc p.idx).start.isSome 0 ||| bit (c.fld p Reg.SSC.SSC_STAT_STATE == ssSTOPPING) 1 else 0
    | .sbc => if off = 0x040 then bit (c.fld p Reg.SBC.SBC_STAT_STATE == 2) 2 else 0
    | .seal => if off = 0x04C then bit c.sealSt.prog.isSome 0 else 0
    | .pwr => if off = 0x04C then c.seqSt.ramp.foldl (fun v d => v ||| bit true d) 0 else 0
    | .que => if off = 0x06C then bit (c.que p.idx).flush 0 else 0
    | .can => if off = 0x050 then bit (c.fld p Reg.CAN.ERR_STAT_STATE == canRECOVERING) 0 else 0
    | .xsp => if off = 0x054 then bit (c.bootSt.cmd || c.bootSt.cmdWait) 0 else 0
    | _ => 0

/-- The word that a register shows: stored bits, with the views that the header, FLT[r], the interrupt controller and the running timers compute from other state. -/
def Chip.shown (c : Chip) (p : Page) (off : Nat) : Word :=
  let w := (c.word (p.base + off) &&& ~~~ hidden p off) ||| c.actionBits p off
  let low := fun (n k : Nat) => BitVec.ofNat 32 (n / 2 ^ (32 * k))
  if off = 0x00C then
    ((w.setBits 5 1 (if c.fld p Reg.HDR.ERR_CODE_LAST = 0 then 0 else 1)).setBits 6 1
      (if (p.blk = .llp ∧ c.lstate p.idx = 5) ∨ w.getLsbD 6 then 1 else 0)).setBits 16 16 (c.blockStat p)
  else if off = 0x018 then BitVec.ofNat 32 (c.evtPend p)
  else if off = 0x024 then
    match (c.pst p).holder with
    | some (_, t) => w.setBits 16 16 (2 * (20480 - (c.now - t)) / 5)
    | none => w
  else match p.blk with
    | .tide => if off = 0x040 then low c.t 0 else if off = 0x044 then low c.t 1 else w
    | .fltr =>
      if 0x058 ≤ off ∧ off < 0x068 then low (c.blkErr p.idx) ((off - 0x058) / 4)
      else if 0x068 ≤ off ∧ off < 0x078 then low (c.blkIrq p.idx) ((off - 0x068) / 4)
      else w
    | .irq =>
      let q := quayOfPage p
      if 0x060 ≤ off ∧ off < 0x078 then
        BitVec.ofNat 32 ((List.range 32).foldl (fun v j => if c.irqLevel q ((off - 0x060) / 4 * 32 + j) then v ||| 2 ^ j else v) 0)
      else if 0x1A0 ≤ off ∧ off < 0x1B0 then
        match c.irqClaim q ((off - 0x1A0) / 4) with
        | some i => BitVec.ofNat 32 i
        | none => 0x100#32
      else w
    | .cnv => if off = 0x054 then c.cnvStat else w
    | .vcl => if off = 0x0A0 then c.vclStat else w
    | .saf => if off = 0x040 then w.setBits 1 1 (if c.isSealed then 1 else 0) else if off = 0x05C then BitVec.ofNat 32 c.ss1Remain else w
    | .sio => if off = 0x050 then (w.setBits 0 4 c.degrMin.1).setBits 16 16 c.degrMin.2 else w
    | .dbg => if off = 0x040 then w.setBits 2 1 (if c.sealOk then 1 else 0) else w
    | .que => if off = 0x060 then c.popLen p.idx else if off = 0x08C then BitVec.ofNat 32 (Nat.max w.toNat (c.cellsOf p.idx)) else w
    | .brg => if off = 0x05C then c.brgStat p.idx else w
    | .pos => if off = 0x074 then c.posStat p.idx else w
    | .eng => if off = 0x040 then w.setBits 10 1 (if c.owner == some (quayOfPage p) then 1 else 0) else w
    | .inj =>
      match ((c.injSets (quayOfPage p))[(off - 0x05C) / 0x20]?) with
      | some x => if 0x05C ≤ off ∧ off % 0x20 = 0x1C then w.setBits 0 1 (if x.inWindow c.t then 1 else 0) else w
      | none => w
    | .qctl =>
      if off = 0x040 then w.setBits 6 1 (quayOfPage p).idx
      else if off = 0x044 then w.setBits 16 16 c.singleRemain
      else if 0x0A0 ≤ off ∧ off < 0x0B0 then
        let i := (off - 0x0A0) / 4
        let q := quayOfPage p
        if c.split ∨ i < 2 then
          (if w.getLsbD 8 ∧ !w.getLsbD 9 then
            w.setBits 16 16 ((c.act p Reg.QCTL.WD_CFG_PERIOD i * usTicks - (c.now - (c.quay q.idx).wd.getD i 0)) / usTicks)
          else w)
        else 0
      else if c.absent p off then 0
      else w
    | _ => w

/-- Word that a register returns to a requester: a HI word follows the holding rule of R48; OBJ_SEL is banked (R413). -/
def Chip.readReg (c : Chip) (src : Src) (p : Page) (off : Nat) : Word :=
  if p.blk = .can ∧ off = 0x100 then BitVec.ofNat 32 (c.objSel src p.idx)
  else if off % 8 = 4 ∧ holdingLo p (off - 4) ∨ (off % 8 = 0 ∧ 4 ≤ off ∧ holdingLo p (off - 4)) then
    match (c.pst p).holding.find? fun h => h.1 == src.code && h.2.1 == off with
    | some h => h.2.2
    | none => c.shown p off
  else c.shown p off

/-- RC fields of a word return to their reset value when a requester that may write the page reads them (R38, R51). -/
def clearRc (src : Src) (p : Page) (off : Nat) : Act :=
  .dyn fun c =>
    when (c.mayWrite src p.region)
      (each (p.fields.filter fun f => f.covers off && f.acc == .rc) fun f => .dyn fun c =>
        setWord (p.base + off) ((c.word (p.base + off) &&& ~~~ f.mask off) ||| f.resetWord c.strap.toNat off))

/-- A watermark register shows the watermark of its queue as it stands at the read (R89). -/
def watermarkRead (p : Page) (off : Nat) : Act :=
  when (p.blk == .evs && decide (0x200 ≤ off) && decide (off < 0x400)) (watermark ((off - 0x200) / 8))

/-- A word of a bank window. A read of a staging bank during its copy is held, and returns the copied value as changed by the held writes that arrived before it (R78, R191). -/
def Chip.bankRead (c : Chip) (a : Nat) : Word :=
  match [pgACT, pgENG .A, pgENG .B].find? fun p => (c.pst p).copyDue.isSome && (match bankOf p with | some (lo, _, n) => decide (lo ≤ a) && decide (a < lo + n) | none => false) with
  | some p =>
    match (c.pst p).held.reverse.findSome? fun h => match h with | .write _ b v => if b = a then some v else none | .go _ => none with
    | some v => v
    | none => match bankOf p with | some (lo, act, _) => c.word (act + (a - lo)) | none => c.word a
  | none => c.word a

/-- The bytes at an address of a byte memory, the first in bits [7:0]. -/
def Chip.bytesAt (c : Chip) (a n : Nat) : Word :=
  BitVec.ofNat 32 ((List.range n).foldl (fun v i => v + (c.byteAt (a + i)).toNat * 2 ^ (8 * i)) 0)

/-- Counts of a corrected error in what a read of a memory returns (Table 1-5, R404). -/
def readCorrected (src : Src) (a : Nat) : Act :=
  .dyn fun c => match c.target src a with
    | .sram q => bump (pgFLT q.idx) Reg.FLTR.CORR_CNT
    | .pool | .capture => .seq (bump pgBSN Reg.BSN.CORR_CNT) (bump (pgFLT 6) Reg.FLTR.CORR_CNT)
    | .window => (match c.regionOf src a with | some r => bump (pgFLT r) Reg.FLTR.CORR_CNT | none => .skip)
    | _ => .skip

/-- A read of a memory that ends with UNCORR: it counts in the region, and in a memory of Table 12-1 it is a fault of the Quay (R21, R404). -/
def readUncorrectable (src : Src) (a : Nat) : Act :=
  .seq (busError src a .uncorr) (.dyn fun c => match c.target src a with
    | .sram q => .seq (bump (pgFLT q.idx) Reg.FLTR.UNCORR_CNT) (quayFault q 7)
    | .pool | .capture => .seq (bump pgBSN Reg.BSN.UNCORR_CNT) (bump (pgFLT 6) Reg.FLTR.UNCORR_CNT)
    | .window => (match c.regionOf src a with
      | some r => .seq (bump (pgFLT r) Reg.FLTR.UNCORR_CNT) (when (decide (r < 2) && a % 0x01000000 / 0x10000 != 2) (quayFault (Quay.ofIdx r) 7))
      | none => .skip)
    | _ => .skip)

/-- What a read of a register returns and does: the armed sequence of its reader ends, a watermark is taken, a LO word copies its HI word into the reader's holding word, RC fields clear, the object window of a CAN page shows the reader's object (R38, R48, R51, R63, R413, R432). -/
def readRegister (src : Src) (p : Page) (off : Nat) : Act :=
  if p.blk = .can ∧ 0x104 ≤ off ∧ off < 0x180 then seqs [lineFallen src p, disarm p src, objRead src p.idx off]
  else seqs [lineFallen src p, when (off != 0x024) (disarm p src), watermarkRead p off,
    .dyn fun c => .prim (.answer 0 (c.readReg src p off)),
    when (holdingLo p off) (.dyn fun c => modPst p fun s =>
      { s with holding := (src.code, off + 4, c.shown p (off + 4)) :: s.holding.filter fun h => !(h.1 == src.code && h.2.1 == off + 4) }),
    clearRc src p off]

/-- A read of a register of a queue: POP_DATA consumes the word it returns, and POP_LEN records a requester that may not consume; `ecc` is what the check of the memory word read shows (R399, R400, R404). -/
def readQueue (src : Src) (p : Page) (off ecc : Nat) : Act :=
  if off = 0x064 then seqs [lineFallen src p, disarm p src, popData src p.idx ecc]
  else .seq (readRegister src p off) (when (off == 0x060)
    (.seq (whenC (fun c => !c.consumes p.idx src) (err p 0x41 src.code))
      (whenC (fun c => !(c.que p.idx).done.isEmpty && !(c.que p.idx).resetting)
        (if ecc = eccBad then .seq (busError src (p.base + off) .uncorr) (uncorrected 1) else when (ecc == eccCorrected) (corrected p.idx 1)))))

/-- A read of PAGE_STAT is answered during a soft reset; every other access to the page is held until the reset completes (R53). -/
def readServed (src : Src) (p : Page) (off ecc : Nat) : Act :=
  if off = 0x00C then .seq (srstExpire p) (readRegister src p off)
  else served src p (if p.blk = .que then readQueue src p off ecc else readRegister src p off)

/-- A read of a window: a mailbox word follows the holding rule of R201, a bank word the copy of R78 and R191. -/
def readWindow (src : Src) (a : Nat) : Act :=
  .dyn fun c => match mailboxOf a with
    | some (q, i) => mailboxRead src q i
    | none => .prim (.answer 0 (c.bankRead a))

/-- RC_READ: a read of 2^size bytes (size 0 to 2); RC fields clear (R13, Table 2-3, R38, R51, R201). `ecc` is what the check of a memory word shows: 0 no error, 1 a corrected one, 2 an uncorrectable one. -/
def execRcRead (dt : Nat) (src : Src) (a : BitVec 32) (size : Fin 3) (ecc : Fin 3) (s : State) : Host.Outcome State Fault Refusal :=
  s.act dt (access src a.toNat (8 * 2 ^ size.val) false (.dyn fun c =>
    let memory := fun (k : Act) =>
      if ecc.val = eccBad then readUncorrectable src a.toNat else .seq (when (ecc.val == eccCorrected) (readCorrected src a.toNat)) k
    match c.target src a.toNat with
    | .page p => readServed src p (a.toNat % 4096) ecc
    | .window => memory (readWindow src a.toNat)
    | .sram q => memory (.prim (.answer 0 (c.bytesAt (sramAddr q a.toNat) (2 ^ size.val))))
    | .pool | .capture => memory (.prim (.answer 0 (c.bytesAt a.toNat (2 ^ size.val))))
    | .none => .skip))

/-- HOLDING_READ: a read of a LO word copies the HI word into the requester's holding word (R48). -/
def execHoldingRead (dt : Nat) (src : Src) (p : Page) (off : Fin 1024) (s : State) : Host.Outcome State Fault Refusal :=
  let o := 4 * off.val
  s.act dt (onValid p (when (holdingLo p o) (access src (p.base + o) 32 false (readServed src p o 0))))

/-! ### Acknowledging writes -/

/-- The page drives some line: that of its block, or the notice line of a queue (R42). -/
def Chip.lines (c : Chip) (p : Page) : List Bool := [c.requests p, p.blk == .que && (c.evtPend p).testBit 0]

/-- EVT_PEND_CLEAR: a W1C write of `v` to EVT_PEND; the requester's reads of the page then wait for each line that it made fall (R45, R49). -/
def execEvtPendClear (dt : Nat) (src : Src) (p : Page) (v : Word) (s : State) : Host.Outcome State Fault Refusal :=
  s.act dt (onValid p (onPage src p 0x018 true (mirrorAct p false fun m => .dyn fun c =>
    let had := c.lines m
    seqs [put m Reg.HDR.EVT_RAW ((BitVec.ofNat 32 (c.fld m Reg.HDR.EVT_RAW) &&& ~~~ v).toNat),
      raiseLevels m fun c => c.levels m,
      .dyn fun c => when (m == p && (had.zip (c.lines m)).any fun e => e.1 && !e.2)
        (modPst m fun s => { s with irqFall := src.code :: s.irqFall.filter fun e => e != src.code })])))

/-- ERR_CLR: a write of ERR_CODE.CLR (R66, Table 2-1). -/
def execErrClr (dt : Nat) (src : Src) (p : Page) (s : State) : Host.Outcome State Fault Refusal :=
  s.act dt (onValid p (onPage src p 0x01C true (mirrorAct p false fun m =>
    seqs [put m Reg.HDR.ERR_CODE_LAST 0, put m Reg.HDR.ERR_CODE_FIRST 0, put m Reg.HDR.ERR_CODE_SRC 0])))

end Sys2Proof.Machine
end

