-- ==== Sys2Proof/Machine/Regions.lean ====
section
/-! DEFINITION. Cells, blocks and regions: cell safe reactions, isolation and restart of regions, and the arbiters (Chapter 1, R16 to R31, R494 to R496). -/

namespace Sys2Proof.Machine

open Sys2Proof

/-! ### Cell faults -/

/-- The cell safe reaction of Table 1-2. A REG_PARITY in CNV is its fault PARITY (R281). -/
def cellSafe (p : Page) : Act :=
  let n := p.idx
  let mark := putFlag p Reg.HDR.PAGE_STAT_SAFE true
  match p.blk with
  | .leg => .seq mark (refreshBlk (n / 4))
  | .llp => linkFault n lcPARITY
  | .brg => seqs [mark, brgUpdate n, sscCellFault n]
  | .ssc => .seq mark (sscFault n scCELL rkSUPPLY)
  | .adc => mark
  | .dsf => .seq mark (dsfInvalid n)
  | .pos => .seq mark (emusRefresh n)
  | .can => .seq mark (whenC (fun c => c.en p && c.fld p Reg.CAN.ERR_STAT_STATE != 2) (busOff n))
  | .que => queReset n
  | _ => .skip

/-- CELL_FAULT: a cell detects a fault in its own function, with its error code (R16). -/
def execCellFault (dt : Nat) (p : Page) (code : BitVec 8) (s : State) : Host.Outcome State Fault Refusal :=
  s.act dt (onValid p (.seq (cellSafe p) (err p code.toNat)))

/-- REG_PARITY_ERROR: a parity error in an active configuration register; in a leg cell it is block-wide (R16, R20, Table 2-4, Table 4-7). -/
def execRegParityError (dt : Nat) (p : Page) (s : State) : Host.Outcome State Fault Refusal :=
  s.act dt (onValid p
    (seqs [err p 1, cellSafe p, when (p.blk == .leg) (enterSafe (p.idx / 4) scREG_PARITY),
      when (p.blk == .cnv) cnvParity]))

/-! ### Isolation -/

/-- Block `k` acts as STOPPED, and its downlink goes to idle without IMM frames, when TD is isolated (Table 1-4). -/
def isolateBlk (k : Nat) : Act :=
  seqs [put (pgLead k) Reg.LEGL.BLK_STAT_BSTATE 0, linkToDown k false, stopBlk k,
    each ((pgLLP k) :: (legsOf k).map pgLEG) fun p => .seq (modPst p fun s => { s with enWait := none }) (putFlag p Reg.HDR.PAGE_STAT_ENABLED false)]

/-- What isolation does in each region (Table 1-4); the fault collector closes the Shutter on REGION_ISO. -/
def isolationEffect (r cause : Nat) : Act :=
  match r with
  | 0 | 1 => quayFault (Quay.ofIdx r) (if cause = 5 then 8 else if cause = 6 then 9 else 10)
  | 2 => each (List.range 24) isolateBlk
  | 3 => s2Open
  | 5 => each (List.range 2) fun n => .dyn fun c => when (c.flag (pgETH n) Reg.ETH.ETH_STAT_LINK)
      (seqs [putFlag (pgETH n) Reg.ETH.ETH_STAT_LINK false, putFlag (pgETH n) Reg.ETH.ETH_STAT_AN_DONE false, record (pgETH n) 0 0x02 c.t 0 0])
  | 6 => basinSettle
  | _ => .skip

/-- Region `r` is isolated with a cause of LAST_CAUSE; SF is not isolable, and its error is a chip fault (R23, Table 1-4). -/
def isolateRegion (r cause : Nat) : Act :=
  if r = 7 then raiseFault fSF_INTERNAL 0 true
  else .dyn fun c => when (!c.isolated r)
    (seqs [putFlag (pgFLT r) Reg.FLTR.REG_STAT_ISOLATED true, putFlag (pgFLT r) Reg.FLTR.REG_STAT_READY false,
      put (pgFLT r) Reg.FLTR.REG_STAT_LAST_CAUSE cause,
      raiseFault (fREGION_ISO r) cause, isolationEffect r cause])

/-- ISO_REQ: a write of FLT[r].REG_CTRL.ISO_REQ (R23, R26, Table 1-5). -/
def execIsoReq (dt : Nat) (src : Src) (r : Fin 8) (s : State) : Host.Outcome State Fault Refusal :=
  let p := pgFLT r
  s.act dt (onPage src p 0x044 true
    (if r = 7 then err p 0x41 src.code
     else if r = 2 ∨ r = 3 then locked src p (isolateRegion r 4)
     else isolateRegion r 4))

/-- REGION_FAULT_ISOLATE: an interconnect parity error (1), an uncorrectable memory error (2), a power-domain fault (5) or a clock loss (6) isolates a region (R23, Table 1-5). -/
def execRegionFaultIsolate (dt : Nat) (r : Fin 8) (cause : Fin 4) (s : State) : Host.Outcome State Fault Refusal :=
  let code := [1, 2, 5, 6].getD cause.val 1
  s.act dt (.seq (when (code == 2) (bump (pgFLT r) Reg.FLTR.UNCORR_CNT)) (isolateRegion r code))

/-- INTERCONNECT_TIMEOUT: the target of an access that the interconnect let through has not answered for `waited` cycles; at 2,048 the access ends with TIMEOUT and isolates the region (R21, R22). The command comes when those cycles have passed: an access that waits delays nothing else (R2). -/
def execInterconnectTimeout (dt : Nat) (src : Src) (a : BitVec 32) (write : Bool) (waited : Nat) (s : State) : Host.Outcome State Fault Refusal :=
  s.act dt (when (decide (2048 ≤ waited)) (access src a.toNat 32 write (.dyn fun c => match c.regionOf src a.toNat with
    | some r => .seq (busError src a.toNat .timeout) (isolateRegion r 3)
    | none => .skip)))

/-! ### Restart -/

/-- Every block of a list of SAF blocks (bit k leg block k, 24 + b bridge block b) is commanded closed on both channels, and both its wires read closed (R495). -/
def Chip.shutClosed (c : Chip) (l : List Nat) : Bool :=
  l.all fun i => c.safSt.chA.testBit i && c.safSt.chB.testBit i && c.safSt.wireA.testBit i && c.safSt.wireB.testBit i

/-- The condition of Table 1-4 for a restart. -/
def Chip.mayRestart (c : Chip) (r : Nat) : Bool :=
  c.isolated r &&
    (match r with
      | 0 | 1 => c.owner != some (Quay.ofIdx r)
      | 2 => c.shutClosed (List.range 24)
      | 3 => c.shutClosed (List.range 28)
      | 4 | 5 | 6 => true
      | _ => false)

/-- RESTART: a write of FLT[r].REG_CTRL.RESTART (R26, R495, R496). -/
def execRestart (dt : Nat) (src : Src) (r : Fin 8) (s : State) : Host.Outcome State Fault Refusal :=
  let p := pgFLT r
  s.act dt (onPage src p 0x044 true (.dyn fun c =>
    if c.mayRestart r then .seq (putFlag p Reg.FLTR.REG_STAT_RESTARTING true) (putFlag p Reg.FLTR.REG_STAT_READY false)
    else err p 0x40 src.code))

/-- RESTART_COMPLETE: the restart of TD, SN, AC, CM or BS ends; a FAILED Quay stays so (R24, R496). -/
def execRestartComplete (dt : Nat) (r : Fin 8) (s : State) : Host.Outcome State Fault Refusal :=
  let p := pgFLT r
  s.act dt (.dyn fun c => when (c.flag p Reg.FLTR.REG_STAT_RESTARTING)
    (if r.val < 2 then
      when (c.qstate (Quay.ofIdx r) == 5) (.seq (resetRegion r) (putFlag p Reg.FLTR.REG_STAT_RESTARTING false))
    else
      seqs [resetRegion r, domainsBack r, putFlag p Reg.FLTR.REG_STAT_RESTARTING false, putFlag p Reg.FLTR.REG_STAT_ISOLATED false,
        putFlag p Reg.FLTR.REG_STAT_READY true, bump p Reg.FLTR.RESTART_CNT, dropFault (fREGION_ISO r)]))

/-! ### Arbitration -/

/-- The priority class of a requester, class 0 highest (Table 1-7). -/
def clientClass : ArbClient → Nat
  | .tap | .stream | .copy => 0
  | .can | .eth | .xspBoot => 1
  | .core | .engine | .safety | .message => 2
  | .debug => 3

/-- Key of an arbiter in `Chip.arbs`. -/
def arbiterKey : Arbiter → Nat
  | .region r => r
  | .chip r => 16 + r
  | .gangway q => 24 + q.idx

/-- The threshold of R30: 64 at the arbiters of the regions, 128 at those of the chip. -/
def arbiterThreshold : Arbiter → Nat
  | .region _ => 64
  | _ => 128

/-- Age of a requester port. -/
def ArbSt.ageOf (a : ArbSt) (port : Nat) : Nat := ((a.age.find? fun e => e.1 == port).map Prod.snd).getD 0

/-- The pending request that is granted: the lowest promoted port, else the round-robin choice in the highest class that is pending (R29, R30). -/
def ArbSt.choose (a : ArbSt) (threshold : Nat) : Option Nat :=
  match leastOf ((a.pend.filter fun e => decide (threshold ≤ a.ageOf e.1)).map Prod.fst) with
  | some p => some p
  | none => match leastOf (a.pend.map Prod.snd) with
    | none => none
    | some cls => roundRobin ((a.last.find? fun e => e.1 == cls).map Prod.snd) ((a.pend.filter fun e => e.2 == cls).map Prod.fst)

/-- Requests are raised; a port with a request that is still pending raises none, and none is withdrawn (R31). -/
def ArbSt.raise (a : ArbSt) (reqs : List (Nat × Nat)) : ArbSt :=
  { a with pend := a.pend ++ reqs.filter fun e => !(a.pend.any fun p => p.1 == e.1) }

/-- One decision: the request granted ends its wait, and every other pending one ages (R29). -/
def ArbSt.decide_ (a : ArbSt) (threshold : Nat) : ArbSt :=
  match a.choose threshold with
  | none => { a with granted := none }
  | some g =>
    let cls := ((a.pend.find? fun e => e.1 == g).map Prod.snd).getD 0
    let rest := a.pend.filter fun e => e.1 != g
    { pend := rest, age := rest.map fun e => (e.1, Nat.min (a.ageOf e.1 + 1) 255),
      last := (cls, g) :: a.last.filter fun e => e.1 != cls, granted := some g }

/-- ARB_DECISION: `reqs` are the requests raised since the arbiter's last decision, each with its port; the arbiter grants one pending request of at most one burst (R28 to R31, Table 1-7). On the Gangway, port 1 carries management messages, one of which is a burst; its request pends while a message waits there (R28, R342). DESIGN CHOICE: ARB_AGE and PROMO_CNT of FLT[r] take the arbiter of region r and not the one of the chip at its entry (R27; log entry 71). -/
def execArbDecision (dt : Nat) (at_ : Arbiter) (reqs : List (Fin 16 × ArbClient)) (s : State) : Host.Outcome State Fault Refusal :=
  s.act dt (.dyn fun c =>
    let old := c.arb (arbiterKey at_)
    let new := (old.raise (match at_ with
      | .gangway q => (reqs.filterMap fun e => if clientClass e.2 = 0 then some (0, 0) else none).take 1 ++ (if c.messageWaits q then [(1, 2)] else [])
      | _ => reqs.map fun e => (e.1.val, clientClass e.2))).decide_ (arbiterThreshold at_)
    let promoted := new.age.filter fun e => e.2 == (arbiterThreshold at_) && old.ageOf e.1 != e.2
    seqs [.prim (.arb (arbiterKey at_) new),
      match at_ with
      | .region r => .seq (putMax (pgFLT r) Reg.FLTR.ARB_AGE ((new.age.map Prod.snd).foldl Nat.max 0)) (bump (pgFLT r) Reg.FLTR.PROMO_CNT promoted.length)
      | .gangway q => when (new.granted == some 1) (modGwy q.idx fun g => { g with granted := g.granted + 1 })
      | .chip _ => .skip])

end Sys2Proof.Machine
end

