-- ==== Sys2Proof/Machine/Supply.lean ====
section
/-! DEFINITION. Power-on reset, straps, the power sequencer, domains, supplies and clock supervision (Chapter 17). -/

namespace Sys2Proof.Machine

open Sys2Proof

def pgSTRP : Page := ⟨.strp, 0⟩

/-! ### Power-on reset and straps -/

/-- The word of RST_CAUSE, and POR_CNT, which survive a power-on reset (R463). -/
def Chip.rstWords (c : Chip) : Word × Word := (c.word (pgRST.base + 0x040), c.word (pgRST.base + 0x044))

/-- Puts them back. -/
def rstRestore (w : Word × Word) : Act := .seq (setWord (pgRST.base + 0x040) w.1) (setWord (pgRST.base + 0x044) w.2)

/-- Power-on reset asserts and the whole chip returns to its state before start-up, with bit `bit` of RST_CAUSE; bit 0, COLD, is the loss of PD_AON's state, with which the cause fields are lost (R455, R463). -/
def porAssert (bit : Option Nat) (count : Bool) : Act :=
  .dyn fun c =>
    seqs [.prim .por,
      if bit = some 0 then setWord (pgRST.base + 0x040) 1
      else .seq (rstRestore c.rstWords) (.dyn fun d =>
        let w := d.word (pgRST.base + 0x040)
        seqs [setWord (pgRST.base + 0x040) (match bit with
            | some b => w ||| BitVec.ofNat 32 (2 ^ b)
            | none => w),
          when count (bump pgRST Reg.RST.POR_CNT)])]

/-- Bit of RST_CAUSE. -/
def porBit (k : Fin 5) : Option Nat := [some 0, some 1, some 2, none, some 3].getD k.val none

/-- POR_ASSERT: a rail below its reset level, or RESET_N low; `k` is 0 loss of PD_AON, 1 VDD, 2 VDDIO18, 3 VDDIO33, 4 the pin (R455). -/
def execPorAssert (dt : Nat) (k : Fin 5) (s : State) : Host.Outcome State Fault Refusal := s.act dt (porAssert (porBit k) true)

/-- LEVEL events of STRP (R471). -/
def strpLevels : Act := raiseLevels pgSTRP fun c => c.levels pgSTRP

/-- STRAP_LATCH: the eight samples end; `unstable` marks pins on which they disagree, `last` the last samples (R465, R466). -/
def execStrapLatch (dt : Nat) (last unstable : BitVec 16) (s : State) : Host.Outcome State Fault Refusal :=
  s.act dt (.dyn fun c =>
    let n := c.seqSt.tries
    when (c.seqSt.released.isNone && !c.seqSt.latched)
      (if unstable ≠ 0 ∧ n < 3 then .seq (modSeqS fun s => { s with tries := n + 1 }) (.prim (.elapse 2500000))
       else
         seqs [.prim (.strap last), rstRestore c.rstWords, modSeqS fun s => { s with latched := true },
           put pgSTRP Reg.STRP.STRAP_LIVE last.toNat, put pgSTRP Reg.STRP.STRAP_STAT_UNSTABLE unstable.toNat,
           putFlag pgSTRP Reg.STRP.STRAP_STAT_INVALID (last.toNat / 2 ^ 8 % 4 == 3), put pgSTRP Reg.STRP.STRAP_STAT_ATTEMPTS n, strpLevels]))

/-- STRAP_CHANGED: the live levels of the strap pins are now `live` (R465, R471). -/
def execStrapChanged (dt : Nat) (live : BitVec 16) (s : State) : Host.Outcome State Fault Refusal :=
  s.act dt (.dyn fun c =>
    let new := (live ^^^ c.strap) &&& ~~~ (BitVec.ofNat 16 (c.fld pgSTRP Reg.STRP.STRAP_LIVE) ^^^ c.strap)
    seqs [put pgSTRP Reg.STRP.STRAP_LIVE live.toNat, when (new != 0) (record pgSTRP 0 0x01 c.t live.toNat c.strap.toNat), strpLevels])

/-! ### The sequencer -/

/-- LEVEL events of PWR (R468). -/
def pwrLevels : Act := raiseLevels pgPWR fun c => c.levels pgPWR

/-- A DOM record: 0 off, 1 on, 2 fault (R468). -/
def domRecord (d v : Nat) : Act := .dyn fun c => record pgPWR 0 0x01 c.t d v

/-- Start order of Table 17-2. -/
def Chip.startOrder (c : Chip) : List Nat := [1, 5, 10, 11, 2, 3, 4, 12, 8, 6, 7, 9] ++ if c.strap.getLsbD 11 then [13] else []

/-- POR_RELEASE: all rails have been above their reset levels for 2 ms with RESET_N high, and the straps are latched (R455, R465). -/
def execPorRelease (dt : Nat) (s : State) : Host.Outcome State Fault Refusal :=
  s.act dt (.dyn fun c => when (c.seqSt.released.isNone && c.seqSt.latched)
    (seqs [modSeqS fun s => { s with released := some c.now, order := c.startOrder },
      domainOnTo 0 true, domainGoodTo 0 true]))

/-- SEQ_DOMAIN_ON: the sequencer switches on its next domain, which is good after `us` microseconds or is not good within 100 µs (R459). -/
def execSeqDomainOn (dt : Nat) (good : Bool) (us : Fin 101) (s : State) : Host.Outcome State Fault Refusal :=
  s.act dt (.dyn fun c => match c.seqSt.order with
    | [] => .skip
    | d :: rest =>
      let go := modSeqS fun s => { s with order := rest }
      let off := modSeqS fun s => { s with order := rest, leftOff := withBit s.leftOff d true }
      if d = 5 ∧ !c.flag pgCLK Reg.CLK.CLK_STAT_XTAL_OK then .skip
      else if !c.needsMet d then off
      else if good then
        seqs [go, domainOnTo d true, domainGoodTo d true, putMax pgPWR Reg.PWR.RAMP_MAX us.val]
      else if d = 1 ∨ d = 5 then .skip
      else seqs [off, putDom Reg.PWR.DOM_FAULT d true, pwrLevels])

/-- SEQ_RETRY: PD_SAFE or PD_TIDE is not good within 100 µs (R459). -/
def execSeqRetry (dt : Nat) (s : State) : Host.Outcome State Fault Refusal :=
  s.act dt (.dyn fun c => when (match c.seqSt.order with | d :: _ => d == 1 || d == 5 | [] => false)
    (.seq (porAssert (some 5) false) (.prim (.elapse 25000000))))

/-- Domain of each PLL (Table 17-4). -/
def pllDomain (i : Nat) : Nat := [1, 5, 5, 2, 3, 5].getD i 5

/-- TIDE_START: TIDE_PLL has locked, the Tide counts 0, the safety pair starts and both Quays enter BIST (R68, R336, R459); LEVEL events whose condition holds from reset occur (R49). -/
def execTideStart (dt : Nat) (s : State) : Host.Outcome State Fault Refusal :=
  s.act dt (.dyn fun c => match c.seqSt.released with
    | none => .skip
    | some t =>
      when (!c.tideOn && c.seqSt.order.isEmpty)
        (seqs [.prim (.tideRun true), put pgRST Reg.RST.START_US (Nat.min ((c.now - t) / usTicks) 65535),
          put pgCLK Reg.CLK.CLK_STAT_LOCK (((List.range 6).filter fun i => c.domainIsGood (pllDomain i)).foldl (fun v i => v ||| 2 ^ i) 0),
          putFlag pgCLK Reg.CLK.CLK_STAT_SAFE_OSC_OK true, putFlag pgTIDE Reg.TIDE.REF_STAT_PLL_LOCK true, refRefresh,
          each ([pgTIDE, pgFG 0] ++ (List.range 16).map fun i => ⟨.lane, i⟩) fun p => putFlag p Reg.HDR.PAGE_STAT_ENABLED true,
          .dyn fun c => putWide (pgFG 0) Reg.FG.NEXT_LO Reg.FG.NEXT_HI (c.fgPeriod 0), evt (pgFG 0) 1, evt (pgFG 0) 0,
          sealFuses, fuseRefresh, each (allPages.filter fun p => [Blk.leg, .pos, .brg, .saf, .sbc, .dbg].contains p.blk) raiseLevelsOf,
          each (List.range 14) fun d => when ((c.fld pgPWR Reg.PWR.DOM_FAULT).testBit d) (raiseFault (fPWR_DOM d)),
          each [Quay.A, Quay.B] fun q => quayTo q 1]))

/-! ### Supplies and domains -/

/-- The region whose logic a domain carries (R458). -/
def logicOf (d : Nat) : Option Nat :=
  match d with
  | 1 => some 7
  | 2 => some 0
  | 3 => some 1
  | 4 => some 6
  | 5 => some 2
  | 8 => some 3
  | 9 => some 4
  | 10 => some 5
  | _ => none

/-- A domain that is on and was good is out of range: it is isolated and stays off (R458). One that ramps up is judged by the end of its ramp (R457). -/
def domainFails (d : Nat) : Act :=
  .dyn fun c => when (c.domainIsGood d)
    (seqs [domainOnTo d false, domainGoodTo d false, putDom Reg.PWR.DOM_FAULT d true,
      modSeqS fun s => { s with ramp := s.ramp.filter fun x => x != d }, when (d == 1) safeLost,
      raiseFault (fPWR_DOM d), pwrLevels, domRecord d 2,
      match logicOf d with
        | some r => isolateRegion r 5
        | none => basinSettle])

/-- DOM_OUT_OF_RANGE (R458). -/
def execDomOutOfRange (dt : Nat) (d : Fin 14) (s : State) : Host.Outcome State Fault Refusal := s.act dt (domainFails d.val)

/-- Warning window of a rail, mV (Table 17-1). -/
def supWindow (rail : Fin 4) : Nat × Nat := [(760, 840), (1710, 1890), (3135, 3465), (4750, 5250)].getD rail.val (0, 0)

/-- SUP_WARN: the supply monitor measures a rail for 10 µs (R455, R468). -/
def execSupWarn (dt : Nat) (rail : Fin 4) (mv : BitVec 13) (s : State) : Host.Outcome State Fault Refusal :=
  let v := mv.toNat
  let warn := decide (v < (supWindow rail).1) || decide ((supWindow rail).2 < v)
  let fail := rail == 3 && decide (v < 4500)
  s.act dt (.dyn fun c =>
    let old := c.word (pgPWR.base + 0x050)
    seqs [match rail with
        | 0 => .seq (putFlag pgPWR Reg.PWR.SUP_STAT_VDD_WARN warn) (put pgPWR Reg.PWR.SUP_MEAS0_VDD v)
        | 1 => .seq (putFlag pgPWR Reg.PWR.SUP_STAT_IO18_WARN warn) (put pgPWR Reg.PWR.SUP_MEAS0_VDDIO18 v)
        | 2 => .seq (putFlag pgPWR Reg.PWR.SUP_STAT_IO33_WARN warn) (put pgPWR Reg.PWR.SUP_MEAS1_VDDIO33 v)
        | 3 => seqs [putFlag pgPWR Reg.PWR.SUP_STAT_VDDA_WARN warn, putFlag pgPWR Reg.PWR.SUP_STAT_VDDA_FAIL fail, put pgPWR Reg.PWR.SUP_MEAS1_VDDA (v / 2)],
      .dyn fun c => let new := c.word (pgPWR.base + 0x050)
        when (new != old) (record pgPWR 0 0x02 c.t new.toNat 0),
      pwrLevels, when fail (domainFails 8)])

/-- Pages of a domain. -/
def pagesIn (d : Nat) : List Page := allPages.filter fun p => p.domain == d && p.blk != .fltr && p.blk != .flt8

/-- The pages of a domain that is switched on hold their reset values (R457). A quarantined cell stays quarantined, for only a power-on reset or a restart of BS ends that (R403). -/
def resetDomain (d : Nat) : Act :=
  .seq (each (pagesIn d) fun p => resetPage p false)
    (match d with
      | 4 | 12 => basinSettle
      | 11 => .seq (.prim (.regsReset pgXSP.base (pgXSP.base + 0x1000))) fuseRefresh
      | _ => .skip)

/-- Software never switches the domain (Table 17-2). -/
def domFixed (d : Nat) : Bool := [0, 1, 2, 3, 5, 13].contains d

/-- Condition of the last column of Table 17-2 for a domain that software may switch off. -/
def Chip.domIdle (c : Chip) (d : Nat) : Bool :=
  let off := fun (q : Page → Bool) => allPages.all fun p => !q p || !c.en p
  let links := fun (lo : Nat) => ((List.range 12).all fun i => c.lstate (lo + i) == 0) && off fun p => p.blk == .leg && p.idx / 48 == lo / 12
  match d with
  | 4 => off fun p => p.blk == .que
  | 6 => links 0
  | 7 => links 12
  | 8 => (off fun p => p.domain == 8 || (p.blk == .leg && p.idx % 4 == 0) || p.blk == .brg) && c.cnvState == cvOFF
  | 9 => off fun p => p.blk == .brg || p.blk == .ssc
  | 10 => off fun p => p.blk == .can || p.blk == .pos || p.blk == .emu
  | 11 => (off fun p => p.blk == .eth) && !c.flag pgXSP Reg.XSP.XSP_STAT_BUSY && c.refSrc != 2
  | 12 => (List.range 64).all fun n => !(c.storeOf n == 1 && c.en (pgQUE n))
  | _ => false

/-- OFF_REQ for domain `d` (R457). -/
def offReq (src d : Nat) : Act :=
  .dyn fun c =>
    if domFixed d then err pgPWR 0x41 src
    else if (List.range 14).any fun e => (needs e).contains d && c.domainOn e then err pgPWR 0x42 src
    else if !c.domIdle d then err pgPWR 0x40 src
    else when (c.domainOn d)
      (seqs [domainOnTo d false, domainGoodTo d false, modSeqS fun s => { s with ramp := s.ramp.filter fun x => x != d },
        evt pgPWR 1, domRecord d 0, basinSettle])

/-- ON_REQ for domain `d` (R457). -/
def onReq (src d : Nat) : Act :=
  .dyn fun c =>
    if domFixed d then err pgPWR 0x41 src
    else if !c.needsMet d then err pgPWR 0x42 src
    else when (!c.domainOn d)
      (seqs [domainOnTo d true, modSeqS fun s => { s with ramp := s.ramp ++ [d] }, resetDomain d])

/-- A write of DOM_CTRL; both requests for one domain act as neither (R457, Table 17-8). -/
def domWrite (src : Src) (on off : BitVec 14) : Act :=
  onPage src pgPWR 0x04C true (locked src pgPWR (each (List.range 14) fun d =>
    match on.getLsbD d, off.getLsbD d with
    | true, true => err pgPWR 0x40 src.code
    | true, false => onReq src.code d
    | false, true => offReq src.code d
    | false, false => .skip))

/-- DOM_ON_REQ: a write of DOM_CTRL that sets ON_REQ bits. -/
def execDomOnReq (dt : Nat) (src : Src) (on off : BitVec 14) (s : State) : Host.Outcome State Fault Refusal := s.act dt (domWrite src on off)

/-- DOM_OFF_REQ: a write of DOM_CTRL that sets only OFF_REQ bits. -/
def execDomOffReq (dt : Nat) (src : Src) (off : BitVec 14) (s : State) : Host.Outcome State Fault Refusal := s.act dt (domWrite src 0 off)

/-- DOM_GOOD: a domain switched on reaches good after `us` microseconds (R457). -/
def execDomGood (dt : Nat) (d : Fin 14) (us : Fin 101) (s : State) : Host.Outcome State Fault Refusal :=
  s.act dt (whenC (fun c => c.seqSt.ramp.contains d.val && c.needsMet d)
    (seqs [modSeqS fun s => { s with ramp := s.ramp.filter fun x => x != d.val }, resetDomain d, domainGood d,
      putMax pgPWR Reg.PWR.RAMP_MAX us.val, evt pgPWR 0, domRecord d 1, basinSettle]))

/-- DOM_RAMP_TIMEOUT: a domain switched on is not good within 100 µs and is left off (R457). -/
def execDomRampTimeout (dt : Nat) (d : Fin 14) (s : State) : Host.Outcome State Fault Refusal :=
  s.act dt (whenC (fun c => c.seqSt.ramp.contains d.val)
    (seqs [modSeqS fun s => { s with ramp := s.ramp.filter fun x => x != d.val }, domainOnTo d false,
      putDom Reg.PWR.DOM_FAULT d true, raiseFault (fPWR_DOM d), pwrLevels, domRecord d 2]))

/-! ### Clocks -/

/-- PLL `i` of Table 17-4 fails: it loses lock (`lost`) or leaves its window (R461, R469, Table 17-4). -/
def pllFails (i : Nat) (lost : Bool) : Act :=
  .dyn fun c =>
    let f := c.fld pgCLK Reg.CLK.CLK_STAT_FAULT
    when (!f.testBit i && c.domainIsGood (pllDomain i))
      (seqs [put pgCLK Reg.CLK.CLK_STAT_FAULT (f + 2 ^ i),
        when lost (put pgCLK Reg.CLK.CLK_STAT_LOCK (withBit (c.fld pgCLK Reg.CLK.CLK_STAT_LOCK) i false)),
        bump pgCLK Reg.CLK.FAULT_CNT, record pgCLK 0 0x01 c.t i 1, raiseLevels pgCLK Chip.clkLevels,
        match i with
          | 0 => raiseFault fSF_INTERNAL 0 true
          | 1 => tideUnlock lost
          | 3 => quayFault .A 9
          | 4 => quayFault .B 9
          | _ => raiseFault fCLK_FAULT])

/-- PLL_FAIL: the supervisor finds PLL `i` lost or out of its window, measured at `khz` (R461). -/
def execPllFail (dt : Nat) (i : Fin 6) (lost : Bool) (khz : BitVec 22) (s : State) : Host.Outcome State Fault Refusal :=
  s.act dt (.seq (put pgCLK Reg.CLK.MEAS khz.toNat i) (pllFails i lost))

/-- TIDE_UNLOCK: the TIDE PLL loses lock (R74). -/
def execTideUnlock (dt : Nat) (s : State) : Host.Outcome State Fault Refusal := s.act dt (pllFails 1 true)

/-- SAFE_OSC_MISMATCH: the PD_AON counter measures SAFE_OSC at `khz`, more than 5 % away in two windows (R461). -/
def execSafeOscMismatch (dt : Nat) (khz : BitVec 18) (s : State) : Host.Outcome State Fault Refusal :=
  s.act dt (.seq (put pgCLK Reg.CLK.SAFE_MEAS khz.toNat) (whenC (fun c => c.flag pgCLK Reg.CLK.CLK_STAT_XTAL_OK)
    (.seq (putFlag pgCLK Reg.CLK.CLK_STAT_SAFE_OSC_OK false) (raiseFault fSF_INTERNAL 0 true))))

/-! ### SYS_RESET -/

/-- SYS_RESET: a write of RST_CTRL.SYS_RESET (R464). -/
def execSysReset (dt : Nat) (src : Src) (s : State) : Host.Outcome State Fault Refusal :=
  s.act dt (onPage src pgRST 0x048 true (.dyn fun c =>
    if c.windowHeld pgRST src && c.allSto then
      when c.seqSt.sysReset.isNone (.seq (putFlag pgRST Reg.RST.RST_CTRL true) (modSeqS fun s => { s with sysReset := some (c.now + 2500000) }))
    else .seq (err pgRST 0x40 src.code) (when (!c.windowHeld pgRST src) (err pgRST 0x0B src.code))))

/-- SYS_RESET_FIRE: 1 ms after an accepted SYS_RESET power-on reset asserts (R464). -/
def execSysResetFire (dt : Nat) (s : State) : Host.Outcome State Fault Refusal :=
  s.act dt (.dyn fun c => match c.seqSt.sysReset with
    | some t => .seq (.prim (.elapse (t - c.now))) (porAssert (some 4) true)
    | none => .skip)

end Sys2Proof.Machine
end

