-- ==== Sys2Proof/Machine/Dispatch.lean ====
section
/-! DEFINITION. The meaning of every command: one arm per constructor, each one direct call. -/

namespace Sys2Proof.Machine

open Sys2Proof

/-- What a command does to everything but the queue. -/
def exec (i : Instr) (s : State) : Host.Outcome State Fault Refusal :=
  match i with
  | .regWrite dt src a size v => Sys2Proof.Machine.execRegWrite dt src a size v s
  | .rcRead dt src a size ecc => Sys2Proof.Machine.execRcRead dt src a size ecc s
  | .holdingRead dt src p off => Sys2Proof.Machine.execHoldingRead dt src p off s
  | .evtPendClear dt src p v => Sys2Proof.Machine.execEvtPendClear dt src p v s
  | .errClr dt src p => Sys2Proof.Machine.execErrClr dt src p s
  | .isoReq dt src r => Sys2Proof.Machine.execIsoReq dt src r s
  | .restart dt src r => Sys2Proof.Machine.execRestart dt src r s
  | .restartComplete dt r => Sys2Proof.Machine.execRestartComplete dt r s
  | .interconnectTimeout dt src a write waited => Sys2Proof.Machine.execInterconnectTimeout dt src a write waited s
  | .regionFaultIsolate dt r cause => Sys2Proof.Machine.execRegionFaultIsolate dt r cause s
  | .arbDecision dt at_ reqs => Sys2Proof.Machine.execArbDecision dt at_ reqs s
  | .cellFault dt p code => Sys2Proof.Machine.execCellFault dt p code s
  | .regParityError dt p => Sys2Proof.Machine.execRegParityError dt p s
  | .enClear dt src p => Sys2Proof.Machine.execEnClear dt src p s
  | .enSet dt src p => Sys2Proof.Machine.execEnSet dt src p s
  | .enApply dt p => Sys2Proof.Machine.execEnApply dt p s
  | .srst dt src p => Sys2Proof.Machine.execSrst dt src p s
  | .srstComplete dt p => Sys2Proof.Machine.execSrstComplete dt p s
  | .commitGo dt src p discard => Sys2Proof.Machine.execCommitGo dt src p discard s
  | .snapshotCheckDone dt p parity => Sys2Proof.Machine.execSnapshotCheckDone dt p parity s
  | .snapshotApply dt p => Sys2Proof.Machine.execSnapshotApply dt p s
  | .commitDiscard dt src p => Sys2Proof.Machine.execCommitDiscard dt src p s
  | .lockFirstWord dt src p => Sys2Proof.Machine.execLockFirstWord dt src p s
  | .lockSecondWord dt src p => Sys2Proof.Machine.execLockSecondWord dt src p s
  | .lockBadWord dt src p v => Sys2Proof.Machine.execLockBadWord dt src p v s
  | .lockBusyWrite dt src p v => Sys2Proof.Machine.execLockBusyWrite dt src p v s
  | .lockRelease dt src p => Sys2Proof.Machine.execLockRelease dt src p s
  | .lockArmExpire dt src p => Sys2Proof.Machine.execLockArmExpire dt src p s
  | .lockWindowExpire dt p => Sys2Proof.Machine.execLockWindowExpire dt p s
  | .refLost dt ext => Sys2Proof.Machine.execRefLost dt ext s
  | .refRegained dt phase => Sys2Proof.Machine.execRefRegained dt phase s
  | .trimSlewStep dt ext => Sys2Proof.Machine.execTrimSlewStep dt ext s
  | .xtalLoss dt => Sys2Proof.Machine.execXtalLoss dt s
  | .xtalRegained dt => Sys2Proof.Machine.execXtalRegained dt s
  | .tideUnlock dt => Sys2Proof.Machine.execTideUnlock dt s
  | .fgStart dt src g => Sys2Proof.Machine.execFgStart dt src g s
  | .frameBoundary dt g => Sys2Proof.Machine.execFrameBoundary dt g s
  | .bankCopyDone dt => Sys2Proof.Machine.execBankCopyDone dt s
  | .actionDispatch dt idx => Sys2Proof.Machine.execActionDispatch dt idx s
  | .actionSample dt idx => Sys2Proof.Machine.execActionSample dt idx s
  | .actionLaunch dt idx => Sys2Proof.Machine.execActionLaunch dt idx s
  | .actionCapture dt idx => Sys2Proof.Machine.execActionCapture dt idx s
  | .actionVstep dt idx => Sys2Proof.Machine.execActionVstep dt idx s
  | .actionMark dt idx => Sys2Proof.Machine.execActionMark dt idx s
  | .evsFifoDrain dt src corr => Sys2Proof.Machine.execEvsFifoDrain dt src corr s
  | .tapFifoDrain dt q tap corr => Sys2Proof.Machine.execTapFifoDrain dt q tap corr s
  | .edgeEntry dt q lane k w0 w1 => Sys2Proof.Machine.execEdgeEntry dt q lane k w0 w1 s
  | .closeEntry dt q lane k w0 w1 => Sys2Proof.Machine.execCloseEntry dt q lane k w0 w1 s
  | .closeDeadline dt k => Sys2Proof.Machine.execCloseDeadline dt k s
  | .patternTakeover dt k => Sys2Proof.Machine.execPatternTakeover dt k s
  | .gateEdgeDue dt n => Sys2Proof.Machine.execGateEdgeDue dt n s
  | .patternEccError dt k => Sys2Proof.Machine.execPatternEccError dt k s
  | .blockEnterSafe dt k cause => Sys2Proof.Machine.execBlockEnterSafe dt k cause s
  | .shutterCloseReport dt k => Sys2Proof.Machine.execShutterCloseReport dt k s
  | .rearm dt src k => Sys2Proof.Machine.execRearm dt src k s
  | .linkTrain dt src k => Sys2Proof.Machine.execLinkTrain dt src k s
  | .linkDown dt src k => Sys2Proof.Machine.execLinkDown dt src k s
  | .linkDesatClr dt src k => Sys2Proof.Machine.execLinkDesatClr dt src k s
  | .linkRecal dt src k => Sys2Proof.Machine.execLinkRecal dt src k s
  | .trainComplete dt k => Sys2Proof.Machine.execTrainComplete dt k s
  | .trainTimeout dt k => Sys2Proof.Machine.execTrainTimeout dt k s
  | .calSend dt k fine => Sys2Proof.Machine.execCalSend dt k fine s
  | .calEchoTimeout dt k => Sys2Proof.Machine.execCalEchoTimeout dt k s
  | .calComplete dt k => Sys2Proof.Machine.execCalComplete dt k s
  | .calPeriodExpire dt k => Sys2Proof.Machine.execCalPeriodExpire dt k s
  | .cfgSend dt k => Sys2Proof.Machine.execCfgSend dt k s
  | .edgeFrameSend dt k => Sys2Proof.Machine.execEdgeFrameSend dt k s
  | .edgeLate dt k => Sys2Proof.Machine.execEdgeLate dt k s
  | .syncSend dt k fine => Sys2Proof.Machine.execSyncSend dt k fine s
  | .commaSend dt k => Sys2Proof.Machine.execCommaSend dt k s
  | .uplinkStatus dt k f => Sys2Proof.Machine.execUplinkStatus dt k f s
  | .uplinkState dt k f => Sys2Proof.Machine.execUplinkState dt k f s
  | .uplinkNtc dt k f => Sys2Proof.Machine.execUplinkNtc dt k f s
  | .uplinkSupply dt k f => Sys2Proof.Machine.execUplinkSupply dt k f s
  | .uplinkVce dt k f => Sys2Proof.Machine.execUplinkVce dt k f s
  | .uplinkEcho dt k f t1 => Sys2Proof.Machine.execUplinkEcho dt k f t1 s
  | .uplinkCaps dt k f => Sys2Proof.Machine.execUplinkCaps dt k f s
  | .uplinkInvalid dt k f => Sys2Proof.Machine.execUplinkInvalid dt k f s
  | .upTimeout dt k => Sys2Proof.Machine.execUpTimeout dt k s
  | .ntcStale dt k idx => Sys2Proof.Machine.execNtcStale dt k idx s
  | .adcResultReady dt n code => Sys2Proof.Machine.execAdcResultReady dt n code s
  | .adcRefFault dt n => Sys2Proof.Machine.execAdcRefFault dt n s
  | .adcRefOk dt n => Sys2Proof.Machine.execAdcRefOk dt n s
  | .dsfResultReady dt n bits => Sys2Proof.Machine.execDsfResultReady dt n bits s
  | .dsfCompTrip dt n bits => Sys2Proof.Machine.execDsfCompTrip dt n bits s
  | .dsfClkLost dt pin => Sys2Proof.Machine.execDsfClkLost dt pin s
  | .dsfStuck dt n bits => Sys2Proof.Machine.execDsfStuck dt n bits s
  | .dsfSettled dt n bits => Sys2Proof.Machine.execDsfSettled dt n bits s
  | .cplTransition dt up samples => Sys2Proof.Machine.execCplTransition dt up samples s
  | .cplOscLost dt samples => Sys2Proof.Machine.execCplOscLost dt samples s
  | .cplS2 dt src v => Sys2Proof.Machine.execCplS2 dt src v s
  | .cplResultReady dt => Sys2Proof.Machine.execCplResultReady dt s
  | .tsnConversion dt r temp ok => Sys2Proof.Machine.execTsnConversion dt r temp ok s
  | .tsnResultReady dt r => Sys2Proof.Machine.execTsnResultReady dt r s
  | .tripClr dt src r => Sys2Proof.Machine.execTripClr dt src r s
  | .slotSampleArrive dt => Sys2Proof.Machine.execSlotSampleArrive dt s
  | .runStart dt q l img => Sys2Proof.Machine.execRunStart dt q l img s
  | .nop dt q l => Sys2Proof.Machine.execNop dt q l s
  | .lds dt q l => Sys2Proof.Machine.execLds dt q l s
  | .ldsRelease dt q l => Sys2Proof.Machine.execLdsRelease dt q l s
  | .ldc dt q l => Sys2Proof.Machine.execLdc dt q l s
  | .ldm dt q l => Sys2Proof.Machine.execLdm dt q l s
  | .stm dt q l => Sys2Proof.Machine.execStm dt q l s
  | .movi dt q l => Sys2Proof.Machine.execMovi dt q l s
  | .mulc dt q l => Sys2Proof.Machine.execMulc dt q l s
  | .mulx dt q l => Sys2Proof.Machine.execMulx dt q l s
  | .macc dt q l => Sys2Proof.Machine.execMacc dt q l s
  | .rdacc dt q l => Sys2Proof.Machine.execRdacc dt q l s
  | .clra dt q l => Sys2Proof.Machine.execClra dt q l s
  | .add dt q l => Sys2Proof.Machine.execAdd dt q l s
  | .sub dt q l => Sys2Proof.Machine.execSub dt q l s
  | .addi dt q l => Sys2Proof.Machine.execAddi dt q l s
  | .shs dt q l => Sys2Proof.Machine.execShs dt q l s
  | .min dt q l => Sys2Proof.Machine.execMin dt q l s
  | .max dt q l => Sys2Proof.Machine.execMax dt q l s
  | .abs dt q l => Sys2Proof.Machine.execAbs dt q l s
  | .neg dt q l => Sys2Proof.Machine.execNeg dt q l s
  | .cmp dt q l => Sys2Proof.Machine.execCmp dt q l s
  | .and dt q l => Sys2Proof.Machine.execAnd dt q l s
  | .or dt q l => Sys2Proof.Machine.execOr dt q l s
  | .xor dt q l => Sys2Proof.Machine.execXor dt q l s
  | .sincos dt q l => Sys2Proof.Machine.execSincos dt q l s
  | .div dt q l => Sys2Proof.Machine.execDiv dt q l s
  | .sqrt dt q l => Sys2Proof.Machine.execSqrt dt q l s
  | .gett dt q l => Sys2Proof.Machine.execGett dt q l s
  | .tadd dt q l => Sys2Proof.Machine.execTadd dt q l s
  | .taddi dt q l => Sys2Proof.Machine.execTaddi dt q l s
  | .tsub dt q l => Sys2Proof.Machine.execTsub dt q l s
  | .edge dt q l => Sys2Proof.Machine.execEdge dt q l s
  | .close dt q l => Sys2Proof.Machine.execClose dt q l s
  | .vcmd dt q l => Sys2Proof.Machine.execVcmd dt q l s
  | .mbx dt q l => Sys2Proof.Machine.execMbx dt q l s
  | .mbx2 dt q l => Sys2Proof.Machine.execMbx2 dt q l s
  | .tap dt q l => Sys2Proof.Machine.execTap dt q l s
  | .inj dt q l => Sys2Proof.Machine.execInj dt q l s
  | .br dt q l => Sys2Proof.Machine.execBr dt q l s
  | .endRun dt q l => Sys2Proof.Machine.execEnd dt q l s
  | .runOvertime dt q l => Sys2Proof.Machine.execRunOvertime dt q l s
  | .runStallTimeout dt q l => Sys2Proof.Machine.execRunStallTimeout dt q l s
  | .runUncorr dt q l => Sys2Proof.Machine.execRunUncorr dt q l s
  | .coefCopyDone dt q => Sys2Proof.Machine.execCoefCopyDone dt q s
  | .lawmemWrite dt src q idx w => Sys2Proof.Machine.execLawmemWrite dt src q idx w s
  | .sigReq dt src q => Sys2Proof.Machine.execSigReq dt src q s
  | .sigDone dt q => Sys2Proof.Machine.execSigDone dt q s
  | .mailboxPairRead dt src q idx => Sys2Proof.Machine.execMailboxPairRead dt src q idx s
  | .captureWindowClose dt tap => Sys2Proof.Machine.execCaptureWindowClose dt tap s
  | .injWindowOpen dt q g => Sys2Proof.Machine.execInjWindowOpen dt q g s
  | .injWindowClose dt q g => Sys2Proof.Machine.execInjWindowClose dt q g s
  | .serialFrameDone dt n low bits => Sys2Proof.Machine.execSerialFrameDone dt n low bits s
  | .posWordsReady dt n => Sys2Proof.Machine.execPosWordsReady dt n s
  | .quadEdge dt n a b held => Sys2Proof.Machine.execQuadEdge dt n a b held s
  | .quadIndex dt n z held => Sys2Proof.Machine.execQuadIndex dt n z held s
  | .hallEdge dt n code held => Sys2Proof.Machine.execHallEdge dt n code held s
  | .stillTimeout dt n => Sys2Proof.Machine.execStillTimeout dt n s
  | .posFaultClr dt src n => Sys2Proof.Machine.execPosFaultClr dt src n s
  | .zarm dt src n => Sys2Proof.Machine.execZarm dt src n s
  | .emuCountStep dt j => Sys2Proof.Machine.execEmuCountStep dt j s
  | .vclCmdAccept dt => Sys2Proof.Machine.execVclCmdAccept dt s
  | .vclExtFrame dt w crc => Sys2Proof.Machine.execVclExtFrame dt w crc s
  | .vclExtTimeout dt => Sys2Proof.Machine.execVclExtTimeout dt s
  | .vclAckSend dt => Sys2Proof.Machine.execVclAckSend dt s
  | .cnvStart dt src => Sys2Proof.Machine.execCnvStart dt src s
  | .cnvStop dt src => Sys2Proof.Machine.execCnvStop dt src s
  | .cnvRestart dt src => Sys2Proof.Machine.execCnvRestart dt src s
  | .brgCarrierStart dt n => Sys2Proof.Machine.execBrgCarrierStart dt n s
  | .bstMeasure dt n dv => Sys2Proof.Machine.execBstMeasure dt n dv s
  | .cpFaultSet dt n => Sys2Proof.Machine.execCpFaultSet dt n s
  | .cpFaultClear dt n => Sys2Proof.Machine.execCpFaultClear dt n s
  | .vdsDetect dt n high atBlank => Sys2Proof.Machine.execVdsDetect dt n high atBlank s
  | .vdsClr dt src n lowH lowL => Sys2Proof.Machine.execVdsClr dt src n lowH lowL s
  | .brgRearm dt src n => Sys2Proof.Machine.execBrgRearm dt src n s
  | .selftest dt src n => Sys2Proof.Machine.execSelftest dt src n s
  | .selftestDone dt n result => Sys2Proof.Machine.execSelftestDone dt n result s
  | .vbrMeasure dt b dv => Sys2Proof.Machine.execVbrMeasure dt b dv s
  | .sscStart dt src u => Sys2Proof.Machine.execSscStart dt src u s
  | .sscStop dt src u => Sys2Proof.Machine.execSscStop dt src u s
  | .sscFaultClr dt src u => Sys2Proof.Machine.execSscFaultClr dt src u s
  | .sscCarrierStart dt u => Sys2Proof.Machine.execSscCarrierStart dt u s
  | .listenEnd dt u => Sys2Proof.Machine.execListenEnd dt u s
  | .zeroCrossing dt u phase rising => Sys2Proof.Machine.execZeroCrossing dt u phase rising s
  | .stepLost dt u => Sys2Proof.Machine.execStepLost dt u s
  | .commutation dt u => Sys2Proof.Machine.execCommutation dt u s
  | .keSample dt u v => Sys2Proof.Machine.execKeSample dt u v s
  | .brakeEnd dt u => Sys2Proof.Machine.execBrakeEnd dt u s
  | .alignEnd dt u => Sys2Proof.Machine.execAlignEnd dt u s
  | .forcedStep dt u => Sys2Proof.Machine.execForcedStep dt u s
  | .stoppingEnd dt u => Sys2Proof.Machine.execStoppingEnd dt u s
  | .lockstepMismatch dt u => Sys2Proof.Machine.execLockstepMismatch dt u s
  | .laneMismatch dt q l => Sys2Proof.Machine.execLaneMismatch dt q l s
  | .compTest dt q unit ok => Sys2Proof.Machine.execCompTest dt q unit ok s
  | .coreScrub dt q pair ok => Sys2Proof.Machine.execCoreScrub dt q pair ok s
  | .laneScrub dt q l ok => Sys2Proof.Machine.execLaneScrub dt q l ok s
  | .debugHalt dt => Sys2Proof.Machine.execDebugHalt dt s
  | .debugResume dt single => Sys2Proof.Machine.execDebugResume dt single s
  | .debugRegWrite dt r v => Sys2Proof.Machine.execDebugRegWrite dt r v s
  | .wdKick dt src q w v => Sys2Proof.Machine.execWdKick dt src q w v s
  | .wdTimeout dt q w => Sys2Proof.Machine.execWdTimeout dt q w s
  | .tokenRelease dt => Sys2Proof.Machine.execTokenRelease dt s
  | .takeover dt => Sys2Proof.Machine.execTakeover dt s
  | .snapshotMarker dt chk => Sys2Proof.Machine.execSnapshotMarker dt chk s
  | .snapshotDeadline dt => Sys2Proof.Machine.execSnapshotDeadline dt s
  | .switchReq dt src q => Sys2Proof.Machine.execSwitchReq dt src q s
  | .quayReset dt q => Sys2Proof.Machine.execQuayReset dt q s
  | .bistDone dt q pass => Sys2Proof.Machine.execBistDone dt q pass s
  | .bulkCopyDone dt => Sys2Proof.Machine.execBulkCopyDone dt s
  | .singleExpire dt => Sys2Proof.Machine.execSingleExpire dt s
  | .startupTake dt => Sys2Proof.Machine.execStartupTake dt s
  | .msgSend dt src q => Sys2Proof.Machine.execMsgSend dt src q s
  | .msgArrive dt q => Sys2Proof.Machine.execMsgArrive dt q s
  | .msgPop dt src q => Sys2Proof.Machine.execMsgPop dt src q s
  | .lckForce dt src q => Sys2Proof.Machine.execLckForce dt src q s
  | .kernelCycle dt us => Sys2Proof.Machine.execKernelCycle dt us s
  | .sfWatchdog dt => Sys2Proof.Machine.execSfWatchdog dt s
  | .faultAssert dt id => Sys2Proof.Machine.execFaultAssert dt id s
  | .fltClr dt src id => Sys2Proof.Machine.execFltClr dt src id s
  | .fcTest dt failed => Sys2Proof.Machine.execFcTest dt failed s
  | .shtDistribute dt => Sys2Proof.Machine.execShtDistribute dt s
  | .shtWireClosed dt idx b => Sys2Proof.Machine.execShtWireClosed dt idx b s
  | .shtRunReport dt idx => Sys2Proof.Machine.execShtRunReport dt idx s
  | .shtWireFault dt idx a b => Sys2Proof.Machine.execShtWireFault dt idx a b s
  | .stoReq dt src mask => Sys2Proof.Machine.execStoReq dt src mask s
  | .ss1Req dt src mask => Sys2Proof.Machine.execSs1Req dt src mask s
  | .ss1Expire dt f => Sys2Proof.Machine.execSs1Expire dt f s
  | .safReset dt src => Sys2Proof.Machine.execSafReset dt src s
  | .sinFilterChange dt idx chB level rawA rawB => Sys2Proof.Machine.execSinFilterChange dt idx chB level rawA rawB s
  | .sinDiscrepant dt idx => Sys2Proof.Machine.execSinDiscrepant dt idx s
  | .sinChanLost dt idx chB => Sys2Proof.Machine.execSinChanLost dt idx chB s
  | .sinFaultClr dt src mask => Sys2Proof.Machine.execSinFaultClr dt src mask s
  | .degrExpire dt idx => Sys2Proof.Machine.execDegrExpire dt idx s
  | .soutCmd dt src on => Sys2Proof.Machine.execSoutCmd dt src on s
  | .soutTestPulse dt j low high missA missB => Sys2Proof.Machine.execSoutTestPulse dt j low high missA missB s
  | .soutFaultClr dt src mask high => Sys2Proof.Machine.execSoutFaultClr dt src mask high s
  | .sbcRelease dt src => Sys2Proof.Machine.execSbcRelease dt src s
  | .sbcEngage dt src => Sys2Proof.Machine.execSbcEngage dt src s
  | .sbcDelayExpire dt => Sys2Proof.Machine.execSbcDelayExpire dt s
  | .sbcTestPulse dt low pulse rb => Sys2Proof.Machine.execSbcTestPulse dt low pulse rb s
  | .btStart dt src => Sys2Proof.Machine.execBtStart dt src s
  | .btSettleEnd dt => Sys2Proof.Machine.execBtSettleEnd dt s
  | .btWindowEnd dt => Sys2Proof.Machine.execBtWindowEnd dt s
  | .btOverdue dt => Sys2Proof.Machine.execBtOverdue dt s
  | .sealRead dt a b => Sys2Proof.Machine.execSealRead dt a b s
  | .sealProgram dt src => Sys2Proof.Machine.execSealProgram dt src s
  | .sealProgDone dt a => Sys2Proof.Machine.execSealProgDone dt a s
  | .pushOpen dt src n corr => Sys2Proof.Machine.execPushOpen dt src n corr s
  | .pushData dt src n v corr => Sys2Proof.Machine.execPushData dt src n v corr s
  | .pushHoldExpire dt n => Sys2Proof.Machine.execPushHoldExpire dt n s
  | .pushClose dt src n corr => Sys2Proof.Machine.execPushClose dt src n corr s
  | .portWordWrite dt k corr => Sys2Proof.Machine.execPortWordWrite dt k corr s
  | .popData dt src n ecc corr => Sys2Proof.Machine.execPopData dt src n ecc corr s
  | .popSkip dt src n corr => Sys2Proof.Machine.execPopSkip dt src n corr s
  | .queFlush dt src n corr => Sys2Proof.Machine.execQueFlush dt src n corr s
  | .queReset dt n uncorr => Sys2Proof.Machine.execQueReset dt n uncorr s
  | .sweepDone dt st bad corr uncorr => Sys2Proof.Machine.execSweepDone dt st bad corr uncorr s
  | .freelistRebuild dt st => Sys2Proof.Machine.execFreelistRebuild dt st s
  | .rebuildDone dt st bad corr uncorr => Sys2Proof.Machine.execRebuildDone dt st bad corr uncorr s
  | .canRxFrame dt n f => Sys2Proof.Machine.execCanRxFrame dt n f s
  | .canSend dt src n => Sys2Proof.Machine.execCanSend dt src n s
  | .canAbort dt src n bus => Sys2Proof.Machine.execCanAbort dt src n bus s
  | .canTxDone dt n sof delay => Sys2Proof.Machine.execCanTxDone dt n sof delay s
  | .canAttemptFail dt n sof lost => Sys2Proof.Machine.execCanAttemptFail dt n sof lost s
  | .objCfgWrite dt src n v bus => Sys2Proof.Machine.execObjCfgWrite dt src n v bus s
  | .objHeadRead dt src n => Sys2Proof.Machine.execObjHeadRead dt src n s
  | .objLastRead dt src n => Sys2Proof.Machine.execObjLastRead dt src n s
  | .objRelease dt src n => Sys2Proof.Machine.execObjRelease dt src n s
  | .canBusError dt n lec kind => Sys2Proof.Machine.execCanBusError dt n lec kind s
  | .canRecover dt src n => Sys2Proof.Machine.execCanRecover dt src n s
  | .canRecovered dt n => Sys2Proof.Machine.execCanRecovered dt n s
  | .canTxqTake dt n corr bad => Sys2Proof.Machine.execCanTxqTake dt n corr bad s
  | .refMsgDue dt n => Sys2Proof.Machine.execRefMsgDue dt n s
  | .refMsgDrop dt n => Sys2Proof.Machine.execRefMsgDrop dt n s
  | .ttWindowOpen dt n j => Sys2Proof.Machine.execTtWindowOpen dt n j s
  | .ttWindowEnd dt n j started => Sys2Proof.Machine.execTtWindowEnd dt n j started s
  | .ethRxFrame dt n stamp good bs => Sys2Proof.Machine.execEthRxFrame dt n stamp good bs s
  | .ethTxFrame dt n stamp fine corr bad => Sys2Proof.Machine.execEthTxFrame dt n stamp fine corr bad s
  | .ethLinkChange dt n up => Sys2Proof.Machine.execEthLinkChange dt n up s
  | .syncApply dt src n => Sys2Proof.Machine.execSyncApply dt src n s
  | .bootStart dt img => Sys2Proof.Machine.execBootStart dt img s
  | .bootLoad dt readOk bytes => Sys2Proof.Machine.execBootLoad dt readOk bytes s
  | .bootFail dt => Sys2Proof.Machine.execBootFail dt s
  | .bootEthFrame dt dest etype off bs => Sys2Proof.Machine.execBootEthFrame dt dest etype off bs s
  | .bootEthTimeout dt => Sys2Proof.Machine.execBootEthTimeout dt s
  | .quayReload dt q => Sys2Proof.Machine.execQuayReload dt q s
  | .quayReloadDone dt img bs => Sys2Proof.Machine.execQuayReloadDone dt img bs s
  | .rollbackBurn dt src => Sys2Proof.Machine.execRollbackBurn dt src s
  | .revoke dt src mask => Sys2Proof.Machine.execRevoke dt src mask s
  | .xspGo dt src => Sys2Proof.Machine.execXspGo dt src s
  | .xspCmdDone dt data => Sys2Proof.Machine.execXspCmdDone dt data s
  | .debugPortOpen dt => Sys2Proof.Machine.execDebugPortOpen dt s
  | .dbgAttach dt src core => Sys2Proof.Machine.execDbgAttach dt src core s
  | .scanInstruction dt ins => Sys2Proof.Machine.execScanInstruction dt ins s
  | .tapReset dt => Sys2Proof.Machine.execTapReset dt s
  | .porAssert dt k => Sys2Proof.Machine.execPorAssert dt k s
  | .strapLatch dt last unstable => Sys2Proof.Machine.execStrapLatch dt last unstable s
  | .porRelease dt => Sys2Proof.Machine.execPorRelease dt s
  | .seqDomainOn dt good us => Sys2Proof.Machine.execSeqDomainOn dt good us s
  | .seqRetry dt => Sys2Proof.Machine.execSeqRetry dt s
  | .tideStart dt => Sys2Proof.Machine.execTideStart dt s
  | .supWarn dt rail mv => Sys2Proof.Machine.execSupWarn dt rail mv s
  | .domOnReq dt src on off => Sys2Proof.Machine.execDomOnReq dt src on off s
  | .domOffReq dt src off => Sys2Proof.Machine.execDomOffReq dt src off s
  | .domGood dt d us => Sys2Proof.Machine.execDomGood dt d us s
  | .domRampTimeout dt d => Sys2Proof.Machine.execDomRampTimeout dt d s
  | .domOutOfRange dt d => Sys2Proof.Machine.execDomOutOfRange dt d s
  | .pllFail dt idx lost khz => Sys2Proof.Machine.execPllFail dt idx lost khz s
  | .safeOscMismatch dt khz => Sys2Proof.Machine.execSafeOscMismatch dt khz s
  | .sysReset dt src => Sys2Proof.Machine.execSysReset dt src s
  | .sysResetFire dt => Sys2Proof.Machine.execSysResetFire dt s
  | .strapChanged dt live => Sys2Proof.Machine.execStrapChanged dt live s
  | .fineStepCalibration dt => Sys2Proof.Machine.execFineStepCalibration dt s
  | .cplSteadyState dt samples => Sys2Proof.Machine.execCplSteadyState dt samples s
  | .dsfClkRegained dt pin => Sys2Proof.Machine.execDsfClkRegained dt pin s
  | .dsfStuckClear dt n bits => Sys2Proof.Machine.execDsfStuckClear dt n bits s
  | .dsfCompReturn dt n bits => Sys2Proof.Machine.execDsfCompReturn dt n bits s
  | .emuPassFollow dt j => Sys2Proof.Machine.execEmuPassFollow dt j s
  | .channelBEnableLapse dt => Sys2Proof.Machine.execChannelBEnableLapse dt s
  | .extFrameInvalid dt => Sys2Proof.Machine.execExtFrameInvalid dt s

end Sys2Proof.Machine
end

