-- ==== Sys2Proof/Machine/Pins.lean ====
section
/-! DEFINITION. The state of the output pins while their blocks do not drive them (Chapter 18, R476). -/

namespace Sys2Proof.Machine

open Sys2Proof

/-- Output groups of Table 18-4; an index names the pin, or the pair of pins, within its group. -/
inductive OutPin
  | shutter (n : Fin 28) (chB : Bool) | linkTx (k : Fin 24) | gate (n : Fin 16) | safeOut (j : Fin 8) | brake | pilotS2 | dsmClk (i : Fin 4)
  | emu (j : Fin 4) | posOut (n : Fin 8) | vclTx | canTx (n : Fin 6) | ethTx (n : Fin 2) | xspi | sealCom | tdo
  deriving DecidableEq, Repr

/-- State of an output: `held` is a gate held to its source, `driven` one that its block or the boot ROM drives. -/
inductive PinState
  | low | high | highZ | electricalIdle | held | off | driven
  deriving DecidableEq, Repr

/-- Column "Unpowered" of Table 18-4: all four rails absent. -/
def OutPin.unpowered : OutPin → PinState
  | .shutter _ _ | .brake | .pilotS2 => .low
  | .gate _ => .held
  | .safeOut _ => .off
  | .linkTx _ | .dsmClk _ | .emu _ | .posOut _ | .vclTx | .canTx _ | .ethTx _ | .xspi | .sealCom | .tdo => .highZ

/-- Column "In power-on reset and until configured" of Table 18-4. -/
def OutPin.atReset : OutPin → PinState
  | .shutter _ _ | .brake | .pilotS2 | .dsmClk _ | .emu _ => .low
  | .linkTx _ | .ethTx _ => .electricalIdle
  | .gate _ => .held
  | .safeOut _ => .off
  | .posOut _ | .vclTx | .canTx _ => .high
  | .xspi => .driven
  | .sealCom | .tdo => .highZ

/-- The block of the pin is configured: its page is enabled, its link has left DOWN and FAULT, a page selects the clock pin, the Shutter master is powered, a function holds the output or releases the brake, the debug port stands open, or the boot ROM and the seal reader run, from tick 0 (DEDUCED: the rule names no register that configures a block; log entry 17). -/
def Chip.pinConfigured (c : Chip) : OutPin → Bool
  | .shutter _ _ => c.domainOn 1
  | .linkTx k => c.lstate k != 0 && c.lstate k != 5
  | .gate n => c.en (pgBRG n)
  | .safeOut j => (c.fld ⟨.sio, 0⟩ Reg.SIO.SOUT_STAT_LEVEL).testBit j
  | .brake => c.fld ⟨.sbc, 0⟩ Reg.SBC.SBC_STAT_STATE == 1 || c.fld ⟨.sbc, 0⟩ Reg.SBC.SBC_STAT_STATE == 2
  | .pilotS2 => c.en pgCPL
  | .dsmClk i => (c.pinPages i).any fun n => c.en (pgDSF n)
  | .emu j => c.en (pgEMU j)
  | .posOut n => c.en (pgPOS n)
  | .vclTx => c.en pgVCL
  | .canTx n => c.en (pgCAN n)
  | .ethTx n => c.en (pgETH n)
  | .xspi | .sealCom => c.tideOn
  | .tdo => c.flag pgDBG Reg.DBG.DBG_STAT_PORT_OPEN

/-- CAN_TX of a controller is recessive: it is stopped, isolated or in bus-off, or its mode never drives the bus (R423, R424, Table 15-1). -/
def Chip.canRecessive (c : Chip) (n : Nat) : Bool :=
  !c.canLive n || c.act (pgCAN n) Reg.CAN.CAN_CFG_MODE == 1 || c.act (pgCAN n) Reg.CAN.CAN_CFG_MODE == 3

/-- State of an output of a powered device: that of Table 18-4 during power-on reset and until its block is configured; the block drives it from then on (R476). -/
def Chip.pin (c : Chip) (o : OutPin) : PinState :=
  if c.seqSt.released.isSome && c.pinConfigured o then
    (match o with
      | .canTx n => if c.canRecessive n then .high else .driven
      | .shutter n chB => if c.wireHigh (if chB then 28 + n.val else n.val) then .high else .low
      | _ => .driven)
  else o.atReset

end Sys2Proof.Machine
end

