-- ==== Sys2Proof/WellFormed.lean ====
section
/-! DEFINITION. Which commands some hardware could present: every command but those whose operands name a page that does not exist or a list of a shape that no hardware makes. `exec` answers a next state on every command; on one that names no page, only its time passes. -/

namespace Sys2Proof

/-- The operand names a register page with an address (Table 1-10). -/
def pageOk (p : Page) : Bool := p.valid && p.blk != .obj

/-- The fields of a CAN frame agree: a base identifier has 11 bits, a classical frame neither BRS nor ESI, a CAN FD frame no RTR, and at most 64 bytes follow (R409). -/
def frameOk (f : CanFrame) : Bool :=
  (f.ide || decide (f.id.toNat < 2 ^ 11)) && (f.fdf || (!f.brs && !f.esi)) && !(f.fdf && f.rtr) && decide (f.data.length ≤ 16)

/-- A boot header has 132 words (R441). -/
def imageOk (i : BootImage) : Bool := i.header.length == 132

/-- Cells of a store, each named once (R391). -/
def cellsOk (l : List Nat) : Bool := decide l.Nodup && l.all fun i => decide (i < 98304)

/-- The well-formed commands. -/
def Instr.wf : Instr → Bool
  | .holdingRead _ _ p _ => pageOk p
  | .evtPendClear _ _ p _ => pageOk p
  | .errClr _ _ p => pageOk p
  | .arbDecision _ _ reqs => decide (reqs.map Prod.fst).Nodup
  | .cellFault _ p _ => pageOk p
  | .regParityError _ p => pageOk p
  | .enClear _ _ p => pageOk p
  | .enSet _ _ p => pageOk p
  | .enApply _ p => pageOk p
  | .srst _ _ p => pageOk p
  | .srstComplete _ p => pageOk p
  | .commitGo _ _ p _ => pageOk p
  | .snapshotCheckDone _ p _ => pageOk p
  | .snapshotApply _ p => pageOk p
  | .commitDiscard _ _ p => pageOk p
  | .lockFirstWord _ _ p => pageOk p
  | .lockSecondWord _ _ p => pageOk p
  | .lockBadWord _ _ p _ => pageOk p
  | .lockBusyWrite _ _ p _ => pageOk p
  | .lockRelease _ _ p => pageOk p
  | .lockArmExpire _ _ p => pageOk p
  | .lockWindowExpire _ p => pageOk p
  | .trimSlewStep _ ext => decide (-1000000000 ≤ ext) && decide (ext ≤ 1000000000)
  | .sweepDone _ _ bad _ _ => cellsOk bad
  | .rebuildDone _ _ bad _ _ => cellsOk bad
  | .canRxFrame _ _ f => frameOk f
  | .ethRxFrame _ _ _ _ bs => decide (bs.length ≤ 9000)
  | .bootStart _ img => imageOk img
  | .bootEthFrame _ _ _ _ bs => decide (bs.length ≤ 1496)
  | .quayReloadDone _ img _ => imageOk img
  | .xspCmdDone _ data => decide (data.length ≤ 64)
  | .regWrite .. | .rcRead .. | .isoReq .. | .restart .. | .restartComplete .. | .interconnectTimeout .. | .regionFaultIsolate ..
    | .refLost .. | .refRegained .. | .xtalLoss .. | .xtalRegained .. | .tideUnlock .. | .fgStart .. | .frameBoundary ..
    | .bankCopyDone .. | .actionDispatch .. | .actionSample .. | .actionLaunch .. | .actionCapture .. | .actionVstep ..
    | .actionMark .. | .evsFifoDrain .. | .tapFifoDrain .. | .edgeEntry .. | .closeEntry .. | .closeDeadline ..
    | .patternTakeover .. | .gateEdgeDue .. | .patternEccError .. | .blockEnterSafe .. | .shutterCloseReport .. | .rearm ..
    | .linkTrain .. | .linkDown .. | .linkDesatClr .. | .linkRecal .. | .trainComplete .. | .trainTimeout .. | .calSend ..
    | .calEchoTimeout .. | .calComplete .. | .calPeriodExpire .. | .cfgSend .. | .edgeFrameSend .. | .edgeLate .. | .syncSend ..
    | .commaSend .. | .uplinkStatus .. | .uplinkState .. | .uplinkNtc .. | .uplinkSupply .. | .uplinkVce .. | .uplinkEcho ..
    | .uplinkCaps .. | .uplinkInvalid .. | .upTimeout .. | .ntcStale .. | .adcResultReady .. | .adcRefFault .. | .adcRefOk ..
    | .dsfResultReady .. | .dsfCompTrip .. | .dsfClkLost .. | .dsfStuck .. | .dsfSettled .. | .cplTransition .. | .cplOscLost ..
    | .cplS2 .. | .cplResultReady .. | .tsnConversion .. | .tsnResultReady .. | .tripClr .. | .slotSampleArrive .. | .runStart ..
    | .nop .. | .lds .. | .ldsRelease .. | .ldc .. | .ldm .. | .stm .. | .movi .. | .mulc .. | .mulx .. | .macc .. | .rdacc ..
    | .clra .. | .add .. | .sub .. | .addi .. | .shs .. | .min .. | .max .. | .abs .. | .neg .. | .cmp .. | .and .. | .or ..
    | .xor .. | .sincos .. | .div .. | .sqrt .. | .gett .. | .tadd .. | .taddi .. | .tsub .. | .edge .. | .close .. | .vcmd ..
    | .mbx .. | .mbx2 .. | .tap .. | .inj .. | .br .. | .endRun .. | .runOvertime .. | .runStallTimeout .. | .runUncorr ..
    | .coefCopyDone .. | .lawmemWrite .. | .sigReq .. | .sigDone .. | .mailboxPairRead .. | .captureWindowClose ..
    | .injWindowOpen .. | .injWindowClose .. | .serialFrameDone .. | .posWordsReady .. | .quadEdge .. | .quadIndex .. | .hallEdge ..
    | .stillTimeout .. | .posFaultClr .. | .zarm .. | .emuCountStep .. | .vclCmdAccept .. | .vclExtFrame .. | .vclExtTimeout ..
    | .vclAckSend .. | .cnvStart .. | .cnvStop .. | .cnvRestart .. | .brgCarrierStart .. | .bstMeasure .. | .cpFaultSet ..
    | .cpFaultClear .. | .vdsDetect .. | .vdsClr .. | .brgRearm .. | .selftest .. | .selftestDone .. | .vbrMeasure .. | .sscStart ..
    | .sscStop .. | .sscFaultClr .. | .sscCarrierStart .. | .listenEnd .. | .zeroCrossing .. | .stepLost .. | .commutation ..
    | .keSample .. | .brakeEnd .. | .alignEnd .. | .forcedStep .. | .stoppingEnd .. | .lockstepMismatch .. | .laneMismatch ..
    | .compTest .. | .coreScrub .. | .laneScrub .. | .debugHalt .. | .debugResume .. | .debugRegWrite .. | .wdKick ..
    | .wdTimeout .. | .tokenRelease .. | .takeover .. | .snapshotMarker .. | .snapshotDeadline .. | .switchReq .. | .quayReset ..
    | .bistDone .. | .bulkCopyDone .. | .singleExpire .. | .startupTake .. | .msgSend .. | .msgArrive .. | .msgPop .. | .lckForce ..
    | .kernelCycle .. | .sfWatchdog .. | .faultAssert .. | .fltClr .. | .fcTest .. | .shtDistribute .. | .shtWireClosed ..
    | .shtRunReport .. | .shtWireFault .. | .stoReq .. | .ss1Req .. | .ss1Expire .. | .safReset .. | .sinFilterChange ..
    | .sinDiscrepant .. | .sinChanLost .. | .sinFaultClr .. | .degrExpire .. | .soutCmd .. | .soutTestPulse .. | .soutFaultClr ..
    | .sbcRelease .. | .sbcEngage .. | .sbcDelayExpire .. | .sbcTestPulse .. | .btStart .. | .btSettleEnd .. | .btWindowEnd ..
    | .btOverdue .. | .sealRead .. | .sealProgram .. | .sealProgDone .. | .pushOpen .. | .pushData .. | .pushHoldExpire ..
    | .pushClose .. | .portWordWrite .. | .popData .. | .popSkip .. | .queFlush .. | .queReset .. | .freelistRebuild ..
    | .canSend .. | .canAbort .. | .canTxDone .. | .canAttemptFail .. | .objCfgWrite .. | .objHeadRead .. | .objLastRead ..
    | .objRelease .. | .canBusError .. | .canRecover .. | .canRecovered .. | .canTxqTake .. | .refMsgDue .. | .refMsgDrop ..
    | .ttWindowOpen .. | .ttWindowEnd .. | .ethTxFrame .. | .ethLinkChange .. | .syncApply .. | .bootLoad .. | .bootFail ..
    | .bootEthTimeout .. | .quayReload .. | .rollbackBurn .. | .revoke .. | .xspGo .. | .debugPortOpen .. | .dbgAttach ..
    | .scanInstruction .. | .tapReset .. | .porAssert .. | .strapLatch .. | .porRelease .. | .seqDomainOn .. | .seqRetry ..
    | .tideStart .. | .supWarn .. | .domOnReq .. | .domOffReq .. | .domGood .. | .domRampTimeout .. | .domOutOfRange ..
    | .pllFail .. | .safeOscMismatch .. | .sysReset .. | .sysResetFire .. | .strapChanged .. | .fineStepCalibration ..
    | .cplSteadyState .. | .dsfClkRegained .. | .dsfStuckClear .. | .dsfCompReturn .. | .emuPassFollow .. | .channelBEnableLapse ..
    | .extFrameInvalid .. => true

end Sys2Proof
end

