-- ==== Sys2Proof/Safety.lean ====
section
/-! DEFINITION. What holds of a sound state of the block, and the words in which claims about commands are made. -/

namespace Sys2Proof.Machine

open Sys2Proof

/-- The byte memories are in canonical form: addresses rise strictly, and no entry is 0, which an unlisted byte reads. -/
def Memory.wf (m : List Host.Cell) : Bool := SMap.wf (fun _ => (0 : Byte)) m

/-- The register store is in canonical form, and every entry is a value that its word can hold: reserved bits keep what they read at reset (R47), and no cell commands both of its gates on (R95, R294). -/
abbrev Chip.regsOk (c : Chip) : Prop :=
  SMap.wf (resetWord c.strap.toNat) c.regs = true ∧ ∀ e ∈ c.regs, regNorm c.strap.toNat e.1 e.2 = e.2

/-- The invariant of the block: its two stores are in their canonical forms. -/
abbrev Chip.Inv (c : Chip) : Prop := Memory.wf c.mem = true ∧ c.regsOk

/-- One byte of the byte memories. -/
def Chip.byte (c : Chip) (a : Nat) : Byte := SMap.get (fun _ => 0) c.mem a

/-- The chip when `dt` ticks have passed, just before the command that follows them takes effect. -/
def Chip.after (c : Chip) (dt : Nat) : Chip := (Prim.elapse dt).run c

/-- The chip when time has passed up to tick `t` of the Tide, if it lies ahead. -/
def Chip.atTick (c : Chip) (t : Nat) : Chip := (Prim.until_ t).run c

/-- The command completes: `exec` answers a next state whose queue is as before and whose chip satisfies `P`. -/
def Completes (i : Instr) (s : State) (P : Chip → Prop) : Prop :=
  ∃ t : State, exec i s = .next t ∧ t.pending = s.pending ∧ P t.chip

/-- The page exists and has an address of its own. -/
def pageAddressed (p : Page) : Bool := p.valid && p.blk != .obj

/-- The interconnect lets the access through, no port of a stopped pair is in the way, and the page serves it at once: no soft reset of the page is under way and no PUSH_DATA of the requester is held there (R21, R53, R326, R396). -/
def Chip.serves (c : Chip) (src : Src) (p : Page) (off : Nat) (write : Bool) : Bool :=
  pageAddressed p && (src != .debug || c.flag pgDBG Reg.DBG.DBG_STAT_PORT_OPEN) && c.portOpen src && c.respond src (p.base + off) 32 write == .ok &&
    (c.pst p).srstDue.isNone &&
    !(p.blk == .que && (c.que p.idx).held.isSome && (match (c.que p.idx).opened with | some o => o.holder == some src | none => false))

/-- The page belongs to the mirror, and the other Quay mirrors to the Quay of the page: the page takes no write of its own requesters (R341). -/
def Chip.mirrorShuts (c : Chip) (p : Page) : Bool := (mirrorPage p).isSome && c.mirrors (quayOfPage p).other

/-- The address lies in a page of one of the kinds. -/
def onPages (l : List Blk) (a : Nat) : Prop := ∃ b ∈ l, ∃ n, n < b.count ∧ b.base n ≤ a ∧ a < b.base n + 0x1000

/-! ### Lanes -/

/-- The word that the lane executes next; an all-zero word while no run can issue. -/
def Chip.nextWord (c : Chip) (q : Quay) (l : Nat) : LawWord := ((c.fetched q l).map Prod.fst).getD ⟨0, 0, 0, 0, 0, 0⟩

/-- The tick of the Tide at which the lane's run was launched. -/
def Chip.launchTick (c : Chip) (q : Quay) (l : Nat) : Nat := ((c.laneOf q l).run.map fun r => r.launch.tL).getD 0

/-- The cycle in which the lane's next word issues, when it waits for these resources (R181). -/
def Chip.issueAt (c : Chip) (q : Quay) (l : Nat) (srcs : List Nat) : Nat :=
  ((c.laneOf q l).run.map fun r => c.issueCycle q l r srcs).getD 0

/-- The lane executes a legal word with this opcode next, within its budget (R185, R186). -/
def Chip.issues (c : Chip) (q : Quay) (l op : Nat) (srcs : LawWord → List Nat) : Bool :=
  match c.fetched q l with
  | some (w, r) => w.op == op && w.legal && decide (r.pc ≤ 32767) && decide (c.issueCycle q l r (srcs w) < r.budget)
  | none => false

/-- The lane fetches a word that is no instruction (R186). -/
def Chip.fetchesIllegal (c : Chip) (q : Quay) (l : Nat) : Bool :=
  match c.fetched q l with
  | some (w, r) => !w.legal || decide (32767 < r.pc)
  | none => false

/-- The cycle from which a resource is ready: X at 0, T at 64, ACC at 80, Z and N at 82, V at 83, S at 84, the divider at 85. -/
def LaneSt.readyAt (s : LaneSt) (k : Nat) : Nat := SMap.get (fun _ => 0) s.ready k

/-- Of the registers of a lane, only X registers in `xs`, T registers in `ts` and accumulators in `as_` have changed. -/
def LaneSt.keepsBut (s t : LaneSt) (xs ts as_ : List Nat) : Bool :=
  ((List.range 64).all fun i => xs.contains i || t.xr i == s.xr i) && ((List.range 16).all fun i => ts.contains i || t.tr i == s.tr i) &&
    ((List.range 2).all fun i => as_.contains i || t.acc i == s.acc i) && t.queue == s.queue && t.halted == s.halted

/-- The run goes on with the next word, which issues no earlier than a cycle after this one. -/
def Chip.lawNext (c d : Chip) (q : Quay) (l : Nat) (srcs : List Nat) : Bool :=
  (d.laneOf q l).run == (c.laneOf q l).run.map fun r => { r with pc := r.pc + 1, cyc := c.issueAt q l srcs + 1 }

/-- No other lane, no register and no byte of memory has changed. -/
def Chip.laneOnly (c d : Chip) (q : Quay) (l : Nat) : Bool :=
  d.regs == c.regs && d.mem == c.mem && (List.range 16).all fun k => k == laneKey q l || d.lane k == c.lane k

/-- A value limited to 32 bits, and whether the limit changes it (R192). -/
def clamp32 (v : Int) : Int := max (-2147483648) (min 2147483647 v)
def beyond32 (v : Int) : Bool := decide (v < -2147483648) || decide (2147483647 < v)

/-! ### Quays -/

/-- Quay `q` has faulted with this code: Q_FAULT is raised; an ACTIVE Quay is to release the token, one in RESYNC, STANDBY or HANDOVER goes to RESET, or to FAILED at its fourth fault, and any other stays where it is (R334 to R336). -/
def Chip.quayFaulted (c d : Chip) (q : Quay) (code : Nat) : Bool :=
  d.bitAt pgFLT8 Reg.FLT8.RAW (fQ_FAULT q) &&
    (match c.qstate q with
      | 4 => d.qstate q == 4 && d.redSt.pend == some (c.redSt.pend.getD (q, code, d.t))
      | 2 | 3 | 6 => d.qstate q == (if c.fld (pgQCTL q) Reg.QCTL.Q_STAT_FAULTS = 3 then 5 else 0) &&
          d.fld (pgQCTL q) Reg.QCTL.Q_STAT_LAST_CAUSE == code
      | _ => d.qstate q == c.qstate q)

/-! ### Frames -/

/-- The parts of the chip beside its registers, its clock and the answer of the latest access. -/
inductive Part
  | tideOn | strap | owner | free | mem | pages | arbs | streams | legs | blks | links | faults | adcs | dsfs | tsns | temps | lanes | slots | taps
  | engs | gwys | tracs | convs | chgs | poss | emus | brgs | sscs | ques | stores | ports | cans | objs | eths | sins | quays | tideS | cplS
  | deliveries | outbox | vcmds | capWins | cnvS | bootS | fuse | dbgS | safS | brakeS | sealS | seqS | redS
  deriving DecidableEq, Repr

/-- The part is as before. -/
def Chip.samePart (c d : Chip) : Part → Bool
  | .tideOn => d.tideOn == c.tideOn
  | .strap => d.strap == c.strap
  | .owner => d.owner == c.owner
  | .free => d.free == c.free
  | .mem => d.mem == c.mem
  | .pages => d.pages == c.pages
  | .arbs => d.arbs == c.arbs
  | .streams => d.streams == c.streams
  | .legs => d.legs == c.legs
  | .blks => d.blks == c.blks
  | .links => d.links == c.links
  | .faults => d.faults == c.faults
  | .adcs => d.adcs == c.adcs
  | .dsfs => d.dsfs == c.dsfs
  | .tsns => d.tsns == c.tsns
  | .temps => d.temps == c.temps
  | .lanes => d.lanes == c.lanes
  | .slots => d.slotMem == c.slotMem
  | .taps => d.taps == c.taps
  | .engs => d.engs == c.engs
  | .gwys => d.gwys == c.gwys
  | .tracs => d.tracs == c.tracs
  | .convs => d.convs == c.convs
  | .chgs => d.chgs == c.chgs
  | .poss => d.poss == c.poss
  | .emus => d.emus == c.emus
  | .brgs => d.brgs == c.brgs
  | .sscs => d.sscs == c.sscs
  | .ques => d.ques == c.ques
  | .stores => d.stores == c.stores
  | .ports => d.ports == c.ports
  | .cans => d.cans == c.cans
  | .objs => d.objs == c.objs
  | .eths => d.eths == c.eths
  | .sins => d.sins == c.sins
  | .quays => d.quays == c.quays
  | .tideS => d.tideSt == c.tideSt
  | .cplS => d.cplSt == c.cplSt
  | .deliveries => d.deliveries == c.deliveries
  | .outbox => d.outbox == c.outbox
  | .vcmds => d.vcmds == c.vcmds
  | .capWins => d.capWins == c.capWins
  | .cnvS => d.cnvSt == c.cnvSt
  | .bootS => d.bootSt == c.bootSt
  | .fuse => d.fuse == c.fuse
  | .dbgS => d.dbgSt == c.dbgSt
  | .safS => d.safSt == c.safSt
  | .brakeS => d.brakeSt == c.brakeSt
  | .sealS => d.sealSt == c.sealSt
  | .seqS => d.seqSt == c.seqSt
  | .redS => d.redSt == c.redSt

/-- Every register word outside the pages of these kinds and outside these pages is as before. -/
def Chip.sameWords (c d : Chip) (ks : List Blk) (ps : List Page) : Prop :=
  ∀ a, ¬ onPages ks a → (∀ p ∈ ps, a < p.base ∨ p.base + 0x1000 ≤ a) → d.word a = c.word a

/-- Every part that is not listed is as before. -/
def Chip.sameParts (c d : Chip) (xs : List Part) : Prop := ∀ x, x ∉ xs → c.samePart d x = true

/-- The command completes; it writes no register word outside the pages of the kinds `ks` and the pages `ps`, and no part of the chip but `xs`. -/
def Framed (i : Instr) (s : State) (ks : List Blk) (ps : List Page) (xs : List Part) : Prop :=
  Completes i s fun d => s.chip.sameWords d ks ps ∧ s.chip.sameParts d xs

/-- The command completes and writes no part of the chip but its registers and `xs`. -/
def FramedParts (i : Instr) (s : State) (xs : List Part) : Prop := Completes i s fun d => s.chip.sameParts d xs

end Sys2Proof.Machine
end

