-- ==== Sys2Proof/Certificates/Slice0/Obligations.lean ====
section
/-! DEFINITION. The statements for the provers. -/

open Sys2Proof Sys2Proof.Machine

/-- On a page that serves the access and that no mirror of the other Quay holds, LOCK_FIRST_WORD arms the requester; LOCK_SECOND_WORD of an armed requester opens the window for it, for 8,192 cycles, and clears FAILS; LOCK_BAD_WORD counts a failure (at most 3), records error 0x0C with the requester and locks out at the third; LOCK_BUSY_WRITE while another requester holds the window leaves the window with its holder and records 0x10; LOCK_RELEASE by the holder closes it; LOCK_ARM_EXPIRE disarms and LOCK_WINDOW_EXPIRE closes, each no earlier than its time. That an expired window (a command that comes late) counts as closed at the next access is the model's own reading (log entry 4). -/
def Obligations.KeyWordsOpenTheWindow : Prop :=
  (∀ (dt : Nat) (src : Src) (p : Page) (s : State),
      let c := s.chip.after dt
      c.serves src p 0x024 true → c.mirrorShuts p = false → (c.pst p).holder = none → c.flag p Reg.HDR.LOCK_LOCKOUT = false →
      Completes (.lockFirstWord dt src p) s fun d =>
        d.resp = 0 ∧ (src.code, c.now) ∈ (d.pst p).armed ∧ d.fld p Reg.HDR.LOCK_ARMED = 1) ∧
  (∀ (dt : Nat) (src : Src) (p : Page) (s : State),
      let c := s.chip.after dt
      c.serves src p 0x024 true → c.mirrorShuts p = false → (c.pst p).holder = none → c.flag p Reg.HDR.LOCK_LOCKOUT = false → ((c.pst p).armed.any fun e => e.1 == src.code && decide (c.now ≤ e.2 + 640)) →
      Completes (.lockSecondWord dt src p) s fun d =>
        (d.pst p).holder = some (src.code, c.now) ∧ d.fld p Reg.HDR.LOCK_OPEN = 1 ∧ d.fld p Reg.HDR.LOCK_OWNER = src.code ∧ d.fld p Reg.HDR.LOCK_REMAIN = 8192 ∧ d.fld p Reg.HDR.LOCK_FAILS = 0) ∧
  (∀ (dt : Nat) (src : Src) (p : Page) (v : Word) (s : State),
      let c := s.chip.after dt
      c.serves src p 0x024 true → c.mirrorShuts p = false → (c.pst p).holder = none → c.flag p Reg.HDR.LOCK_LOCKOUT = false → v ≠ 0 → v ≠ firstWord p → v ≠ secondWord p →
      Completes (.lockBadWord dt src p v) s fun d =>
        d.fld p Reg.HDR.LOCK_FAILS = Nat.min (c.fld p Reg.HDR.LOCK_FAILS + 1) 3 ∧ (d.fld p Reg.HDR.LOCK_LOCKOUT = if 2 ≤ c.fld p Reg.HDR.LOCK_FAILS then 1 else 0) ∧ d.fld p Reg.HDR.ERR_CODE_LAST = c.lastErr p 0x0C ∧ (c.lastErr p 0x0C = 0x0C → d.fld p Reg.HDR.ERR_CODE_SRC = src.code)) ∧
  (∀ (dt : Nat) (src : Src) (p : Page) (v : Word) (s : State),
      let c := s.chip.after dt
      c.serves src p 0x024 true → c.mirrorShuts p = false → ((c.pst p).holder.any fun e => e.1 != src.code && decide (c.now < e.2 + 20480)) →
      Completes (.lockBusyWrite dt src p v) s fun d =>
        (d.pst p).holder = (c.pst p).holder ∧ d.fld p Reg.HDR.LOCK_OPEN = c.fld p Reg.HDR.LOCK_OPEN ∧ d.fld p Reg.HDR.ERR_CODE_LAST = c.lastErr p 0x10 ∧ (c.lastErr p 0x10 = 0x10 → d.fld p Reg.HDR.ERR_CODE_SRC = src.code)) ∧
  (∀ (dt : Nat) (src : Src) (p : Page) (s : State),
      let c := s.chip.after dt
      c.serves src p 0x024 true → c.mirrorShuts p = false → ((c.pst p).holder.any fun e => e.1 == src.code && decide (c.now < e.2 + 20480)) →
      Completes (.lockRelease dt src p) s fun d =>
        (d.pst p).holder = none ∧ d.fld p Reg.HDR.LOCK_OPEN = 0 ∧ d.fld p Reg.HDR.LOCK_OWNER = 0 ∧ d.fld p Reg.HDR.LOCK_REMAIN = 0) ∧
  (∀ (dt : Nat) (src : Src) (p : Page) (s : State),
      let c := s.chip.after dt
      pageAddressed p → ((c.pst p).armed.any fun e => e.1 == src.code) →
      Completes (.lockArmExpire dt src p) s fun d =>
        ((d.pst p).armed.all fun e => e.1 != src.code) ∧ (d.fld p Reg.HDR.LOCK_ARMED = if (d.pst p).armed = [] then 0 else 1) ∧ (((c.pst p).armed.find? fun e => e.1 == src.code).all fun e => decide (e.2 + 640 ≤ d.now))) ∧
  (∀ (dt : Nat) (p : Page) (s : State),
      let c := s.chip.after dt
      pageAddressed p → (c.pst p).holder.isSome →
      Completes (.lockWindowExpire dt p) s fun d =>
        (d.pst p).holder = none ∧ d.fld p Reg.HDR.LOCK_OPEN = 0 ∧ d.fld p Reg.HDR.LOCK_REMAIN = 0 ∧ ((c.pst p).holder.all fun e => decide (e.2 + 20480 ≤ d.now)))

/-- On a page alone in its group that is neither mirrored nor copying a bank, an accepted GO adds one unchecked snapshot, assigned at acceptance to now (EN = 0) or to a boundary (EN = 1), clears DIRTY and counts. SNAPSHOT_CHECK_DONE removes a snapshot that fails (one with a parity error with code 0x02) and records REJECTED, and marks one that passes. SNAPSHOT_APPLY of a page with a due snapshot leaves none due. COMMIT_DISCARD clears DIRTY and cancels the group's snapshots. The copies of the action and coefficient banks end COPY_BUSY and the copy, not before their tick. -/
def Obligations.CommitsTakeAndApplySnapshots : Prop :=
  (∀ (dt : Nat) (src : Src) (p : Page) (discard : Bool) (s : State),
      let c := s.chip.after dt
      let plain := !p.grouped && (mirrorPage p).isNone
      c.serves src p 0x028 true → plain → discard = false → (c.pst p).copyDue = none → (c.pst p).holder = none →
      Completes (.commitGo dt src p discard) s fun d =>
        (d.pst p).snaps.length = (c.pst p).snaps.length + 1 ∧ ((d.pst p).snaps.getLast?.any fun x => x.ok.isNone && x.src == src.code && decide (x.at_ = c.t) && x.wait == (if c.en p then c.boundaryWait p else 0)) ∧ d.fld p Reg.HDR.PAGE_STAT_DIRTY = 0 ∧ d.fld p Reg.HDR.COMMIT_ACCEPT_CNT = (c.fld p Reg.HDR.COMMIT_ACCEPT_CNT + 1) % 65536) ∧
  (∀ (dt : Nat) (p : Page) (parity : Bool) (s : State),
      let c := s.chip.after dt
      let x := (c.pst p).snaps.head?
      pageAddressed p → p.grouped = false → (x.any fun x => x.ok.isNone) →
      Completes (.snapshotCheckDone dt p parity) s fun d =>
        (d.pst p).snaps.length ≤ (c.pst p).snaps.length ∧ ((d.pst p).snaps.all fun y => y.ok != some false) ∧ ((d.pst p).snaps.length = (c.pst p).snaps.length → ((d.pst p).snaps.head?.any fun y => y.ok == some true)) ∧ ((d.pst p).snaps.length < (c.pst p).snaps.length → d.fld p Reg.HDR.COMMIT_REJECTED = 1) ∧ (parity = true → ((d.pst p).snaps.length < (c.pst p).snaps.length ∧ d.fld p Reg.HDR.ERR_CODE_LAST = c.lastErr p 2))) ∧
  (∀ (dt : Nat) (p : Page) (s : State),
      let c := s.chip.after dt
      let lead := leadOf p
      pageAddressed p → ((c.pst lead).snaps.any Snap.due) →
      Completes (.snapshotApply dt p) s fun d =>
        ((d.pst lead).snaps.all fun x => !x.due) ∧ d.now = c.now) ∧
  (∀ (dt : Nat) (src : Src) (p : Page) (s : State),
      let c := s.chip.after dt
      c.serves src p 0x028 true → p.grouped = false → (mirrorPage p).isNone →
      Completes (.commitDiscard dt src p) s fun d =>
        d.fld p Reg.HDR.PAGE_STAT_DIRTY = 0 ∧ (d.pst p).snaps = [] ∧ (d.pst p).holder = none) ∧
  (∀ (dt : Nat) (s : State),
      let c := s.chip.after dt
      (c.pst pgACT).copyDue.isSome → ((c.pst pgACT).held.all fun x => match x with | .write _ _ _ => true | .go _ => false) →
      Completes (.bankCopyDone dt) s fun d =>
        (d.pst pgACT).copyDue = none ∧ (d.pst pgACT).held = [] ∧ d.fld pgACT Reg.ACT.ACT_STAT_COPY_BUSY = 0) ∧
  (∀ (dt : Nat) (q : Quay) (s : State),
      let c := s.chip.after dt
      (c.pst (pgENG q)).copyDue.isSome → ((c.pst (pgENG q)).held.all fun x => match x with | .write _ _ _ => true | .go _ => false) →
      Completes (.coefCopyDone dt q) s fun d =>
        (d.pst (pgENG q)).copyDue = none ∧ d.fld (pgENG q) Reg.ENG.ENG_STAT_COPY_BUSY = 0)

/-- A write of EN = 1 to a stopped page of a running generator reads back at once and waits for one or two boundaries (EN_SET); at its boundary EN = 1 takes effect unless the active set fails a check, which records 0x09 (EN_APPLY). EN = 0 of a page that may stop takes effect at once (EN_CLEAR). SRST makes the page busy, ends its snapshots and key window and completes 160 ticks later (SRST, SRST_COMPLETE). A stopped generator that passes its checks starts at count 0 with a boundary at least 250 ticks ahead (FG_START). -/
def Obligations.EnableAndSoftResetOfPages : Prop :=
  (∀ (dt : Nat) (src : Src) (p : Page) (s : State),
      let c := s.chip.after dt
      c.serves src p 0x008 true → p.blk ≠ .fg → p.blk ≠ .brg → p.blk ≠ .ssc → (mirrorPage p).isNone → c.en p = false → c.fgOn (c.fgOf p) →
      Completes (.enSet dt src p) s fun d =>
        d.fld p Reg.HDR.PAGE_CTRL_EN = 1 ∧ (d.pst p).enWait = some (c.boundaryWait p, src.code) ∧ d.fld p Reg.HDR.PAGE_STAT_ENABLED = c.fld p Reg.HDR.PAGE_STAT_ENABLED) ∧
  (∀ (dt : Nat) (p : Page) (s : State),
      let c := s.chip.after dt
      pageAddressed p → ((c.pst p).enWait.any fun e => e.1 == 0) →
      Completes (.enApply dt p) s fun d =>
        (d.pst p).enWait = none ∧ ((c.activeFails p || c.legMissing p || !c.fgOn (c.fgOf p)) = true → (d.fld p Reg.HDR.PAGE_CTRL_EN = 0 ∧ d.fld p Reg.HDR.ERR_CODE_LAST = c.lastErr p 9)) ∧ ((c.activeFails p || c.legMissing p || !c.fgOn (c.fgOf p)) = false → d.fld p Reg.HDR.PAGE_STAT_ENABLED = 1)) ∧
  (∀ (dt : Nat) (src : Src) (p : Page) (s : State),
      let c := s.chip.after dt
      c.serves src p 0x008 true → (c.stopRefused p).isNone → (mirrorPage p).isNone →
      Completes (.enClear dt src p) s fun d =>
        d.fld p Reg.HDR.PAGE_CTRL_EN = 0 ∧ d.fld p Reg.HDR.PAGE_STAT_ENABLED = 0 ∧ (d.pst p).enWait = none) ∧
  (∀ (dt : Nat) (src : Src) (p : Page) (s : State),
      let c := s.chip.after dt
      c.serves src p 0x008 true → (c.stopRefused p).isNone → (!p.hasLock || c.windowHeld p src) → (mirrorPage p).isNone →
      Completes (.srst dt src p) s fun d =>
        d.fld p Reg.HDR.PAGE_STAT_BUSY = 1 ∧ (d.pst p).srstDue = some (c.now + 160) ∧ (d.pst p).snaps = [] ∧ (d.pst p).holder = none) ∧
  (∀ (dt : Nat) (p : Page) (s : State),
      let c := s.chip.after dt
      pageAddressed p → (c.pst p).srstDue.isSome →
      Completes (.srstComplete dt p) s fun d =>
        (d.pst p).srstDue = none ∧ d.fld p Reg.HDR.PAGE_STAT_BUSY = 0 ∧ ((c.pst p).srstDue.all fun t => decide (t ≤ d.now))) ∧
  (∀ (dt : Nat) (src : Src) (g : Fin 8) (s : State),
      let c := s.chip.after dt
      c.serves src (pgFG g) 0x008 true → c.on (pgFG g) = false → c.activeFails (pgFG g) = false →
      Completes (.fgStart dt src g) s fun d =>
        c.t + 250 ≤ c.fgFirst g ∧ (c.fgFirst g < 2 ^ 64 → d.fgNext g = c.fgFirst g) ∧ d.fgCount g = 0 ∧ d.fld (pgFG g) Reg.HDR.PAGE_STAT_ENABLED = 1)

/-- A write to a word of unprotected ST fields of a page that no mirror carries stores what the word can hold and sets DIRTY (REG_WRITE). A read of a register returns what the register shows, clears the RC fields of the word when the requester may write the page, and of a LO word keeps the HI word for the same requester; a watermark is returned as the read has taken it. A read of a memory or of a bank window returns its contents, and ends with UNCORR when its check finds an uncorrectable error (RC_READ). A read of a LO word returns it and keeps the HI word for the same requester (HOLDING_READ). A write to EVT_PEND clears the event bits that it names, and those of LEVEL events whose condition still holds stand again (EVT_PEND_CLEAR). ERR_CODE.CLR clears LAST, FIRST and SRC and leaves the count (ERR_CLR). On a page that the mirror of the other Quay holds, both change nothing there and count in MIRROR_BLOCKED. -/
def Obligations.RegisterAccessesReadAndWrite : Prop :=
  (∀ (dt : Nat) (src : Src) (a : BitVec 32) (size : Fin 3) (v : Word) (s : State),
      let c := s.chip.after dt
      let p := (pageOf a.toNat).getD pgTIDE
      let off := a.toNat % 4096
      let fs := p.fields.filter fun f => f.covers off
      (pageOf a.toNat).isSome → c.serves src p off true → size = 2 → 0x040 ≤ off → off < 0x800 → !fs.isEmpty → (fs.all fun f => f.acc == .st && !f.lock) → p.blk ≠ .can → (mirrorPage p).isNone → c.absent p off = false →
      Completes (.regWrite dt src a size v) s fun d =>
        d.resp = 0 ∧ d.word a.toNat = regNorm c.strap.toNat a.toNat v ∧ d.fld p Reg.HDR.PAGE_STAT_DIRTY = 1) ∧
  (∀ (dt : Nat) (src : Src) (a : BitVec 32) (size : Fin 3) (ecc : Fin 3) (s : State),
      let c := s.chip.after dt
      let p := (pageOf a.toNat).getD pgTIDE
      let off := a.toNat % 4096
      (pageOf a.toNat).isSome → c.serves src p off false → size = 2 → (p.blk ≠ .evs ∨ off < 0x200 ∨ 0x400 ≤ off) → (p.blk ≠ .can ∨ off < 0x104 ∨ 0x180 ≤ off) → (p.blk ≠ .que ∨ (off ≠ 0x060 ∧ off ≠ 0x064)) → (p.blk ≠ .dbg ∨ src ≠ .debug) →
      Completes (.rcRead dt src a size ecc) s fun d =>
        d.resp = 0 ∧ d.rdata = c.readReg src p off ∧ (c.mayWrite src p.region → (p.fields.filter fun f => f.covers off && f.acc == .rc).all fun f => (d.word a.toNat &&& f.mask off) == (f.resetWord c.strap.toNat off &&& f.mask off)) ∧ (holdingLo p off → (d.pst p).holding.find? (fun x => x.1 == src.code && x.2.1 == off + 4) = some (src.code, off + 4, c.shown p (off + 4)))) ∧
  (∀ (dt : Nat) (src : Src) (a : BitVec 32) (size : Fin 3) (ecc : Fin 3) (s : State),
      let c := s.chip.after dt
      let n := (pageOf a.toNat).getD pgTIDE
      let off := a.toNat % 4096
      (pageOf a.toNat).isSome → n.blk = .evs → 0x200 ≤ off → off < 0x400 → c.serves src n off false → size = 2 →
      Completes (.rcRead dt src a size ecc) s fun d =>
        d.resp = 0 ∧ d.rdata = d.readReg src n off) ∧
  (∀ (dt : Nat) (src : Src) (a : BitVec 32) (size : Fin 3) (ecc : Fin 3) (s : State),
      let c := s.chip.after dt
      ((match c.target src a.toNat with | .page _ | .none => false | .window => (mailboxOf a.toNat).isNone | _ => true) = true) → c.respond src a.toNat (8 * 2 ^ size.val) false = .ok → c.portOpen src → (src ≠ .debug ∨ c.flag pgDBG Reg.DBG.DBG_STAT_PORT_OPEN) →
      Completes (.rcRead dt src a size ecc) s fun d =>
        (ecc ≠ 2 → d.resp = 0) ∧ (ecc ≠ 2 → d.rdata = (match c.target src a.toNat with | .window => c.bankRead a.toNat | .sram q => c.bytesAt (sramAddr q a.toNat) (2 ^ size.val) | _ => c.bytesAt a.toNat (2 ^ size.val))) ∧ (ecc = 2 → d.resp = Resp.uncorr.code)) ∧
  (∀ (dt : Nat) (src : Src) (p : Page) (off : Fin 1024) (s : State),
      let c := s.chip.after dt
      let o := 4 * off.val
      holdingLo p o → c.serves src p o false →
      Completes (.holdingRead dt src p off) s fun d =>
        d.resp = 0 ∧ (p.blk ≠ .evs → d.rdata = c.readReg src p o) ∧ (p.blk ≠ .evs → (d.pst p).holding.find? (fun x => x.1 == src.code && x.2.1 == o + 4) = some (src.code, o + 4, c.shown p (o + 4))) ∧ (p.blk = .evs → d.rdata = d.readReg src p o) ∧ (p.blk = .evs → (d.pst p).holding.find? (fun x => x.1 == src.code && x.2.1 == o + 4) = some (src.code, o + 4, d.shown p (o + 4)))) ∧
  (∀ (dt : Nat) (src : Src) (p : Page) (v : Word) (s : State),
      let c := s.chip.after dt
      c.serves src p 0x018 true → c.mirrorShuts p = false →
      Completes (.evtPendClear dt src p v) s fun d =>
        d.resp = 0 ∧ BitVec.ofNat 32 (d.fld p Reg.HDR.EVT_RAW) = (BitVec.ofNat 32 (c.fld p Reg.HDR.EVT_RAW) &&& ~~~v) ||| BitVec.ofNat 32 (c.levels p) ∧ (p.blk ∈ [Blk.fg, .act, .evs, .eng, .lane, .inj, .irq, .lck] → BitVec.ofNat 32 (d.fld p Reg.HDR.EVT_RAW) = BitVec.ofNat 32 (c.fld p Reg.HDR.EVT_RAW) &&& ~~~v)) ∧
  (∀ (dt : Nat) (src : Src) (p : Page) (v : Word) (s : State),
      let c := s.chip.after dt
      c.serves src p 0x018 true → c.mirrorShuts p →
      Completes (.evtPendClear dt src p v) s fun d =>
        d.resp = 0 ∧ d.fld p Reg.HDR.EVT_RAW = c.fld p Reg.HDR.EVT_RAW ∧ d.fld (pgGWY (quayOfPage p)) Reg.GWY.MIRROR_BLOCKED = Nat.min (c.fld (pgGWY (quayOfPage p)) Reg.GWY.MIRROR_BLOCKED + 1) 0xFFFF) ∧
  (∀ (dt : Nat) (src : Src) (p : Page) (s : State),
      let c := s.chip.after dt
      c.serves src p 0x01C true → c.mirrorShuts p = false →
      Completes (.errClr dt src p) s fun d =>
        d.resp = 0 ∧ d.fld p Reg.HDR.ERR_CODE_LAST = 0 ∧ d.fld p Reg.HDR.ERR_CODE_FIRST = 0 ∧ d.fld p Reg.HDR.ERR_CODE_SRC = 0 ∧ d.fld p Reg.HDR.ERR_CNT = c.fld p Reg.HDR.ERR_CNT) ∧
  (∀ (dt : Nat) (src : Src) (p : Page) (s : State),
      let c := s.chip.after dt
      c.serves src p 0x01C true → c.mirrorShuts p →
      Completes (.errClr dt src p) s fun d =>
        d.resp = 0 ∧ d.fld p Reg.HDR.ERR_CODE_LAST = c.fld p Reg.HDR.ERR_CODE_LAST ∧ d.fld p Reg.HDR.ERR_CODE_FIRST = c.fld p Reg.HDR.ERR_CODE_FIRST ∧ d.fld (pgGWY (quayOfPage p)) Reg.GWY.MIRROR_BLOCKED = Nat.min (c.fld (pgGWY (quayOfPage p)) Reg.GWY.MIRROR_BLOCKED + 1) 0xFFFF)

/-- ISO_REQ of a region other than SF (with the key window for TD and SN) and REGION_FAULT_ISOLATE isolate it, with the cause. An access that its target has not answered for 2,048 cycles ends with TIMEOUT and isolates the region (INTERCONNECT_TIMEOUT). RESTART of a region that may restart makes it restart; RESTART_COMPLETE of a region from TD to BS ends with the region ready and no longer isolated. ARB_DECISION of a region or chip arbiter grants one pending request if there is one: the lowest promoted port, else one of the highest class pending; the others age. CELL_FAULT and REG_PARITY_ERROR are recorded and put a sensing cell into its safe reaction; a parity error of a leg cell takes its running block to SAFE. -/
def Obligations.RegionsIsolateAndRestart : Prop :=
  (∀ (dt : Nat) (src : Src) (r : Fin 8) (s : State),
      let c := s.chip.after dt
      let p := pgFLT r
      c.serves src p 0x044 true → r ≠ 7 → ((r ≠ 2 ∧ r ≠ 3) ∨ c.windowHeld p src = true) → c.isolated r = false →
      Completes (.isoReq dt src r) s fun d =>
        d.isolated r = true ∧ d.fld p Reg.FLTR.REG_STAT_READY = 0 ∧ d.fld p Reg.FLTR.REG_STAT_LAST_CAUSE = 4) ∧
  (∀ (dt : Nat) (src : Src) (r : Fin 8) (s : State),
      let c := s.chip.after dt
      let p := pgFLT r
      c.serves src p 0x044 true → c.mayRestart r →
      Completes (.restart dt src r) s fun d =>
        d.fld p Reg.FLTR.REG_STAT_RESTARTING = 1 ∧ d.fld p Reg.FLTR.REG_STAT_READY = 0) ∧
  (∀ (dt : Nat) (r : Fin 8) (s : State),
      let c := s.chip.after dt
      let p := pgFLT r
      2 ≤ r.val → r.val ≤ 6 → c.flag p Reg.FLTR.REG_STAT_RESTARTING →
      Completes (.restartComplete dt r) s fun d =>
        d.fld p Reg.FLTR.REG_STAT_RESTARTING = 0 ∧ d.isolated r = false ∧ d.fld p Reg.FLTR.REG_STAT_READY = 1) ∧
  (∀ (dt : Nat) (src : Src) (a : BitVec 32) (write : Bool) (waited : Nat) (s : State),
      let c := s.chip.after dt
      let r := (c.regionOf src a.toNat).getD 8
      2048 ≤ waited → src ≠ .debug → c.respond src a.toNat 32 write = .ok → c.portOpen src → r < 7 → c.isolated r = false →
      Completes (.interconnectTimeout dt src a write waited) s fun d =>
        d.resp = 6 ∧ d.isolated r = true ∧ d.now = c.now) ∧
  (∀ (dt : Nat) (r : Fin 8) (cause : Fin 4) (s : State),
      let c := s.chip.after dt
      r ≠ 7 → c.isolated r = false →
      Completes (.regionFaultIsolate dt r cause) s fun d =>
        d.isolated r = true ∧ d.fld (pgFLT r) Reg.FLTR.REG_STAT_LAST_CAUSE = [1, 2, 5, 6].getD cause.val 1) ∧
  (∀ (dt : Nat) (at_ : Arbiter) (reqs : List (Fin 16 × ArbClient)) (s : State),
      let c := s.chip.after dt
      let old := c.arb (arbiterKey at_)
      let th := arbiterThreshold at_
      let pend := old.pend ++ (reqs.map fun e => (e.1.val, clientClass e.2)).filter fun e => !(old.pend.any fun x => x.1 == e.1)
      ((match at_ with | .gangway _ => false | _ => true) = true) →
      Completes (.arbDecision dt at_ reqs) s fun d =>
        (d.arb (arbiterKey at_)).granted.isSome = !pend.isEmpty ∧ ((d.arb (arbiterKey at_)).pend = pend.filter fun e => (d.arb (arbiterKey at_)).granted != some e.1) ∧ (pend.all fun e => (d.arb (arbiterKey at_)).granted == some e.1 || (d.arb (arbiterKey at_)).ageOf e.1 == Nat.min (old.ageOf e.1 + 1) 255) ∧ ((d.arb (arbiterKey at_)).granted.all fun g => pend.any fun e => e.1 == g && (decide (th ≤ old.ageOf g) || (pend.all fun x => decide (old.ageOf x.1 < th) && decide (e.2 ≤ x.2)))) ∧ ((d.arb (arbiterKey at_)).granted.all fun g => (decide (old.ageOf g < th) || (pend.all fun x => decide (old.ageOf x.1 < th) || decide (g ≤ x.1))))) ∧
  (∀ (dt : Nat) (p : Page) (code : BitVec 8) (s : State),
      let c := s.chip.after dt
      pageAddressed p →
      Completes (.cellFault dt p code) s fun d =>
        d.fld p Reg.HDR.ERR_CODE_LAST = c.lastErr p code.toNat ∧ (c.lastErr p (code.toNat) = (code.toNat) → d.fld p Reg.HDR.ERR_CODE_SRC = 0xFF) ∧ (d.fld p Reg.HDR.EVT_RAW).testBit 31 ∧ (p.blk ∈ [Blk.leg, .adc, .dsf, .pos, .brg, .ssc] → d.fld p Reg.HDR.PAGE_STAT_SAFE = 1)) ∧
  (∀ (dt : Nat) (p : Page) (s : State),
      let c := s.chip.after dt
      pageAddressed p → p.blk ∈ [Blk.adc, .dsf, .pos, .ssc, .leg] →
      Completes (.regParityError dt p) s fun d =>
        (d.fld p Reg.HDR.EVT_RAW).testBit 31 ∧ d.fld p Reg.HDR.PAGE_STAT_SAFE = 1 ∧ (p.blk ≠ .leg → d.fld p Reg.HDR.ERR_CODE_LAST = c.lastErr p 1) ∧ ((p.blk = .leg ∧ c.bstate (p.idx / 4) ∈ [1, 2, 3]) → d.bstate (p.idx / 4) = 4))

/-- TRIM_SLEW_STEP in TRACKING or FREE moves the applied trim by at most SLEW, towards the target and never past it; a trim within ±100,000 ppb stays there. REF_LOST of the selected reference leaves the applied trim as it is; an EXT10M reference that is valid again counts as seen and not lost. -/
def Obligations.TrimSlewsWithinItsLimits : Prop :=
  (∀ (dt : Nat) (ext : Int) (s : State),
      let c := s.chip.after dt
      let v := signed 32 c.trim
      let r : Int := c.act pgTIDE Reg.TIDE.SLEW
      c.fld pgTIDE Reg.TIDE.REF_STAT_STATE ∈ [1, 3] →
      Completes (.trimSlewStep dt ext) s fun d =>
        signed 32 d.trim ≤ v + r ∧ v - r ≤ signed 32 d.trim ∧ ((-100000 ≤ v ∧ v ≤ 100000) → (-100000 ≤ signed 32 d.trim ∧ signed 32 d.trim ≤ 100000)) ∧ (v ≤ d.trimTarget → (v ≤ signed 32 d.trim ∧ signed 32 d.trim ≤ d.trimTarget)) ∧ (d.trimTarget ≤ v → (signed 32 d.trim ≤ v ∧ d.trimTarget ≤ signed 32 d.trim))) ∧
  (∀ (dt : Nat) (ext : Bool) (s : State),
      let c := s.chip.after dt
      c.tideSt.refLost = false → c.tideSt.refSeen → ((c.refSrc = 1 ∧ ext = true) ∨ (c.refSrc = 2 ∧ ext = false ∧ c.flag pgTIDE Reg.TIDE.REF_STAT_GPTP_OK = true)) →
      Completes (.refLost dt ext) s fun d =>
        d.tideSt.refLost = true ∧ d.trim = c.trim ∧ (d.fld pgTIDE (if c.refSrc = 1 then Reg.TIDE.REF_STAT_EXT_OK else Reg.TIDE.REF_STAT_GPTP_OK) = 0) ∧ (d.fld pgTIDE Reg.HDR.EVT_RAW).testBit 0) ∧
  (∀ (dt : Nat) (phase : Fin 250) (s : State),
      let c := s.chip.after dt
      c.refSrc = 1 →
      Completes (.refRegained dt phase) s fun d =>
        d.tideSt.refLost = false ∧ d.tideSt.refSeen ∧ d.tideSt.syncAt = c.t ∧ d.fld pgTIDE Reg.TIDE.REF_STAT_EXT_OK = 1 ∧ d.fld pgTIDE Reg.TIDE.REF_STAT_EXT_PHASE = phase.val ∧ d.trim = c.trim)

/-- XTAL_LOSS clears XTAL_OK on CLK and TIDE, sets HOLDOVER and raises fault XTAL_LOSS; XTAL_REGAINED sets and clears them again; TIDE_UNLOCK of a powered PLL that has not failed clears PLL_LOCK, sets SUSPECT and the PLL's FAULT bit and raises fault TIDE_UNLOCK. A fine-step calibration changes no register and no memory; that the model counts it is its own choice (log entry 30). -/
def Obligations.CrystalAndTidePllFaults : Prop :=
  (∀ (dt : Nat) (s : State),
      let c := s.chip.after dt
      c.flag pgCLK Reg.CLK.CLK_STAT_XTAL_OK →
      Completes (.xtalLoss dt) s fun d =>
        d.fld pgCLK Reg.CLK.CLK_STAT_XTAL_OK = 0 ∧ d.fld pgTIDE Reg.TIDE.REF_STAT_XTAL_OK = 0 ∧ d.fld pgCLK Reg.CLK.CLK_STAT_HOLDOVER = 1 ∧ d.tideSt.xtalLost ∧ d.bitAt pgFLT8 Reg.FLT8.RAW fXTAL_LOSS) ∧
  (∀ (dt : Nat) (s : State),
      let c := s.chip.after dt
      c.flag pgCLK Reg.CLK.CLK_STAT_XTAL_OK = false →
      Completes (.xtalRegained dt) s fun d =>
        d.fld pgCLK Reg.CLK.CLK_STAT_XTAL_OK = 1 ∧ d.fld pgTIDE Reg.TIDE.REF_STAT_XTAL_OK = 1 ∧ d.fld pgCLK Reg.CLK.CLK_STAT_HOLDOVER = 0 ∧ d.tideSt.xtalLost = false) ∧
  (∀ (dt : Nat) (s : State),
      let c := s.chip.after dt
      c.domainIsGood 5 → (c.fld pgCLK Reg.CLK.CLK_STAT_FAULT).testBit 1 = false →
      Completes (.tideUnlock dt) s fun d =>
        d.fld pgTIDE Reg.TIDE.REF_STAT_SUSPECT = 1 ∧ d.fld pgTIDE Reg.TIDE.REF_STAT_PLL_LOCK = 0 ∧ (d.fld pgCLK Reg.CLK.CLK_STAT_FAULT).testBit 1 ∧ d.bitAt pgFLT8 Reg.FLT8.RAW fTIDE_UNLOCK) ∧
  (∀ (dt : Nat) (s : State),
      let c := s.chip.after dt
      Completes (.fineStepCalibration dt) s fun d =>
        d.tideSt.calib = c.tideSt.calib + 1 ∧ d.regs = c.regs ∧ d.mem = c.mem)

/-- FRAME_BOUNDARY of a running generator counts its frame unless it is the first. ACTION_DISPATCH notes the entry with its due tick. A dispatched entry whose turn it is, that does not collide and finds fewer than 32 executed in the last 128 ticks executes at its due tick: a SAMPLE of a delta-sigma input queues its result, a LAUNCH of the active Quay with room places its request, a CAPTURE opens its window, a MARK writes its record where ACT is routed, a VSTEP of a VCL with another source is refused with reason SOURCE. -/
def Obligations.ActionsAreJudgedAtTheirDueTick : Prop :=
  (∀ (dt : Nat) (g : Fin 8) (s : State),
      let c := s.chip.after dt
      c.tideOn → c.fgOn g → c.tideSt.firsts.contains g.val = false →
      Completes (.frameBoundary dt g) s fun d =>
        d.fgCount g = (c.fgCount g + 1) % 2 ^ 32) ∧
  (∀ (dt : Nat) (i : Fin 256) (s : State),
      let c := s.chip.after dt
      let t := (c.dispatchDue i).getD 0
      (c.dispatchDue i).isSome → c.tideOn → c.actRuns t → c.tideSt.dispatched.contains (i.val, t) = false → c.tideSt.judged.contains (i.val, t) = false →
      Completes (.actionDispatch dt i) s fun d =>
        (i.val, t) ∈ d.tideSt.dispatched ∧ (t < 2 ^ 64 + 160 → d.t = Nat.max c.t (t - 160))) ∧
  (∀ (dt : Nat) (i : Fin 256) (s : State),
      let c := s.chip.after dt
      let e := c.action i
      let t := (c.dueOf i).getD 0
      (c.dueOf i).isSome → e.kind = akSAMPLE → e.abs = false → c.judgeable i t → c.collides i t = false → ((c.tideSt.executed.filter fun x => decide (t < x + 128) && decide (x ≤ t)).length < 32) →
      Completes (.actionSample dt i) s fun d =>
        (i.val, t) ∈ d.tideSt.judged ∧ t ∈ d.tideSt.executed ∧ (e.type = 0x08 → ((d.dsf e.inst).due.length = (c.dsf e.inst).due.length + 1 ∧ ((d.dsf e.inst).due.getLast?.any fun x => x.t == t) = true))) ∧
  (∀ (dt : Nat) (i : Fin 256) (s : State),
      let c := s.chip.after dt
      let e := c.action i
      let t := (c.dueOf i).getD 0
      let q := c.owner.getD .A
      (c.dueOf i).isSome → e.kind = akLAUNCH → e.abs = false → c.judgeable i t → c.collides i t = false → ((c.tideSt.executed.filter fun x => decide (t < x + 128) && decide (x ≤ t)).length < 32) → c.owner.isSome → c.qstate q = 4 → (c.laneOf q e.chan).queue.length < 4 → c.lawBusy q e.arg = false → e.arg < 1024 → c.en (pgLANE q e.chan) → c.en (pgENG q) →
      Completes (.actionLaunch dt i) s fun d =>
        (i.val, t) ∈ d.tideSt.judged ∧ t ∈ d.tideSt.executed ∧ (d.laneOf q e.chan).queue.length = (c.laneOf q e.chan).queue.length + 1 ∧ ((d.laneOf q e.chan).queue.getLast?.any fun x => x.law == e.arg && x.tL == t)) ∧
  (∀ (dt : Nat) (i : Fin 256) (s : State),
      let c := s.chip.after dt
      let e := c.action i
      let t := (c.dueOf i).getD 0
      (c.dueOf i).isSome → e.kind = akCAPTURE → e.abs = false → c.judgeable i t → c.collides i t = false → ((c.tideSt.executed.filter fun x => decide (t < x + 128) && decide (x ≤ t)).length < 32) →
      Completes (.actionCapture dt i) s fun d =>
        (i.val, t) ∈ d.tideSt.judged ∧ d.capWins = c.capWins ++ [(e.chan, t, t + 16 * e.arg)] ∧ (e.chan < 16 → (d.fld pgCAP Reg.CAP.WIN_STAT).testBit e.chan)) ∧
  (∀ (dt : Nat) (i : Fin 256) (s : State),
      let c := s.chip.after dt
      let e := c.action i
      let t := (c.dueOf i).getD 0
      (c.dueOf i).isSome → e.kind = akVSTEP → e.abs = false → c.judgeable i t → c.collides i t = false → ((c.tideSt.executed.filter fun x => decide (t < x + 128) && decide (x ≤ t)).length < 32) →
      Completes (.actionVstep dt i) s fun d =>
        (i.val, t) ∈ d.tideSt.judged ∧ t ∈ d.tideSt.executed ∧ ((c.on pgVCL ∧ c.act pgVCL Reg.VCL.VCL_CFG_SRC ≠ 1) → ((d.fld pgVCL Reg.VCL.LAST_ACK) / 16 % 256 = akREFUSED + 16 * reSOURCE)) ∧ (c.on pgVCL = false → d.fld pgVCL Reg.VCL.LAST_ACK = c.fld pgVCL Reg.VCL.LAST_ACK)) ∧
  (∀ (dt : Nat) (i : Fin 256) (s : State),
      let c := s.chip.after dt
      let e := c.action i
      let t := (c.dueOf i).getD 0
      (c.dueOf i).isSome → e.kind = akMARK → e.abs = false → c.judgeable i t → c.collides i t = false → ((c.tideSt.executed.filter fun x => decide (t < x + 128) && decide (x ≤ t)).length < 32) →
      Completes (.actionMark dt i) s fun d =>
        (i.val, t) ∈ d.tideSt.judged ∧ t ∈ d.tideSt.executed ∧ ((c.actFlag pgEVS Reg.EVS.ROUTE_EN pgACT.route = true ∧ (c.stream (pgACT.srcId 0)).fifo.length < 8) → (d.stream (pgACT.srcId 0)).fifo.length = (c.stream (pgACT.srcId 0)).fifo.length + 1))

/-- VCL_CMD_ACCEPT takes the oldest word; a valid SET of another lane than CMD_LANE is refused with reason SOURCE. A good external SET within the limits, with the VCL's source EXTERNAL and CNV able to take it, is queued for a boundary and accepted; a bad frame only counts (VCL_EXT_FRAME, EXT_FRAME_INVALID). After EXT_TIMEOUT the external command is lost (VCL_EXT_TIMEOUT). VCL_ACK_SEND sends the oldest acknowledgement as 0x5A, the word and its CRC. START is accepted in OFF with every block enabled, STOP always, RESTART in FAULT; a START that is refused records 0x43. -/
def Obligations.VoltageCommandsAreJudgedAndAcknowledged : Prop :=
  (∀ (dt : Nat) (s : State),
      let c := s.chip.after dt
      let x := c.vcmds.headD (.A, 0, 0#32, 0)
      c.vcmds ≠ [] →
      Completes (.vclCmdAccept dt) s fun d =>
        d.vcmds = c.vcmds.drop 1 ∧ ((c.owner = some x.1 ∧ c.on pgVCL = true ∧ vclValid x.2.2.1 = true ∧ x.2.2.1.bits 29 3 = 1 ∧ x.2.1 ≠ c.act pgVCL Reg.VCL.VCL_CFG_CMD_LANE) → (d.fld pgVCL Reg.VCL.LAST_ACK / 16 % 256 = akREFUSED + 16 * reSOURCE ∧ d.cnvSt.sets = c.cnvSt.sets))) ∧
  (∀ (dt : Nat) (w : Word) (crc : BitVec 8) (s : State),
      let c := s.chip.after dt
      c.on pgVCL → crc.toNat = crc8 (wordBytes w) → vclValid w → w.bits 29 3 = 1 → c.act pgVCL Reg.VCL.VCL_CFG_SRC = 2 → c.act pgVCL Reg.VCL.V_LIMITS_V_MIN ≤ w.bits 0 16 → w.bits 0 16 ≤ c.act pgVCL Reg.VCL.V_LIMITS_V_MAX → c.act pgVCL Reg.VCL.V_LIMITS_V_MAX ≠ 0 → c.cnvDown = false →
      Completes (.vclExtFrame dt w crc) s fun d =>
        d.cnvSt.sets = c.cnvSt.sets ++ [⟨c.firstBoundary (c.fgOf pgVCL) (c.t + 250), w, 2⟩] ∧ d.cnvSt.heard = c.t ∧ d.fld pgVCL Reg.VCL.VCL_STAT_EXT_OK = 1 ∧ d.fld pgVCL Reg.VCL.CMD_CNT = (c.fld pgVCL Reg.VCL.CMD_CNT + 1) % 2 ^ 32 ∧ d.fld pgVCL Reg.VCL.LAST_ACK / 16 % 256 = akACCEPTED) ∧
  (∀ (dt : Nat) (s : State),
      let c := s.chip.after dt
      c.on pgVCL →
      Completes (.extFrameInvalid dt) s fun d =>
        d.fld pgVCL Reg.VCL.EXT_ERR_CNT = Nat.min (c.fld pgVCL Reg.VCL.EXT_ERR_CNT + 1) 65535 ∧ d.cnvSt = c.cnvSt) ∧
  (∀ (dt : Nat) (s : State),
      let c := s.chip.after dt
      let ms := c.act pgVCL Reg.VCL.VCL_CFG_EXT_TIMEOUT
      c.on pgVCL → c.act pgVCL Reg.VCL.VCL_CFG_SRC = 2 → ms ≠ 0 → c.flag pgVCL Reg.VCL.VCL_STAT_EXT_LOST = false →
      Completes (.vclExtTimeout dt) s fun d =>
        d.cnvSt.abort_ ∧ d.fld pgVCL Reg.VCL.VCL_STAT_EXT_OK = 0 ∧ d.fld pgVCL Reg.VCL.VCL_STAT_EXT_LOST = 1 ∧ ((c.tideOn = true ∧ c.cnvSt.heard + 2500000 * ms < 2 ^ 64) → c.cnvSt.heard + 2500000 * ms ≤ d.t)) ∧
  (∀ (dt : Nat) (s : State),
      let c := s.chip.after dt
      let x := c.cnvSt.tx.headD 0#32
      c.cnvSt.tx ≠ [] →
      Completes (.vclAckSend dt) s fun d =>
        d.cnvSt.tx = c.cnvSt.tx.drop 1 ∧ d.cnvSt.sent = 0x5A :: (wordBytes x ++ [crc8 (wordBytes x)])) ∧
  (∀ (dt : Nat) (src : Src) (s : State),
      let c := s.chip.after dt
      let ok := c.cnvState == cvOFF && c.cnvBlocks.all fun k => c.en (pgLead k)
      c.serves src pgCNV 0x050 true →
      Completes (.cnvStart dt src) s fun d =>
        (ok = true → d.cnvSt.ctrl = c.cnvSt.ctrl ++ [(0, c.boundaryWait pgCNV)]) ∧ (ok = false → (d.fld pgCNV Reg.HDR.ERR_CODE_LAST = c.lastErr pgCNV 0x43 ∧ d.cnvSt.ctrl = c.cnvSt.ctrl))) ∧
  (∀ (dt : Nat) (src : Src) (s : State),
      let c := s.chip.after dt
      c.serves src pgCNV 0x050 true →
      Completes (.cnvStop dt src) s fun d =>
        d.cnvSt.ctrl = c.cnvSt.ctrl ++ [(1, c.boundaryWait pgCNV)]) ∧
  (∀ (dt : Nat) (src : Src) (s : State),
      let c := s.chip.after dt
      c.serves src pgCNV 0x050 true → c.cnvState = cvFAULT →
      Completes (.cnvRestart dt src) s fun d =>
        d.cnvSt.ctrl = c.cnvSt.ctrl ++ [(2, c.boundaryWait pgCNV)])

/-- The oldest entry on its way from the block's lane of the active Quay ends as Table 4-3 says: appended, closing, invalid, late and counted (not while SHUTTER_HOLD holds an ARMED block), or ignored. At the close deadline the legs take their bands, an armed block with a valid pattern runs, a second consecutive miss in HOLD goes to SAFE, and the next deadline lies one period later. PATTERN_TAKEOVER sets SOURCE of every leg that no rank 1 to 4 holds. GATE_EDGE_DUE drives the gate and never both, unless a source of rank 1 to 4 drives the leg and the edge is not its own. A fault takes a block in ARMED, RUN or HOLD to SAFE with its cause and raises its line; a Shutter report closes and ends RUN and HOLD; an accepted REARM makes it ARMED, and a REARM that is not accepted records 0x43. -/
def Obligations.LegBlocksShapeHoldAndStop : Prop :=
  (∀ (dt : Nat) (q : Quay) (lane : Fin 8) (k : Fin 24) (w0 w1 : Word) (s : State),
      let c := s.chip.after dt
      let lead := pgLead k
      let last : Int := c.fgLast (c.fgOf lead)
      let per : Int := c.fgPeriod (c.fgOf lead)
      let t := fullTick c.t w0.toNat
      let b := last + (t - last) / per * per
      let pat := (c.blk k).pattern b.toNat
      let out := match c.earliestOf k b.toNat with | some e => c.classify k c.t t b per w1 pat e | none => .late
      ((c.outbox.find? fun e => e.q == q && e.lane == lane.val && e.block == k.val) = some ⟨q, lane, k, w0, w1⟩) → c.owner = some q → c.isolated 2 = false → lane.val = c.act lead Reg.LEGL.BLK_CFG_LANE → c.bstate k ≠ 0 → c.bstate k ≠ 4 →
      Completes (.edgeEntry dt q lane k w0 w1) s fun d =>
        d.outbox = c.outbox.erase ⟨q, lane, k, w0, w1⟩ ∧ ((match out with | .append leg e => decide (((d.blk k).pattern b.toNat).edges = pat.edges ++ [(leg, e)]) | _ => true) = true) ∧ (out = .closes → ((d.blk k).pattern b.toNat).closed = true) ∧ ((match out with | .invalid _ => ((d.blk k).pattern b.toNat).cause.isSome | _ => true) = true) ∧ ((out = .late ∧ (c.bstate k ≠ 1 ∨ c.flag lead Reg.LEGL.BLK_STAT_SHUTTER_HOLD = false)) → d.fld lead Reg.LEGL.LATE_CNT = Nat.min (c.fld lead Reg.LEGL.LATE_CNT + 1) 65535) ∧ ((c.bstate k = 1 ∧ c.flag lead Reg.LEGL.BLK_STAT_SHUTTER_HOLD = true) → d.fld lead Reg.LEGL.LATE_CNT = c.fld lead Reg.LEGL.LATE_CNT) ∧ (out = .ignored → d.blk k = c.blk k)) ∧
  (∀ (dt : Nat) (q : Quay) (lane : Fin 8) (k : Fin 24) (w0 w1 : Word) (s : State),
      let c := s.chip.after dt
      let lead := pgLead k
      let last : Int := c.fgLast (c.fgOf lead)
      let per : Int := c.fgPeriod (c.fgOf lead)
      let t := fullTick c.t w0.toNat
      let b := last + (t - last) / per * per
      let pat := (c.blk k).pattern b.toNat
      let out := match c.earliestOf k b.toNat with | some e => c.classify k c.t t b per (w1.setBits 4 3 0) pat e | none => .late
      ((c.outbox.find? fun e => e.q == q && e.lane == lane.val && e.block == k.val) = some ⟨q, lane, k, w0, w1.setBits 4 3 0⟩) → c.owner = some q → c.isolated 2 = false → lane.val = c.act lead Reg.LEGL.BLK_CFG_LANE → c.bstate k ≠ 0 → c.bstate k ≠ 4 →
      Completes (.closeEntry dt q lane k w0 w1) s fun d =>
        d.outbox = c.outbox.erase ⟨q, lane, k, w0, w1.setBits 4 3 0⟩ ∧ (out = .closes → ((d.blk k).pattern b.toNat).closed = true) ∧ ((match out with | .invalid _ => ((d.blk k).pattern b.toNat).cause.isSome | _ => true) = true) ∧ ((out = .late ∧ (c.bstate k ≠ 1 ∨ c.flag lead Reg.LEGL.BLK_STAT_SHUTTER_HOLD = false)) → d.fld lead Reg.LEGL.LATE_CNT = Nat.min (c.fld lead Reg.LEGL.LATE_CNT + 1) 65535) ∧ ((c.bstate k = 1 ∧ c.flag lead Reg.LEGL.BLK_STAT_SHUTTER_HOLD = true) → d.fld lead Reg.LEGL.LATE_CNT = c.fld lead Reg.LEGL.LATE_CNT) ∧ ((match out with | .append _ _ => false | _ => true) = true)) ∧
  (∀ (dt : Nat) (k : Fin 24) (s : State),
      let c := s.chip.after dt
      let lead := pgLead k
      let b := (c.nextDeadline k).1
      let cf := b + (c.nextDeadline k).2 - 736
      let pat := (c.blk k).pattern b
      let ok := pat.closed && pat.cause.isNone
      c.deadlineNear k →
      Completes (.closeDeadline dt k) s fun d =>
        ((c.blk k).next.isSome → (d.blk k).next = some (b + c.fgPeriod (c.fgOf lead), c.act lead Reg.LEGL.EARLIEST)) ∧ ((d.blk k).pats.all fun x => decide (b < x.bound)) ∧ ((legsOf k).all fun n => d.fld (pgLEG n) Reg.LEG.LEG_STAT_BAND == c.governBand n) ∧ ((c.bstate k = 1 ∧ ok = true ∧ c.flag lead Reg.LEGL.BLK_STAT_SHUTTER_HOLD = false) → (d.bstate k = 2 ∧ (d.blk k).takeover = some (Nat.max b cf, 6))) ∧ ((c.bstate k = 3 ∧ ok = false ∧ c.flag lead Reg.LEGL.BLK_STAT_SWITCH_HOLD = false ∧ c.actFlag lead Reg.LEGL.BLK_CFG_MODE = false ∧ 1 ≤ c.fld lead Reg.LEGL.BLK_STAT_MISS_RUN) → d.bstate k = 4) ∧ ((c.bstate k = 0 ∨ c.bstate k = 4) → (d.bstate k = c.bstate k ∧ d.fld lead Reg.LEGL.LATE_CNT = Nat.min (c.fld lead Reg.LEGL.LATE_CNT + (pat.edges.length + if pat.closed then 1 else 0)) 65535))) ∧
  (∀ (dt : Nat) (k : Fin 24) (s : State),
      let c := s.chip.after dt
      let rank := ((c.blk k).takeover.getD (0, 0)).2
      (c.blk k).takeover.isSome →
      Completes (.patternTakeover dt k) s fun d =>
        (d.blk k).takeover = none ∧ ((legsOf k).all fun n => (c.forced n).isSome || d.fld (pgLEG n) Reg.LEG.LEG_STAT_SOURCE == (rank - 1) % 8)) ∧
  (∀ (dt : Nat) (n : Fin 96) (s : State),
      let c := s.chip.after dt
      let e := ((c.leg n).gates.headD ⟨0, false, false⟩)
      let p := pgLEG n
      let obeys := match c.forced n with | some (_, st) => st == LegState.low && !e.high && e.on | none => true
      (c.leg n).gates ≠ [] →
      Completes (.gateEdgeDue dt n) s fun d =>
        (d.leg n).gates = (c.leg n).gates.drop 1 ∧ (obeys = true → d.flag p Reg.LEG.LEG_STAT_GATE_H = if e.high then e.on else (c.flag p Reg.LEG.LEG_STAT_GATE_H && !e.on)) ∧ (obeys = true → d.flag p Reg.LEG.LEG_STAT_GATE_L = if e.high then (c.flag p Reg.LEG.LEG_STAT_GATE_L && !e.on) else e.on) ∧ (obeys = true → (d.flag p Reg.LEG.LEG_STAT_GATE_H && d.flag p Reg.LEG.LEG_STAT_GATE_L) = false) ∧ (obeys = false → d.word (p.base + Reg.LEG.LEG_STAT_GATE_H.word 0) = c.word (p.base + Reg.LEG.LEG_STAT_GATE_H.word 0))) ∧
  (∀ (dt : Nat) (k : Fin 24) (s : State),
      let c := s.chip.after dt
      c.bstate k ∈ [1, 2, 3] →
      Completes (.patternEccError dt k) s fun d =>
        d.bstate k = 4 ∧ d.fld (pgLead k) Reg.LEGL.BLK_STAT_SAFE_CAUSE = scPATTERN_ECC ∧ d.bitAt pgFLT8 Reg.FLT8.RAW (fLEG_BLK k)) ∧
  (∀ (dt : Nat) (k : Fin 24) (cause : Fin 7) (s : State),
      let c := s.chip.after dt
      cause ≠ 0 → c.bstate k ∈ [1, 2, 3] →
      Completes (.blockEnterSafe dt k cause) s fun d =>
        d.bstate k = 4 ∧ d.fld (pgLead k) Reg.LEGL.BLK_STAT_SAFE_CAUSE = cause.val ∧ (d.blk k).takeover = none ∧ d.bitAt pgFLT8 Reg.FLT8.RAW (fLEG_BLK k)) ∧
  (∀ (dt : Nat) (k : Fin 24) (s : State),
      let c := s.chip.after dt
      Completes (.shutterCloseReport dt k) s fun d =>
        d.fld (pgLead k) Reg.LEGL.BLK_STAT_SHUTTER_CLOSED = 1 ∧ d.fld (pgLead k) Reg.LEGL.BLK_STAT_SHUTTER_HOLD = 1 ∧ (d.bstate k = if c.bstate k = 2 ∨ c.bstate k = 3 then 1 else c.bstate k) ∧ (d.blk k).takeover = none) ∧
  (∀ (dt : Nat) (src : Src) (k : Fin 24) (s : State),
      let c := s.chip.after dt
      let lead := pgLead k
      let ok := c.en lead && !c.flag lead Reg.LEGL.BLK_STAT_SHUTTER_CLOSED && (c.bstate k == 4 || c.flag lead Reg.LEGL.BLK_STAT_SHUTTER_HOLD) && c.fld (pgLLP k) Reg.LLP.LINK_STAT_DESAT == 0
      c.serves src lead 0x108 true →
      Completes (.rearm dt src k) s fun d =>
        (ok = true → (d.bstate k = (if c.on lead then 1 else c.bstate k) ∧ d.flag lead Reg.LEGL.BLK_STAT_SHUTTER_HOLD = false ∧ ((legsOf k).all fun n => !d.flag (pgLEG n) Reg.LEG.LEG_STAT_DESAT_OFF) = true)) ∧ (ok = false → (d.bstate k = c.bstate k ∧ d.fld lead Reg.HDR.ERR_CODE_LAST = c.lastErr lead 0x43 ∧ (c.lastErr lead 0x43 = 0x43 → d.fld lead Reg.HDR.ERR_CODE_SRC = src.code))))

/-- LINK_TRAIN of an enabled port in DOWN or FAULT starts training, and is refused with 0x42 elsewhere. TRAIN_COMPLETE with good capabilities stores them and starts the calibration. TRAIN_TIMEOUT and UP_TIMEOUT fault the link with TRAIN_FAIL and UP_TIMEOUT. LINK_DOWN brings it down, with cause SOFTWARE unless it was in FAULT. DESAT_CLR and RECAL queue the clear and start the calibration while UP. NTC_STALE makes the leg's telemetry invalid. -/
def Obligations.LinkStatesTrainAndFail : Prop :=
  (∀ (dt : Nat) (src : Src) (k : Fin 24) (s : State),
      let c := s.chip.after dt
      let ok := (c.lstate k == 0 || c.lstate k == 5) && c.on (pgLLP k)
      c.serves src (pgLLP k) 0x04C true →
      Completes (.linkTrain dt src k) s fun d =>
        (ok = true → (d.lstate k = 1 ∧ d.fld (pgLLP k) Reg.LLP.LINK_STAT_CAPS_OK = 0 ∧ d.fld (pgLLP k) Reg.LLP.LINK_STAT_CAL_OK = 0 ∧ (d.link k).caps = [])) ∧ (ok = false → (d.lstate k = c.lstate k ∧ d.fld (pgLLP k) Reg.HDR.ERR_CODE_LAST = c.lastErr (pgLLP k) 0x42))) ∧
  (∀ (dt : Nat) (src : Src) (k : Fin 24) (s : State),
      let c := s.chip.after dt
      c.serves src (pgLLP k) 0x04C true → c.lstate k ≠ 0 →
      Completes (.linkDown dt src k) s fun d =>
        d.lstate k = 0 ∧ d.fld (pgLLP k) Reg.LLP.LINK_STAT_RX_LOCK = 0 ∧ d.fld (pgLLP k) Reg.LLP.LINK_STAT_CAL_OK = 0 ∧ (d.link k).cal = none ∧ (c.lstate k ≠ 5 → d.fld (pgLLP k) Reg.LLP.LINK_STAT_FAULT_CAUSE = lcSOFTWARE)) ∧
  (∀ (dt : Nat) (src : Src) (k : Fin 24) (s : State),
      let c := s.chip.after dt
      c.serves src (pgLLP k) 0x04C true → c.linkUp k → c.fld (pgLLP k) Reg.LLP.LINK_STAT_DESAT ≠ 0 →
      Completes (.linkDesatClr dt src k) s fun d =>
        (d.link k).cfg = (c.link k).cfg ++ [(3, c.fld (pgLLP k) Reg.LLP.LINK_STAT_DESAT, 3)]) ∧
  (∀ (dt : Nat) (src : Src) (k : Fin 24) (s : State),
      let c := s.chip.after dt
      c.serves src (pgLLP k) 0x04C true → c.linkUp k →
      Completes (.linkRecal dt src k) s fun d =>
        (d.link k).rtts = some [] ∧ (d.link k).cal = none) ∧
  (∀ (dt : Nat) (k : Fin 24) (s : State),
      let c := s.chip.after dt
      let x := c.link k
      let legs := (x.cap 1).getD 0
      c.lstate k = 1 → c.t ≤ x.since + 25000000 → x.cap 0 = some 1 → (x.cap 1).isSome → (x.cap 2).isSome → ((x.cap 3).getD 0).testBit (c.act (pgLLP k) Reg.LLP.LINK_CFG_RATE) → (x.cap 4).isSome → (x.cap 5).isSome → ((legsOf k).all fun n => !(decide (legs ≤ n % 4) && c.en (pgLEG n))) →
      Completes (.trainComplete dt k) s fun d =>
        d.lstate k = 2 ∧ d.fld (pgLLP k) Reg.LLP.LINK_STAT_CAPS_OK = 1 ∧ d.fld (pgLLP k) Reg.LLP.DRV_CAPS0_LEGS = legs % 2 ^ 14 ∧ d.fld (pgLLP k) Reg.LLP.DRV_CAPS1_DEPTH = (x.cap 2).getD 0 % 2 ^ 14 ∧ (d.link k).rtts = some []) ∧
  (∀ (dt : Nat) (k : Fin 24) (s : State),
      let c := s.chip.after dt
      (c.lstate k = 1 ∨ c.lstate k = 3) →
      Completes (.trainTimeout dt k) s fun d =>
        d.lstate k = 5 ∧ d.fld (pgLLP k) Reg.LLP.LINK_STAT_FAULT_CAUSE = lcTRAIN_FAIL ∧ d.bitAt pgFLT8 Reg.FLT8.RAW (fLINK k)) ∧
  (∀ (dt : Nat) (k : Fin 24) (s : State),
      let c := s.chip.after dt
      c.linkUp k →
      Completes (.upTimeout dt k) s fun d =>
        d.lstate k = 5 ∧ d.fld (pgLLP k) Reg.LLP.LINK_STAT_FAULT_CAUSE = lcUP_TIMEOUT ∧ d.bitAt pgFLT8 Reg.FLT8.RAW (fLINK k)) ∧
  (∀ (dt : Nat) (k : Fin 24) (i : Fin 4) (s : State),
      let c := s.chip.after dt
      Completes (.ntcStale dt k i) s fun d =>
        d.fld (pgLLP k) Reg.LLP.TEL_NTC_VALID i = 0 ∧ (d.fld (pgLLP k) Reg.LLP.LINK_STAT_NTC_INVALID).testBit i)

/-- CAL_SEND sends the next TAG and notes the exchange; CAL_ECHO_TIMEOUT ends it; CAL_COMPLETE of the training sets DOWN_DELAY from the exchanges, rounded, and moves the link to CONFIG with three configuration writes; CAL_PERIOD_EXPIRE starts a calibration. CFG_SEND sends one copy of the oldest write. EDGE_FRAME_SEND sends the next gate edge with its sequence number and counts it when it can start in time; an edge that cannot is LATE, as EDGE_LATE is. SYNC_SEND and COMMA_SEND send the time and a comma. Every frame carries the CRC of R129, in the slots of R128. -/
def Obligations.LinkSendsCalibrationAndEdges : Prop :=
  (∀ (dt : Nat) (k : Fin 24) (fine : Fin 8) (s : State),
      let c := s.chip.after dt
      let x := c.link k
      let w := BitVec.ofNat 32 x.tag
      (c.lstate k = 2 ∨ c.lstate k = 4) → c.portOn k → (x.rtts.any fun r => decide (r.length < 2 ^ c.act (pgLLP k) Reg.LLP.CAL_CFG_CAL_LOG2N)) → x.cal = none → c.nextEdge k = none →
      Completes (.calSend dt k fine) s fun d =>
        (d.link k).tag = (x.tag + 1) % 16 ∧ ((d.link k).sent.any fun f => f.kchar == kCAL && f.payload == w && f.crc == frameCrc kCAL w && decide (8 * c.t + fine ≤ f.at8) && (d.link k).cal == some (x.tag, f.at8))) ∧
  (∀ (dt : Nat) (k : Fin 24) (s : State),
      let c := s.chip.after dt
      (c.link k).cal.isSome →
      Completes (.calEchoTimeout dt k) s fun d =>
        (d.link k).cal = none ∧ (d.link k).rtts = (c.link k).rtts) ∧
  (∀ (dt : Nat) (k : Fin 24) (s : State),
      let c := s.chip.after dt
      let n := c.act (pgLLP k) Reg.LLP.CAL_CFG_CAL_LOG2N
      let r := (c.link k).rtts.getD []
      let new := (r.sum + 2 ^ n) / 2 ^ (n + 1)
      (c.link k).rtts.isSome → 2 ^ n ≤ r.length → c.lstate k = 2 → new ≤ 400 →
      Completes (.calComplete dt k) s fun d =>
        d.lstate k = 3 ∧ d.fld (pgLLP k) Reg.LLP.DOWN_DELAY = new ∧ d.fld (pgLLP k) Reg.LLP.LINK_STAT_CAL_OK = 1 ∧ (d.link k).cfg = (c.link k).cfg ++ [(1, c.act (pgLLP k) Reg.LLP.LINK_CFG_TIMEOUT_MODE, 3), (2, c.act (pgLLP k) Reg.LLP.VCE_CFG, 3), (4, 1, 3)]) ∧
  (∀ (dt : Nat) (k : Fin 24) (s : State),
      let c := s.chip.after dt
      c.linkUp k → c.act (pgLLP k) Reg.LLP.CAL_CFG_CAL_PERIOD ≠ 0 →
      Completes (.calPeriodExpire dt k) s fun d =>
        (d.link k).rtts = some [] ∧ (d.link k).cal = none) ∧
  (∀ (dt : Nat) (k : Fin 24) (s : State),
      let c := s.chip.after dt
      let x := (c.link k).cfg.headD (0, 0, 0)
      let rest := (c.link k).cfg.drop 1
      let w := BitVec.ofNat 32 (x.1 + 2 ^ 8 * x.2.1)
      (c.link k).cfg ≠ [] → (c.lstate k = 3 ∨ c.lstate k = 4) → c.portOn k → c.nextEdge k = none →
      Completes (.cfgSend dt k) s fun d =>
        ((d.link k).sent.any fun f => f.kchar == kCFG && f.payload == w && f.crc == frameCrc kCFG w && decide (8 * c.t ≤ f.at8)) ∧ ((d.link k).cfg = if x.2.2 ≤ 1 then rest else (x.1, x.2.1, x.2.2 - 1) :: rest)) ∧
  (∀ (dt : Nat) (k : Fin 24) (s : State),
      let c := s.chip.after dt
      let e := (c.launchable k).getD (0, ⟨0, false, false⟩, 0)
      let q := ((c.link k).eseq.find? fun x => x.1 == e.1).map Prod.snd |>.getD 0
      let w := BitVec.ofNat 32 (edgePayload e.1 e.2.1 e.2.2 q)
      let start := c.plainAt k (8 * c.t)
      (c.launchable k).isSome → c.linkUp k → c.portOn k →
      Completes (.edgeFrameSend dt k) s fun d =>
        ((start : Int) ≤ c.lastStart k e.2.1 → ((d.link k).edges = (c.link k).edges.erase e ∧ ((d.link k).sent.any fun f => f.kchar == kEDGE && f.payload == w && f.crc == frameCrc kEDGE w && f.at8 == start) = true ∧ d.fld (pgLLP k) Reg.LLP.TX_EDGE_CNT = (c.fld (pgLLP k) Reg.LLP.TX_EDGE_CNT + 1) % 2 ^ 32)) ∧ (c.lastStart k e.2.1 < start → (d.lstate k = 5 ∧ d.fld (pgLLP k) Reg.LLP.LINK_STAT_FAULT_CAUSE = lcLATE))) ∧
  (∀ (dt : Nat) (k : Fin 24) (s : State),
      let c := s.chip.after dt
      let e := (c.nextEdge k).getD (0, ⟨0, false, false⟩, 0)
      (c.nextEdge k).isSome → c.linkUp k → e.2.1.t / 8 ≤ c.t + 524288 → ((c.launchable k).isNone ∨ c.lastStart k e.2.1 < c.plainAt k (8 * c.t)) →
      Completes (.edgeLate dt k) s fun d =>
        d.lstate k = 5 ∧ d.fld (pgLLP k) Reg.LLP.LINK_STAT_FAULT_CAUSE = lcLATE) ∧
  (∀ (dt : Nat) (k : Fin 24) (fine : Fin 8) (s : State),
      let c := s.chip.after dt
      let at8 := (c.link k).slotAt (c.frame8 k) (Nat.max (8 * c.t + fine) (8 * ((c.link k).syncAt + 4096)))
      let w := BitVec.ofNat 32 ((at8 + c.fld (pgLLP k) Reg.LLP.DOWN_DELAY) % 2 ^ 32)
      c.syncs k → c.nextEdge k = none →
      Completes (.syncSend dt k fine) s fun d =>
        (d.link k).syncAt = at8 / 8 ∧ ((d.link k).sent.any fun f => f.kchar == kSYNC && f.payload == w && f.crc == frameCrc kSYNC w && f.at8 == at8) ∧ (d.link k).commaGap = 0) ∧
  (∀ (dt : Nat) (k : Fin 24) (s : State),
      let c := s.chip.after dt
      c.portOn k → c.lstate k ≠ 0 → c.lstate k ≠ 5 → 63 ≤ (c.link k).gapAt (c.frame8 k) (8 * c.t) →
      Completes (.commaSend dt k) s fun d =>
        (d.link k).commaGap = 0 ∧ ((d.link k).sent.any fun f => (f.kchar == kIDLE || f.kchar == kSYNC) && f.at8 == (c.link k).slotAt (c.frame8 k) (8 * c.t)))

/-- Every frame is taken as its sixty bits, and is valid if they decode at the running disparity with a matching CRC. On a powered port UPLINK_STATUS notes when the link was heard, shows the receiver locked outside DOWN and FAULT, copies the supply and desaturation flags, and latches DESAT_OFF of each leg that reports desaturation. UPLINK_STATE without reports moves CONFIG to UP. UPLINK_NTC, UPLINK_SUPPLY, UPLINK_VCE and, in TRAIN, UPLINK_CAPS keep the newest value; UPLINK_ECHO of the exchange under way completes it with its round trip. UPLINK_INVALID counts one frame. -/
def Obligations.UplinkFramesAreTaken : Prop :=
  (∀ (dt : Nat) (k : Fin 24) (f : BitVec 60) (s : State),
      let c := s.chip.after dt
      let w := ((upFrame (c.link k).rdUp f).getD (0, 0#32)).2
      c.portOn k → ((upFrame (c.link k).rdUp f).any fun e => e.1 == kSTATUS) →
      Completes (.uplinkStatus dt k f) s fun d =>
        (d.link k).heard = c.t ∧ ((c.lstate k ≠ 0 ∧ c.lstate k ≠ 5) → (d.fld (pgLLP k) Reg.LLP.LINK_STAT_RX_LOCK = 1 ∧ d.fld (pgLLP k) Reg.LLP.LINK_STAT_ALIGNED = 1)) ∧ d.fld (pgLLP k) Reg.LLP.LINK_STAT_SUP_FAULT = w.bits 8 4 ∧ d.fld (pgLLP k) Reg.LLP.LINK_STAT_DESAT = w.bits 0 8 ∧ ((List.range 4).all fun i => w.bits 0 8 / 4 ^ i % 4 == 0 || d.flag (pgLEG (4 * k + i)) Reg.LEG.LEG_STAT_DESAT_OFF)) ∧
  (∀ (dt : Nat) (k : Fin 24) (f : BitVec 60) (s : State),
      let c := s.chip.after dt
      let w := ((upFrame (c.link k).rdUp f).getD (0, 0#32)).2
      c.portOn k → ((upFrame (c.link k).rdUp f).any fun e => e.1 == kSTATE) → c.lstate k = 3 → c.t ≤ (c.link k).since + 2500000 → w.getLsbD 26 = false → w.bits 12 8 = 0 →
      Completes (.uplinkState dt k f) s fun d =>
        d.lstate k = 4 ∧ (d.link k).heard = c.t ∧ (d.link k).calAt = c.t ∧ (d.link k).eseq = []) ∧
  (∀ (dt : Nat) (k : Fin 24) (f : BitVec 60) (s : State),
      let c := s.chip.after dt
      let w := ((upFrame (c.link k).rdUp f).getD (0, 0#32)).2
      c.portOn k → ((upFrame (c.link k).rdUp f).any fun e => e.1 == kNTC) →
      Completes (.uplinkNtc dt k f) s fun d =>
        (d.link k).ntc.head? = some (w.bits 12 2, c.t, w.bits 15 12, w.getLsbD 14) ∧ (((d.link k).ntc.drop 1).all fun e => e.1 != w.bits 12 2)) ∧
  (∀ (dt : Nat) (k : Fin 24) (f : BitVec 60) (s : State),
      let c := s.chip.after dt
      let w := ((upFrame (c.link k).rdUp f).getD (0, 0#32)).2
      c.portOn k → ((upFrame (c.link k).rdUp f).any fun e => e.1 == kSUPPLY) →
      Completes (.uplinkSupply dt k f) s fun d =>
        (d.link k).sup.head? = some (2 * w.bits 12 2 + w.bits 14 1, w.bits 15 10, w.bits 25 5)) ∧
  (∀ (dt : Nat) (k : Fin 24) (f : BitVec 60) (s : State),
      let c := s.chip.after dt
      let w := ((upFrame (c.link k).rdUp f).getD (0, 0#32)).2
      c.portOn k → ((upFrame (c.link k).rdUp f).any fun e => e.1 == kVCE) →
      Completes (.uplinkVce dt k f) s fun d =>
        (d.link k).vce.head? = some (2 * w.bits 12 2 + w.bits 14 1, w.bits 15 12)) ∧
  (∀ (dt : Nat) (k : Fin 24) (f : BitVec 60) (t1 : Nat) (s : State),
      let c := s.chip.after dt
      let w := ((upFrame (c.link k).rdUp f).getD (0, 0#32)).2
      let x := (c.link k).cal.getD (0, 0)
      c.portOn k → ((upFrame (c.link k).rdUp f).any fun e => e.1 == kECHO) → (c.link k).cal.isSome → x.1 = w.bits 12 4 →
      Completes (.uplinkEcho dt k f t1) s fun d =>
        (d.link k).cal = none ∧ d.fld (pgLLP k) Reg.LLP.RTT_LAST = (t1 - x.2 - w.bits 16 16) % 65536 ∧ ((d.link k).rtts = (c.link k).rtts.map fun r => r ++ [t1 - x.2 - w.bits 16 16])) ∧
  (∀ (dt : Nat) (k : Fin 24) (f : BitVec 60) (s : State),
      let c := s.chip.after dt
      let w := ((upFrame (c.link k).rdUp f).getD (0, 0#32)).2
      c.portOn k → ((upFrame (c.link k).rdUp f).any fun e => e.1 == kCAPS) → c.lstate k = 1 →
      Completes (.uplinkCaps dt k f) s fun d =>
        (d.link k).caps.head? = some (w.bits 12 6, w.bits 18 14)) ∧
  (∀ (dt : Nat) (k : Fin 24) (f : BitVec 60) (s : State),
      let c := s.chip.after dt
      c.portOn k → upFrame (c.link k).rdUp f = none →
      Completes (.uplinkInvalid dt k f) s fun d =>
        d.fld (pgLLP k) Reg.LLP.ERR_CNT_UP = Nat.min (c.fld (pgLLP k) Reg.LLP.ERR_CNT_UP + 1) 65535 ∧ (d.link k).heard = (c.link k).heard)

/-- ADC_RESULT_READY puts the code of the converted input, valid, with its due tick and its limit and rail flags into the result registers, sends it to the engines (signed when BIPOLAR), and drives the fault wire where LIMIT_FAULT asks for it. ADC_REF_FAULT and ADC_REF_OK set and clear REF_FAULT and its fault. Commands of a delta-sigma page carry the bits since the last one, each with its clock edge. DSF_RESULT_READY puts the sinc filter's output over the bits with s_i at or before t − 8, in the settings and validity of t, or 0 and VALID = 0. The comparator follows every bit taken: its value, COMP_LO, COMP_HI and the fault wire. STUCK equal bits set STUCK; a first bit of the other value clears it and starts SETTLING, which ends with the bit that fills the filter. A lost clock sets CLK_LOST on the pages that select the pin; its return starts SETTLING again. -/
def Obligations.ConverterResultsAndDeltaSigma : Prop :=
  (∀ (dt : Nat) (n : Fin 12) (code : BitVec 14) (s : State),
      let c := s.chip.after dt
      let v := ((c.adc n).conv).getD ⟨0, 0, false, false, 0, 0⟩
      let p := pgADC n
      let x := code.toNat
      (c.adc n).conv.isSome → v.chan < 4 → c.en p → c.domainOn 8 → ¬ c.isolated 3 → c.flag p Reg.ADC.ADC_STAT_REF_FAULT = false → c.flag p Reg.HDR.PAGE_STAT_SAFE = false →
      Completes (.adcResultReady dt n code) s fun d =>
        d.fld p Reg.ADC.RESULT_CODE v.chan = x ∧ d.fld p Reg.ADC.RESULT_VALID v.chan = 1 ∧ d.flag p Reg.ADC.RESULT_LIMIT_LO v.chan = decide (x < v.lo) ∧ d.flag p Reg.ADC.RESULT_LIMIT_HI v.chan = decide (v.hi < x) ∧ d.flag p Reg.ADC.RESULT_RAIL v.chan = (x == 0 || x == 16383) ∧ d.fld p Reg.ADC.RES_TIDE v.chan = v.t % 2 ^ 32 ∧ d.fld p Reg.ADC.ADC_STAT_CONVERTING = 0 ∧ (d.adc n).conv = none ∧ ((v.limitFault = true ∧ (x < v.lo ∨ v.hi < x)) → d.bitAt pgFLT8 Reg.FLT8.RAW (fADC_LIMIT n)) ∧ (d.deliveries = c.deliveries ++ [⟨7, n, v.chan, 0, BitVec.ofInt 32 (if v.bipolar then (x : Int) - 8192 else x), true, v.t⟩])) ∧
  (∀ (dt : Nat) (n : Fin 12) (s : State),
      let c := s.chip.after dt
      let p := pgADC n
      Completes (.adcRefFault dt n) s fun d =>
        d.fld p Reg.ADC.ADC_STAT_REF_FAULT = 1 ∧ (c.flag p Reg.ADC.ADC_STAT_REF_FAULT = false → d.bitAt pgFLT8 Reg.FLT8.RAW (fADC_REF n)) ∧ (c.flag p Reg.ADC.ADC_STAT_REF_FAULT = false → (d.fld p Reg.HDR.EVT_RAW).testBit 3)) ∧
  (∀ (dt : Nat) (n : Fin 12) (s : State),
      let c := s.chip.after dt
      let p := pgADC n
      Completes (.adcRefOk dt n) s fun d =>
        d.flag p Reg.ADC.ADC_STAT_REF_FAULT = false ∧ (c.flag p Reg.ADC.ADC_STAT_REF_FAULT → d.bitAt pgFLT8 Reg.FLT8.RAW (fADC_REF n) = false)) ∧
  (∀ (dt : Nat) (n : Fin 32) (bits : List (Nat × Bool)) (s : State),
      let c := s.chip.after dt
      let p := pgDSF n
      let x := (c.dsf n).due.headD ⟨0, 0, 0, false⟩
      (c.dsf n).due ≠ [] →
      Completes (.dsfResultReady dt n bits) s fun d =>
        d.fld p Reg.DSF.RES_TIDE = x.t % 2 ^ 32 ∧ (d.dsf n).due = (c.dsf n).due.tail ∧ (d.fld p Reg.DSF.RES_STAT_VALID = 1 → x.ok = true) ∧ (d.fld p Reg.DSF.RES_STAT_VALID = 0 → d.fld p Reg.DSF.RESULT = 0) ∧ ((bits.all fun b => decide (b.1 + c.act (c.clkPage n) Reg.DSF.CLKGEN_DATA_DELAY ≤ x.t)) = true → (d.fld p Reg.DSF.RES_STAT_VALID = 1 → d.fld p Reg.DSF.RESULT = unsigned 32 (sincValue x.order x.osr (((d.dsf n).bits.filter fun b => decide (b.1 + 8 ≤ x.t)).map Prod.snd)))) ∧ ((bits = [] ∧ x.ok = true ∧ c.flag p Reg.DSF.RES_STAT_SETTLING = false ∧ c.dsfBarred n = false) → d.fld p Reg.DSF.RES_STAT_VALID = 1)) ∧
  (∀ (dt : Nat) (n : Fin 32) (bits : List (Nat × Bool)) (s : State),
      let c := s.chip.after dt
      let p := pgDSF n
      c.on p → c.flag p Reg.DSF.RES_STAT_CLK_LOST = false → (bits.head?.any fun b => c.clocks n b.1) →
      Completes (.dsfCompTrip dt n bits) s fun d =>
        d.fld p Reg.DSF.COMP_VALUE = unsigned 16 (d.comparator n).1 ∧ d.flag p Reg.DSF.RES_STAT_COMP_LO = (d.comparator n).2.1 ∧ d.flag p Reg.DSF.RES_STAT_COMP_HI = (d.comparator n).2.2 ∧ ((((d.comparator n).2.1 || (d.comparator n).2.2) && !(c.flag p Reg.DSF.RES_STAT_COMP_LO || c.flag p Reg.DSF.RES_STAT_COMP_HI)) = true → (d.fld p Reg.HDR.EVT_RAW).testBit 0) ∧ ((((d.comparator n).2.1 || (d.comparator n).2.2) && c.actFlag p Reg.DSF.COMP_CFG_COMP_FAULT) = true → d.bitAt pgFLT8 Reg.FLT8.RAW (fDSF_COMP n))) ∧
  (∀ (dt : Nat) (n : Fin 32) (bits : List (Nat × Bool)) (s : State),
      let c := s.chip.after dt
      let p := pgDSF n
      c.on p → c.flag p Reg.DSF.RES_STAT_CLK_LOST = false → (bits.head?.any fun b => c.clocks n b.1) →
      Completes (.dsfCompReturn dt n bits) s fun d =>
        d.fld p Reg.DSF.COMP_VALUE = unsigned 16 (d.comparator n).1 ∧ d.flag p Reg.DSF.RES_STAT_COMP_LO = (d.comparator n).2.1 ∧ d.flag p Reg.DSF.RES_STAT_COMP_HI = (d.comparator n).2.2 ∧ ((((d.comparator n).2.1 || (d.comparator n).2.2) && c.actFlag p Reg.DSF.COMP_CFG_COMP_FAULT) = false → d.bitAt pgFLT8 Reg.FLT8.RAW (fDSF_COMP n) = false)) ∧
  (∀ (dt : Nat) (pin : Fin 4) (s : State),
      let c := s.chip.after dt
      c.actFlag (pgDSF pin) Reg.DSF.CLKGEN_DIR → ((c.pinPages pin).all fun n => match (c.dsf n).edge with | some e => decide (e + 2500 ≤ c.t) | none => true) →
      Completes (.dsfClkLost dt pin) s fun d =>
        ((List.range 32).all fun n => c.act (pgDSF n) Reg.DSF.DSF_CFG_CLK_PIN != pin.val || d.flag (pgDSF n) Reg.DSF.RES_STAT_CLK_LOST) ∧ ((List.range 32).all fun n => c.act (pgDSF n) Reg.DSF.DSF_CFG_CLK_PIN == pin.val || d.fld (pgDSF n) Reg.DSF.RES_STAT_CLK_LOST == c.fld (pgDSF n) Reg.DSF.RES_STAT_CLK_LOST)) ∧
  (∀ (dt : Nat) (pin : Fin 4) (s : State),
      let c := s.chip.after dt
      Completes (.dsfClkRegained dt pin) s fun d =>
        ((List.range 32).all fun n => c.act (pgDSF n) Reg.DSF.DSF_CFG_CLK_PIN != pin.val || d.fld (pgDSF n) Reg.DSF.RES_STAT_CLK_LOST == 0) ∧ ((List.range 32).all fun n => c.act (pgDSF n) Reg.DSF.DSF_CFG_CLK_PIN != pin.val || !c.flag (pgDSF n) Reg.DSF.RES_STAT_CLK_LOST || d.flag (pgDSF n) Reg.DSF.RES_STAT_SETTLING)) ∧
  (∀ (dt : Nat) (n : Fin 32) (bits : List (Nat × Bool)) (s : State),
      let c := s.chip.after dt
      let p := pgDSF n
      c.on p → c.flag p Reg.DSF.RES_STAT_CLK_LOST = false → (bits.head?.any fun b => c.clocks n b.1) →
      Completes (.dsfStuck dt n bits) s fun d =>
        ((d.dsf n).bits.head?.any fun x => bits.any fun b => x == (b.1 + c.act (c.clkPage n) Reg.DSF.CLKGEN_DATA_DELAY, b.2)) ∧ ((2 ≤ c.act p Reg.DSF.DSF_CFG_STUCK ∧ c.act p Reg.DSF.DSF_CFG_STUCK ≤ (d.dsf n).run) → d.fld p Reg.DSF.RES_STAT_STUCK = 1) ∧ ((c.flag p Reg.DSF.RES_STAT_STUCK = false ∧ d.fld p Reg.DSF.RES_STAT_STUCK = 1) → (d.fld p Reg.HDR.EVT_RAW).testBit 2)) ∧
  (∀ (dt : Nat) (n : Fin 32) (bits : List (Nat × Bool)) (s : State),
      let c := s.chip.after dt
      let p := pgDSF n
      c.on p → c.flag p Reg.DSF.RES_STAT_CLK_LOST = false → (bits.head?.any fun b => c.clocks n b.1) →
      Completes (.dsfStuckClear dt n bits) s fun d =>
        ((bits.length = 1 ∧ c.flag p Reg.DSF.RES_STAT_STUCK = true ∧ ((c.dsf n).bits.head?.any fun x => bits.all fun b => x.2 != b.2) = true) → (d.fld p Reg.DSF.RES_STAT_STUCK = 0 ∧ d.fld p Reg.DSF.RES_STAT_SETTLING = 1 ∧ d.fld p Reg.DSF.RES_STAT_VALID = 0)) ∧ ((c.act p Reg.DSF.DSF_CFG_STUCK = 0 ∧ ((c.dsf n).bits.head?.any fun x => bits.all fun b => x.2 != b.2) = true) → d.fld p Reg.DSF.RES_STAT_STUCK = 0)) ∧
  (∀ (dt : Nat) (n : Fin 32) (bits : List (Nat × Bool)) (s : State),
      let c := s.chip.after dt
      let p := pgDSF n
      c.on p → c.flag p Reg.DSF.RES_STAT_CLK_LOST = false → (bits.head?.any fun b => c.clocks n b.1) →
      Completes (.dsfSettled dt n bits) s fun d =>
        ((c.act p Reg.DSF.DSF_CFG_STUCK = 0 ∧ c.flag p Reg.DSF.RES_STAT_STUCK = false ∧ c.flag p Reg.DSF.RES_STAT_SETTLING = true ∧ c.filterSpan n ≤ (c.dsf n).count + 1) → (d.fld p Reg.DSF.RES_STAT_SETTLING = 0 ∧ (d.fld p Reg.HDR.EVT_RAW).testBit 3)) ∧ (c.flag p Reg.DSF.RES_STAT_SETTLING = false → (c.flag p Reg.DSF.RES_STAT_STUCK = false ∧ c.act p Reg.DSF.DSF_CFG_STUCK = 0) → d.fld p Reg.DSF.RES_STAT_SETTLING = 0))

/-- A transition sets OSC and stores the mean of the plateau's window when at least four conversions lie in it; a rising transition after a complete period stores PERIOD, HIGH_TIME and DUTY and evaluates FREQ_OK and DIODE_FAIL. Without transitions OSC and the period registers clear and both levels read the mean of the last millisecond, whose class becomes the state after 3 ms. Where a mean lies between two millivolts a free value says which is taken (log entry 6). A write of CPL_CTRL.S2 drives CPL_STAT.S2. CPL_RESULT_READY and TSN_RESULT_READY answer the oldest SAMPLE. TSN_CONVERSION stores the next sensor's temperature, or 0 and VALID = 0 outside the range. TRIP_CLR clears a TRIP whose temperature lies below TRIP − 3 K, and its fault. A sample that arrives enters every slot bound to it, in both engines. -/
def Obligations.ControlPilotTemperaturesAndSlots : Prop :=
  (∀ (dt : Nat) (up : Bool) (samples : List (Nat × BitVec 16)) (s : State),
      let c := s.chip.after dt
      let r := c.cplSt.rise.getD 0
      let f := c.cplSt.fall.getD 0
      let ok := up && c.cplSt.rise.isSome && c.cplSt.fall.isSome && decide (r < f) && decide (r < c.t)
      let inside := samples.filter fun e => decide (c.cplSt.edge + 25000 ≤ e.1) && decide (e.1 + 12500 ≤ c.t)
      let lvl := if 4 ≤ inside.length then unsigned 16 ((c.meanIn 0 c.t inside).getD 0) else c.fld pgCPL (if up then Reg.CPL.LEVELS_VLOW else Reg.CPL.LEVELS_VHIGH)
      c.on pgCPL →
      Completes (.cplTransition dt up samples) s fun d =>
        d.fld pgCPL Reg.CPL.CPL_STAT_OSC = 1 ∧ d.cplSt.edge = c.t ∧ (d.fld pgCPL (if up then Reg.CPL.LEVELS_VLOW else Reg.CPL.LEVELS_VHIGH) = lvl) ∧ (d.fld pgCPL (if up then Reg.CPL.LEVELS_VHIGH else Reg.CPL.LEVELS_VLOW) = c.fld pgCPL (if up then Reg.CPL.LEVELS_VHIGH else Reg.CPL.LEVELS_VLOW)) ∧ (ok = true → (d.fld pgCPL Reg.CPL.PERIOD = (c.t - r) % 2 ^ 22 ∧ d.fld pgCPL Reg.CPL.HIGH_TIME = (f - r) % 2 ^ 22 ∧ d.fld pgCPL Reg.CPL.DUTY = (f - r) * 10000 / (c.t - r) % 2 ^ 14)) ∧ (ok = true → d.flag pgCPL Reg.CPL.CPL_STAT_FREQ_OK = (decide (2450980 ≤ c.t - r) && decide (c.t - r ≤ 2551020))) ∧ (ok = true → d.flag pgCPL Reg.CPL.CPL_STAT_DIODE_FAIL = !decide (signed 16 lvl < 100 * signed 8 (c.act pgCPL Reg.CPL.CPL_TH1_DIODE))) ∧ (ok = false → d.fld pgCPL Reg.CPL.PERIOD = c.fld pgCPL Reg.CPL.PERIOD)) ∧
  (∀ (dt : Nat) (samples : List (Nat × BitVec 16)) (s : State),
      let c := s.chip.after dt
      c.on pgCPL → c.flag pgCPL Reg.CPL.CPL_STAT_OSC →
      Completes (.cplOscLost dt samples) s fun d =>
        d.fld pgCPL Reg.CPL.CPL_STAT_OSC = 0 ∧ d.fld pgCPL Reg.CPL.PERIOD = 0 ∧ d.fld pgCPL Reg.CPL.HIGH_TIME = 0 ∧ d.fld pgCPL Reg.CPL.DUTY = 0 ∧ ((c.meanIn (d.t - 2500000) d.t samples).isSome = true → (d.fld pgCPL Reg.CPL.LEVELS_VHIGH = unsigned 16 ((c.meanIn (d.t - 2500000) d.t samples).getD 0) ∧ d.fld pgCPL Reg.CPL.LEVELS_VLOW = d.fld pgCPL Reg.CPL.LEVELS_VHIGH)) ∧ d.fld pgCPL Reg.CPL.CPL_STAT_STATE = c.fld pgCPL Reg.CPL.CPL_STAT_STATE) ∧
  (∀ (dt : Nat) (samples : List (Nat × BitVec 16)) (s : State),
      let c := s.chip.after dt
      let m := (c.meanIn (c.t - 2500000) c.t samples).getD 0
      c.on pgCPL → c.flag pgCPL Reg.CPL.CPL_STAT_OSC = false → (c.meanIn (c.t - 2500000) c.t samples).isSome →
      Completes (.cplSteadyState dt samples) s fun d =>
        d.fld pgCPL Reg.CPL.LEVELS_VHIGH = unsigned 16 m ∧ d.fld pgCPL Reg.CPL.LEVELS_VLOW = unsigned 16 m ∧ ((c.cplSt.steady.any fun x => x.1 == c.cplClass m && decide (x.2 + 7500000 ≤ c.t)) = true → d.fld pgCPL Reg.CPL.CPL_STAT_STATE = c.cplClass m) ∧ ((c.cplSt.steady.all fun x => x.1 != c.cplClass m) = true → d.fld pgCPL Reg.CPL.CPL_STAT_STATE = c.fld pgCPL Reg.CPL.CPL_STAT_STATE)) ∧
  (∀ (dt : Nat) (src : Src) (v : Bool) (s : State),
      let c := s.chip.after dt
      c.serves src pgCPL 0x048 true →
      Completes (.cplS2 dt src v) s fun d =>
        d.flag pgCPL Reg.CPL.CPL_CTRL = v ∧ d.flag pgCPL Reg.CPL.CPL_STAT_S2 = v) ∧
  (∀ (dt : Nat) (s : State),
      let c := s.chip.after dt
      c.cplSt.due ≠ [] →
      Completes (.cplResultReady dt) s fun d =>
        d.cplSt.due = c.cplSt.due.tail ∧ d.fld pgCPL Reg.CPL.RES_TIDE = (c.cplSt.due.headD (0, [])).1 % 2 ^ 32) ∧
  (∀ (dt : Nat) (r : Fin 8) (temp : BitVec 12) (ok : Bool) (s : State),
      let c := s.chip.after dt
      let v := signed 12 temp.toNat
      let valid := ok && decide (-440 ≤ v) && decide (v ≤ 1400)
      let i := (c.tsn r).next
      c.on (pgTSN r) → i < 3 →
      Completes (.tsnConversion dt r temp ok) s fun d =>
        (d.fld (pgTSN r) Reg.TSN.DIE_TEMP i = if valid then temp.toNat else 0) ∧ d.flag (pgTSN r) Reg.TSN.DIE_VALID i = valid ∧ (d.tsn r).next = (i + 1) % 3) ∧
  (∀ (dt : Nat) (r : Fin 8) (s : State),
      let c := s.chip.after dt
      (c.tsn r).due ≠ [] →
      Completes (.tsnResultReady dt r) s fun d =>
        (d.tsn r).due = (c.tsn r).due.tail) ∧
  (∀ (dt : Nat) (src : Src) (r : Fin 8) (s : State),
      let c := s.chip.after dt
      c.serves src (pgTSN r) 0x064 true →
      Completes (.tripClr dt src r) s fun d =>
        ((c.temp r).temp < (c.tempCfg r).trip - 24 → (d.fld (pgTSN r) Reg.TSN.REGION_TRIP = 0 ∧ d.bitAt pgFLT8 Reg.FLT8.RAW (fTSN_TRIP r) = false)) ∧ (¬ (c.temp r).temp < (c.tempCfg r).trip - 24 → d.fld (pgTSN r) Reg.TSN.REGION_TRIP = c.fld (pgTSN r) Reg.TSN.REGION_TRIP)) ∧
  (∀ (dt : Nat) (s : State),
      let c := s.chip.after dt
      c.deliveries ≠ [] → c.Inv →
      Completes (.slotSampleArrive dt) s fun d =>
        d.deliveries = c.deliveries.tail ∧ ([Quay.A, Quay.B].all fun q => (List.range 256).all fun i => decide (d.slot (256 * q.idx + i) = if (c.slots q).any (fun e => e.1 == i && (c.deliveries.headD ⟨0, 0, 0, 0, 0, false, 0⟩).boundTo e.2) then (c.slot (256 * q.idx + i)).take ⟨(c.deliveries.headD ⟨0, 0, 0, 0, 0, false, 0⟩).value, (c.deliveries.headD ⟨0, 0, 0, 0, 0, false, 0⟩).valid, (c.deliveries.headD ⟨0, 0, 0, 0, 0, false, 0⟩).stamp⟩ else c.slot (256 * q.idx + i))))

/-- For every legal word within its budget: ADD, SUB, ADDI, ABS and NEG store the exact result limited to 32 bits, with Z and N of the stored value, and set S when the limit changed it; SHS by a positive count multiplies by 2^n and saturates, by a negative count divides by 2^|n| to the nearest integer with ties to even, and by 0 copies. The result is ready two cycles later; the program counter moves to the next word; every other register of the lane, the state window, every other lane, every register of the chip and all memory stay. An SHS whose count is -32 aborts the run as ILLEGAL, so that it changes no register of the lane. -/
def Obligations.SaturatingArithmeticOfALaw : Prop :=
  (∀ (dt : Nat) (q : Quay) (l : Fin 8) (s : State),
      let c := s.chip.after dt
      let w := c.nextWord q l
      let s0 := c.laneOf q l
      let x : Int := (s0.xr w.a).toInt
      let y : Int := (s0.xr w.b).toInt
      let e : Int := x + y
      c.issues q l 0x10 srcAB →
      Completes (.add dt q l) s fun d =>
        ((d.laneOf q l).xr w.d).toInt = clamp32 e ∧ (d.laneOf q l).fl = { s0.fl with z := decide (clamp32 e = 0), n := decide (clamp32 e < 0), s := s0.fl.s || beyond32 e } ∧ (d.laneOf q l).readyAt w.d = c.issueAt q l ([w.a, w.b]) + 2 ∧ c.lawNext d q l ([w.a, w.b]) ∧ s0.keepsBut (d.laneOf q l) [w.d] [] [] ∧ (d.laneOf q l).window = s0.window ∧ c.laneOnly d q l) ∧
  (∀ (dt : Nat) (q : Quay) (l : Fin 8) (s : State),
      let c := s.chip.after dt
      let w := c.nextWord q l
      let s0 := c.laneOf q l
      let x : Int := (s0.xr w.a).toInt
      let y : Int := (s0.xr w.b).toInt
      let e : Int := x - y
      c.issues q l 0x11 srcAB →
      Completes (.sub dt q l) s fun d =>
        ((d.laneOf q l).xr w.d).toInt = clamp32 e ∧ (d.laneOf q l).fl = { s0.fl with z := decide (clamp32 e = 0), n := decide (clamp32 e < 0), s := s0.fl.s || beyond32 e } ∧ (d.laneOf q l).readyAt w.d = c.issueAt q l ([w.a, w.b]) + 2 ∧ c.lawNext d q l ([w.a, w.b]) ∧ s0.keepsBut (d.laneOf q l) [w.d] [] [] ∧ (d.laneOf q l).window = s0.window ∧ c.laneOnly d q l) ∧
  (∀ (dt : Nat) (q : Quay) (l : Fin 8) (s : State),
      let c := s.chip.after dt
      let w := c.nextWord q l
      let s0 := c.laneOf q l
      let x : Int := (s0.xr w.a).toInt
      let y : Int := (s0.xr w.b).toInt
      let e : Int := x + (BitVec.ofNat 32 w.imm).toInt
      c.issues q l 0x12 srcA →
      Completes (.addi dt q l) s fun d =>
        ((d.laneOf q l).xr w.d).toInt = clamp32 e ∧ (d.laneOf q l).fl = { s0.fl with z := decide (clamp32 e = 0), n := decide (clamp32 e < 0), s := s0.fl.s || beyond32 e } ∧ (d.laneOf q l).readyAt w.d = c.issueAt q l ([w.a]) + 2 ∧ c.lawNext d q l ([w.a]) ∧ s0.keepsBut (d.laneOf q l) [w.d] [] [] ∧ (d.laneOf q l).window = s0.window ∧ c.laneOnly d q l) ∧
  (∀ (dt : Nat) (q : Quay) (l : Fin 8) (s : State),
      let c := s.chip.after dt
      let w := c.nextWord q l
      let s0 := c.laneOf q l
      let x : Int := (s0.xr w.a).toInt
      let y : Int := (s0.xr w.b).toInt
      let e : Int := if x < 0 then -x else x
      c.issues q l 0x16 srcA →
      Completes (.abs dt q l) s fun d =>
        ((d.laneOf q l).xr w.d).toInt = clamp32 e ∧ (d.laneOf q l).fl = { s0.fl with z := decide (clamp32 e = 0), n := decide (clamp32 e < 0), s := s0.fl.s || beyond32 e } ∧ (d.laneOf q l).readyAt w.d = c.issueAt q l ([w.a]) + 2 ∧ c.lawNext d q l ([w.a]) ∧ s0.keepsBut (d.laneOf q l) [w.d] [] [] ∧ (d.laneOf q l).window = s0.window ∧ c.laneOnly d q l) ∧
  (∀ (dt : Nat) (q : Quay) (l : Fin 8) (s : State),
      let c := s.chip.after dt
      let w := c.nextWord q l
      let s0 := c.laneOf q l
      let x : Int := (s0.xr w.a).toInt
      let y : Int := (s0.xr w.b).toInt
      let e : Int := -x
      c.issues q l 0x17 srcA →
      Completes (.neg dt q l) s fun d =>
        ((d.laneOf q l).xr w.d).toInt = clamp32 e ∧ (d.laneOf q l).fl = { s0.fl with z := decide (clamp32 e = 0), n := decide (clamp32 e < 0), s := s0.fl.s || beyond32 e } ∧ (d.laneOf q l).readyAt w.d = c.issueAt q l ([w.a]) + 2 ∧ c.lawNext d q l ([w.a]) ∧ s0.keepsBut (d.laneOf q l) [w.d] [] [] ∧ (d.laneOf q l).window = s0.window ∧ c.laneOnly d q l) ∧
  (∀ (dt : Nat) (q : Quay) (l : Fin 8) (s : State),
      let c := s.chip.after dt
      let w := c.nextWord q l
      let s0 := c.laneOf q l
      let x : Int := (s0.xr w.a).toInt
      let y : Int := (s0.xr w.b).toInt
      let k : Int := (BitVec.ofNat 6 w.imm).toInt
      let e : Int := if 0 ≤ k then x * 2 ^ k.toNat else roundShift 0 x (-k).toNat
      c.issues q l 0x13 srcA →
      Completes (.shs dt q l) s fun d =>
        ((d.laneOf q l).xr w.d).toInt = clamp32 e ∧ (d.laneOf q l).fl = { s0.fl with z := decide (clamp32 e = 0), n := decide (clamp32 e < 0), s := s0.fl.s || beyond32 e } ∧ (d.laneOf q l).readyAt w.d = c.issueAt q l ([w.a]) + 2 ∧ c.lawNext d q l ([w.a]) ∧ s0.keepsBut (d.laneOf q l) [w.d] [] [] ∧ (d.laneOf q l).window = s0.window ∧ c.laneOnly d q l) ∧
  (∀ (dt : Nat) (q : Quay) (l : Fin 8) (s : State),
      let c := s.chip.after dt
      (c.fetched q l).isSome → (c.nextWord q l).op = 0x13 → (BitVec.ofNat 6 (c.nextWord q l).imm).toInt = -32 →
      Completes (.shs dt q l) s fun d =>
        (d.laneOf q l).run = none ∧ (c.laneOf q l).keepsBut (d.laneOf q l) [] [] [] ∧ d.fld (pgLANE q l) Reg.LANE.ABORT_CAUSE = abILLEGAL)

/-- For every legal word within its budget, by Table 7-4: MIN and MAX give the signed minimum and maximum and AND, OR and XOR the bitwise results, with Z and N of the result and S as before; CMP sets Z and N from the exact difference and writes no register; MOVI loads IMM; LDC loads a coefficient of the bank that was active at the launch tick; LDM loads and STM stores a word of the state window. All other registers of the lane, all other lanes, registers and memory stay, and the program counter moves to the next word. -/
def Obligations.SelectionLogicAndMovesOfALaw : Prop :=
  (∀ (dt : Nat) (q : Quay) (l : Fin 8) (s : State),
      let c := s.chip.after dt
      let w := c.nextWord q l
      let s0 := c.laneOf q l
      let x := s0.xr w.a
      let y := s0.xr w.b
      let r : Word := BitVec.ofInt 32 (min x.toInt y.toInt)
      c.issues q l 0x14 srcAB →
      Completes (.min dt q l) s fun d =>
        (d.laneOf q l).xr w.d = r ∧ (d.laneOf q l).fl = { s0.fl with z := decide (r.toInt = 0), n := decide (r.toInt < 0) } ∧ (d.laneOf q l).readyAt w.d = c.issueAt q l ([w.a, w.b]) + 2 ∧ c.lawNext d q l ([w.a, w.b]) ∧ s0.keepsBut (d.laneOf q l) [w.d] [] [] ∧ (d.laneOf q l).window = s0.window ∧ c.laneOnly d q l) ∧
  (∀ (dt : Nat) (q : Quay) (l : Fin 8) (s : State),
      let c := s.chip.after dt
      let w := c.nextWord q l
      let s0 := c.laneOf q l
      let x := s0.xr w.a
      let y := s0.xr w.b
      let r : Word := BitVec.ofInt 32 (max x.toInt y.toInt)
      c.issues q l 0x15 srcAB →
      Completes (.max dt q l) s fun d =>
        (d.laneOf q l).xr w.d = r ∧ (d.laneOf q l).fl = { s0.fl with z := decide (r.toInt = 0), n := decide (r.toInt < 0) } ∧ (d.laneOf q l).readyAt w.d = c.issueAt q l ([w.a, w.b]) + 2 ∧ c.lawNext d q l ([w.a, w.b]) ∧ s0.keepsBut (d.laneOf q l) [w.d] [] [] ∧ (d.laneOf q l).window = s0.window ∧ c.laneOnly d q l) ∧
  (∀ (dt : Nat) (q : Quay) (l : Fin 8) (s : State),
      let c := s.chip.after dt
      let w := c.nextWord q l
      let s0 := c.laneOf q l
      let x := s0.xr w.a
      let y := s0.xr w.b
      c.issues q l 0x18 srcAB →
      Completes (.cmp dt q l) s fun d =>
        (d.laneOf q l).fl = { s0.fl with z := decide (x.toInt = y.toInt), n := decide (x.toInt < y.toInt) } ∧ (d.laneOf q l).readyAt 82 = c.issueAt q l ([w.a, w.b]) + 2 ∧ c.lawNext d q l ([w.a, w.b]) ∧ s0.keepsBut (d.laneOf q l) [] [] [] ∧ (d.laneOf q l).window = s0.window ∧ c.laneOnly d q l) ∧
  (∀ (dt : Nat) (q : Quay) (l : Fin 8) (s : State),
      let c := s.chip.after dt
      let w := c.nextWord q l
      let s0 := c.laneOf q l
      let x := s0.xr w.a
      let y := s0.xr w.b
      let r : Word := x &&& y
      c.issues q l 0x19 srcAB →
      Completes (.and dt q l) s fun d =>
        (d.laneOf q l).xr w.d = r ∧ (d.laneOf q l).fl = { s0.fl with z := decide (r.toInt = 0), n := decide (r.toInt < 0) } ∧ (d.laneOf q l).readyAt w.d = c.issueAt q l ([w.a, w.b]) + 1 ∧ c.lawNext d q l ([w.a, w.b]) ∧ s0.keepsBut (d.laneOf q l) [w.d] [] [] ∧ (d.laneOf q l).window = s0.window ∧ c.laneOnly d q l) ∧
  (∀ (dt : Nat) (q : Quay) (l : Fin 8) (s : State),
      let c := s.chip.after dt
      let w := c.nextWord q l
      let s0 := c.laneOf q l
      let x := s0.xr w.a
      let y := s0.xr w.b
      let r : Word := x ||| y
      c.issues q l 0x1A srcAB →
      Completes (.or dt q l) s fun d =>
        (d.laneOf q l).xr w.d = r ∧ (d.laneOf q l).fl = { s0.fl with z := decide (r.toInt = 0), n := decide (r.toInt < 0) } ∧ (d.laneOf q l).readyAt w.d = c.issueAt q l ([w.a, w.b]) + 1 ∧ c.lawNext d q l ([w.a, w.b]) ∧ s0.keepsBut (d.laneOf q l) [w.d] [] [] ∧ (d.laneOf q l).window = s0.window ∧ c.laneOnly d q l) ∧
  (∀ (dt : Nat) (q : Quay) (l : Fin 8) (s : State),
      let c := s.chip.after dt
      let w := c.nextWord q l
      let s0 := c.laneOf q l
      let x := s0.xr w.a
      let y := s0.xr w.b
      let r : Word := x ^^^ y
      c.issues q l 0x1B srcAB →
      Completes (.xor dt q l) s fun d =>
        (d.laneOf q l).xr w.d = r ∧ (d.laneOf q l).fl = { s0.fl with z := decide (r.toInt = 0), n := decide (r.toInt < 0) } ∧ (d.laneOf q l).readyAt w.d = c.issueAt q l ([w.a, w.b]) + 1 ∧ c.lawNext d q l ([w.a, w.b]) ∧ s0.keepsBut (d.laneOf q l) [w.d] [] [] ∧ (d.laneOf q l).window = s0.window ∧ c.laneOnly d q l) ∧
  (∀ (dt : Nat) (q : Quay) (l : Fin 8) (s : State),
      let c := s.chip.after dt
      let w := c.nextWord q l
      let s0 := c.laneOf q l
      c.issues q l 0x05 src0 →
      Completes (.movi dt q l) s fun d =>
        (d.laneOf q l).xr w.d = BitVec.ofNat 32 w.imm ∧ (d.laneOf q l).fl = s0.fl ∧ (d.laneOf q l).readyAt w.d = c.issueAt q l ([]) + 1 ∧ c.lawNext d q l ([]) ∧ s0.keepsBut (d.laneOf q l) [w.d] [] [] ∧ (d.laneOf q l).window = s0.window ∧ c.laneOnly d q l) ∧
  (∀ (dt : Nat) (q : Quay) (l : Fin 8) (s : State),
      let c := s.chip.after dt
      let w := c.nextWord q l
      let s0 := c.laneOf q l
      c.issues q l 0x02 src0 →
      Completes (.ldc dt q l) s fun d =>
        (d.laneOf q l).xr w.d = (c.coef q (c.launchTick q l) w.imm).1 ∧ (d.laneOf q l).fl = s0.fl ∧ (d.laneOf q l).readyAt w.d = c.issueAt q l ([]) + 4 ∧ c.lawNext d q l ([]) ∧ s0.keepsBut (d.laneOf q l) [w.d] [] [] ∧ (d.laneOf q l).window = s0.window ∧ c.laneOnly d q l) ∧
  (∀ (dt : Nat) (q : Quay) (l : Fin 8) (s : State),
      let c := s.chip.after dt
      let w := c.nextWord q l
      let s0 := c.laneOf q l
      c.issues q l 0x03 src0 →
      Completes (.ldm dt q l) s fun d =>
        (d.laneOf q l).xr w.d = s0.win (w.imm % 512) ∧ (d.laneOf q l).fl = s0.fl ∧ (d.laneOf q l).readyAt w.d = c.issueAt q l ([]) + 2 ∧ c.lawNext d q l ([]) ∧ s0.keepsBut (d.laneOf q l) [w.d] [] [] ∧ (d.laneOf q l).window = s0.window ∧ c.laneOnly d q l) ∧
  (∀ (dt : Nat) (q : Quay) (l : Fin 8) (s : State),
      let c := s.chip.after dt
      let w := c.nextWord q l
      let s0 := c.laneOf q l
      c.issues q l 0x04 srcA →
      Completes (.stm dt q l) s fun d =>
        ((List.range 512).all fun i => (d.laneOf q l).win i == if i = w.imm % 512 then s0.xr w.a else s0.win i) ∧ (d.laneOf q l).fl = s0.fl ∧ c.lawNext d q l ([w.a]) ∧ s0.keepsBut (d.laneOf q l) [] [] [] ∧ c.laneOnly d q l)

/-- For every legal word within its budget: MULC and MULX give the exact product divided by 2^S, rounded by RND and limited to 32 bits, and RDACC the same of ACC / 2^32; S is set when the limit changed the value. MACC adds the product times 2^(32 - S) when S is at most 32 and floor(P / 2^(S - 32)) otherwise, and limits the sum to 96 bits, setting S. RDACC with IMM[2] and CLRA clear the accumulator. Z, N and V, all other registers of the lane, all other lanes, registers and memory stay. -/
def Obligations.ProductsAndAccumulatorsOfALaw : Prop :=
  (∀ (dt : Nat) (q : Quay) (l : Fin 8) (s : State),
      let c := s.chip.after dt
      let w := c.nextWord q l
      let s0 := c.laneOf q l
      let k := c.coef q (c.launchTick q l) w.imm
      let e : Int := roundShift k.2.2 ((s0.xr w.a).toInt * k.1.toInt) k.2.1
      c.issues q l 0x08 srcA →
      Completes (.mulc dt q l) s fun d =>
        ((d.laneOf q l).xr w.d).toInt = clamp32 e ∧ (d.laneOf q l).fl = { s0.fl with s := s0.fl.s || beyond32 e } ∧ (d.laneOf q l).readyAt w.d = c.issueAt q l ([w.a]) + 10 ∧ c.lawNext d q l ([w.a]) ∧ s0.keepsBut (d.laneOf q l) [w.d] [] [] ∧ (d.laneOf q l).window = s0.window ∧ c.laneOnly d q l) ∧
  (∀ (dt : Nat) (q : Quay) (l : Fin 8) (s : State),
      let c := s.chip.after dt
      let w := c.nextWord q l
      let s0 := c.laneOf q l
      let e : Int := roundShift (w.imm / 64 % 4) ((s0.xr w.a).toInt * (s0.xr w.b).toInt) (w.imm % 64)
      c.issues q l 0x09 srcAB →
      Completes (.mulx dt q l) s fun d =>
        ((d.laneOf q l).xr w.d).toInt = clamp32 e ∧ (d.laneOf q l).fl = { s0.fl with s := s0.fl.s || beyond32 e } ∧ (d.laneOf q l).readyAt w.d = c.issueAt q l ([w.a, w.b]) + 10 ∧ c.lawNext d q l ([w.a, w.b]) ∧ s0.keepsBut (d.laneOf q l) [w.d] [] [] ∧ (d.laneOf q l).window = s0.window ∧ c.laneOnly d q l) ∧
  (∀ (dt : Nat) (q : Quay) (l : Fin 8) (s : State),
      let c := s.chip.after dt
      let w := c.nextWord q l
      let s0 := c.laneOf q l
      let k := c.coef q (c.launchTick q l) w.imm
      let p : Int := (s0.xr w.a).toInt * k.1.toInt
      let e : Int := s0.acc w.d + if k.2.1 ≤ 32 then p * 2 ^ (32 - k.2.1) else p / 2 ^ (k.2.1 - 32)
      c.issues q l 0x0A srcA →
      Completes (.macc dt q l) s fun d =>
        (d.laneOf q l).acc w.d = max (-(2 ^ 95)) (min (2 ^ 95 - 1) e) ∧ (d.laneOf q l).fl = { s0.fl with s := s0.fl.s || (decide (e < -(2 ^ 95)) || decide (2 ^ 95 - 1 < e)) } ∧ (d.laneOf q l).readyAt (80 + w.d) = c.issueAt q l ([w.a]) + 10 ∧ c.lawNext d q l ([w.a]) ∧ s0.keepsBut (d.laneOf q l) [] [] [w.d] ∧ (d.laneOf q l).window = s0.window ∧ c.laneOnly d q l) ∧
  (∀ (dt : Nat) (q : Quay) (l : Fin 8) (s : State),
      let c := s.chip.after dt
      let w := c.nextWord q l
      let s0 := c.laneOf q l
      let e : Int := roundShift (w.imm % 4) (s0.acc w.a) 32
      (c.issues q l 0x0B (fun w => [80 + w.a])) →
      Completes (.rdacc dt q l) s fun d =>
        (w.imm / 4 % 2 = 1 → (d.laneOf q l).acc w.a = 0) ∧ ((d.laneOf q l).xr w.d).toInt = clamp32 e ∧ (d.laneOf q l).fl = { s0.fl with s := s0.fl.s || beyond32 e } ∧ (d.laneOf q l).readyAt w.d = c.issueAt q l ([80 + w.a]) + 3 ∧ c.lawNext d q l ([80 + w.a]) ∧ (s0.keepsBut (d.laneOf q l) [w.d] [] (if w.imm / 4 % 2 = 1 then [w.a] else [])) ∧ (d.laneOf q l).window = s0.window ∧ c.laneOnly d q l) ∧
  (∀ (dt : Nat) (q : Quay) (l : Fin 8) (s : State),
      let c := s.chip.after dt
      let w := c.nextWord q l
      let s0 := c.laneOf q l
      c.issues q l 0x0C src0 →
      Completes (.clra dt q l) s fun d =>
        (d.laneOf q l).acc w.d = 0 ∧ (d.laneOf q l).fl = s0.fl ∧ (d.laneOf q l).readyAt (80 + w.d) = c.issueAt q l ([]) + 1 ∧ c.lawNext d q l ([]) ∧ s0.keepsBut (d.laneOf q l) [] [] [w.d] ∧ (d.laneOf q l).window = s0.window ∧ c.laneOnly d q l)

/-- For every legal word within its budget: SINCOS writes the interpolated sine of the turn fraction and the sine of the fraction plus a quarter turn to Xd and Xd+1. DIV gives Xa times 2^K over Xb, rounded towards zero and limited to 32 bits; with Xb = 0 it gives 2^31 - 1, -2^31 or 0 by the sign of Xa, sets S and counts in DIVZ_CNT. SQRT gives the floor of the root of Xa times 2^31 for Xa at least 0, and 0 with S set below 0. All other registers of the lane, all other lanes and memory stay. -/
def Obligations.SineQuotientAndRootOfALaw : Prop :=
  (∀ (dt : Nat) (q : Quay) (l : Fin 8) (s : State),
      let c := s.chip.after dt
      let w := c.nextWord q l
      let s0 := c.laneOf q l
      let x := s0.xr w.a
      c.issues q l 0x20 srcA →
      Completes (.sincos dt q l) s fun d =>
        ((d.laneOf q l).xr w.d).toInt = sineOf x ∧ ((d.laneOf q l).xr (w.d + 1)).toInt = sineOf (x + 0x40000000#32) ∧ (d.laneOf q l).fl = s0.fl ∧ (d.laneOf q l).readyAt w.d = c.issueAt q l ([w.a]) + 12 ∧ c.lawNext d q l ([w.a]) ∧ s0.keepsBut (d.laneOf q l) [w.d, w.d + 1] [] [] ∧ (d.laneOf q l).window = s0.window ∧ c.laneOnly d q l) ∧
  (∀ (dt : Nat) (q : Quay) (l : Fin 8) (s : State),
      let c := s.chip.after dt
      let w := c.nextWord q l
      let s0 := c.laneOf q l
      let x : Int := (s0.xr w.a).toInt
      let y : Int := (s0.xr w.b).toInt
      let e : Int := (x * 2 ^ (w.imm % 32)).tdiv y
      (c.issues q l 0x21 (fun w => [w.a, w.b, 85])) →
      Completes (.div dt q l) s fun d =>
        (y ≠ 0 → (((d.laneOf q l).xr w.d).toInt = clamp32 e ∧ (d.laneOf q l).fl = { s0.fl with s := s0.fl.s || beyond32 e } ∧ d.regs = c.regs)) ∧ (y = 0 → (((d.laneOf q l).xr w.d).toInt = (if 0 < x then 2147483647 else if x < 0 then -2147483648 else 0) ∧ (d.laneOf q l).fl = { s0.fl with s := true } ∧ d.fld (pgLANE q l) Reg.LANE.DIVZ_CNT = Nat.min (c.fld (pgLANE q l) Reg.LANE.DIVZ_CNT + 1) (2 ^ Reg.LANE.DIVZ_CNT.width - 1) ∧ (d.fld (pgLANE q l) Reg.HDR.EVT_RAW).testBit 7)) ∧ d.mem = c.mem ∧ (d.laneOf q l).readyAt w.d = c.issueAt q l ([w.a, w.b, 85]) + 36 ∧ c.lawNext d q l ([w.a, w.b, 85]) ∧ s0.keepsBut (d.laneOf q l) [w.d] [] [] ∧ (d.laneOf q l).window = s0.window) ∧
  (∀ (dt : Nat) (q : Quay) (l : Fin 8) (s : State),
      let c := s.chip.after dt
      let w := c.nextWord q l
      let s0 := c.laneOf q l
      let x := s0.xr w.a
      (c.issues q l 0x22 (fun w => [w.a, 85])) →
      Completes (.sqrt dt q l) s fun d =>
        (0 ≤ x.toInt → (((d.laneOf q l).xr w.d).toNat ^ 2 ≤ x.toNat * 2 ^ 31 ∧ x.toNat * 2 ^ 31 < (((d.laneOf q l).xr w.d).toNat + 1) ^ 2 ∧ (d.laneOf q l).fl = s0.fl)) ∧ (x.toInt < 0 → ((d.laneOf q l).xr w.d = 0 ∧ (d.laneOf q l).fl = { s0.fl with s := true })) ∧ (d.laneOf q l).readyAt w.d = c.issueAt q l ([w.a, 85]) + 36 ∧ c.lawNext d q l ([w.a, 85]) ∧ s0.keepsBut (d.laneOf q l) [w.d] [] [] ∧ (d.laneOf q l).window = s0.window ∧ c.laneOnly d q l)

/-- For every legal word within its budget: GETT loads the launch tick, the boundary, the next boundary, the stamp of the last LDS, for which it waits, or the period in fine steps; TADD and TADDI add a signed number modulo 2^67; TSUB gives the saturated difference; INJ gives the value at the launch tick of the generator set that was active then; NOP does nothing; BR jumps to IMM when its condition holds and takes three cycles. NOP stands for every opcode that Table 7-4 does not list too: such a word aborts the run with ILLEGAL. -/
def Obligations.TimesInjectionAndBranchesOfALaw : Prop :=
  (∀ (dt : Nat) (q : Quay) (l : Fin 8) (s : State),
      let c := s.chip.after dt
      let w := c.nextWord q l
      let s0 := c.laneOf q l
      let r := s0.run
      let g := r.bind fun r => (r.launch.fgs.find? fun e => e.1 == r.fg).map Prod.snd
      let k : List Nat := if w.imm % 8 = 3 then [86] else []
      (c.issues q l 0x28 (fun w => if w.imm % 8 = 3 then [86] else [])) →
      Completes (.gett dt q l) s fun d =>
        (w.imm % 8 = 0 → (d.laneOf q l).tr w.d = 8 * c.launchTick q l % 2 ^ 67) ∧ (w.imm % 8 = 3 → (d.laneOf q l).tr w.d = 8 * (r.map fun r => r.stamp).getD 0 % 2 ^ 67) ∧ (w.imm % 8 = 1 → (d.laneOf q l).tr w.d = 8 * (g.map Prod.fst).getD 0 % 2 ^ 67) ∧ (w.imm % 8 = 2 → (d.laneOf q l).tr w.d = 8 * (g.map fun e => e.1 + e.2).getD 0 % 2 ^ 67) ∧ (w.imm % 8 = 4 → (d.laneOf q l).tr w.d = 8 * (g.map Prod.snd).getD 0 % 2 ^ 67) ∧ (d.laneOf q l).fl = s0.fl ∧ (d.laneOf q l).readyAt (64 + w.d) = c.issueAt q l k + 2 ∧ c.lawNext d q l k ∧ s0.keepsBut (d.laneOf q l) [] [w.d] [] ∧ (d.laneOf q l).window = s0.window ∧ c.laneOnly d q l) ∧
  (∀ (dt : Nat) (q : Quay) (l : Fin 8) (s : State),
      let c := s.chip.after dt
      let w := c.nextWord q l
      let s0 := c.laneOf q l
      (c.issues q l 0x29 (fun w => [64 + w.a, w.b])) →
      Completes (.tadd dt q l) s fun d =>
        (((d.laneOf q l).tr w.d : Nat) : Int) = (s0.tr w.a + (s0.xr w.b).toInt) % 2 ^ 67 ∧ (d.laneOf q l).fl = s0.fl ∧ (d.laneOf q l).readyAt (64 + w.d) = c.issueAt q l ([64 + w.a, w.b]) + 3 ∧ c.lawNext d q l ([64 + w.a, w.b]) ∧ s0.keepsBut (d.laneOf q l) [] [w.d] [] ∧ (d.laneOf q l).window = s0.window ∧ c.laneOnly d q l) ∧
  (∀ (dt : Nat) (q : Quay) (l : Fin 8) (s : State),
      let c := s.chip.after dt
      let w := c.nextWord q l
      let s0 := c.laneOf q l
      c.issues q l 0x2A srcT →
      Completes (.taddi dt q l) s fun d =>
        (((d.laneOf q l).tr w.d : Nat) : Int) = (s0.tr w.a + (BitVec.ofNat 32 w.imm).toInt) % 2 ^ 67 ∧ (d.laneOf q l).fl = s0.fl ∧ (d.laneOf q l).readyAt (64 + w.d) = c.issueAt q l ([64 + w.a]) + 3 ∧ c.lawNext d q l ([64 + w.a]) ∧ s0.keepsBut (d.laneOf q l) [] [w.d] [] ∧ (d.laneOf q l).window = s0.window ∧ c.laneOnly d q l) ∧
  (∀ (dt : Nat) (q : Quay) (l : Fin 8) (s : State),
      let c := s.chip.after dt
      let w := c.nextWord q l
      let s0 := c.laneOf q l
      let e : Int := (s0.tr w.a : Int) - s0.tr w.b
      (c.issues q l 0x2B (fun w => [64 + w.a, 64 + w.b])) →
      Completes (.tsub dt q l) s fun d =>
        ((d.laneOf q l).xr w.d).toInt = clamp32 e ∧ (d.laneOf q l).fl = { s0.fl with s := s0.fl.s || beyond32 e } ∧ (d.laneOf q l).readyAt w.d = c.issueAt q l ([64 + w.a, 64 + w.b]) + 3 ∧ c.lawNext d q l ([64 + w.a, 64 + w.b]) ∧ s0.keepsBut (d.laneOf q l) [w.d] [] [] ∧ (d.laneOf q l).window = s0.window ∧ c.laneOnly d q l) ∧
  (∀ (dt : Nat) (q : Quay) (l : Fin 8) (s : State),
      let c := s.chip.after dt
      let w := c.nextWord q l
      let s0 := c.laneOf q l
      c.issues q l 0x36 src0 →
      Completes (.inj dt q l) s fun d =>
        ((d.laneOf q l).xr w.d = (s0.run.map fun r => r.launch.injValue (w.imm % 4)).getD 0) ∧ (d.laneOf q l).fl = s0.fl ∧ (d.laneOf q l).readyAt w.d = c.issueAt q l ([]) + 2 ∧ c.lawNext d q l ([]) ∧ s0.keepsBut (d.laneOf q l) [w.d] [] [] ∧ (d.laneOf q l).window = s0.window ∧ c.laneOnly d q l) ∧
  (∀ (dt : Nat) (q : Quay) (l : Fin 8) (s : State),
      let c := s.chip.after dt
      let w := c.nextWord q l
      let s0 := c.laneOf q l
      c.issues q l 0x00 src0 →
      Completes (.nop dt q l) s fun d =>
        (d.laneOf q l).fl = s0.fl ∧ c.lawNext d q l ([]) ∧ s0.keepsBut (d.laneOf q l) [] [] [] ∧ (d.laneOf q l).window = s0.window ∧ c.laneOnly d q l) ∧
  (∀ (dt : Nat) (q : Quay) (l : Fin 8) (s : State),
      let c := s.chip.after dt
      c.fetchesIllegal q l → (c.nextWord q l).op ∉ lawOpcodes →
      Completes (.nop dt q l) s fun d =>
        (d.laneOf q l).run = none ∧ (c.laneOf q l).keepsBut (d.laneOf q l) [] [] [] ∧ d.fld (pgLANE q l) Reg.LANE.ABORT_CAUSE = abILLEGAL ∧ (d.fld (pgLANE q l) Reg.HDR.EVT_RAW).testBit 3) ∧
  (∀ (dt : Nat) (q : Quay) (l : Fin 8) (s : State),
      let c := s.chip.after dt
      let w := c.nextWord q l
      let s0 := c.laneOf q l
      let r := s0.run
      c.issues q l 0x38 srcBr →
      Completes (.br dt q l) s fun d =>
        ((d.laneOf q l).run = r.map fun r => { r with pc := if s0.fl.holds (w.d % 8) then w.imm else r.pc + 1, cyc := c.issueAt q l (srcBr w) + 3 }) ∧ (d.laneOf q l).fl = s0.fl ∧ s0.keepsBut (d.laneOf q l) [] [] [] ∧ (d.laneOf q l).window = s0.window ∧ c.laneOnly d q l)

/-- For every legal word within its budget: EDGE appends the entry of Table 4-1 with TIME_LO from Ta[34:3], FINE from Ta[2:0] and KIND and LEG from IMM, for the block IMM[4:0], behind all entries issued before; CLOSE appends one with FINE 0 and KIND 0; VCMD appends Xa with the launch tick. MBX writes one mailbox word and MBX2 an even and an odd one; no other register changes. TAP appends one record with the lane, the descriptor, the launch tick and X(a) upward when the launch tick lies in an open window and the 64-word FIFO holds it; outside a window it writes nothing. No register of the lane changes. -/
def Obligations.OutputsOfALaw : Prop :=
  (∀ (dt : Nat) (q : Quay) (l : Fin 8) (s : State),
      let c := s.chip.after dt
      let w := c.nextWord q l
      let s0 := c.laneOf q l
      let t := s0.tr w.a
      c.issues q l 0x30 srcT →
      Completes (.edge dt q l) s fun d =>
        d.outbox = c.outbox ++ [⟨q, l, w.imm % 32, BitVec.ofNat 32 (t / 8), BitVec.ofNat 32 (t % 8 + 16 * (w.imm / 256 % 4) + 256 * (w.imm / 32 % 4))⟩] ∧ (d.laneOf q l).fl = s0.fl ∧ c.lawNext d q l ([64 + w.a]) ∧ s0.keepsBut (d.laneOf q l) [] [] [] ∧ (d.laneOf q l).window = s0.window ∧ c.laneOnly d q l) ∧
  (∀ (dt : Nat) (q : Quay) (l : Fin 8) (s : State),
      let c := s.chip.after dt
      let w := c.nextWord q l
      let s0 := c.laneOf q l
      let t := s0.tr w.a
      c.issues q l 0x31 srcT →
      Completes (.close dt q l) s fun d =>
        d.outbox = c.outbox ++ [⟨q, l, w.imm % 32, BitVec.ofNat 32 (t / 8), 0#32⟩] ∧ (d.laneOf q l).fl = s0.fl ∧ c.lawNext d q l ([64 + w.a]) ∧ s0.keepsBut (d.laneOf q l) [] [] [] ∧ (d.laneOf q l).window = s0.window ∧ c.laneOnly d q l) ∧
  (∀ (dt : Nat) (q : Quay) (l : Fin 8) (s : State),
      let c := s.chip.after dt
      let w := c.nextWord q l
      let s0 := c.laneOf q l
      c.issues q l 0x32 srcA →
      Completes (.vcmd dt q l) s fun d =>
        d.vcmds = c.vcmds ++ [(q, l.val, s0.xr w.a, c.launchTick q l)] ∧ (d.laneOf q l).fl = s0.fl ∧ c.lawNext d q l ([w.a]) ∧ s0.keepsBut (d.laneOf q l) [] [] [] ∧ (d.laneOf q l).window = s0.window ∧ c.laneOnly d q l) ∧
  (∀ (dt : Nat) (q : Quay) (l : Fin 8) (s : State),
      let c := s.chip.after dt
      let w := c.nextWord q l
      let s0 := c.laneOf q l
      c.issues q l 0x33 srcA →
      Completes (.mbx dt q l) s fun d =>
        d.word (mailboxAddr q (w.imm % 512)) = s0.xr w.a ∧ ((List.range 512).all fun i => i == w.imm % 512 || d.word (mailboxAddr q i) == c.word (mailboxAddr q i)) ∧ d.mem = c.mem ∧ (d.laneOf q l).fl = s0.fl ∧ c.lawNext d q l ([w.a]) ∧ s0.keepsBut (d.laneOf q l) [] [] [] ∧ (d.laneOf q l).window = s0.window) ∧
  (∀ (dt : Nat) (q : Quay) (l : Fin 8) (s : State),
      let c := s.chip.after dt
      let w := c.nextWord q l
      let s0 := c.laneOf q l
      c.issues q l 0x34 srcAB →
      Completes (.mbx2 dt q l) s fun d =>
        d.word (mailboxAddr q w.imm) = s0.xr w.a ∧ d.word (mailboxAddr q (w.imm + 1)) = s0.xr w.b ∧ ((List.range 512).all fun i => i == w.imm || i == w.imm + 1 || d.word (mailboxAddr q i) == c.word (mailboxAddr q i)) ∧ d.mem = c.mem ∧ (d.laneOf q l).fl = s0.fl ∧ c.lawNext d q l ([w.a, w.b]) ∧ s0.keepsBut (d.laneOf q l) [] [] [] ∧ (d.laneOf q l).window = s0.window) ∧
  (∀ (dt : Nat) (q : Quay) (l : Fin 8) (s : State),
      let c := s.chip.after dt
      let w := c.nextWord q l
      let s0 := c.laneOf q l
      let tap := w.imm % 16
      let t := c.launchTick q l
      let k := 16 * q.idx + tap
      let n := w.imm / 16 % 8
      let law := (s0.run.map fun r => r.launch.law).getD 0
      let used := ((c.tap k).fifo.map fun r => r.words.length).sum
      let hdr : Nat := tap + 16 * n + 128 * l.val + 1024 * law
      (c.issues q l 0x35 (fun w => (List.range (w.imm / 16 % 8 + 1)).map fun i => w.a + i)) →
      Completes (.tap dt q l) s fun d =>
        (c.tapOpen tap t = false → d.tap k = c.tap k) ∧ ((c.tapOpen tap t = true ∧ used + n + 4 ≤ 64 ∧ (c.tap k).lost = 0 ∧ (s0.run.bind fun r => r.launch.taps.find? fun e => e.1 == tap).isSome) → (d.tap k).fifo.length = (c.tap k).fifo.length + 1 ∧ ((d.tap k).fifo.getLast?.map fun r => r.words) = some ([BitVec.ofNat 32 hdr, BitVec.ofNat 32 (t % 2 ^ 32), BitVec.ofNat 32 (t / 2 ^ 32)] ++ (List.range (n + 1)).map fun i => s0.xr (w.a + i))) ∧ d.mem = c.mem ∧ (d.laneOf q l).fl = s0.fl ∧ (c.lawNext d q l ((List.range (w.imm / 16 % 8 + 1)).map fun i => w.a + i)) ∧ s0.keepsBut (d.laneOf q l) [] [] [] ∧ (d.laneOf q l).window = s0.window)

/-- For a legal LDS within its budget: a slot with EN = 0 returns 0 with V = 0; a slot that has overwritten a sample not older than the named tick returns 0 with V = 0 and counts in SLOT_LOST_CNT; otherwise the oldest sample held whose stamp is not less than the tick is returned, conditioned with coefficient words 2s and 2s + 1 of the bank of the launch tick, with its V and its stamp, or the lane stalls. LDS_RELEASE of a stall no longer than STALL_LIMIT ends it when such a sample has arrived: it returns that sample, counts the stall in STALL_MAX, and adds it to the ticks that do not count against BUDGET. Z and N stay. -/
def Obligations.SlotReadsAndStalls : Prop :=
  (∀ (dt : Nat) (q : Quay) (l : Fin 8) (s : State),
      let c := s.chip.after dt
      let w := c.nextWord q l
      let s0 := c.laneOf q l
      let i := w.imm % 256
      let tick := s0.tr w.a / 8
      let m := c.slot (256 * q.idx + i)
      let en := (c.slots q).any fun e => e.1 == i
      let lost := m.lost.any fun t => decide (tick ≤ t)
      let x := m.held.find? fun x => decide (tick ≤ x.stamp)
      let g := c.coef q (c.launchTick q l) (2 * i)
      let o := c.coef q (c.launchTick q l) (2 * i + 1)
      c.issues q l 0x01 srcT →
      Completes (.lds dt q l) s fun d =>
        (en = false → ((d.laneOf q l).xr w.d = 0 ∧ (d.laneOf q l).fl = { s0.fl with v := false })) ∧ ((en = true ∧ lost = true) → ((d.laneOf q l).xr w.d = 0 ∧ (d.laneOf q l).fl = { s0.fl with v := false } ∧ d.fld (pgLANE q l) Reg.LANE.SLOT_LOST_CNT = Nat.min (c.fld (pgLANE q l) Reg.LANE.SLOT_LOST_CNT + 1) 0xFFFF)) ∧ ((en = true ∧ lost = false ∧ x.isSome) → (((d.laneOf q l).xr w.d).toInt = (x.map fun x => if x.valid then clamp32 (roundShift g.2.2 ((x.value.toInt - o.1.toInt) * g.1.toInt) g.2.1) else 0).getD 0 ∧ (d.laneOf q l).fl.v = x.any (fun x => x.valid) ∧ ((d.laneOf q l).run.map fun r => r.stamp) = x.map fun x => x.stamp)) ∧ ((en = false ∨ lost = true ∨ x.isSome) → ((d.laneOf q l).readyAt w.d = c.issueAt q l [64 + w.a] + 14 ∧ ((d.laneOf q l).run.map fun r => (r.pc, r.cyc)) = (s0.run.map fun r => (r.pc + 1, c.issueAt q l [64 + w.a] + 1)) ∧ ((d.laneOf q l).run.bind fun r => r.stall) = none)) ∧ ((en = true ∧ lost = false ∧ x = none) → (((d.laneOf q l).run.bind fun r => r.stall) = some (i, tick, w.d, c.t) ∧ d.fld (pgLANE q l) Reg.LANE.LANE_STAT_STALLED = 1)) ∧ s0.keepsBut (d.laneOf q l) [w.d] [] [] ∧ (d.laneOf q l).fl.z = s0.fl.z ∧ (d.laneOf q l).fl.n = s0.fl.n ∧ d.mem = c.mem) ∧
  (∀ (dt : Nat) (q : Quay) (l : Fin 8) (s : State),
      let c := s.chip.after dt
      let s0 := c.laneOf q l
      let st := (s0.run.bind fun r => r.stall).getD (0, 0, 0, 0)
      let tL := c.launchTick q l
      let m := c.slot (256 * q.idx + st.1)
      let en := (c.slots q).any fun e => e.1 == st.1
      let lost := m.lost.any fun t => decide (st.2.1 ≤ t)
      let x := m.held.find? fun x => decide (st.2.1 ≤ x.stamp)
      let g := c.coef q tL (2 * st.1)
      let o := c.coef q tL (2 * st.1 + 1)
      ((s0.run.bind fun r => r.stall).isSome) → (en = false ∨ lost = true ∨ x.isSome) → st.2.2.1 < 64 → (s0.run.all fun r => r.img == .none && decide (c.t - st.2.2.2 ≤ r.stallLimit)) →
      Completes (.ldsRelease dt q l) s fun d =>
        ((d.laneOf q l).run.bind (fun r => r.stall) = none) ∧ d.fld (pgLANE q l) Reg.LANE.LANE_STAT_STALLED = 0 ∧ (((d.laneOf q l).run.map fun r => (r.stalled, r.pc)) = s0.run.map fun r => (r.stalled + (c.t - st.2.2.2), r.pc)) ∧ ((en = true ∧ lost = false) → (((d.laneOf q l).xr st.2.2.1).toInt = (x.map fun x => if x.valid then clamp32 (roundShift g.2.2 ((x.value.toInt - o.1.toInt) * g.1.toInt) g.2.1) else 0).getD 0 ∧ (d.laneOf q l).fl.v = x.any (fun x => x.valid))) ∧ ((en = false ∨ lost = true) → ((d.laneOf q l).xr st.2.2.1 = 0 ∧ (d.laneOf q l).fl.v = false)) ∧ s0.keepsBut (d.laneOf q l) [st.2.2.1] [] [] ∧ Nat.min (c.t - st.2.2.2) (2 ^ 22 - 1) ≤ d.fld (pgLANE q l) Reg.LANE.STALL_MAX)

/-- RUN_START of a lane that is idle serves its oldest request: with a descriptor that passes Table 7-2 the lane runs from CODE with the published state block in its window, S clear and RUNNING set, every other register, flag and window word as at the start of every run (the values are the model's constants, log entry 7), and without one the request is dropped as INVALID and counted. END ends the run and, in the ACTIVE Quay, writes the state window to the state block; a run with S set counts in SAT_CNT. RUN_OVERTIME, RUN_STALL_TIMEOUT and RUN_UNCORR abort the run with their causes: the state block keeps its words. That the run of a shipped law image is one command with its results as operands is the model's choice (log entry 6); here the image is none. -/
def Obligations.RunsStartEndAndAbort : Prop :=
  (∀ (dt : Nat) (q : Quay) (l : Fin 8) (img : ImageRun) (s : State),
      let c := s.chip.after dt
      let s0 := c.laneOf q l
      let x := s0.queue.headD ⟨0, 0, [], [], [], 0, []⟩
      let y := c.descriptor q x.law
      let e := y.getD ⟨0, 0, 0, 0, 0, 0⟩
      img = .none → s0.queue ≠ [] → s0.run = none → s0.halted = false →
      Completes (.runStart dt q l img) s fun d =>
        (d.laneOf q l).queue = s0.queue.tail ∧ (y.isSome → ((d.laneOf q l).run.map fun r => (r.launch, r.pc, r.cyc, r.budget, r.stallLimit)) = some (x, e.code, 0, e.budget, e.stallLimit)) ∧ (y.isSome → ((List.range e.words).all fun i => (d.laneOf q l).win i == c.word (lawAddr q e.state + 4 * i)) = true) ∧ (y.isSome → (((List.range 64).all fun i => (d.laneOf q l).xr i == BitVec.ofNat 32 (Config.runStart i)) && ((List.range 16).all fun i => (d.laneOf q l).tr i == Config.runStart (64 + i) % 2 ^ 67) && (List.range 512).all fun i => decide (i < e.words) || (d.laneOf q l).win i == BitVec.ofNat 32 (Config.runStart (128 + i))) = true) ∧ (y.isSome → ((d.laneOf q l).fl = flagsAtStart ∧ (d.laneOf q l).fl.s = false ∧ d.fld (pgLANE q l) Reg.LANE.LANE_STAT_RUNNING = 1 ∧ d.fld (pgLANE q l) Reg.LANE.LANE_STAT_LAW = x.law % 1024 ∧ (d.fld (pgENG q) Reg.ENG.ENG_STAT_BUSY).testBit l)) ∧ (y = none → (d.laneOf q l).run = none) ∧ (y = none → d.fld (pgLANE q l) Reg.LANE.DROP_CNT = Nat.min (c.fld (pgLANE q l) Reg.LANE.DROP_CNT + 1) 0xFFFF) ∧ d.mem = c.mem) ∧
  (∀ (dt : Nat) (q : Quay) (l : Fin 8) (s : State),
      let c := s.chip.after dt
      let s0 := c.laneOf q l
      let r := (s0.run.map fun r => (r.state, r.words)).getD (0, 0)
      c.issues q l 0x3F src0 →
      Completes (.endRun dt q l) s fun d =>
        (d.laneOf q l).run = none ∧ d.fld (pgLANE q l) Reg.LANE.LANE_STAT_RUNNING = 0 ∧ (d.fld (pgENG q) Reg.ENG.ENG_STAT_BUSY).testBit l = false ∧ ((c.qstate q = 4 ∧ 2048 ≤ r.1 ∧ r.1 < 32768 ∧ r.2 ≤ 512) → ((List.range r.2).all fun i => decide (65536 ≤ 2 * r.1 + i) || d.word (lawAddr q r.1 + 4 * i) == s0.win i) = true) ∧ ((c.qstate q ≠ 4 ∧ 2048 ≤ r.1 ∧ r.1 < 32768 ∧ r.2 ≤ 512) → ((List.range r.2).all fun i => decide (65536 ≤ 2 * r.1 + i) || d.word (lawAddr q r.1 + 4 * i) == c.word (lawAddr q r.1 + 4 * i)) = true) ∧ (s0.fl.s = true → d.fld (pgLANE q l) Reg.LANE.SAT_CNT = Nat.min (c.fld (pgLANE q l) Reg.LANE.SAT_CNT + 1) 0xFFFF) ∧ s0.keepsBut (d.laneOf q l) [] [] [] ∧ d.mem = c.mem) ∧
  (∀ (dt : Nat) (q : Quay) (l : Fin 8) (s : State),
      let c := s.chip.after dt
      ((c.laneOf q l).run.any fun r => r.stall.isNone && decide (r.budget ≤ r.cyc)) →
      Completes (.runOvertime dt q l) s fun d =>
        (d.laneOf q l).run = none ∧ d.fld (pgLANE q l) Reg.LANE.ABORT_CAUSE = abOVERTIME ∧ (d.fld (pgLANE q l) Reg.HDR.EVT_RAW).testBit 1 ∧ d.fld (pgLANE q l) Reg.LANE.ABORT_CNT = Nat.min (c.fld (pgLANE q l) Reg.LANE.ABORT_CNT + 1) 0xFFFF ∧ d.mem = c.mem) ∧
  (∀ (dt : Nat) (q : Quay) (l : Fin 8) (s : State),
      let c := s.chip.after dt
      ((c.laneOf q l).run.any fun r => r.stall.any fun e => c.ldsLook q e.1 e.2.1 == .wait) →
      Completes (.runStallTimeout dt q l) s fun d =>
        (d.laneOf q l).run = none ∧ d.fld (pgLANE q l) Reg.LANE.ABORT_CAUSE = abSTALL ∧ (d.fld (pgLANE q l) Reg.HDR.EVT_RAW).testBit 2 ∧ d.fld (pgLANE q l) Reg.LANE.LANE_STAT_STALLED = 0 ∧ d.mem = c.mem) ∧
  (∀ (dt : Nat) (q : Quay) (l : Fin 8) (s : State),
      let c := s.chip.after dt
      (c.laneOf q l).run.isSome → c.qstate q = 4 →
      Completes (.runUncorr dt q l) s fun d =>
        (d.laneOf q l).run = none ∧ d.fld (pgLANE q l) Reg.LANE.ABORT_CAUSE = abUNCORR)

/-- A write of law memory that reaches it is stored while EN of the engine is 0, has no effect and counts in LAWMEM_WR_REJ while EN is 1, and counts in MIRROR_BLOCKED instead while the mirror runs towards that Quay. While no mirror runs towards the Quay, SIG_REQ asks for the signature and SIG_DONE stores the CRC-32 of law memory. A read of an even mailbox word answers it and keeps the odd word for the reader. A capture window that ends clears its WIN_STAT bit. The window of an injection generator opens and closes once each, when the Tide reaches START and START + DURATION, with its event. -/
def Obligations.LawMemoryMailboxCaptureAndInjection : Prop :=
  (∀ (dt : Nat) (src : Src) (q : Quay) (i : Fin 65536) (w : Word) (s : State),
      let c := s.chip.after dt
      let a := lawAddr q 0 + 4 * i.val
      src ≠ .debug → c.respond src a 32 true = .ok → c.portOpen src →
      Completes (.lawmemWrite dt src q i w) s fun d =>
        (c.mirrors q.other → (d.word a = c.word a ∧ d.fld (pgGWY q) Reg.GWY.MIRROR_BLOCKED = Nat.min (c.fld (pgGWY q) Reg.GWY.MIRROR_BLOCKED + 1) (2 ^ Reg.GWY.MIRROR_BLOCKED.width - 1))) ∧ ((¬ c.mirrors q.other ∧ c.en (pgENG q)) → (d.word a = c.word a ∧ d.fld (pgENG q) Reg.ENG.LAWMEM_WR_REJ = Nat.min (c.fld (pgENG q) Reg.ENG.LAWMEM_WR_REJ + 1) 0xFFFF ∧ (d.fld (pgENG q) Reg.HDR.EVT_RAW).testBit 1)) ∧ ((¬ c.mirrors q.other ∧ ¬ c.en (pgENG q)) → (d.word a = w ∧ d.fld (pgENG q) Reg.ENG.LAWMEM_WR_REJ = c.fld (pgENG q) Reg.ENG.LAWMEM_WR_REJ)) ∧ d.mem = c.mem) ∧
  (∀ (dt : Nat) (src : Src) (q : Quay) (s : State),
      let c := s.chip.after dt
      c.serves src (pgENG q) 0x04C true → c.mirrors q.other = false →
      Completes (.sigReq dt src q) s fun d =>
        d.fld (pgENG q) Reg.ENG.SIG_CTRL = 1 ∧ d.fld (pgENG q) Reg.ENG.LAWMEM_SIG = c.fld (pgENG q) Reg.ENG.LAWMEM_SIG) ∧
  (∀ (dt : Nat) (q : Quay) (s : State),
      let c := s.chip.after dt
      c.flag (pgENG q) Reg.ENG.SIG_CTRL →
      Completes (.sigDone dt q) s fun d =>
        d.fld (pgENG q) Reg.ENG.SIG_CTRL = 0 ∧ d.fld (pgENG q) Reg.ENG.LAWMEM_SIG = crc32 (c.bytesOf (lawAddr q 0) 65536) ∧ (d.fld (pgENG q) Reg.HDR.EVT_RAW).testBit 2) ∧
  (∀ (dt : Nat) (src : Src) (q : Quay) (i : Fin 256) (s : State),
      let c := s.chip.after dt
      let a := mailboxAddr q (2 * i.val)
      src ≠ .debug → c.respond src a 32 false = .ok → c.portOpen src →
      Completes (.mailboxPairRead dt src q i) s fun d =>
        d.resp = 0 ∧ d.rdata = c.word a ∧ (src.code, 2 * i.val, c.word (a + 4)) ∈ (d.eng q.idx).holding ∧ d.regs = c.regs) ∧
  (∀ (dt : Nat) (tap : Fin 16) (s : State),
      let c := s.chip.after dt
      (c.fld pgCAP Reg.CAP.WIN_STAT).testBit tap →
      Completes (.captureWindowClose dt tap) s fun d =>
        (d.fld pgCAP Reg.CAP.WIN_STAT).testBit tap = false ∧ ((List.range 16).all fun i => i == tap.val || (d.fld pgCAP Reg.CAP.WIN_STAT).testBit i == (c.fld pgCAP Reg.CAP.WIN_STAT).testBit i)) ∧
  (∀ (dt : Nat) (q : Quay) (g : Fin 4) (s : State),
      let c := s.chip.after dt
      let x := (c.injSets q)[g]?
      let t := (x.map fun x => x.start).getD 0
      c.tideOn → (x.any fun x => x.mode != 0 && decide (c.t ≤ x.start)) → (c.eng q.idx).edges.contains (2 * g.val, t) = false → t < 2 ^ 64 →
      Completes (.injWindowOpen dt q g) s fun d =>
        d.t = t ∧ (d.fld (pgINJ q) Reg.HDR.EVT_RAW).testBit 0 ∧ (d.eng q.idx).edges.contains (2 * g.val, t) ∧ d.lanes = c.lanes) ∧
  (∀ (dt : Nat) (q : Quay) (g : Fin 4) (s : State),
      let c := s.chip.after dt
      let x := (c.injSets q)[g]?
      let t := (x.map fun x => x.start + x.duration).getD 0
      c.tideOn → (x.any fun x => x.mode != 0 && decide (c.t ≤ x.start + x.duration)) → (c.eng q.idx).edges.contains (2 * g.val + 1, t) = false → t < 2 ^ 64 →
      Completes (.injWindowClose dt q g) s fun d =>
        d.t = t ∧ (d.fld (pgINJ q) Reg.HDR.EVT_RAW).testBit 1 ∧ (d.eng q.idx).edges.contains (2 * g.val + 1, t) ∧ d.lanes = c.lanes)

/-- New levels that the pins hold at no more than FILT samples change nothing; held at more, they pass the input filter. A filtered edge of an enabled QUAD interface that changes one of A and B moves LIVE_COUNT by one, modulo 2^32, in the direction of the sequence 00, 10, 11, 01 unless DIR_INV; one that changes both counts as illegal. A qualified index captures ZPOS and, where the mode loads, sets LIVE_COUNT to Z_VALUE and REFERENCED. A hall code that is the neighbour moves the count; another valid pair or an invalid code is illegal. STILL_TIMEOUT sets STILL. FAULT_CLR clears ENC_FAULT and its wire. ZARM arms the index. A serial request that ends without cause clears the run of bad frames; one with a cause stores LAST_ERR and counts, and the third in a row sets ENC_FAULT. POS_WORDS_READY puts the oldest sampled words into the registers, or zeros while the interface is off. An emulated output moves one count towards its target and a PASS output follows its source. -/
def Obligations.PositionEdgesAndFrames : Prop :=
  (∀ (dt : Nat) (n : Fin 8) (a b : Bool) (held : Nat) (s : State),
      let c := s.chip.after dt
      let p := pgPOS n
      let v := (c.pos n).levels
      let a0 := v.testBit 0
      let b0 := v.testBit 1
      let up := (quadPhase a b == (quadPhase a0 b0 + 1) % 4) != c.actFlag p Reg.POS.POS_CFG_DIR_INV
      c.act (pgPOS n) Reg.POS.POS_CFG_FILT < held → c.on p → c.posMode n = 1 →
      Completes (.quadEdge dt n a b held) s fun d =>
        (((a != a0) != (b != b0)) = true → d.fld p Reg.POS.LIVE_COUNT = (c.fld p Reg.POS.LIVE_COUNT + if up then 1 else 0xFFFFFFFF) % 2 ^ 32) ∧ (((a != a0) != (b != b0)) = true → (d.flag p Reg.POS.POS_STAT_DIR = !up ∧ d.fld p Reg.POS.POS_STAT_STILL = 0)) ∧ (((a != a0) && (b != b0)) = true → (d.fld p Reg.POS.LIVE_COUNT = c.fld p Reg.POS.LIVE_COUNT ∧ d.fld p Reg.POS.ILLEGAL_CNT = Nat.min (c.fld p Reg.POS.ILLEGAL_CNT + 1) 0xFFFF ∧ d.fld p Reg.POS.POS_STAT_LAST_ERR = 7)) ∧ ((a = a0 ∧ b = b0) → d.regs = c.regs) ∧ (d.pos n).levels.testBit 0 = a ∧ (d.pos n).levels.testBit 1 = b) ∧
  (∀ (dt : Nat) (n : Fin 8) (a b : Bool) (held : Nat) (s : State),
      let c := s.chip.after dt
      held ≤ c.act (pgPOS n) Reg.POS.POS_CFG_FILT →
      Completes (.quadEdge dt n a b held) s fun d =>
        d.regs = c.regs ∧ (d.pos n).levels = (c.pos n).levels) ∧
  (∀ (dt : Nat) (n : Fin 8) (z : Bool) (held : Nat) (s : State),
      let c := s.chip.after dt
      let p := pgPOS n
      let v := (c.pos n).levels
      let mode := c.act p Reg.POS.INDEX_CFG_Z_MODE
      let loads := mode == 3 || (mode == 2 && (c.pos n).armed)
      let qual := !c.actFlag p Reg.POS.INDEX_CFG_Z_QUAL_EN || c.act p Reg.POS.INDEX_CFG_Z_QUAL == (if v.testBit 0 then 2 else 0) + if v.testBit 1 then 1 else 0
      c.act (pgPOS n) Reg.POS.POS_CFG_FILT < held → c.on p → c.posMode n = 1 → z ≠ v.testBit 2 → z ≠ c.actFlag p Reg.POS.INDEX_CFG_Z_POL → qual = true → mode ≠ 0 →
      Completes (.quadIndex dt n z held) s fun d =>
        d.fld p Reg.POS.ZPOS = c.fld p Reg.POS.LIVE_COUNT ∧ (loads = true → (d.fld p Reg.POS.LIVE_COUNT = c.act p Reg.POS.Z_VALUE ∧ d.fld p Reg.POS.POS_STAT_REFERENCED = 1)) ∧ (loads = false → (d.fld p Reg.POS.LIVE_COUNT = c.fld p Reg.POS.LIVE_COUNT ∧ d.fld p Reg.POS.POS_STAT_REFERENCED = c.fld p Reg.POS.POS_STAT_REFERENCED)) ∧ (d.pos n).armed = false ∧ (d.fld p Reg.HDR.EVT_RAW).testBit 5) ∧
  (∀ (dt : Nat) (n : Fin 8) (z : Bool) (held : Nat) (s : State),
      let c := s.chip.after dt
      held ≤ c.act (pgPOS n) Reg.POS.POS_CFG_FILT →
      Completes (.quadIndex dt n z held) s fun d =>
        d.regs = c.regs ∧ (d.pos n).levels = (c.pos n).levels) ∧
  (∀ (dt : Nat) (n : Fin 8) (code : BitVec 3) (held : Nat) (s : State),
      let c := s.chip.after dt
      let p := pgPOS n
      let i := c.hallSector n (c.pos n).levels
      let k := c.hallSector n code.toNat
      let near := i.any fun i => k.any fun k => k == (i + 1) % 6 || i == (k + 1) % 6
      let up := (i.any fun i => k.any fun k => k == (i + 1) % 6) != c.actFlag p Reg.POS.POS_CFG_DIR_INV
      c.act (pgPOS n) Reg.POS.POS_CFG_FILT < held → c.on p → c.posMode n = 2 → code.toNat ≠ (c.pos n).levels →
      Completes (.hallEdge dt n code held) s fun d =>
        (d.pos n).levels = code.toNat ∧ ((i.isNone ∧ k.isSome) → (d.fld p Reg.POS.LIVE_COUNT = c.fld p Reg.POS.LIVE_COUNT ∧ d.fld p Reg.POS.ILLEGAL_CNT = c.fld p Reg.POS.ILLEGAL_CNT)) ∧ (near = true → (d.fld p Reg.POS.LIVE_COUNT = (c.fld p Reg.POS.LIVE_COUNT + if up then 1 else 0xFFFFFFFF) % 2 ^ 32 ∧ d.fld p Reg.POS.POS_STAT_EXACT = 1)) ∧ ((near = false ∧ (k = none ∨ i.isSome)) → (d.fld p Reg.POS.LIVE_COUNT = c.fld p Reg.POS.LIVE_COUNT ∧ d.fld p Reg.POS.ILLEGAL_CNT = Nat.min (c.fld p Reg.POS.ILLEGAL_CNT + 1) 0xFFFF))) ∧
  (∀ (dt : Nat) (n : Fin 8) (code : BitVec 3) (held : Nat) (s : State),
      let c := s.chip.after dt
      held ≤ c.act (pgPOS n) Reg.POS.POS_CFG_FILT →
      Completes (.hallEdge dt n code held) s fun d =>
        d.regs = c.regs ∧ (d.pos n).levels = (c.pos n).levels) ∧
  (∀ (dt : Nat) (n : Fin 8) (s : State),
      let c := s.chip.after dt
      let p := pgPOS n
      c.on p → (c.stillAt n).isSome →
      Completes (.stillTimeout dt n) s fun d =>
        d.fld p Reg.POS.POS_STAT_STILL = 1 ∧ (c.fld p Reg.POS.POS_STAT_STILL = 0 → (d.fld p Reg.HDR.EVT_RAW).testBit 4) ∧ d.fld p Reg.POS.LIVE_COUNT = c.fld p Reg.POS.LIVE_COUNT) ∧
  (∀ (dt : Nat) (src : Src) (n : Fin 8) (s : State),
      let c := s.chip.after dt
      let p := pgPOS n
      c.serves src p 0x070 true →
      Completes (.posFaultClr dt src n) s fun d =>
        d.flag p Reg.POS.POS_STAT_ENC_FAULT = false ∧ d.fld p Reg.POS.POS_STAT_SPD_VALID = 0 ∧ d.fld p Reg.POS.POS_STAT_EXACT = 0 ∧ (c.flag p Reg.POS.POS_STAT_ENC_FAULT → d.bitAt pgFLT8 Reg.FLT8.RAW (fPOS_FAULT n) = false) ∧ (d.pos n).illegal = []) ∧
  (∀ (dt : Nat) (src : Src) (n : Fin 8) (s : State),
      let c := s.chip.after dt
      c.serves src (pgPOS n) 0x070 true →
      Completes (.zarm dt src n) s fun d =>
        (d.pos n).armed = true ∧ d.fld (pgPOS n) Reg.POS.LIVE_COUNT = c.fld (pgPOS n) Reg.POS.LIVE_COUNT) ∧
  (∀ (dt : Nat) (n : Fin 8) (low : Bool) (bits : List Bool) (s : State),
      let c := s.chip.after dt
      let p := pgPOS n
      let ws := ((c.pos n).req.map Prod.snd).getD []
      let f := readSerial ws (c.pos n).passed low bits
      (c.pos n).req.isSome →
      Completes (.serialFrameDone dt n low bits) s fun d =>
        (d.pos n).req = none ∧ (f.cause = 0 → ((d.pos n).frameOk = true ∧ (d.pos n).bad = 0 ∧ d.flag p Reg.POS.POS_STAT_WARN = f.warn ∧ d.fld p Reg.POS.FRAME_ERR_CNT = c.fld p Reg.POS.FRAME_ERR_CNT)) ∧ (f.cause ≠ 0 → ((d.pos n).frameOk = false ∧ d.fld p Reg.POS.POS_STAT_LAST_ERR = f.cause % 16 ∧ d.fld p Reg.POS.FRAME_ERR_CNT = Nat.min (c.fld p Reg.POS.FRAME_ERR_CNT + 1) 0xFFFF ∧ (d.fld p Reg.HDR.EVT_RAW).testBit 0)) ∧ ((f.cause ≠ 0 ∧ 2 ≤ (c.pos n).bad) → d.fld p Reg.POS.POS_STAT_ENC_FAULT = 1) ∧ (low = true → f.cause = 1) ∧ (d.pos n).out.length = (c.pos n).out.length + 1) ∧
  (∀ (dt : Nat) (n : Fin 8) (s : State),
      let c := s.chip.after dt
      let p := pgPOS n
      let w := (c.pos n).out.headD ⟨0, 0, [], none⟩
      let live := c.en p && c.domainOn 10 && !c.flag p Reg.HDR.PAGE_STAT_SAFE
      let v := fun i => if live && (w.words.getD i (0, false)).2 then (w.words.getD i (0, false)).1.toNat else 0
      (c.pos n).out ≠ [] →
      Completes (.posWordsReady dt n) s fun d =>
        (d.pos n).out = (c.pos n).out.tail ∧ d.fld p Reg.POS.ANGLE = v 0 ∧ d.fld p Reg.POS.COUNT = v 1 ∧ d.fld p Reg.POS.SPEED = v 2 ∧ d.fld p Reg.POS.EDGE_AGE = v 3 ∧ d.flag p Reg.POS.POS_STAT_ANGLE_VALID = (live && (w.words.getD 0 (0, false)).2) ∧ d.fld p Reg.POS.RES_TIDE = w.t % 2 ^ 32) ∧
  (∀ (dt : Nat) (j : Fin 4) (s : State),
      let c := s.chip.after dt
      let p := pgEMU j
      let e := c.emu j
      let o : Int := if e.out < e.t then e.out + 1 else e.out - 1
      c.on p → c.act p Reg.EMU.EMU_CFG_MODE = 1 → e.t ≠ e.out → c.act p Reg.EMU.LINES ≠ 0 →
      Completes (.emuCountStep dt j) s fun d =>
        (d.emu j).out = o ∧ (d.fld p Reg.EMU.OUT_COUNT : Int) = o % (4 * c.act p Reg.EMU.LINES : Nat) ∧ (d.emu j).t = e.t) ∧
  (∀ (dt : Nat) (j : Fin 4) (s : State),
      let c := s.chip.after dt
      let p := pgEMU j
      let v := (c.pos (c.act p Reg.EMU.EMU_CFG_SRC)).levels
      let sw := c.actFlag p Reg.EMU.EMU_CFG_DIR_INV
      c.on p → c.act p Reg.EMU.EMU_CFG_MODE = 2 → (c.emu j).broken = false →
      Completes (.emuPassFollow dt j) s fun d =>
        (d.flag p Reg.EMU.EMU_STAT_A = v.testBit (if sw then 1 else 0)) ∧ (d.flag p Reg.EMU.EMU_STAT_B = v.testBit (if sw then 0 else 1)) ∧ d.flag p Reg.EMU.EMU_STAT_Z = v.testBit 2)

/-- A carrier period of a DIRECT cell judges the cap by CP_FAULT and starts the next period. Two BST_UV measurements in a row beyond the level change BST_UV. CP_FAULT sets and clears. A short detected at a gate that is on, 625 ticks after its blanking or later, latches VDS, turns both gates off, counts, raises the fault, and puts a unit that owns the cell into FAULT with cause VDS. VDS_CLR clears the latches whose comparator reads low. REARM is refused with 0x44 while the Shutter is closed or a latch is set, and otherwise clears SHUT_HOLD of a DIRECT cell whose supply is good. SELFTEST is refused with 0x41 while EN is 1; its end stores the result. Two supply measurements in a row that contradict the state of the block's supply change it. -/
def Obligations.BridgeCellsProtectThemselves : Prop :=
  (∀ (dt : Nat) (n : Fin 16) (s : State),
      let c := s.chip.after dt
      let p := pgBRG n
      let pwm := c.act p Reg.BRG.BRG_CFG_MODE == 2 && c.act p Reg.BRG.DIRECT_DSTATE == 1
      let fin := (c.brg n).carrier.getD 0 + c.act p Reg.BRG.PWM_PERIOD
      let weak := c.bst n Reg.BRG.BRG_STAT_CP_FAULT
      c.on p → (c.brg n).carrier.isSome →
      Completes (.brgCarrierStart dt n) s fun d =>
        ((d.brg n).carrier = (c.brg n).carrier.map fun t => t + c.act p Reg.BRG.PWM_PERIOD) ∧ (pwm = true → (d.brg n).capTo = (if weak then fin else (c.brg n).capTo)) ∧ ((pwm = true ∧ weak = true) → (d.shown p 0x05C).getLsbD 6 = decide (d.t < fin)) ∧ (pwm = false → d.regs = c.regs)) ∧
  (∀ (dt : Nat) (n : Fin 16) (dv : BitVec 8) (s : State),
      let c := s.chip.after dt
      let p := pgBRG n
      let uv := c.bst n Reg.BRG.BRG_STAT_BST_UV
      let hit := if uv then decide (c.act p Reg.BRG.BST_CFG_BST_UV + 5 < dv.toNat) else decide (dv.toNat < c.act p Reg.BRG.BST_CFG_BST_UV)
      c.domainOn 9 →
      Completes (.bstMeasure dt n dv) s fun d =>
        d.fld p Reg.BRG.VBST = dv.toNat ∧ ((hit = true ∧ 1 ≤ (c.brg n).bst) → d.flag p Reg.BRG.BRG_STAT_BST_UV = !uv) ∧ ((hit = false ∨ (c.brg n).bst = 0) → d.flag p Reg.BRG.BRG_STAT_BST_UV = uv) ∧ (hit = false → (d.brg n).bst = 0)) ∧
  (∀ (dt : Nat) (n : Fin 16) (s : State),
      let c := s.chip.after dt
      c.en (pgBRG n) → c.domainOn 9 →
      Completes (.cpFaultSet dt n) s fun d =>
        d.fld (pgBRG n) Reg.BRG.BRG_STAT_CP_FAULT = 1 ∧ (c.bst n Reg.BRG.BRG_STAT_CP_FAULT = false → (d.fld (pgBRG n) Reg.HDR.EVT_RAW).testBit 2)) ∧
  (∀ (dt : Nat) (n : Fin 16) (s : State),
      let c := s.chip.after dt
      Completes (.cpFaultClear dt n) s fun d =>
        d.fld (pgBRG n) Reg.BRG.BRG_STAT_CP_FAULT = 0) ∧
  (∀ (dt : Nat) (n : Fin 16) (high atBlank : Bool) (s : State),
      let c := s.chip.after dt
      let p := pgBRG n
      let gate := if high then Reg.BRG.BRG_STAT_GATE_H else Reg.BRG.BRG_STAT_GATE_L
      let latch := if high then Reg.BRG.BRG_STAT_VDS_H else Reg.BRG.BRG_STAT_VDS_L
      let u := (c.unitOf n).getD 0
      let blanked := (if high then (c.brg n).onH else (c.brg n).onL) + c.act p Reg.BRG.VDS_CFG_BLANK + vdsCount
      let at_ := if atBlank then blanked else c.t
      blanked ≤ at_ → c.t ≤ at_ → at_ < 2 ^ 64 → ((c.brg n).plan.all fun e => decide (at_ < e.t)) → c.bst n gate → c.bst n latch = false →
      Completes (.vdsDetect dt n high atBlank) s fun d =>
        d.fld p latch = 1 ∧ d.fld p Reg.BRG.BRG_STAT_GATE_H = 0 ∧ d.fld p Reg.BRG.BRG_STAT_GATE_L = 0 ∧ d.fld p Reg.BRG.VDS_CNT = Nat.min (c.fld p Reg.BRG.VDS_CNT + 1) 0xFFFF ∧ d.bitAt pgFLT8 Reg.FLT8.RAW (fBRG_VDS n) ∧ (d.fld p Reg.HDR.EVT_RAW).testBit 0 ∧ (((c.unitOf n).isSome ∧ c.sscState u ≠ ssFAULT) → (d.sscState u = ssFAULT ∧ d.fld (pgSSC u) Reg.SSC.SSC_STAT_CAUSE = scVDS))) ∧
  (∀ (dt : Nat) (src : Src) (n : Fin 16) (lowH lowL : Bool) (s : State),
      let c := s.chip.after dt
      let p := pgBRG n
      c.serves src p 0x058 true →
      Completes (.vdsClr dt src n lowH lowL) s fun d =>
        (lowH = true → d.fld p Reg.BRG.BRG_STAT_VDS_H = 0) ∧ (lowH = false → d.fld p Reg.BRG.BRG_STAT_VDS_H = c.fld p Reg.BRG.BRG_STAT_VDS_H) ∧ (lowL = true → d.fld p Reg.BRG.BRG_STAT_VDS_L = 0) ∧ (lowL = false → d.fld p Reg.BRG.BRG_STAT_VDS_L = c.fld p Reg.BRG.BRG_STAT_VDS_L) ∧ ((lowH = true ∧ lowL = true) → d.bitAt pgFLT8 Reg.FLT8.RAW (fBRG_VDS n) = false)) ∧
  (∀ (dt : Nat) (src : Src) (n : Fin 16) (s : State),
      let c := s.chip.after dt
      let p := pgBRG n
      let stop := c.bst n Reg.BRG.BRG_STAT_SHUTTER_CLOSED || c.bst n Reg.BRG.BRG_STAT_VDS_H || c.bst n Reg.BRG.BRG_STAT_VDS_L
      c.serves src p 0x058 true →
      Completes (.brgRearm dt src n) s fun d =>
        (stop = true → (d.fld p Reg.HDR.ERR_CODE_LAST = c.lastErr p 0x44 ∧ d.fld p Reg.BRG.BRG_STAT_SHUT_HOLD = c.fld p Reg.BRG.BRG_STAT_SHUT_HOLD)) ∧ ((stop = false ∧ c.act p Reg.BRG.BRG_CFG_MODE = 2 ∧ (c.brg (brgLead n)).supBad = false) → d.fld p Reg.BRG.BRG_STAT_SHUT_HOLD = 0)) ∧
  (∀ (dt : Nat) (src : Src) (n : Fin 16) (s : State),
      let c := s.chip.after dt
      let p := pgBRG n
      c.serves src p 0x058 true →
      Completes (.selftest dt src n) s fun d =>
        (c.en p → (d.fld p Reg.HDR.ERR_CODE_LAST = c.lastErr p 0x41 ∧ (d.brg n).selftest = (c.brg n).selftest)) ∧ ((¬ c.en p ∧ (c.brg n).selftest = none) → (d.fld p Reg.BRG.BRG_CTRL_SELFTEST = 1 ∧ (d.brg n).selftest = some (c.t + 100000)))) ∧
  (∀ (dt : Nat) (n : Fin 16) (result : BitVec 10) (s : State),
      let c := s.chip.after dt
      let p := pgBRG n
      (c.brg n).selftest.isSome →
      Completes (.selftestDone dt n result) s fun d =>
        (d.brg n).selftest = none ∧ d.fld p Reg.BRG.BRG_CTRL_SELFTEST = 0 ∧ d.fld p Reg.BRG.ST_RESULT = result.toNat ∧ d.flag p Reg.BRG.BRG_STAT_ST_PASS = (result == 1023#10) ∧ d.flag p Reg.BRG.BRG_STAT_ST_FAIL = (result != 1023#10) ∧ (d.fld p Reg.HDR.EVT_RAW).testBit 4) ∧
  (∀ (dt : Nat) (b : Fin 4) (dv : BitVec 10) (s : State),
      let c := s.chip.after dt
      let n := 4 * b.val
      let p := pgBRG n
      let low := decide (dv.toNat < c.act p Reg.BRG.SUP_CFG_UV)
      let high := decide (c.act p Reg.BRG.SUP_CFG_OV < dv.toNat)
      let turn := (low || high) != (c.brg n).supBad
      c.domainOn 9 →
      Completes (.vbrMeasure dt b dv) s fun d =>
        d.fld p Reg.BRG.SUP_STAT_VBR = dv.toNat ∧ ((turn = true ∧ 1 ≤ (c.brg n).sup) → ((d.brg n).supBad = (low || high) ∧ d.flag p Reg.BRG.SUP_STAT_UV = low ∧ d.flag p Reg.BRG.SUP_STAT_OV = high)) ∧ ((turn = false ∨ (c.brg n).sup = 0) → (d.brg n).supBad = (c.brg n).supBad) ∧ (((c.brg n).supBad = true ∧ (low || high) = true) → (d.flag p Reg.BRG.SUP_STAT_UV = low ∧ d.flag p Reg.BRG.SUP_STAT_OV = high)) ∧ (((c.brg n).supBad = false ∧ (turn = false ∨ (c.brg n).sup = 0)) → (d.fld p Reg.BRG.SUP_STAT_UV = c.fld p Reg.BRG.SUP_STAT_UV ∧ d.fld p Reg.BRG.SUP_STAT_OV = c.fld p Reg.BRG.SUP_STAT_OV)) ∧ ((turn = true ∧ 1 ≤ (c.brg n).sup ∧ (low || high) = true) → ([n, n + 1, n + 2, n + 3].all fun m => c.act (pgBRG m) Reg.BRG.BRG_CFG_MODE != 2 || d.bst m Reg.BRG.BRG_STAT_SHUT_HOLD) = true))

/-- START is accepted in OFF with the unit on, clean and with open Shutters: it releases its cells and waits for its boundary, and is refused with 0x45 otherwise. STOP enters STOPPING from LISTEN to RUN; FAULT_CLR of a clean unit enters OFF. The end of a listen enters RUN with SYNC, ALIGN with STILL, WAIT or BRAKE, or FAULT with REVERSE after BRAKE_MAX windows (here with the unit on). A crossing is kept in LISTEN and WAIT and sets the next commutation in RUN when it is the one expected. A lost step counts, and LOST_STEPS of them in a row fault with STALL. A commutation drives the next step. BRAKE, ALIGN and STOPPING end in LISTEN, OPEN_LOOP and OFF. A back-EMF sample joins its window, which at its end gives KE_MEAS. -/
def Obligations.CommutationUnitsFollowTheirTable : Prop :=
  (∀ (dt : Nat) (src : Src) (u : Fin 5) (s : State),
      let c := s.chip.after dt
      let p := pgSSC u
      let ok := c.sscState u == ssOFF && c.en p && c.sscClean u && (c.sscCells u).all (fun n => !c.bst n Reg.BRG.BRG_STAT_SHUTTER_CLOSED)
      c.serves src p 0x094 true →
      Completes (.sscStart dt src u) s fun d =>
        (ok = true → ((d.ssc u).start.isSome ∧ (c.sscCells u).all fun n => !d.bst n Reg.BRG.BRG_STAT_SHUT_HOLD)) ∧ (ok = false → (d.fld p Reg.HDR.ERR_CODE_LAST = c.lastErr p 0x45 ∧ (d.fld p Reg.HDR.EVT_RAW).testBit 4 ∧ (d.ssc u).start = (c.ssc u).start)) ∧ d.sscState u = c.sscState u) ∧
  (∀ (dt : Nat) (src : Src) (u : Fin 5) (s : State),
      let c := s.chip.after dt
      let p := pgSSC u
      let ok := decide (ssLISTEN ≤ c.sscSees u rkSTOP) && decide (c.sscSees u rkSTOP ≤ ssRUN)
      c.serves src p 0x094 true →
      Completes (.sscStop dt src u) s fun d =>
        (ok = true → (d.sscState u = ssSTOPPING ∧ d.fld p Reg.SSC.SSC_STAT_CAUSE = scCOMMAND ∧ d.fld p Reg.SSC.DUTY = 0)) ∧ (ok = false → (d.fld p Reg.HDR.ERR_CODE_LAST = c.lastErr p 0x45 ∧ d.sscState u = c.sscState u))) ∧
  (∀ (dt : Nat) (src : Src) (u : Fin 5) (s : State),
      let c := s.chip.after dt
      let p := pgSSC u
      let ok := c.sscState u == ssFAULT && c.sscClean u
      c.serves src p 0x094 true →
      Completes (.sscFaultClr dt src u) s fun d =>
        (ok = true → (d.sscState u = ssOFF ∧ d.fld p Reg.SSC.SSC_STAT_VDS_CELLS = 0 ∧ d.fld p Reg.SSC.SSC_STAT_FIRST_CELL = 0)) ∧ (ok = false → (d.fld p Reg.HDR.ERR_CODE_LAST = c.lastErr p 0x45 ∧ d.sscState u = c.sscState u))) ∧
  (∀ (dt : Nat) (u : Fin 5) (s : State),
      let c := s.chip.after dt
      (c.ssc u).carrier.isSome →
      Completes (.sscCarrierStart dt u) s fun d =>
        ((d.ssc u).carrier = (c.ssc u).carrier.map fun t => t + c.act (pgSSC u) Reg.SSC.SSC_PWM_PERIOD) ∧ d.sscState u = c.sscState u) ∧
  (∀ (dt : Nat) (u : Fin 5) (s : State),
      let c := s.chip.after dt
      let p := pgSSC u
      let x := c.ssc u
      let dir := c.actFlag p Reg.SSC.SSC_CFG_DIR
      let fwd := listenValid dir x.cross
      let rev := listenValid (!dir) x.cross
      let reverse := fwd.isNone && rev.isSome
      let speed := c.sscSpeed u (fwd.getD (rev.getD 0))
      let det := c.act p Reg.SSC.START_A_DET_SPEED
      let last := decide (c.act p Reg.SSC.START_E_BRAKE_MAX ≤ x.windows)
      (c.sscState u = ssLISTEN ∨ c.sscState u = ssWAIT) → c.en p →
      Completes (.listenEnd dt u) s fun d =>
        ((fwd = none ∧ rev = none) → (d.sscState u = ssALIGN ∧ d.fld p Reg.SSC.SSC_STAT_CAUSE = scSTILL)) ∧ ((fwd.isSome ∧ det ≤ speed) → (d.sscState u = ssRUN ∧ d.fld p Reg.SSC.SSC_STAT_CAUSE = scSYNC ∧ d.fld p Reg.SSC.SSC_STAT_LOCKED = 1 ∧ (d.ssc u).comm.isSome)) ∧ ((fwd.isSome ∧ speed < det) → d.sscState u = ssALIGN) ∧ ((reverse = true ∧ last = false ∧ c.act p Reg.SSC.START_A_REV_SC_MAX < speed) → d.sscState u = ssWAIT) ∧ ((reverse = true ∧ last = false ∧ det ≤ speed ∧ speed ≤ c.act p Reg.SSC.START_A_REV_SC_MAX) → d.sscState u = ssBRAKE) ∧ ((reverse = true ∧ last = true ∧ det ≤ speed) → (d.sscState u = ssFAULT ∧ d.fld p Reg.SSC.SSC_STAT_CAUSE = scREVERSE))) ∧
  (∀ (dt : Nat) (u : Fin 5) (phase : Fin 3) (rising : Bool) (s : State),
      let c := s.chip.after dt
      let p := pgSSC u
      let x := c.ssc u
      let row := stepRow (c.fld p Reg.SSC.SSC_STAT_STEP)
      let ok := row.2.2.1 == phase.val && (row.2.2.2 != c.actFlag p Reg.SSC.SSC_CFG_DIR) == rising && c.zcSampled u && x.soft.isNone && decide (x.commEnd + c.fld p Reg.SSC.STEP_TICKS * c.act p Reg.SSC.ZC_CFG_DEMAG / 256 ≤ c.t)
      ((c.sscCells u).all fun n => (c.brg n).plan.all fun e => decide (c.t < e.t)) →
      Completes (.zeroCrossing dt u phase rising) s fun d =>
        ((c.sscState u = ssLISTEN ∨ c.sscState u = ssWAIT) → ((d.ssc u).cross = x.cross ++ [(c.t, phase.val, rising)] ∧ d.regs = c.regs)) ∧ ((c.sscState u = ssRUN ∧ ok = true) → ((d.ssc u).z = some c.t ∧ (d.ssc u).comm.isSome ∧ (d.ssc u).lostRun = 0 ∧ d.sscState u = ssRUN)) ∧ ((c.sscState u = ssRUN ∧ ok = false) → (d.ssc u = x ∧ d.regs = c.regs))) ∧
  (∀ (dt : Nat) (u : Fin 5) (s : State),
      let c := s.chip.after dt
      let p := pgSSC u
      let x := c.ssc u
      c.sscState u = ssRUN → c.en p →
      Completes (.stepLost dt u) s fun d =>
        d.fld p Reg.SSC.LOST_CNT = Nat.min (c.fld p Reg.SSC.LOST_CNT + 1) 0xFFFF ∧ (d.fld p Reg.HDR.EVT_RAW).testBit 1 ∧ (d.ssc u).lostRun = x.lostRun + 1 ∧ (c.act p Reg.SSC.START_D_LOST_STEPS ≤ x.lostRun + 1 → (d.sscState u = ssFAULT ∧ d.fld p Reg.SSC.SSC_STAT_CAUSE = scSTALL)) ∧ (x.lostRun + 1 < c.act p Reg.SSC.START_D_LOST_STEPS → d.sscState u = ssRUN)) ∧
  (∀ (dt : Nat) (u : Fin 5) (s : State),
      let c := s.chip.after dt
      let p := pgSSC u
      c.sscState u = ssRUN → (c.ssc u).comm.isSome →
      Completes (.commutation dt u) s fun d =>
        d.fld p Reg.SSC.SSC_STAT_STEP = stepAfter (c.actFlag p Reg.SSC.SSC_CFG_DIR) (c.fld p Reg.SSC.SSC_STAT_STEP) ∧ (d.ssc u).comm = none ∧ (d.ssc u).driven = true) ∧
  (∀ (dt : Nat) (u : Fin 5) (v : BitVec 16) (s : State),
      let c := s.chip.after dt
      let p := pgSSC u
      let x := c.ssc u
      let z := (x.cross.getLastD (0, 0, false)).1
      let y := (x.cross.dropLast.getLastD (0, 0, false)).1
      let win := x.ke ++ [v.toNat * 1000 / c.sscSpeed u (z - y)]
      let ratio := Nat.min (meanOf win * 4096 / c.act p Reg.SSC.KE_CFG_KE_REF) 65535
      x.keOpen → c.act p Reg.SSC.KE_CFG_KE_WIN ≠ 0 → c.sscState u ≠ ssRUN → 2 ≤ x.cross.length →
      Completes (.keSample dt u v) s fun d =>
        (d.ssc u).keOpen = false ∧ (win.length < c.act p Reg.SSC.KE_CFG_KE_WIN → ((d.ssc u).ke = win ∧ d.regs = c.regs)) ∧ (c.act p Reg.SSC.KE_CFG_KE_WIN ≤ win.length → ((d.ssc u).ke = [] ∧ d.fld p Reg.SSC.KE_MEAS_MV = Nat.min (meanOf win) 65535 ∧ d.fld p Reg.SSC.KE_MEAS_RATIO = ratio)) ∧ (c.act p Reg.SSC.KE_CFG_KE_WIN ≤ win.length → d.flag p Reg.SSC.SSC_STAT_KE_ABNORMAL = (decide (ratio < c.act p Reg.SSC.KE_BAND_KE_LO) || decide (c.act p Reg.SSC.KE_BAND_KE_HI < ratio)))) ∧
  (∀ (dt : Nat) (u : Fin 5) (s : State),
      let c := s.chip.after dt
      c.sscState u = ssBRAKE →
      Completes (.brakeEnd dt u) s fun d =>
        d.sscState u = ssLISTEN) ∧
  (∀ (dt : Nat) (u : Fin 5) (s : State),
      let c := s.chip.after dt
      let p := pgSSC u
      c.sscState u = ssALIGN →
      Completes (.alignEnd dt u) s fun d =>
        d.sscState u = ssOPEN ∧ (d.fld p Reg.SSC.SSC_STAT_STEP = if c.actFlag p Reg.SSC.SSC_CFG_DIR then 5 else 2) ∧ (d.ssc u).driven = true) ∧
  (∀ (dt : Nat) (u : Fin 5) (s : State),
      let c := s.chip.after dt
      let p := pgSSC u
      let x := c.ssc u
      let locks := decide (c.act p Reg.SSC.START_D_LOCK_STEPS ≤ x.lockRun)
      let run := if x.checked && x.crossed then x.lockRun + 1 else if locks then x.lockRun else 0
      let fails := c.olReached u (x.stepAt + x.stepLen) (c.act p Reg.SSC.START_C_OL_MAX) && decide (run < c.act p Reg.SSC.START_D_LOCK_STEPS)
      c.sscState u = ssOPEN → c.en p →
      Completes (.forcedStep dt u) s fun d =>
        (fails = true → (d.sscState u = ssFAULT ∧ d.fld p Reg.SSC.SSC_STAT_CAUSE = scSTART)) ∧ (fails = false → (d.sscState u = ssOPEN ∧ d.fld p Reg.SSC.SSC_STAT_STEP = stepAfter (c.actFlag p Reg.SSC.SSC_CFG_DIR) (c.fld p Reg.SSC.SSC_STAT_STEP) ∧ (d.ssc u).stepAt = x.stepAt + x.stepLen)) ∧ (d.ssc u).lockRun = run) ∧
  (∀ (dt : Nat) (u : Fin 5) (s : State),
      let c := s.chip.after dt
      c.sscState u = ssSTOPPING →
      Completes (.stoppingEnd dt u) s fun d =>
        d.sscState u = ssOFF ∧ (d.ssc u).carrier = none)

/-- A mismatch of a running pair (code 1) or of a lane (code 2, which halts the lane), a failed test of a comparator (code 3), a failed scrub (code 4) and LCK_CTRL.FORCE outside CORE_SPLIT (code 1) fault the Quay; a test or scrub that passes only counts. A kick of a running watchdog with the wrong value or before MIN faults with code 6, and a right one advances NEXT and restarts the watchdog; a watchdog that runs out, or is kicked only after PERIOD, faults with code 5. A faulted ACTIVE Quay is to release the token; one in RESYNC, STANDBY or HANDOVER goes to RESET, or to FAILED at its fourth fault. -/
def Obligations.MismatchesAndWatchdogsAreQuayFaults : Prop :=
  (∀ (dt : Nat) (u : LockstepUnit) (s : State),
      let c := s.chip.after dt
      let q := (match u with | .pair q _ => q | .safety => Quay.A)
      let pair := (match u with | .pair _ k => k.val | .safety => 0)
      (u = .safety ∨ c.pairRuns q) →
      Completes (.lockstepMismatch dt u) s fun d =>
        (u = .safety → (d.bitAt pgFLT8 Reg.FLT8.RAW fSF_INTERNAL ∧ d.qstate .A = c.qstate .A ∧ d.qstate .B = c.qstate .B)) ∧ (u ≠ .safety → d.fld (pgLCK q) (if pair = 0 then Reg.LCK.LCK_STAT_PAIR0_OK else Reg.LCK.LCK_STAT_PAIR1_OK) = 0) ∧ (u ≠ .safety → d.fld (pgLCK q) Reg.LCK.LCK_STAT_LAST_CAUSE = 1) ∧ (u ≠ .safety → d.fld (pgLCK q) Reg.LCK.LCK_STAT_LAST_UNIT = pair) ∧ (u ≠ .safety → c.quayFaulted d q 1)) ∧
  (∀ (dt : Nat) (q : Quay) (l : Fin 8) (s : State),
      let c := s.chip.after dt
      c.quayUp q →
      Completes (.laneMismatch dt q l) s fun d =>
        d.fld (pgLCK q) Reg.LCK.LCK_STAT_LANES_OK = 0 ∧ (d.laneOf q l).halted = true ∧ (d.laneOf q l).run = none ∧ c.quayFaulted d q 2) ∧
  (∀ (dt : Nat) (q : Quay) (unit : Fin 10) (ok : Bool) (s : State),
      let c := s.chip.after dt
      c.quayUp q || c.qstate q == 1 → (2 ≤ unit.val ∨ c.split = false) →
      Completes (.compTest dt q unit ok) s fun d =>
        (ok = true → (d.fld (pgLCK q) Reg.LCK.TEST_CNT = (c.fld (pgLCK q) Reg.LCK.TEST_CNT + 1) % 2 ^ 32 ∧ d.qstate q = c.qstate q)) ∧ (ok = false ∧ c.quayUp q → c.quayFaulted d q 3) ∧ (ok = false ∧ c.qstate q = 1 ∧ (c.quay q.idx).bist.isSome → (d.bitAt pgFLT8 Reg.FLT8.RAW (fQ_FAULT q) ∧ d.qstate q = 5))) ∧
  (∀ (dt : Nat) (q : Quay) (pair : Fin 2) (ok : Bool) (s : State),
      let c := s.chip.after dt
      c.pairRuns q → ((c.quay q.idx).halted.all fun e => e.1 != pair.val) →
      Completes (.coreScrub dt q pair ok) s fun d =>
        (ok = true → (d.fld (pgLCK q) Reg.LCK.SCRUB_CNT = (c.fld (pgLCK q) Reg.LCK.SCRUB_CNT + 1) % 2 ^ 32 ∧ d.qstate q = c.qstate q)) ∧ (ok = false → c.quayFaulted d q 4)) ∧
  (∀ (dt : Nat) (q : Quay) (l : Fin 8) (ok : Bool) (s : State),
      let c := s.chip.after dt
      c.quayUp q → (c.laneOf q l).run = none →
      Completes (.laneScrub dt q l ok) s fun d =>
        (ok = true → (d.fld (pgLCK q) Reg.LCK.SCRUB_CNT = (c.fld (pgLCK q) Reg.LCK.SCRUB_CNT + 1) % 2 ^ 32 ∧ d.qstate q = c.qstate q)) ∧ (ok = false → c.quayFaulted d q 4)) ∧
  (∀ (dt : Nat) (src : Src) (q : Quay) (s : State),
      let c := s.chip.after dt
      c.serves src (pgLCK q) 0x058 true → c.windowHeld (pgLCK q) src →
      Completes (.lckForce dt src q) s fun d =>
        (c.split = false → c.quayFaulted d q 1) ∧ (c.split = true → (d.fld (pgLCK q) Reg.HDR.ERR_CODE_LAST = c.lastErr (pgLCK q) 5 ∧ d.qstate q = c.qstate q))) ∧
  (∀ (dt : Nat) (src : Src) (q : Quay) (w : Fin 4) (v : Word) (s : State),
      let c := s.chip.after dt
      let p := pgQCTL q
      let next := c.fld p Reg.QCTL.WD_STAT_NEXT w
      let late := decide (2500 * c.act p Reg.QCTL.WD_CFG_PERIOD w < c.now - (c.quay q.idx).wd.getD w 0)
      let wrong := v.bits 0 16 != 0xD000 + next || decide (c.now - (c.quay q.idx).wd.getD w 0 < 2500 * c.act p Reg.QCTL.WD_CFG_MIN w)
      c.serves src p (0x090 + 4 * w.val) true → c.flag p Reg.QCTL.WD_STAT_RUNNING w → c.flag p Reg.QCTL.WD_STAT_FROZEN w = false →
      Completes (.wdKick dt src q w v) s fun d =>
        (late = true → c.quayFaulted d q 5) ∧ ((late = false ∧ wrong = true) → c.quayFaulted d q 6) ∧ ((late = false ∧ wrong = false) → (d.fld p Reg.QCTL.WD_STAT_NEXT w = (next + 1) % 256 ∧ d.fld p Reg.QCTL.WD_STAT_REMAIN w = c.act p Reg.QCTL.WD_CFG_PERIOD w ∧ d.qstate q = c.qstate q)) ∧ ((late = false ∧ wrong = false ∧ (c.quay q.idx).wd.length = 4) → (d.quay q.idx).wd.getD w 0 = c.now)) ∧
  (∀ (dt : Nat) (q : Quay) (w : Fin 4) (s : State),
      let c := s.chip.after dt
      c.flag (pgQCTL q) Reg.QCTL.WD_STAT_RUNNING w → c.flag (pgQCTL q) Reg.QCTL.WD_STAT_FROZEN w = false →
      Completes (.wdTimeout dt q w) s fun d =>
        d.fld (pgQCTL q) Reg.QCTL.WD_STAT_REMAIN w = 0 ∧ c.quayFaulted d q 5)

/-- TOKEN_RELEASE (here with no snapshot accepted in its own tick) leaves no owner: a Quay that releases on a fault goes to RESET or FAILED and one that hands over to HANDOVER, and the chip is in SWITCHING when the other is in step and in NO_OWNER otherwise. TAKEOVER makes the other Quay ACTIVE and owner at B_T, with empty lanes; the chip is DUAL after a handover and SINGLE otherwise. SWITCH_REQ with an open window is accepted from the owner in DUAL and refused with 0x41 elsewhere. QUAY_RESET leads to BIST; a failed BIST to FAILED with Q_FAULT; a passed one to RESYNC, or, before the start, waits for STARTUP_TAKE, which makes the first owner ACTIVE in SINGLE. SINGLE_EXPIRE raises its fault once. -/
def Obligations.TheTokenPassesBetweenTheQuays : Prop :=
  (∀ (dt : Nat) (s : State),
      let c := s.chip.after dt
      let r : Option (Quay × Nat) := match c.redSt.pend, c.redSt.switchAt, c.owner with | some (q, k, _), _, _ => some (q, k) | none, some _, some q => some (q, 13) | _, _, _ => none
      let q := (r.map Prod.fst).getD .A
      let code := (r.map Prod.snd).getD 0
      r.isSome → ((c.gwy q.other.idx).undo.all fun u => decide (u.1 < c.t)) → (c.redSt.switchAt.all fun b => decide (b < 2 ^ 64)) →
      Completes (.tokenRelease dt) s fun d =>
        d.owner = none ∧ d.fld (pgQCTL q) Reg.QCTL.Q_STAT_OWNER = 0 ∧ d.redSt.pend = none ∧ d.redSt.switchAt = none ∧ ((d.redSt.rel.map fun x => (x.1, x.2.1)) = r) ∧ (d.rstate = if c.inStep q.other then 1 else 3) ∧ (code = 13 → d.qstate q = 6) ∧ (code ≠ 13 → d.qstate q = if c.fld (pgQCTL q) Reg.QCTL.Q_STAT_FAULTS = 3 then 5 else 0) ∧ d.fld (pgQCTL .A) Reg.QCTL.LAST_REL = d.t % 2 ^ 32 ∧ d.fld (pgQCTL .B) Reg.QCTL.LAST_REL = d.t % 2 ^ 32) ∧
  (∀ (dt : Nat) (s : State),
      let c := s.chip.after dt
      let r := c.redSt.rel.getD (.A, 0, 0, 0)
      let q := r.1.other
      let bt := r.2.2.2
      c.redSt.rel.isSome → c.rstate = 1 →
      Completes (.takeover dt) s fun d =>
        d.owner = some q ∧ d.qstate q = 4 ∧ d.fld (pgQCTL q) Reg.QCTL.Q_STAT_OWNER = 1 ∧ d.fld (pgQCTL .A) Reg.QCTL.RED_STAT_OWNER_Q = q.idx ∧ d.redSt.rel = none ∧ (d.rstate = if c.qstate r.1 = 6 then 0 else 2) ∧ (c.qstate r.1 = 6 → d.qstate r.1 = 3) ∧ d.fld (pgQCTL .A) Reg.QCTL.LAST_BT_LO = bt % 2 ^ 32 ∧ d.fld (pgQCTL .B) Reg.QCTL.SW_CNT = Nat.min (c.fld (pgQCTL .B) Reg.QCTL.SW_CNT + 1) 0xFFFF ∧ ((List.range 8).all fun l => (d.laneOf q l).run.isNone && (d.laneOf q l).queue.isEmpty) ∧ (d.fld (pgQCTL q) Reg.HDR.EVT_RAW).testBit 0) ∧
  (∀ (dt : Nat) (src : Src) (q : Quay) (s : State),
      let c := s.chip.after dt
      let p := pgQCTL q
      let ok := c.rstate == 0 && c.owner == some q
      c.serves src p 0x048 true → c.windowHeld p src →
      Completes (.switchReq dt src q) s fun d =>
        (ok = false → (d.fld p Reg.HDR.ERR_CODE_LAST = c.lastErr p 0x41 ∧ d.redSt = c.redSt)) ∧ ((ok = true ∧ c.redSt.switchAt = none ∧ c.redSt.pend = none) → (d.fld p Reg.QCTL.SW_CTRL = 1 ∧ d.redSt.switchAt = some (c.firstBoundary 0 (c.t + 250)))) ∧ d.owner = c.owner) ∧
  (∀ (dt : Nat) (s : State),
      let c := s.chip.after dt
      let x := c.startTaker.getD (.A, 0)
      c.startTaker.isSome → c.rstate = 4 →
      Completes (.startupTake dt) s fun d =>
        d.owner = some x.1 ∧ d.qstate x.1 = 4 ∧ d.rstate = 2 ∧ d.fld (pgQCTL x.1) Reg.QCTL.Q_STAT_OWNER = 1 ∧ d.fld (pgQCTL .B) Reg.QCTL.RED_STAT_OWNER_Q = x.1.idx) ∧
  (∀ (dt : Nat) (s : State),
      let c := s.chip.after dt
      c.rstate = 2 → c.safSt.placed → c.flag (pgQCTL .A) Reg.QCTL.RED_STAT_EXPIRED = false →
      Completes (.singleExpire dt) s fun d =>
        d.fld (pgQCTL .A) Reg.QCTL.RED_STAT_EXPIRED = 1 ∧ d.fld (pgQCTL .B) Reg.QCTL.RED_STAT_EXPIRED = 1 ∧ d.fld (pgQCTL .A) Reg.QCTL.RED_STAT_REMAIN = 0 ∧ d.bitAt pgFLT8 Reg.FLT8.RAW fSINGLE_EXPIRED) ∧
  (∀ (dt : Nat) (q : Quay) (s : State),
      let c := s.chip.after dt
      c.tideOn → c.qstate q = 0 →
      Completes (.quayReset dt q) s fun d =>
        d.qstate q = 1 ∧ d.fld (pgFLT q.idx) Reg.FLTR.REG_STAT_RESTARTING = 1 ∧ d.fld (pgFLT q.idx) Reg.FLTR.REG_STAT_READY = 0) ∧
  (∀ (dt : Nat) (q : Quay) (pass : Bool) (s : State),
      let c := s.chip.after dt
      c.qstate q = 1 → (c.quay q.idx).bist = none →
      Completes (.bistDone dt q pass) s fun d =>
        (pass = false → (d.qstate q = 5 ∧ d.bitAt pgFLT8 Reg.FLT8.RAW (fQ_FAULT q) ∧ d.fld (pgQCTL q) Reg.QCTL.Q_STAT_LAST_CAUSE = 12)) ∧ ((pass = true ∧ c.rstate = 4) → ((d.quay q.idx).bist = some c.t ∧ d.qstate q = 1)) ∧ ((pass = true ∧ c.rstate ≠ 4) → (d.qstate q = 2 ∧ d.fld (pgQCTL q) Reg.QCTL.WD_STAT_RUNNING 0 = 1 ∧ d.fld (pgFLT q.idx) Reg.FLTR.REG_STAT_ISOLATED = 0)))

/-- A good marker that comes in time gives the standby the published blocks in one step, with SNAP_SEQ and SNAP_TIDE; a bad one counts in SNAP_LATE_CNT and leaves the accepted snapshot. Two deadlines missed in a row take a STANDBY back to RESYNC with cause 11. The bulk copy gives a resynchronising Quay the law memory of the active one. A message is refused with 0x40 when TX_FREE is 0, and otherwise queues behind those sent, arrives behind those received once the Gangway has granted it, and leaves with POP. A debugger with an open port halts the pair it is attached to, which freezes its watchdog, writes its registers while the replay queue of 64 has room, and resumes it. -/
def Obligations.SnapshotsMessagesAndDebug : Prop :=
  (∀ (dt : Nat) (chk : MarkerCheck) (s : State),
      let c := s.chip.after dt
      let q := c.sender.getD .A
      let o := q.other
      let g := c.gwy q.idx
      let m := (g.marks.find? fun m => !m.2.2).getD (0, 0, true)
      let b := m.2.1
      let ok := chk == .good && decide (g.bytes b ≤ 131072)
      let limit := (match c.qstate q, c.redSt.rel with | 6, some (_, _, _, bt) => bt - 250 | _, _ => b + c.fgPeriod 0)
      let e := g.blocks.headD (0, [], 0)
      c.sender.isSome → ((g.marks.find? fun m => !m.2.2).isSome) →
      Completes (.snapshotMarker dt chk) s fun d =>
        ((ok = true ∧ c.t < limit) → ((d.gwy o.idx).accepted = some b ∧ (d.gwy o.idx).missed = 0 ∧ d.fld (pgGWY o) Reg.GWY.SNAP_SEQ = m.1 % 2 ^ 32 ∧ d.fld (pgGWY o) Reg.GWY.SNAP_TIDE_LO = b % 2 ^ 32)) ∧ ((ok = true ∧ c.t < limit ∧ g.blocks.length = 1 ∧ e.2.2 < b ∧ e.1 % 8 = 0 ∧ e.1 + 4 * e.2.1.length ≤ 0x40000) → ((List.range e.2.1.length).all fun i => d.word (o.origin + 0x00800000 + e.1 + 4 * i) == e.2.1.getD i 0) = true) ∧ ((ok = true ∧ c.t < limit ∧ c.qstate o = 2 ∧ (c.gwy o.idx).copied) → (d.qstate o = 3 ∧ d.rstate = 0)) ∧ (ok = false → ((d.gwy o.idx).accepted = (c.gwy o.idx).accepted ∧ d.fld (pgGWY o) Reg.GWY.SNAP_LATE_CNT = Nat.min (c.fld (pgGWY o) Reg.GWY.SNAP_LATE_CNT + 1) 0xFFFF ∧ (d.fld (pgGWY o) Reg.HDR.EVT_RAW).testBit 0)) ∧ (d.fld (pgGWY o) Reg.GWY.CRC_ERR_CNT = if chk = .mismatch then Nat.min (c.fld (pgGWY o) Reg.GWY.CRC_ERR_CNT + 1) 0xFFFF else c.fld (pgGWY o) Reg.GWY.CRC_ERR_CNT)) ∧
  (∀ (dt : Nat) (s : State),
      let c := s.chip.after dt
      let q := c.sender.getD .A
      let o := q.other
      let m := (c.gwy q.idx).marks.headD (0, 0, true)
      let n := (c.gwy o.idx).missed + 1
      c.sender.isSome → (c.gwy q.idx).marks ≠ [] →
      Completes (.snapshotDeadline dt) s fun d =>
        (d.gwy q.idx).marks = (c.gwy q.idx).marks.tail ∧ (d.gwy o.idx).missed = n ∧ (m.2.2 = false → d.fld (pgGWY o) Reg.GWY.SNAP_LATE_CNT = Nat.min (c.fld (pgGWY o) Reg.GWY.SNAP_LATE_CNT + 1) 0xFFFF) ∧ ((c.qstate o = 3 ∧ 2 ≤ n) → (d.qstate o = 2 ∧ d.fld (pgQCTL o) Reg.QCTL.Q_STAT_LAST_CAUSE = 11 ∧ (d.gwy o.idx).copied = false ∧ d.bitAt pgFLT8 Reg.FLT8.RAW (fQ_FAULT o))) ∧ ((c.qstate o ≠ 3 ∨ n < 2) → d.qstate o = c.qstate o)) ∧
  (∀ (dt : Nat) (s : State),
      let c := s.chip.after dt
      let q := c.sender.getD .A
      let o := q.other
      c.sender.isSome → c.qstate o = 2 → (c.gwy o.idx).copied = false → c.Inv →
      Completes (.bulkCopyDone dt) s fun d =>
        (d.gwy o.idx).copied = true ∧ d.qstate o = 2 ∧ ((List.range 16).all fun i => d.word (lawAddr o (4096 * (i / 2)) + 4 * i) == c.word (lawAddr q (4096 * (i / 2)) + 4 * i)) ∧ (∀ i, i < 65536 → d.word (lawAddr o 0 + 4 * i) = c.word (lawAddr q 0 + 4 * i))) ∧
  (∀ (dt : Nat) (src : Src) (q : Quay) (s : State),
      let c := s.chip.after dt
      let full := decide (c.fld (pgGWY q) Reg.GWY.MSG_STAT_TX_FREE = 0)
      c.serves src (pgGWY q) 0x0A0 true →
      Completes (.msgSend dt src q) s fun d =>
        (full = true → (d.fld (pgGWY q) Reg.HDR.ERR_CODE_LAST = c.lastErr (pgGWY q) 0x40 ∧ (d.fld (pgGWY q) Reg.HDR.EVT_RAW).testBit 4 ∧ (d.gwy q.idx).flight = (c.gwy q.idx).flight)) ∧ (full = false → (d.gwy q.idx).flight = (c.gwy q.idx).flight ++ [(List.range 8).map fun i => BitVec.ofNat 32 (c.fld (pgGWY q) Reg.GWY.MSG_TX i)])) ∧
  (∀ (dt : Nat) (q : Quay) (s : State),
      let c := s.chip.after dt
      let f := (c.gwy q.other.idx).flight
      f ≠ [] → 0 < (c.gwy q.other.idx).granted → c.quayUp q → c.quayUp q.other →
      Completes (.msgArrive dt q) s fun d =>
        (d.gwy q.idx).inbox = (c.gwy q.idx).inbox ++ [f.headD []] ∧ (d.gwy q.other.idx).flight = f.tail ∧ d.fld (pgGWY q) Reg.GWY.MSG_STAT_RX_COUNT = ((c.gwy q.idx).inbox.length + 1) % 32 ∧ (d.fld (pgGWY q) Reg.HDR.EVT_RAW).testBit 3) ∧
  (∀ (dt : Nat) (src : Src) (q : Quay) (s : State),
      let c := s.chip.after dt
      c.serves src (pgGWY q) 0x0A0 true →
      Completes (.msgPop dt src q) s fun d =>
        (d.gwy q.idx).inbox = (c.gwy q.idx).inbox.tail ∧ (d.gwy q.idx).flight = (c.gwy q.idx).flight) ∧
  (∀ (dt : Nat) (s : State),
      let c := s.chip.after dt
      let q := c.debugged.1
      let u := c.debugged.2
      c.flag pgDBG Reg.DBG.DBG_STAT_PORT_OPEN → ((c.quay q.idx).halted.all fun e => e.1 != u) →
      Completes (.debugHalt dt) s fun d =>
        (d.quay q.idx).halted = (c.quay q.idx).halted ++ [(u, c.now)] ∧ d.fld (pgQCTL q) Reg.QCTL.WD_STAT_FROZEN u = c.fld (pgQCTL q) Reg.QCTL.WD_STAT_RUNNING u ∧ d.fld pgDBG Reg.DBG.DBG_STAT_HALTED = d.haltedCores % 256 ∧ (d.fld pgDBG Reg.HDR.EVT_RAW).testBit 1) ∧
  (∀ (dt : Nat) (single : Bool) (s : State),
      let c := s.chip.after dt
      let q := c.debugged.1
      let u := c.debugged.2
      c.flag pgDBG Reg.DBG.DBG_STAT_PORT_OPEN → ((c.quay q.idx).halted.any fun e => e.1 == u) →
      Completes (.debugResume dt single) s fun d =>
        (single = false → ((d.quay q.idx).halted = (c.quay q.idx).halted.filter (fun e => e.1 != u) ∧ d.fld (pgQCTL q) Reg.QCTL.WD_STAT_FROZEN u = 0)) ∧ (single = true → (d.quay q.idx).halted = (c.quay q.idx).halted) ∧ (c.split = false → (if u = 0 then (d.quay q.idx).replay0 else (d.quay q.idx).replay1) = [])) ∧
  (∀ (dt : Nat) (r : BitVec 8) (v : Word) (s : State),
      let c := s.chip.after dt
      let q := c.debugged.1
      let u := c.debugged.2
      let s0 := c.quay q.idx
      let s1 := if u = 0 then s0.replay0 else s0.replay1
      let core := if c.split then u else 2 * u
      c.flag pgDBG Reg.DBG.DBG_STAT_PORT_OPEN → (s0.halted.any fun e => e.1 == u) →
      Completes (.debugRegWrite dt r v) s fun d =>
        ((c.split = true ∨ s1.length < 64) → SMap.get (fun _ => 0) (d.quay q.idx).regs (256 * core + r.toNat) = v) ∧ ((c.split = false ∧ s1.length < 64) → (if u = 0 then (d.quay q.idx).replay0 else (d.quay q.idx).replay1) = s1 ++ [(r.toNat, v)]) ∧ ((c.split = false ∧ 64 ≤ s1.length) → (d.quay q.idx = s0 ∧ d.fld (pgLCK q) Reg.LCK.REPLAY_STAT_FULL_CNT = Nat.min (c.fld (pgLCK q) Reg.LCK.REPLAY_STAT_FULL_CNT + 1) 0xFFFF)))

/-- A fault line that is high, or has risen since, becomes active; class STO or higher puts each function it names into STO and closes channel A of its blocks, and class SBC engages the brake too. A clear takes effect only on an active fault whose line is low (0x40 otherwise) and that Table 13-5 lets clear (0x41 otherwise, and for a reserved ID: the model's reading, log entry 107). STO_REQ and SS1_REQ latch. A reset waits for the kernel, and is refused with 0x41 where an input is the source. The kernel cycle, without a waiting reset, leaves every function with an STO demand in STO with channel B closed and returns none to RUN; with one, it returns every function that qualifies to RUN with both channels open. SS1_EXPIRE enters STO. Without kernel cycles, from tick 0 on, SF_INTERNAL is raised, and every channel B closes. That the kernel's closing of channel B on a fault is part of FAULT_ASSERT is the model's choice (log entry 65). -/
def Obligations.FaultsDemandsAndTheKernel : Prop :=
  (∀ (dt : Nat) (id : BitVec 8) (s : State),
      let c := s.chip.after dt
      let n := id.toNat
      let cls := c.faultClass n
      n < 0xE6 → (c.bitAt pgFLT8 Reg.FLT8.RAW n ∨ (c.fault n).pend) →
      Completes (.faultAssert dt id) s fun d =>
        d.faultActive n ∧ (d.fault n).pend = false ∧ ((c.fault n).pulse = true → d.bitAt pgFLT8 Reg.FLT8.RAW n = false) ∧ (2 ≤ cls → ((c.faultFuncs n).all fun f => decide (7 ≤ f) || (d.fstate f == 2 && d.safSt.chA &&& c.blocksOf f == c.blocksOf f)) = true) ∧ (cls = 1 → ((c.faultFuncs n).all fun f => decide (7 ≤ f) || d.fstate f != 0) = true) ∧ (cls = 0 → ((List.range 7).all fun f => d.fstate f == c.fstate f) = true) ∧ (cls = 3 → (d.fld pgSBC Reg.SBC.SBC_STAT_READBACK = (if c.fld pgSBC Reg.SBC.SBC_STAT_STATE = 1 then 0 else c.fld pgSBC Reg.SBC.SBC_STAT_READBACK) ∧ d.fld pgSBC Reg.SBC.SBC_STAT_STATE ∈ [0, 3]))) ∧
  (∀ (dt : Nat) (src : Src) (id : BitVec 8) (s : State),
      let c := s.chip.after dt
      let n := id.toNat
      let hi := decide (n < 0xE6) && c.bitAt pgFLT8 Reg.FLT8.RAW n
      let never := decide (0xE6 ≤ n) || !(faultRow n).clear
      let low := hi || !never && !c.faultActive n
      c.serves src pgFLT8 0x08C true → c.windowHeld pgFLT8 src →
      Completes (.fltClr dt src id) s fun d =>
        (low = true → (d.fld pgFLT8 Reg.HDR.ERR_CODE_LAST = c.lastErr pgFLT8 0x40 ∧ d.faultActive n = c.faultActive n)) ∧ ((hi = false ∧ never = true) → (d.fld pgFLT8 Reg.HDR.ERR_CODE_LAST = c.lastErr pgFLT8 0x41 ∧ d.faultActive n = c.faultActive n)) ∧ ((low || never) = true → (d.fld pgFLT8 Reg.HDR.EVT_RAW).testBit 2) ∧ ((low || never) = false → d.faultActive n = false)) ∧
  (∀ (dt : Nat) (failed : Bool) (s : State),
      let c := s.chip.after dt
      Completes (.fcTest dt failed) s fun d =>
        d.fld pgFLT8 Reg.FLT8.FC_STAT_TEST_CNT = (c.fld pgFLT8 Reg.FLT8.FC_STAT_TEST_CNT + 1) % 2 ^ Reg.FLT8.FC_STAT_TEST_CNT.width ∧ d.flag pgFLT8 Reg.FLT8.FC_STAT_TEST_OK = !failed ∧ (failed = true → d.bitAt pgFLT8 Reg.FLT8.RAW fFC_TEST)) ∧
  (∀ (dt : Nat) (src : Src) (mask : BitVec 7) (s : State),
      let c := s.chip.after dt
      c.serves src pgSAF 0x054 true →
      Completes (.stoReq dt src mask) s fun d =>
        d.safSt.swSto = c.safSt.swSto ||| mask.toNat ∧ d.fld pgSAF Reg.SAF.SAF_CTRL_STO_REQ = (c.safSt.swSto ||| mask.toNat) % 2 ^ 7) ∧
  (∀ (dt : Nat) (src : Src) (mask : BitVec 7) (s : State),
      let c := s.chip.after dt
      c.serves src pgSAF 0x054 true →
      Completes (.ss1Req dt src mask) s fun d =>
        d.safSt.swSs1 = c.safSt.swSs1 ||| mask.toNat ∧ d.fld pgSAF Reg.SAF.SAF_CTRL_SS1_REQ = (c.safSt.swSs1 ||| mask.toNat) % 2 ^ 7) ∧
  (∀ (dt : Nat) (f : Fin 7) (s : State),
      let c := s.chip.after dt
      ((c.safSt.ss1.find? fun e => e.1 == f.val).isSome) →
      Completes (.ss1Expire dt f) s fun d =>
        d.fstate f = 2 ∧ (c.fstate f ≠ 2 → (d.safSt.chA &&& c.blocksOf f = c.blocksOf f ∧ d.safSt.chB &&& c.blocksOf f = c.blocksOf f))) ∧
  (∀ (dt : Nat) (src : Src) (s : State),
      let c := s.chip.after dt
      let no := c.safSt.placed && decide (c.resetSrc ≤ 15)
      c.serves src pgSAF 0x054 true →
      Completes (.safReset dt src) s fun d =>
        (no = true → (d.fld pgSAF Reg.HDR.ERR_CODE_LAST = c.lastErr pgSAF 0x41 ∧ d.safSt.reset = c.safSt.reset)) ∧ (no = false → (d.safSt.reset = some src.code ∧ d.fld pgSAF Reg.SAF.SAF_CTRL_RESET = 1))) ∧
  (∀ (dt : Nat) (us : BitVec 16) (s : State),
      let c := s.chip.after dt
      c.domainOn 1 →
      Completes (.kernelCycle dt us) s fun d =>
        d.fld pgSAF Reg.SAF.SAF_STAT_KERNEL_OK = 1 ∧ d.safSt.kernelAt = c.t ∧ d.safSt.reset = none ∧ d.safSt.fresh = 0 ∧ (c.safSt.reset = none → ((List.range 7).all fun f => decide (c.demandOf f < 2) || (d.fstate f == 2 && d.safSt.chB &&& c.blocksOf f == c.blocksOf f)) = true) ∧ (c.safSt.reset = none → ((List.range 7).all fun f => c.fstate f == 0 || d.fstate f != 0) = true) ∧ (c.safSt.reset.isSome → ((List.range 7).all fun f => !c.resetOk f || (d.fstate f == 0 && d.safSt.chA &&& c.blocksOf f == 0 && d.safSt.chB &&& c.blocksOf f == 0)) = true)) ∧
  (∀ (dt : Nat) (s : State),
      let c := s.chip.after dt
      c.tideOn → c.domainOn 1 →
      Completes (.sfWatchdog dt) s fun d =>
        d.fld pgSAF Reg.SAF.SAF_STAT_KERNEL_OK = 0 ∧ d.bitAt pgFLT8 Reg.FLT8.RAW fSF_INTERNAL ∧ d.safSt.watchAt = Nat.max c.safSt.kernelAt c.safSt.watchAt + 2500000) ∧
  (∀ (dt : Nat) (s : State),
      let c := s.chip.after dt
      c.safSt.kernelAt + 625000 < c.t →
      Completes (.channelBEnableLapse dt) s fun d =>
        d.safSt.chB &&& 0xFFFFFFF = 0xFFFFFFF ∧ d.safSt.chA = c.safSt.chA)

/-- The distribution shows every block that the master commands closed, and its leg cells read SHUTTER_CLOSED. A wire that is commanded closed and has been static reads closed; a block that neither channel commands closed is reported in run, and its cells and wires released, four half-periods after its wires were started; wire B carries the complement of A. A sample of a pair's wires without a fault so far breaks its pattern where a running wire has no edge for 20 us, a closed one moves after its own closing or shows the other mode's static level, or both running wires have shown one level for more than 1 us: WIRE_FAULT sets, SHT_WIRE is raised and channel A of the pair closes; any other sample changes no register. That the half-period is free and kept from start to stop is the model's choice (log entry 106). -/
def Obligations.TheShutterClosesAndReports : Prop :=
  (∀ (dt : Nat) (s : State),
      let c := s.chip.after dt
      Completes (.shtDistribute dt) s fun d =>
        ((List.range 24).all fun i => !(c.safSt.closed.testBit i || !c.domainOn 1) || ((d.fld pgSHT Reg.SHT.SHT_LEG).testBit i && d.flag (pgLead i) Reg.LEGL.BLK_STAT_SHUTTER_CLOSED)) ∧ ((List.range 4).all fun i => !(c.safSt.closed.testBit (24 + i) || !c.domainOn 1) || (d.fld pgSHT Reg.SHT.SHT_BRG).testBit i) ∧ d.safSt = c.safSt) ∧
  (∀ (dt : Nat) (i : Fin 28) (b : Bool) (s : State),
      let c := s.chip.after dt
      Completes (.shtWireClosed dt i b) s fun d =>
        ((b = true ∧ (c.safSt.chB.testBit i ∨ ¬ c.domainOn 1)) → (d.safSt.wireB.testBit i ∧ d.safSt.pairClosed i)) ∧ ((b = false ∧ (c.safSt.chA.testBit i ∨ ¬ c.domainOn 1)) → (d.safSt.wireA.testBit i ∧ d.safSt.pairClosed i)) ∧ (d.safSt.chA, d.safSt.chB) = (c.safSt.chA, c.safSt.chB) ∧ d.regs = c.regs) ∧
  (∀ (dt : Nat) (i : Fin 28) (s : State),
      let c := s.chip.after dt
      c.safSt.closed.testBit i = false → c.domainOn 1 → c.safSt.openAt.getD i 0 + 4 * c.safSt.half.getD i 40000 ≤ c.t →
      Completes (.shtRunReport dt i) s fun d =>
        d.safSt.pairClosed i = false ∧ (i.val < 24 → ((d.fld pgSHT Reg.SHT.SHT_LEG).testBit i = false ∧ d.flag (pgLead i) Reg.LEGL.BLK_STAT_SHUTTER_CLOSED = false)) ∧ (24 ≤ i.val → (d.fld pgSHT Reg.SHT.SHT_BRG).testBit (i.val - 24) = false) ∧ d.runHigh (28 + i.val) = !d.runHigh i) ∧
  (∀ (dt : Nat) (i : Fin 28) (a b : Bool) (s : State),
      let c := s.chip.after dt
      let s0 := c.safSt
      let last := fun (w : Nat) => s0.edge.getD w 0
      let silent := fun (w : Nat) (v : Bool) => s0.runs w && !s0.moved w v && decide (Nat.max (s0.openAt.getD i 0) (s0.edgeSeen.getD w 0) + 50000 ≤ c.t)
      let stirs := fun (w : Nat) (v : Bool) => !s0.runs w && s0.moved w v && (s0.sampAt.getD i none).any fun p => decide (last w < p)
      let other := fun (w : Nat) (v : Bool) => !s0.runs w && decide (last w + 85000 ≤ c.t) && v != c.staticHigh i
      let both := s0.runs i && s0.runs (28 + i.val) && a == b && (s0.same.getD i none).any fun t => decide (t + 2500 < c.t)
      let bad := silent i a || stirs i a || other i a || silent (28 + i.val) b || stirs (28 + i.val) b || other (28 + i.val) b || both
      c.domainOn 1 → c.wireFault i = false →
      Completes (.shtWireFault dt i a b) s fun d =>
        (bad = true → (if i.val < 24 then (d.fld pgSAF Reg.SAF.WIRE_FAULT_LEG).testBit i else (d.fld pgSAF Reg.SAF.WIRE_FAULT_BRG).testBit (i.val - 24)) = true) ∧ (bad = true → (d.bitAt pgFLT8 Reg.FLT8.RAW fSHT_WIRE ∧ d.safSt.chA.testBit i)) ∧ (bad = false → (d.regs = c.regs ∧ d.safSt.chA = s0.chA)) ∧ d.safSt.chB = s0.chB ∧ d.safSt.sampAt.getD i none = some c.t)

/-- A filtered change stores the level, and DEMAND follows the pair's channels. Channels that disagree for longer than DISC_MS set DISCREPANT. A channel that is lost starts the degraded mode; SIN_CTRL ends it for the pairs named whose channels pass their checks and refuses the others with 0x41; at its limit SIN_EXPIRED is raised. SOUT_CMD drives the outputs that are used and not forced off. A test pulse that is not seen low, or not high afterwards, or an output that reads high while off, sets the output's FAULT; SOUT_CTRL clears it for an output commanded off that reads low, and refuses with 0x41 otherwise. -/
def Obligations.SafeInputsAndOutputs : Prop :=
  (∀ (dt : Nat) (i : Fin 16) (chB level rawA rawB : Bool) (s : State),
      let c := s.chip.after dt
      Completes (.sinFilterChange dt i chB level rawA rawB) s fun d =>
        (d.sinBit i (if chB then 1 else 0) = level) ∧ d.sinBit i 2 = d.inDemand i ∧ ((List.range 16).all fun j => j == i.val || (d.fld pgSIO Reg.SIO.SIN_STAT j == c.fld pgSIO Reg.SIO.SIN_STAT j))) ∧
  (∀ (dt : Nat) (i : Fin 16) (s : State),
      let c := s.chip.after dt
      (c.sin i).apart.isSome → c.sinBit i 3 = false → c.sinUse i ≠ 0 →
      Completes (.sinDiscrepant dt i) s fun d =>
        d.sinBit i 3 = true ∧ (d.fld pgSIO Reg.HDR.EVT_RAW).testBit 2) ∧
  (∀ (dt : Nat) (i : Fin 16) (chB : Bool) (s : State),
      let c := s.chip.after dt
      c.lossOf i chB ≠ 0 → ((if chB then c.lostB i else c.lostA i) = false) →
      Completes (.sinChanLost dt i chB) s fun d =>
        ((if chB then d.lostB i else d.lostA i) = true) ∧ d.sinBit i 2 = d.inDemand i ∧ (d.sin i).since.isSome ∧ (d.fld pgSIO Reg.HDR.EVT_RAW).testBit 1) ∧
  (∀ (dt : Nat) (src : Src) (mask : BitVec 16) (s : State),
      let c := s.chip.after dt
      c.serves src pgSIO 0x054 true →
      Completes (.sinFaultClr dt src mask) s fun d =>
        ((List.range 16).all fun i => !(mask.getLsbD i && (c.lostA i || c.lostB i) && c.lossOf i false == 0 && c.lossOf i true == 0) || (!d.lostA i && !d.lostB i && (d.sin i).since.isNone)) ∧ ((List.range 16).all fun i => (mask.getLsbD i && c.lossOf i false == 0 && c.lossOf i true == 0) || (d.lostA i == c.lostA i && d.lostB i == c.lostB i))) ∧
  (∀ (dt : Nat) (i : Fin 16) (s : State),
      let c := s.chip.after dt
      (c.sin i).since.isSome → (c.sin i).left.isSome →
      Completes (.degrExpire dt i) s fun d =>
        d.bitAt pgFLT8 Reg.FLT8.RAW (fSIN_EXPIRED i) ∧ (c.bitAt pgFLT8 Reg.FLT8.RAW (fSIN_EXPIRED i) = false → (d.fld pgSIO Reg.HDR.EVT_RAW).testBit 3)) ∧
  (∀ (dt : Nat) (src : Src) (on : BitVec 8) (s : State),
      let c := s.chip.after dt
      c.serves src pgSIO 0x058 true →
      Completes (.soutCmd dt src on) s fun d =>
        d.fld pgSIO Reg.SIO.SOUT_CMD = on.toNat ∧ ((List.range 8).all fun j => (d.fld pgSIO Reg.SIO.SOUT_STAT_LEVEL).testBit j == (on.getLsbD j && c.soutUsed j && !(c.fld pgSIO Reg.SIO.SOUT_STAT_FAULT).testBit j && !(c.soutSto j && c.allSto)))) ∧
  (∀ (dt : Nat) (j : Fin 8) (low high : Bool) (missA missB : BitVec 16) (s : State),
      let c := s.chip.after dt
      let bad := if c.soutOn j then !low || !high else high
      Completes (.soutTestPulse dt j low high missA missB) s fun d =>
        (bad = true → ((d.fld pgSIO Reg.SIO.SOUT_STAT_FAULT).testBit j ∧ d.bitAt pgFLT8 Reg.FLT8.RAW (fSOUT_FAULT j))) ∧ (bad = false → d.fld pgSIO Reg.SIO.SOUT_STAT_FAULT = c.fld pgSIO Reg.SIO.SOUT_STAT_FAULT) ∧ (d.fld pgSIO Reg.SIO.SOUT_STAT_LEVEL).testBit j = high) ∧
  (∀ (dt : Nat) (src : Src) (mask high : BitVec 8) (s : State),
      let c := s.chip.after dt
      c.serves src pgSIO 0x060 true →
      Completes (.soutFaultClr dt src mask high) s fun d =>
        ((List.range 8).all fun j => !(mask.getLsbD j && !high.getLsbD j && !(c.fld pgSIO Reg.SIO.SOUT_CMD).testBit j) || !(d.fld pgSIO Reg.SIO.SOUT_STAT_FAULT).testBit j) ∧ ((List.range 8).all fun j => (mask.getLsbD j && !high.getLsbD j && !(c.fld pgSIO Reg.SIO.SOUT_CMD).testBit j) || (d.fld pgSIO Reg.SIO.SOUT_STAT_FAULT).testBit j == (c.fld pgSIO Reg.SIO.SOUT_STAT_FAULT).testBit j) ∧ (((List.range 8).any fun j => mask.getLsbD j && (c.fld pgSIO Reg.SIO.SOUT_STAT_FAULT).testBit j && (high.getLsbD j || (c.fld pgSIO Reg.SIO.SOUT_CMD).testBit j)) → d.fld pgSIO Reg.HDR.ERR_CODE_LAST = c.lastErr pgSIO 0x41))

/-- SBC_RELEASE with an open window turns both switches on when no function of the scope is in STO, no test runs and SBC_FAULT does not stand, and is refused with 0x40 otherwise. ENGAGE and the expired delay turn both switches off, except that the state of SBC_FAULT stays. A read-back in the test of a switch other than the one expected of the brake's state and the pulse enters SBC_FAULT, and the expected one is shown. BT_START needs a released brake and no demand (0x41); the test settles, opens its window on LIVE_COUNT and passes when the movement is within the tolerance. SEAL_READ stores both codes and decides the seal state; three agreeing readings of a matching and valid configuration seal. SEAL_PROGRAM needs every function in STO, equal codes and a valid staged block (0x40) and a free slot (0x42); it burns the slot when the switch still reads the latched code. -/
def Obligations.TheBrakeAndTheSeal : Prop :=
  (∀ (dt : Nat) (src : Src) (s : State),
      let c := s.chip.after dt
      let st := c.fld pgSBC Reg.SBC.SBC_STAT_STATE
      let no := (c.sbcFuncs.any fun f => c.fstate f == 2) || st == 2 || st == 3 || c.faultActive fSBC_FAULT
      c.serves src pgSBC 0x040 true → c.windowHeld pgSBC src →
      Completes (.sbcRelease dt src) s fun d =>
        (no = true → (d.fld pgSBC Reg.HDR.ERR_CODE_LAST = c.lastErr pgSBC 0x40 ∧ d.fld pgSBC Reg.SBC.SBC_STAT_STATE = st ∧ d.fld pgSBC Reg.SBC.SBC_STAT_READBACK = c.fld pgSBC Reg.SBC.SBC_STAT_READBACK)) ∧ ((no = false ∧ st = 0) → (d.fld pgSBC Reg.SBC.SBC_STAT_STATE = 1 ∧ d.fld pgSBC Reg.SBC.SBC_STAT_READBACK = 3))) ∧
  (∀ (dt : Nat) (src : Src) (s : State),
      let c := s.chip.after dt
      c.serves src pgSBC 0x040 true →
      Completes (.sbcEngage dt src) s fun d =>
        (d.fld pgSBC Reg.SBC.SBC_STAT_STATE = if c.fld pgSBC Reg.SBC.SBC_STAT_STATE = 3 then 3 else 0) ∧ (d.fld pgSBC Reg.SBC.SBC_STAT_READBACK = (if c.fld pgSBC Reg.SBC.SBC_STAT_STATE = 1 then 0 else c.fld pgSBC Reg.SBC.SBC_STAT_READBACK)) ∧ (c.fld pgSBC Reg.SBC.SBC_STAT_STATE = 2 → d.fld pgSBC Reg.SBC.SBC_STAT_BT_RESULT = 3)) ∧
  (∀ (dt : Nat) (s : State),
      let c := s.chip.after dt
      c.brakeSt.delay.isSome →
      Completes (.sbcDelayExpire dt) s fun d =>
        d.brakeSt.delay = none ∧ (d.fld pgSBC Reg.SBC.SBC_STAT_STATE = if c.fld pgSBC Reg.SBC.SBC_STAT_STATE = 3 then 3 else 0) ∧ (d.fld pgSBC Reg.SBC.SBC_STAT_READBACK = (if c.fld pgSBC Reg.SBC.SBC_STAT_STATE = 1 then 0 else c.fld pgSBC Reg.SBC.SBC_STAT_READBACK))) ∧
  (∀ (dt : Nat) (low pulse : Bool) (rb : BitVec 2) (s : State),
      let c := s.chip.after dt
      let on := c.fld pgSBC Reg.SBC.SBC_STAT_STATE == 1
      let h := on != (pulse && !low)
      let l := on != (pulse && low)
      let right := rb.getLsbD 0 == h && rb.getLsbD 1 == l
      Completes (.sbcTestPulse dt low pulse rb) s fun d =>
        (right = false → (d.fld pgSBC Reg.SBC.SBC_STAT_STATE = 3 ∧ d.fld pgSBC Reg.SBC.SBC_STAT_READBACK = (if on then 0 else rb.toNat) ∧ d.bitAt pgFLT8 Reg.FLT8.RAW fSBC_FAULT)) ∧ (right = true → (d.fld pgSBC Reg.SBC.SBC_STAT_READBACK = rb.toNat ∧ d.fld pgSBC Reg.SBC.SBC_STAT_STATE = c.fld pgSBC Reg.SBC.SBC_STAT_STATE))) ∧
  (∀ (dt : Nat) (src : Src) (s : State),
      let c := s.chip.after dt
      let no := c.fld pgSBC Reg.SBC.SBC_STAT_STATE != 1 || c.sbcFuncs.any (fun f => c.fstate f != 0 || decide (0 < c.demandOf f))
      c.serves src pgSBC 0x040 true → c.windowHeld pgSBC src →
      Completes (.btStart dt src) s fun d =>
        (no = true → (d.fld pgSBC Reg.SBC.SBC_STAT_BT_RESULT = 3 ∧ d.fld pgSBC Reg.HDR.ERR_CODE_LAST = c.lastErr pgSBC 0x41 ∧ d.fld pgSBC Reg.SBC.SBC_STAT_STATE = c.fld pgSBC Reg.SBC.SBC_STAT_STATE)) ∧ (no = false → (d.fld pgSBC Reg.SBC.SBC_STAT_STATE = 2 ∧ d.fld pgSBC Reg.SBC.SBC_STAT_READBACK = 0 ∧ d.brakeSt.settle = some (c.t + 2500000 * c.act pgSBC Reg.SBC.BT_CFG_BT_SETTLE)))) ∧
  (∀ (dt : Nat) (s : State),
      let c := s.chip.after dt
      c.brakeSt.settle.isSome →
      Completes (.btSettleEnd dt) s fun d =>
        d.brakeSt.settle = none ∧ d.brakeSt.window = some (d.t + 2500000 * c.act pgSBC Reg.SBC.BT_CFG_BT_TIME) ∧ d.brakeSt.start = c.btCount ∧ d.brakeSt.move = 0) ∧
  (∀ (dt : Nat) (s : State),
      let c := s.chip.after dt
      let move := Nat.max c.brakeSt.move (signed 32 (c.btCount + 2 ^ 32 - c.brakeSt.start)).natAbs
      c.brakeSt.window.isSome →
      Completes (.btWindowEnd dt) s fun d =>
        d.brakeSt.window = none ∧ d.fld pgSBC Reg.SBC.SBC_STAT_STATE = 0 ∧ d.fld pgSBC Reg.SBC.BT_STAT_MOVE = Nat.min move 65535 ∧ (move ≤ c.btTol → (d.fld pgSBC Reg.SBC.SBC_STAT_BT_RESULT = 1 ∧ d.fld pgSBC Reg.SBC.SBC_STAT_BT_OVERDUE = 0 ∧ d.brakeSt.hours = 0)) ∧ (c.btTol < move → (d.fld pgSBC Reg.SBC.SBC_STAT_BT_RESULT = 2 ∧ d.bitAt pgFLT8 Reg.FLT8.RAW fBRAKE_TEST)) ∧ (d.fld pgSBC Reg.HDR.EVT_RAW).testBit 1) ∧
  (∀ (dt : Nat) (s : State),
      let c := s.chip.after dt
      c.btInterval ≠ 0 → 9000000000000 * c.btInterval ≤ c.brakeSt.hours →
      Completes (.btOverdue dt) s fun d =>
        d.fld pgSBC Reg.SBC.SBC_STAT_BT_OVERDUE = 1 ∧ (c.flag pgSBC Reg.SBC.SBC_STAT_BT_OVERDUE = false → (d.bitAt pgFLT8 Reg.FLT8.RAW fBRAKE_TEST ∧ (d.fld pgSBC Reg.HDR.EVT_RAW).testBit 3))) ∧
  (∀ (dt : Nat) (a b : BitVec 16) (s : State),
      let c := s.chip.after dt
      let st := c.fld pgSEAL Reg.SEAL.SEAL_STAT_STATE
      let f := c.activeSlot
      let code := (f.map fun x => x.2.1).getD 0
      let dg := (f.map fun x => x.2.2).getD []
      Completes (.sealRead dt a b) s fun d =>
        d.fld pgSEAL Reg.SEAL.SW_READ_CODE_A = a.toNat ∧ d.fld pgSEAL Reg.SEAL.SW_READ_CODE_B = b.toNat ∧ (st = 1 → d.fld pgSEAL Reg.SEAL.SEAL_STAT_STATE = 1) ∧ ((st = 1 ∧ (a ≠ b ∨ a.toNat ≠ c.sealSt.code)) → d.bitAt pgFLT8 Reg.FLT8.RAW fSEAL) ∧ ((st ≠ 1 ∧ a ≠ b) → (d.fld pgSEAL Reg.SEAL.SEAL_STAT_STATE = 3 ∧ d.bitAt pgFLT8 Reg.FLT8.RAW fSEAL)) ∧ ((st ≠ 1 ∧ a = b ∧ f = none) → (d.fld pgSEAL Reg.SEAL.SEAL_STAT_STATE = 6 ∧ d.bitAt pgFLT8 Reg.FLT8.RAW fSEAL)) ∧ ((st ≠ 1 ∧ a = b ∧ f.isSome ∧ a.toNat ≠ code) → d.fld pgSEAL Reg.SEAL.SEAL_STAT_STATE = 2) ∧ ((st ≠ 1 ∧ a = b ∧ f.isSome ∧ a.toNat = code ∧ (c.safSt.placed = false ∨ sha256 (leBytes (c.scbWords Reg.SEAL.SCB)) ≠ dg)) → d.fld pgSEAL Reg.SEAL.SEAL_STAT_STATE = 4) ∧ ((st ≠ 1 ∧ a = b ∧ f.isSome ∧ a.toNat = code ∧ c.safSt.placed ∧ sha256 (leBytes (c.scbWords Reg.SEAL.SCB)) = dg ∧ scbValid (c.scbWords Reg.SEAL.SCB)) → (d.fld pgSEAL Reg.SEAL.SEAL_STAT_STATE = (if 2 ≤ c.sealSt.agree then 1 else 0) ∧ (2 ≤ c.sealSt.agree → d.fld pgSAF Reg.SAF.SAF_STAT_SEALED = 1)))) ∧
  (∀ (dt : Nat) (src : Src) (s : State),
      let c := s.chip.after dt
      let a := c.fld pgSEAL Reg.SEAL.SW_READ_CODE_A
      let no := !c.allSto || a != c.fld pgSEAL Reg.SEAL.SW_READ_CODE_B || c.sealSt.prog.isSome || !scbValid (c.scbWords Reg.SEAL.SCB_STAGE)
      c.serves src pgSEAL 0x04C true → c.windowHeld pgSEAL src →
      Completes (.sealProgram dt src) s fun d =>
        (no = true → (d.fld pgSEAL Reg.HDR.ERR_CODE_LAST = c.lastErr pgSEAL 0x40 ∧ d.sealSt.prog = c.sealSt.prog)) ∧ ((no = false ∧ c.fuse.free = 0) → (d.fld pgSEAL Reg.HDR.ERR_CODE_LAST = c.lastErr pgSEAL 0x42 ∧ d.sealSt.prog = none)) ∧ ((no = false ∧ c.fuse.free ≠ 0) → (d.sealSt.prog = some (a, c.t) ∧ d.fld pgSEAL Reg.SEAL.SEAL_STAT_PROG_BUSY = 1)) ∧ d.fuse = c.fuse) ∧
  (∀ (dt : Nat) (a : BitVec 16) (s : State),
      let c := s.chip.after dt
      let code := (c.sealSt.prog.map Prod.fst).getD 0
      let i := (List.range 4).find? fun i => (c.fuse.slots.getD i none).isNone
      c.sealSt.prog.isSome →
      Completes (.sealProgDone dt a) s fun d =>
        d.sealSt.prog = none ∧ d.fld pgSEAL Reg.SEAL.SEAL_STAT_PROG_BUSY = 0 ∧ ((a.toNat = code ∧ i.isSome) → d.fuse.slots = c.fuse.slots.set (i.getD 0) (some (code, sha256 (leBytes (c.scbWords Reg.SEAL.SCB_STAGE))))) ∧ ((a.toNat ≠ code ∨ i = none) → (d.fuse = c.fuse ∧ d.fld pgSEAL Reg.HDR.ERR_CODE_LAST = c.lastErr pgSEAL 0x40)))

/-- Only the requester whose OPEN was accepted may push, on a queue whose PROD is SOFTWARE (NOT_PRODUCER 0x47); OPEN with a packet open, and DATA or CLOSE with none, record PUSH_STATE 0x44, and OPEN on a full or disabled queue records QUEUE_FULL 0x40. A word is appended in the cell open, or in a new one; a write that finds no cell is held; the holder's later PUSH writes wait behind it in order, and given up, if no cell has become free, it sets TRUNC and discards the rest of its packet. CLOSE completes the packet, or is the flush point. Only the consumer that CONS_SRC names may pop or skip (NOT_CONSUMER 0x41); POP_DATA answers the next payload word and the last one retires the packet, an empty queue or packet records POP_EMPTY 0x45, and an uncorrectable word ends with UNCORR and is consumed. Which cell the free list hands over is open and no clause says it (log entry 6); any other access of the holder behind a held write stands where that write has ended (log entry 60). -/
def Obligations.QueuesTakeAndGivePackets : Prop :=
  (∀ (dt : Nat) (src : Src) (n : Fin 64) (corr : Nat) (s : State),
      let c := s.chip.after dt
      let q := c.que n
      let c1 := (reclaim n).run c
      let no := c.act (pgQUE n) Reg.QUE.QUE_CFG_PROD != 0 || (q.opened.any fun o => o.holder != some src)
      c.serves src (pgQUE n) 0x058 true →
      Completes (.pushOpen dt src n corr) s fun d =>
        (no = true → (d.fld (pgQUE n) Reg.HDR.ERR_CODE_LAST = c.lastErr (pgQUE n) 0x47 ∧ d.que n = q)) ∧ ((no = false ∧ q.opened.isSome) → (d.fld (pgQUE n) Reg.HDR.ERR_CODE_LAST = c.lastErr (pgQUE n) 0x44 ∧ d.que n = q)) ∧ ((no = false ∧ q.opened = none ∧ c1.canOpen n = false) → (d.fld (pgQUE n) Reg.HDR.ERR_CODE_LAST = c.lastErr (pgQUE n) 0x40 ∧ d.que n = q ∧ d.fld (pgQUE n) Reg.QUE.FULL_CNT = Nat.min (c.fld (pgQUE n) Reg.QUE.FULL_CNT + 1) 65535)) ∧ ((no = false ∧ q.opened = none ∧ c1.canOpen n) → ((d.que n).opened.map (fun o => (o.len, o.cells.length, o.trunc, o.holder)) = some (0, 1, false, some src) ∧ (d.que n).done = q.done)) ∧ d.fld (pgQUE n) Reg.QUE.CORR_CNT = Nat.min (c.fld (pgQUE n) Reg.QUE.CORR_CNT + corr) 65535) ∧
  (∀ (dt : Nat) (src : Src) (n : Fin 64) (corr : Nat) (s : State),
      let c := s.chip.after dt
      src ≠ .debug → c.portOpen src → c.respond src ((pgQUE n).base + 0x058) 32 true = .ok → (c.pst (pgQUE n)).srstDue = none → c.heldBy n src →
      Completes (.pushOpen dt src n corr) s fun d =>
        d.que n = { c.que n with waits := (c.que n).waits ++ [(src, .open_)] }) ∧
  (∀ (dt : Nat) (src : Src) (n : Fin 64) (v : Word) (corr : Nat) (s : State),
      let c := s.chip.after dt
      let q := c.que n
      let o := q.opened.getD ⟨[], 0, false, none, 0, false⟩
      let no := c.act (pgQUE n) Reg.QUE.QUE_CFG_PROD != 0 || (q.opened.any fun o => o.holder != some src)
      let live := no = false ∧ q.opened.isSome ∧ o.discard = false ∧ o.len < 65535
      let stuck := o.needsCell && !((reclaim n).run c).canTake n
      c.serves src (pgQUE n) 0x05C true →
      Completes (.pushData dt src n v corr) s fun d =>
        (no = true → (d.fld (pgQUE n) Reg.HDR.ERR_CODE_LAST = c.lastErr (pgQUE n) 0x47 ∧ d.que n = q)) ∧ ((no = false ∧ q.opened = none) → (d.fld (pgQUE n) Reg.HDR.ERR_CODE_LAST = c.lastErr (pgQUE n) 0x44 ∧ d.que n = q)) ∧ ((no = false ∧ q.opened.isSome ∧ (o.discard ∨ 65535 ≤ o.len)) → ((d.que n).opened = some { o with trunc := true } ∧ (d.fld (pgQUE n) Reg.HDR.EVT_RAW).testBit 4)) ∧ ((live ∧ stuck = true) → ((d.que n).held = some (v, c.t) ∧ (d.que n).opened = q.opened ∧ d.fld (pgQUE n) Reg.QUE.FULL_CNT = c.fld (pgQUE n) Reg.QUE.FULL_CNT)) ∧ ((live ∧ stuck = false) → ((d.que n).opened.map (fun x => (x.len, x.cells.length, x.holder)) = some (o.len + 1, o.cells.length + (if o.needsCell then 1 else 0), o.holder) ∧ d.memAt (cellAddr ((((d.que n).opened.map OpenPkt.cells).getD []).getD ((o.len + 1) / 16) 0) ((o.len + 1) % 16)) = v))) ∧
  (∀ (dt : Nat) (src : Src) (n : Fin 64) (v : Word) (corr : Nat) (s : State),
      let c := s.chip.after dt
      src ≠ .debug → c.portOpen src → c.respond src ((pgQUE n).base + 0x05C) 32 true = .ok → (c.pst (pgQUE n)).srstDue = none → c.heldBy n src →
      Completes (.pushData dt src n v corr) s fun d =>
        d.que n = { c.que n with waits := (c.que n).waits ++ [(src, .data v)] }) ∧
  (∀ (dt : Nat) (n : Fin 64) (s : State),
      let c := s.chip.after dt
      let q := c.que n
      let stuck := !c.canTake n
      q.held.isSome →
      Completes (.pushHoldExpire dt n) s fun d =>
        (stuck = true → (d.fld (pgQUE n) Reg.HDR.EVT_RAW).testBit 4) ∧ ((stuck = true ∧ q.waits = []) → ((d.que n).held = none ∧ (d.que n).opened = (q.opened.map fun o => { o with trunc := true, discard := true }) ∧ (d.que n).done = q.done)) ∧ ((stuck = true ∧ (q.opened.any fun o => o.holder.any fun h => q.waits == [(h, .close)]) ∧ c.act (pgQUE n) Reg.QUE.QUE_CFG_PROD = 0) → ((d.que n).held = none ∧ (d.que n).opened = none))) ∧
  (∀ (dt : Nat) (src : Src) (n : Fin 64) (corr : Nat) (s : State),
      let c := s.chip.after dt
      let q := c.que n
      let o := q.opened.getD ⟨[], 0, false, none, 0, false⟩
      let no := c.act (pgQUE n) Reg.QUE.QUE_CFG_PROD != 0 || (q.opened.any fun o => o.holder != some src)
      let idle := (List.range 64).all fun m => (c.que m).held.isNone
      c.serves src (pgQUE n) 0x058 true →
      Completes (.pushClose dt src n corr) s fun d =>
        (no = true → (d.fld (pgQUE n) Reg.HDR.ERR_CODE_LAST = c.lastErr (pgQUE n) 0x47 ∧ d.que n = q)) ∧ ((no = false ∧ q.opened = none) → (d.fld (pgQUE n) Reg.HDR.ERR_CODE_LAST = c.lastErr (pgQUE n) 0x44 ∧ d.que n = q)) ∧ ((no = false ∧ q.opened.isSome) → ((d.que n).opened = none ∧ d.fld (pgQUE n) Reg.QUE.PKT_IN_CNT = (c.fld (pgQUE n) Reg.QUE.PKT_IN_CNT + 1) % 2 ^ 32)) ∧ ((no = false ∧ q.opened.isSome ∧ q.flush = false) → ((d.que n).done = q.done ++ [⟨o.cells, o.len⟩] ∧ (d.fld (pgQUE n) Reg.HDR.EVT_RAW).testBit 0)) ∧ ((no = false ∧ q.opened.isSome ∧ q.flush) → ((d.que n).done = [] ∧ (d.que n).flush = false ∧ d.fld (pgQUE n) Reg.QUE.DROP_CNT = Nat.min (c.fld (pgQUE n) Reg.QUE.DROP_CNT + (q.done.length + 1 + (if q.skipAt = some c.t then 1 else 0))) 65535 ∧ (d.fld (pgQUE n) Reg.HDR.EVT_RAW).testBit 3)) ∧ ((no = false ∧ q.opened.isSome ∧ idle = true) → d.memAt (cellAddr (o.cells.getD 0 0) 0) = BitVec.ofNat 32 (o.len + (if o.trunc then 2 ^ 24 else 0)))) ∧
  (∀ (dt : Nat) (src : Src) (n : Fin 64) (corr : Nat) (s : State),
      let c := s.chip.after dt
      src ≠ .debug → c.portOpen src → c.respond src ((pgQUE n).base + 0x058) 32 true = .ok → (c.pst (pgQUE n)).srstDue = none → c.heldBy n src →
      Completes (.pushClose dt src n corr) s fun d =>
        d.que n = { c.que n with waits := (c.que n).waits ++ [(src, .close)] }) ∧
  (∀ (dt : Nat) (src : Src) (n : Fin 64) (ecc : Fin 3) (corr : Nat) (s : State),
      let c := s.chip.after dt
      let q := c.que n
      let hd := if q.resetting then none else q.done.head?
      let x := hd.getD ⟨[], 0⟩
      let i := q.read + 1
      c.serves src (pgQUE n) 0x064 false →
      Completes (.popData dt src n ecc corr) s fun d =>
        (c.consumes n src = false → (d.fld (pgQUE n) Reg.HDR.ERR_CODE_LAST = c.lastErr (pgQUE n) 0x41 ∧ d.que n = q)) ∧ ((c.consumes n src ∧ hd = none ∧ (q.flushed.all fun e => e.1 != c.t)) → (d.rdata = 0 ∧ d.fld (pgQUE n) Reg.HDR.ERR_CODE_LAST = c.lastErr (pgQUE n) 0x45 ∧ d.que n = q)) ∧ ((c.consumes n src ∧ hd.isSome ∧ x.len = 0) → (d.rdata = 0 ∧ d.fld (pgQUE n) Reg.HDR.ERR_CODE_LAST = c.lastErr (pgQUE n) 0x45 ∧ (d.que n).done = q.done.drop 1)) ∧ ((c.consumes n src ∧ hd.isSome ∧ q.read < x.len ∧ ecc.val ≠ 2) → (d.resp = 0 ∧ d.rdata = c.memAt (cellAddr (x.cells.getD (i / 16) 0) (i % 16)))) ∧ ((c.consumes n src ∧ hd.isSome ∧ q.read < x.len ∧ ecc.val = 2) → (d.resp = 5 ∧ d.rdata = 0 ∧ (d.fld (pgQUE n) Reg.HDR.EVT_RAW).testBit 5)) ∧ ((c.consumes n src ∧ hd.isSome ∧ i = x.len) → ((d.que n).done = q.done.drop 1 ∧ (d.que n).read = 0 ∧ d.fld (pgQUE n) Reg.QUE.PKT_OUT_CNT = (c.fld (pgQUE n) Reg.QUE.PKT_OUT_CNT + 1) % 2 ^ 32)) ∧ ((c.consumes n src ∧ hd.isSome ∧ i < x.len) → ((d.que n).done = q.done ∧ (d.que n).read = i))) ∧
  (∀ (dt : Nat) (src : Src) (n : Fin 64) (corr : Nat) (s : State),
      let c := s.chip.after dt
      let q := c.que n
      c.serves src (pgQUE n) 0x068 true →
      Completes (.popSkip dt src n corr) s fun d =>
        (c.consumes n src = false → (d.fld (pgQUE n) Reg.HDR.ERR_CODE_LAST = c.lastErr (pgQUE n) 0x41 ∧ d.que n = q)) ∧ ((c.consumes n src ∧ (q.resetting ∨ q.done = [])) → d.que n = q) ∧ ((c.consumes n src ∧ q.resetting = false ∧ q.done ≠ []) → ((d.que n).done = q.done.drop 1 ∧ (d.que n).read = 0 ∧ d.fld (pgQUE n) Reg.QUE.PKT_OUT_CNT = (c.fld (pgQUE n) Reg.QUE.PKT_OUT_CNT + 1) % 2 ^ 32)) ∧ d.fld (pgQUE n) Reg.QUE.CORR_CNT = Nat.min (c.fld (pgQUE n) Reg.QUE.CORR_CNT + corr) 65535)

/-- The oldest record of a source or tap enters its RECORDS queue as one packet in its turn at the arbiter of its block, once no earlier stamp of the source can follow (log entry 6), waits while that queue can open none, and is dropped and counted where its queue takes no records; a lost count moves to the record after it. The next word of a hardware port enters its queue or waits, its last word closes the packet, and after a queue reset the rest of the frame is discarded. FLUSH discards every complete packet at once, or at the close of the open packet. A queue reset discards every packet, keeps the cells until a sweep has freed them, and records PTR_MISMATCH. The end of a sweep empties the queues that it serves, a rebuild loses no packet, and the cells whose link entries differ are quarantined. -/
def Obligations.QueuesDrainFlushResetAndSweep : Prop :=
  (∀ (dt : Nat) (src : BitVec 20) (corr : Nat) (s : State),
      let c := s.chip.after dt
      let st := c.stream src.toNat
      let r := st.fifo.head?.getD ⟨[], 0⟩
      let records := c.act (pgQUE r.queue) Reg.QUE.QUE_CFG_PROD = 1
      let c1 := if records then (recordAsks r.queue (fun k => match k with | .stream i _ => i == src.toNat | _ => false)).run c else c
      let opens := (c1.que r.queue).opened.isNone && c1.canOpen r.queue
      let at_ := sourceCell src.toNat
      let turn := c1.turnOf (blockKey at_.1) (c1.drainCells at_.1) at_.2
      st.fifo ≠ [] → r.queue < 64 →
      Completes (.evsFifoDrain dt src corr) s fun d =>
        ((c.ripe r = false ∨ (turn = false ∧ ¬ (records ∧ opens = false))) → (d.stream src.toNat = st ∧ (d.que r.queue).done = (c.que r.queue).done ∧ d.fld pgEVS Reg.EVS.DROP_CNT = c.fld pgEVS Reg.EVS.DROP_CNT)) ∧ ((¬ records ∧ c.ripe r ∧ turn) → ((d.stream src.toNat).fifo.length = st.fifo.length - 1 ∧ d.fld pgEVS Reg.EVS.DROP_CNT = Nat.min (c.fld pgEVS Reg.EVS.DROP_CNT + 1) (2 ^ 32 - 1) ∧ (d.fld pgEVS Reg.HDR.EVT_RAW).testBit 0 ∧ (st.fifo.length = 1 → (d.stream src.toNat).lost = Nat.min (st.lost + (1 + (r.words.getD 3 0).bits 16 16)) 65535))) ∧ ((records ∧ opens = true ∧ c.ripe r ∧ turn) → ((d.stream src.toNat).fifo = st.fifo.drop 1 ∧ d.fld (pgQUE r.queue) Reg.QUE.PKT_IN_CNT = (c.fld (pgQUE r.queue) Reg.QUE.PKT_IN_CNT + 1) % 2 ^ 32)) ∧ ((records ∧ opens = true ∧ c.ripe r ∧ turn ∧ (c.que r.queue).flush = false ∧ r.words.length ≤ 65535) → (d.que r.queue).done.map Pkt.len = (c.que r.queue).done.map Pkt.len ++ [r.words.length]) ∧ ((records ∧ opens = false) → (d.stream src.toNat = st ∧ (d.que r.queue).done = (c.que r.queue).done))) ∧
  (∀ (dt : Nat) (q : Quay) (tap : Fin 16) (corr : Nat) (s : State),
      let c := s.chip.after dt
      let st := c.tap (16 * q.idx + tap.val)
      let r := st.fifo.head?.getD ⟨[], 0⟩
      let records := c.act (pgQUE r.queue) Reg.QUE.QUE_CFG_PROD = 1
      let c1 := if records then (recordAsks r.queue (fun k => match k with | .tap i _ => i == 16 * q.idx + tap.val | _ => false)).run c else c
      let opens := (c1.que r.queue).opened.isNone && c1.canOpen r.queue
      let turn := c1.turnOf (tapKey q.idx) ((List.range 16).filter fun i => c1.drains (c1.tap (16 * q.idx + i)).fifo) tap
      st.fifo ≠ [] → r.queue < 64 →
      Completes (.tapFifoDrain dt q tap corr) s fun d =>
        ((turn = false ∧ ¬ (records ∧ opens = false)) → (d.tap (16 * q.idx + tap.val) = st ∧ (d.que r.queue).done = (c.que r.queue).done)) ∧ ((¬ records ∧ turn) → ((d.tap (16 * q.idx + tap.val)).fifo.length = st.fifo.length - 1 ∧ d.fld pgCAP Reg.CAP.TAP_DROP tap = Nat.min (c.fld pgCAP Reg.CAP.TAP_DROP tap + 1) 65535 ∧ (d.fld pgCAP Reg.HDR.EVT_RAW).testBit 0)) ∧ ((records ∧ opens = true ∧ turn) → ((d.tap (16 * q.idx + tap.val)).fifo = st.fifo.drop 1 ∧ d.fld pgCAP Reg.CAP.TAP_REC_CNT = (c1.fld pgCAP Reg.CAP.TAP_REC_CNT + 1) % 2 ^ 32)) ∧ ((records ∧ opens = true ∧ turn ∧ (c.que r.queue).flush = false ∧ r.words.length ≤ 65535) → (d.que r.queue).done.map Pkt.len = (c.que r.queue).done.map Pkt.len ++ [r.words.length]) ∧ ((records ∧ opens = false) → (d.tap (16 * q.idx + tap.val) = st ∧ (d.que r.queue).done = (c.que r.queue).done))) ∧
  (∀ (dt : Nat) (i : Fin 8) (corr : Nat) (s : State),
      let c := s.chip.after dt
      let code := portCode i
      let m := (c.portQueue code).getD 0
      let x := c.port code
      let f := x.frames.head?.getD []
      let last := x.pos + 1 == f.length
      let o := (c.que m).opened.getD ⟨[], 0, false, none, code, false⟩
      let mine := o.holder.isNone && o.prod == code
      let grows := o.needsCell && decide (o.len < 65535)
      let asks := !x.discard && (if (c.que m).opened.isNone then c.en (pgQUE m) else mine && grows)
      let c1 := if asks then (reclaim m).run c else c
      let goes := if (c.que m).opened.isNone then c1.canOpen m else mine && !(grows && !c1.canTake m)
      let turn := c1.turnOf (blockKey (portCell i).1) (c1.drainCells (portCell i).1) (portCell i).2
      (c.portQueue code).isSome → x.frames ≠ [] → (c.que m).held = none →
      Completes (.portWordWrite dt i corr) s fun d =>
        ((turn ∧ x.discard ∧ last = false) → (d.port code = { x with pos := x.pos + 1 } ∧ d.que m = c.que m)) ∧ ((turn ∧ x.discard ∧ last) → (d.port code = { x with frames := x.frames.drop 1, pos := 0, discard := false } ∧ d.que m = c.que m)) ∧ ((turn = false ∧ (x.discard ∨ goes)) → (d.port code = x ∧ d.que m = c.que m)) ∧ ((x.discard = false ∧ goes = false) → (d.port code = x ∧ (d.que m).done = (c.que m).done ∧ (d.que m).opened = (c.que m).opened)) ∧ ((x.discard = false ∧ goes ∧ turn ∧ last = false) → (d.port code = { x with pos := x.pos + 1 } ∧ (d.que m).opened.isSome)) ∧ ((x.discard = false ∧ goes ∧ turn ∧ last = false ∧ (c.que m).opened = none) → (d.que m).opened.map (fun y => (y.len, y.holder)) = some (1, none)) ∧ ((x.discard = false ∧ goes ∧ turn ∧ last) → (d.port code = { x with frames := x.frames.drop 1, pos := 0, discard := false } ∧ (d.que m).opened = none ∧ d.fld (pgQUE m) Reg.QUE.PKT_IN_CNT = (c.fld (pgQUE m) Reg.QUE.PKT_IN_CNT + 1) % 2 ^ 32))) ∧
  (∀ (dt : Nat) (src : Src) (n : Fin 64) (corr : Nat) (s : State),
      let c := s.chip.after dt
      let q := c.que n
      c.serves src (pgQUE n) 0x06C true →
      Completes (.queFlush dt src n corr) s fun d =>
        (q.flush = true → d.que n = q) ∧ ((q.flush = false ∧ (q.opened.isSome ∨ q.resetting)) → d.que n = { q with flush := true }) ∧ ((q.flush = false ∧ q.opened = none ∧ q.resetting = false) → ((d.que n).done = [] ∧ (d.que n).read = 0 ∧ (d.que n).flush = false ∧ d.fld (pgQUE n) Reg.QUE.DROP_CNT = Nat.min (c.fld (pgQUE n) Reg.QUE.DROP_CNT + (q.done.length + (if q.skipAt = some c.t then 1 else 0))) 65535 ∧ (d.fld (pgQUE n) Reg.HDR.EVT_RAW).testBit 3)) ∧ d.fld (pgQUE n) Reg.QUE.CORR_CNT = Nat.min (c.fld (pgQUE n) Reg.QUE.CORR_CNT + corr) 65535) ∧
  (∀ (dt : Nat) (n : Fin 64) (uncorr : Nat) (s : State),
      let c := s.chip.after dt
      let q := c.que n
      Completes (.queReset dt n uncorr) s fun d =>
        (d.que n).done = [] ∧ (d.que n).opened = none ∧ (d.que n).held = none ∧ (d.que n).resetting ∧ (d.que n).dead = q.cells ∧ d.fld (pgQUE n) Reg.HDR.ERR_CODE_LAST = c.lastErr (pgQUE n) 0x48 ∧ (d.fld (pgQUE n) Reg.QUE.DROP_CNT = Nat.min (c.fld (pgQUE n) Reg.QUE.DROP_CNT + (q.done.length + (if q.opened.isSome then 1 else 0))) 65535) ∧ d.fld (pgQUE n) Reg.QUE.RESET_CNT = Nat.min (c.fld (pgQUE n) Reg.QUE.RESET_CNT + 1) 65535 ∧ d.fld (pgQUE n) Reg.QUE.QUE_STAT_RESETTING = 1 ∧ d.fld (pgQUE n) Reg.HDR.PAGE_STAT_SAFE = 1 ∧ (d.fld (pgQUE n) Reg.HDR.EVT_RAW).testBit 2 ∧ ((d.fld pgBSN (if n.val < 32 then Reg.BSN.QRESET_LO else Reg.BSN.QRESET_HI)).testBit (n.val % 32)) ∧ ((d.store (if q.resetting then q.deadStore else c.storeOf n)).sweep.isSome) ∧ d.fld pgBSN Reg.BSN.UNCORR_CNT = Nat.min (c.fld pgBSN Reg.BSN.UNCORR_CNT + uncorr) (2 ^ 32 - 1)) ∧
  (∀ (dt : Nat) (st : Fin 2) (bad : List Nat) (corr : List (Option (Fin 64))) (uncorr : Nat) (s : State),
      let c := s.chip.after dt
      let served := (List.range 64).filter fun m => (c.que m).swept && (c.que m).deadStore == st.val
      (c.store st).sweep.isSome →
      Completes (.sweepDone dt st bad corr uncorr) s fun d =>
        (served.all fun m => (d.que m).dead == [] && !(d.que m).resetting && !(d.que m).flush) ∧ (((List.range 64).all fun m => !(c.que m).resetting || (c.que m).deadStore != st.val || served.contains m) → (d.store st).sweep = none) ∧ (bad.all fun i => cellStore i != st.val || decide (98304 ≤ i) || (d.store st).quarantine.contains i) ∧ ((List.range 64).all fun m => (d.que m).done == (c.que m).done) ∧ d.fld pgBSN Reg.BSN.CORR_CNT = Nat.min (c.fld pgBSN Reg.BSN.CORR_CNT + corr.length) (2 ^ 32 - 1) ∧ d.fld pgBSN Reg.BSN.UNCORR_CNT = Nat.min (c.fld pgBSN Reg.BSN.UNCORR_CNT + uncorr) (2 ^ 32 - 1)) ∧
  (∀ (dt : Nat) (st : Fin 2) (s : State),
      let c := s.chip.after dt
      Completes (.freelistRebuild dt st) s fun d =>
        (d.store st).rebuild.isSome ∧ (d.fld pgBSN (if st.val = 0 then Reg.BSN.POOL_STAT_REBUILD else Reg.BSN.CAPT_STAT_REBUILD) = 1) ∧ (d.fld pgBSN Reg.HDR.EVT_RAW).testBit 2 ∧ ((List.range 64).all fun m => d.que m == c.que m)) ∧
  (∀ (dt : Nat) (st : Fin 2) (bad : List Nat) (corr : List (Option (Fin 64))) (uncorr : Nat) (s : State),
      let c := s.chip.after dt
      (c.store st).rebuild.isSome →
      Completes (.rebuildDone dt st bad corr uncorr) s fun d =>
        (d.store st).rebuild = none ∧ (d.fld pgBSN (if st.val = 0 then Reg.BSN.POOL_STAT_REBUILD else Reg.BSN.CAPT_STAT_REBUILD) = 0) ∧ (bad.all fun i => cellStore i != st.val || decide (98304 ≤ i) || (d.store st).quarantine.contains i) ∧ ((List.range 64).all fun m => (d.que m).done == (c.que m).done))

/-- A CAN FD frame that FD_EN = 0 forbids is an exception or, with PXHD = 0, a form error. A received frame goes to the first matching receive object: into the object, into its shadow while it is locked, to the receive port, or it is lost and counted. Reading OBJ_HEAD takes the read lock, whoever reads, and reading the frame's last word, or RELEASE, gives it back and moves the shadow in. SEND makes an enabled send object PENDING, or arms a window object; of the objects that were PENDING at the start of an attempt the arbitration winner is sent, ended or offered again. OBJ_CFG applies unless it changes an enabled object (OBJ_ENABLED 0x40), makes a second queue sender (TXQ_OBJ 0x45) or enables a bad window (0x03, 0x04). The queue sender takes its packets, and a malformed one only counts. Where the manual leaves the receive error counter open, from 119 to 127, no clause says its value (log entry 6). -/
def Obligations.MessageObjectsReceiveAndSend : Prop :=
  (∀ (dt : Nat) (n : Fin 6) (f : CanFrame) (s : State),
      let c := s.chip.after dt
      let p := pgCAN n
      let refuse := f.fdf && !c.actFlag p Reg.CAN.CAN_CFG_FD_EN
      let m := c.objMatch n f
      let o := pgOBJ n (m.getD 0)
      let toObj := !refuse && m.isSome && !c.flag o Reg.OBJ.OBJ_CFG_TO_QUEUE
      let port := c.port (0x20 + n)
      let toPort := !refuse && (if m.isSome then c.flag o Reg.OBJ.OBJ_CFG_TO_QUEUE else c.actFlag p Reg.CAN.CAN_CFG_NOMATCH_EN)
      let room := (c.queueOfProd (0x20 + n)).isSome && decide (port.frames.length < 4)
      let locked := c.flag o Reg.OBJ.OBJ_STAT_LOCKED
      let sh := (c.objOf n (m.getD 0)).shadow
      let ovw := c.flag o Reg.OBJ.OBJ_CFG_OVERWRITE
      let new := c.flag o Reg.OBJ.OBJ_STAT_NEW
      c.canLive n → c.canSynced n f.stamp →
      Completes (.canRxFrame dt n f) s fun d =>
        (refuse = true → d.fld p Reg.CAN.RX_CNT = c.fld p Reg.CAN.RX_CNT) ∧ ((refuse = true ∧ c.actFlag p Reg.CAN.CAN_CFG_PXHD) → ((d.fld p Reg.HDR.EVT_RAW).testBit 8 ∧ (d.can n).integ = some c.t ∧ d.fld p Reg.CAN.ERR_STAT_REC = c.fld p Reg.CAN.ERR_STAT_REC)) ∧ ((refuse = true ∧ c.actFlag p Reg.CAN.CAN_CFG_PXHD = false) → (d.fld p Reg.CAN.ERR_STAT_LEC = 2 ∧ d.fld p Reg.CAN.ERR_STAT_REC = Nat.min (c.fld p Reg.CAN.ERR_STAT_REC + 1) 128)) ∧ (refuse = false → (d.fld p Reg.CAN.RX_CNT = (c.fld p Reg.CAN.RX_CNT + 1) % 2 ^ 32 ∧ (d.fld p Reg.HDR.EVT_RAW).testBit 0)) ∧ ((refuse = false ∧ m = none) → d.fld p Reg.CAN.NOMATCH_CNT = Nat.min (c.fld p Reg.CAN.NOMATCH_CNT + 1) 65535) ∧ ((toObj = true ∧ locked = false ∧ (new = false ∨ ovw)) → (d.fld o Reg.OBJ.OBJ_HEAD_ID = f.id.toNat ∧ d.fld o Reg.OBJ.OBJ_INFO_DLC = f.dlc.toNat ∧ d.fld o Reg.OBJ.OBJ_STAT_NEW = 1 ∧ d.wide o Reg.OBJ.OBJ_TIDE_LO Reg.OBJ.OBJ_TIDE_HI = f.stamp % 2 ^ 64 ∧ (List.range 16).all fun i => d.fld o Reg.OBJ.DATA i == if i < frameWords f then (f.data.getD i 0).toNat else 0)) ∧ ((toObj = true ∧ locked = false ∧ new ∧ ovw = false) → (d.fld o Reg.OBJ.OBJ_HEAD_ID = c.fld o Reg.OBJ.OBJ_HEAD_ID ∧ d.fld o Reg.OBJ.DATA = c.fld o Reg.OBJ.DATA)) ∧ ((toObj = true ∧ locked) → ((d.objOf n (m.getD 0)).shadow = (if sh.isNone || ovw then some f else sh) ∧ d.fld o Reg.OBJ.OBJ_HEAD_ID = c.fld o Reg.OBJ.OBJ_HEAD_ID)) ∧ ((toObj = true ∧ (if locked then sh.isSome = true else new)) → (d.fld o Reg.OBJ.OBJ_STAT_LOST = 1 ∧ d.fld p Reg.CAN.LOST_CNT = Nat.min (c.fld p Reg.CAN.LOST_CNT + 1) 65535 ∧ (d.fld p Reg.HDR.EVT_RAW).testBit 5)) ∧ ((toPort = true ∧ room = true) → ((d.port (0x20 + n)).frames.length = port.frames.length + 1 ∧ (d.port (0x20 + n)).frames.getLast?.map (fun ws => ws.length) = some (4 + frameWords f) ∧ (d.port (0x20 + n)).lost = false)) ∧ ((toPort = true ∧ room = false) → ((d.port (0x20 + n)).frames = port.frames ∧ (d.port (0x20 + n)).lost = true ∧ d.fld p Reg.CAN.LOST_CNT = Nat.min (c.fld p Reg.CAN.LOST_CNT + 1) 65535))) ∧
  (∀ (dt : Nat) (src : Src) (n : Fin 6) (s : State),
      let c := s.chip.after dt
      let j := c.objSel src n
      let p := pgOBJ n j
      let sends := c.flag p Reg.OBJ.OBJ_CFG_EN && c.flag p Reg.OBJ.OBJ_CFG_DIR
      let time := c.flag p Reg.OBJ.OBJ_CFG_TIME
      c.serves src (pgCAN n) 0x120 true →
      Completes (.canSend dt src n) s fun d =>
        (sends = false → (d.fld p Reg.OBJ.OBJ_STAT_PENDING = c.fld p Reg.OBJ.OBJ_STAT_PENDING ∧ d.objOf n j = c.objOf n j)) ∧ ((sends = true ∧ time) → (d.objOf n j = { c.objOf n j with armed := true } ∧ d.fld p Reg.OBJ.OBJ_STAT_PENDING = c.fld p Reg.OBJ.OBJ_STAT_PENDING)) ∧ ((sends = true ∧ time = false) → d.fld p Reg.OBJ.OBJ_STAT_PENDING = 1) ∧ ((sends = true ∧ time = false ∧ c.flag p Reg.OBJ.OBJ_STAT_PENDING = false) → d.objOf n j = { c.objOf n j with since := c.t, fails := 0, abort_ := false })) ∧
  (∀ (dt : Nat) (src : Src) (n : Fin 6) (bus : Bool) (s : State),
      let c := s.chip.after dt
      let j := c.objSel src n
      let p := pgOBJ n j
      let pend := c.flag p Reg.OBJ.OBJ_STAT_PENDING
      c.serves src (pgCAN n) 0x120 true →
      Completes (.canAbort dt src n bus) s fun d =>
        (d.objOf n j).armed = false ∧ ((pend ∧ bus) → (d.fld p Reg.OBJ.OBJ_STAT_PENDING = 1 ∧ (d.objOf n j).abort_ = true)) ∧ ((pend ∧ bus = false) → (d.fld p Reg.OBJ.OBJ_STAT_PENDING = 0 ∧ d.fld p Reg.OBJ.OBJ_STAT_TX_RESULT = 2)) ∧ (pend = false → d.fld p Reg.OBJ.OBJ_STAT_TX_RESULT = c.fld p Reg.OBJ.OBJ_STAT_TX_RESULT)) ∧
  (∀ (dt : Nat) (n : Fin 6) (sof delay : Nat) (s : State),
      let c := s.chip.after dt
      let p := pgCAN n
      let j := (c.offered n sof).getD 0
      let o := pgOBJ n j
      let ref := c.refOffered n sof
      let tdc := ref.isNone && (c.sendFrame n j).fdf && c.actFlag p Reg.CAN.CAN_CFG_TDC_EN
      let late := tdc && decide (125 < delay)
      c.canSends n → c.canSynced n sof → (ref.isSome ∨ (c.offered n sof).isSome) → c.act p Reg.CAN.CAN_CFG_MODE = 0 →
      Completes (.canTxDone dt n sof delay) s fun d =>
        (late = false → (d.fld p Reg.CAN.TX_CNT = (c.fld p Reg.CAN.TX_CNT + 1) % 2 ^ 32 ∧ d.fld p Reg.CAN.ERR_STAT_TEC = c.fld p Reg.CAN.ERR_STAT_TEC - 1)) ∧ (late = true → (d.fld p Reg.CAN.TX_CNT = c.fld p Reg.CAN.TX_CNT ∧ (d.fld p Reg.CAN.ERR_STAT_LEC = 4 ∨ d.fld p Reg.CAN.ERR_STAT_LEC = 5) ∧ d.fld p Reg.CAN.ERR_STAT_TEC = Nat.min (c.fld p Reg.CAN.ERR_STAT_TEC + 8) 255)) ∧ (tdc = true → (d.can n).ssp = some (delay + c.act p Reg.CAN.TDC)) ∧ ((ref = none ∧ late = false) → (d.fld o Reg.OBJ.OBJ_STAT_PENDING = 0 ∧ d.fld o Reg.OBJ.OBJ_STAT_TX_RESULT = 1 ∧ (d.fld p Reg.HDR.EVT_RAW).testBit 1 ∧ d.wide o Reg.OBJ.OBJ_TIDE_LO Reg.OBJ.OBJ_TIDE_HI = sof % 2 ^ 64)) ∧ (ref.isSome → ((d.can n).refOffer = none ∧ (d.can n).refSent = sof ∧ d.wide p Reg.CAN.LAST_REF_LO Reg.CAN.LAST_REF_HI = sof % 2 ^ 64 ∧ d.fld p Reg.CAN.TT_STAT_SENT_LAST = 1 ∧ (d.fld p Reg.HDR.EVT_RAW).testBit 6)) ∧ (ref.isSome → d.fld p Reg.CAN.TT_STAT_CYCLE = (c.fld p Reg.CAN.TT_STAT_CYCLE + 1) % (c.act p Reg.CAN.TT_CFG_CYCLE_MAX + 1))) ∧
  (∀ (dt : Nat) (n : Fin 6) (sof : Nat) (lost : Bool) (s : State),
      let c := s.chip.after dt
      let j := (c.offered n sof).getD 0
      let p := pgOBJ n j
      let o := c.objOf n j
      let max := c.act (pgCAN n) Reg.CAN.CAN_CFG_RETRY_MAX
      let fails := if lost then o.fails else o.fails + 1
      let ends := c.flag p Reg.OBJ.OBJ_CFG_SINGLE_SHOT || (!lost && max != 0 && decide (max ≤ fails))
      c.canSends n → c.canSynced n sof → c.refOffered n sof = none → (c.offered n sof).isSome →
      Completes (.canAttemptFail dt n sof lost) s fun d =>
        (o.abort_ → (d.fld p Reg.OBJ.OBJ_STAT_PENDING = 0 ∧ d.fld p Reg.OBJ.OBJ_STAT_TX_RESULT = 2)) ∧ ((o.abort_ = false ∧ o.last) → (d.fld p Reg.OBJ.OBJ_STAT_PENDING = 0 ∧ d.fld p Reg.OBJ.OBJ_STAT_TX_RESULT = 4 ∧ (d.fld (pgCAN n) Reg.HDR.EVT_RAW).testBit 7)) ∧ ((o.abort_ = false ∧ o.last = false ∧ ends = true) → (d.fld p Reg.OBJ.OBJ_STAT_PENDING = 0 ∧ d.fld p Reg.OBJ.OBJ_STAT_TX_RESULT = 5)) ∧ ((o.abort_ = false ∧ o.last = false ∧ ends = false) → (d.fld p Reg.OBJ.OBJ_STAT_PENDING = c.fld p Reg.OBJ.OBJ_STAT_PENDING ∧ d.objOf n j = { o with fails := fails }))) ∧
  (∀ (dt : Nat) (src : Src) (n : Fin 6) (v : Word) (bus : Bool) (s : State),
      let c := s.chip.after dt
      let j := c.objSel src n
      let p := pgOBJ n j
      let old := (c.word (p.base + 0x104)).bits 0 10
      let new := v.bits 0 10
      let was := c.flag p Reg.OBJ.OBJ_CFG_EN
      let en := v.getLsbD 0
      let second := v.getLsbD 1 && v.getLsbD 6 && (List.range 128).any fun i => i != j && c.flag (pgOBJ n i) Reg.OBJ.OBJ_CFG_DIR && c.flag (pgOBJ n i) Reg.OBJ.OBJ_CFG_TO_QUEUE
      let timed := en && v.getLsbD 8
      let far := decide (2 ^ c.fld p Reg.OBJ.OBJ_CYCLE_REP ≤ c.fld p Reg.OBJ.OBJ_CYCLE_BASE)
      let short := c.fld p Reg.OBJ.OBJ_WIN == 0
      let waits := !en && bus && c.flag p Reg.OBJ.OBJ_STAT_PENDING
      c.serves src (pgCAN n) 0x104 true →
      Completes (.objCfgWrite dt src n v bus) s fun d =>
        ((was ∧ en) → d.word (p.base + 0x104) = c.word (p.base + 0x104)) ∧ ((was ∧ en ∧ new ≠ old) → d.fld (pgCAN n) Reg.HDR.ERR_CODE_LAST = c.lastErr (pgCAN n) 0x40) ∧ (((was && en) = false ∧ second) → (d.fld (pgCAN n) Reg.HDR.ERR_CODE_LAST = c.lastErr (pgCAN n) 0x45 ∧ d.word (p.base + 0x104) = c.word (p.base + 0x104))) ∧ ((was = false ∧ second = false ∧ timed ∧ far) → (d.fld (pgCAN n) Reg.HDR.ERR_CODE_LAST = c.lastErr (pgCAN n) 3 ∧ d.word (p.base + 0x104) = c.word (p.base + 0x104))) ∧ ((was = false ∧ second = false ∧ timed ∧ far = false ∧ short) → (d.fld (pgCAN n) Reg.HDR.ERR_CODE_LAST = c.lastErr (pgCAN n) 4 ∧ d.word (p.base + 0x104) = c.word (p.base + 0x104))) ∧ (waits = true → ((second = false) → ((d.objOf n j).cfg = some (BitVec.ofNat 32 new) ∧ d.word (p.base + 0x104) = c.word (p.base + 0x104)))) ∧ (((was && en) = false ∧ second = false ∧ waits = false ∧ (timed && (far || short)) = false) → (d.word (p.base + 0x104)).toNat = new) ∧ ((en = false ∧ second = false) → (d.objOf n j).armed = false) ∧ ((en = false ∧ second = false ∧ c.flag p Reg.OBJ.OBJ_STAT_PENDING ∧ bus = false) → (d.fld p Reg.OBJ.OBJ_STAT_PENDING = 0 ∧ d.fld p Reg.OBJ.OBJ_STAT_TX_RESULT = 2))) ∧
  (∀ (dt : Nat) (src : Src) (n : Fin 6) (s : State),
      let c := s.chip.after dt
      let j := c.objSel src n
      let p := pgOBJ n j
      let other := c.flag p Reg.OBJ.OBJ_STAT_LOCKED && c.fld p Reg.OBJ.OBJ_STAT_LOCK_OWNER != src.code
      let takes := c.flag p Reg.OBJ.OBJ_CFG_EN && !c.flag p Reg.OBJ.OBJ_CFG_DIR
      c.serves src (pgCAN n) 0x124 false →
      Completes (.objHeadRead dt src n) s fun d =>
        (other = true → (d.rdata = 0 ∧ d.fld (pgCAN n) Reg.HDR.ERR_CODE_LAST = c.lastErr (pgCAN n) 0x42 ∧ d.fld p Reg.OBJ.OBJ_STAT_LOCK_OWNER = c.fld p Reg.OBJ.OBJ_STAT_LOCK_OWNER)) ∧ (other = false → d.rdata = c.word (p.base + 0x124)) ∧ ((other = false ∧ takes = true) → (d.fld p Reg.OBJ.OBJ_STAT_LOCKED = 1 ∧ d.fld p Reg.OBJ.OBJ_STAT_LOCK_OWNER = src.code % 256)) ∧ ((other = false ∧ takes = false) → d.fld p Reg.OBJ.OBJ_STAT_LOCKED = c.fld p Reg.OBJ.OBJ_STAT_LOCKED)) ∧
  (∀ (dt : Nat) (src : Src) (n : Fin 6) (s : State),
      let c := s.chip.after dt
      let j := c.objSel src n
      let p := pgOBJ n j
      let off := c.lastWord n j
      let lock := c.flag p Reg.OBJ.OBJ_STAT_LOCKED
      let other := lock && c.fld p Reg.OBJ.OBJ_STAT_LOCK_OWNER != src.code
      let sh := (c.objOf n j).shadow
      c.serves src (pgCAN n) off false →
      Completes (.objLastRead dt src n) s fun d =>
        (other = true → (d.rdata = 0 ∧ d.fld (pgCAN n) Reg.HDR.ERR_CODE_LAST = c.lastErr (pgCAN n) 0x42 ∧ d.objOf n j = c.objOf n j)) ∧ (other = false → d.rdata = c.word (p.base + off)) ∧ ((other = false ∧ lock) → (d.fld p Reg.OBJ.OBJ_STAT_LOCKED = 0 ∧ (d.objOf n j).shadow = none ∧ d.fld p Reg.OBJ.OBJ_STAT_NEW = (if sh.isSome then 1 else 0))) ∧ ((other = false ∧ lock ∧ sh.isSome) → d.fld p Reg.OBJ.OBJ_HEAD_ID = (sh.map fun f => f.id.toNat).getD 0) ∧ (lock = false → d.fld p Reg.OBJ.OBJ_STAT_NEW = c.fld p Reg.OBJ.OBJ_STAT_NEW)) ∧
  (∀ (dt : Nat) (src : Src) (n : Fin 6) (s : State),
      let c := s.chip.after dt
      let j := c.objSel src n
      let p := pgOBJ n j
      let mine := c.flag p Reg.OBJ.OBJ_STAT_LOCKED && c.fld p Reg.OBJ.OBJ_STAT_LOCK_OWNER == src.code
      let sh := (c.objOf n j).shadow
      c.serves src (pgCAN n) 0x120 true →
      Completes (.objRelease dt src n) s fun d =>
        (mine = false → (d.fld p Reg.OBJ.OBJ_STAT_LOCKED = c.fld p Reg.OBJ.OBJ_STAT_LOCKED ∧ d.objOf n j = c.objOf n j)) ∧ (mine = true → (d.fld p Reg.OBJ.OBJ_STAT_LOCKED = 0 ∧ (d.objOf n j).shadow = none)) ∧ ((mine = true ∧ sh = none) → d.fld p Reg.OBJ.OBJ_STAT_NEW = c.fld p Reg.OBJ.OBJ_STAT_NEW) ∧ ((mine = true ∧ sh.isSome) → (d.fld p Reg.OBJ.OBJ_HEAD_ID = (sh.map fun f => f.id.toNat).getD 0 ∧ d.fld p Reg.OBJ.OBJ_STAT_NEW = 1))) ∧
  (∀ (dt : Nat) (n : Fin 6) (corr bad : Nat) (s : State),
      let c := s.chip.after dt
      let j := (c.txqObj n).getD 0
      let m := (c.queueOfCons (0x30 + n)).getD 0
      let ws := (c.headWords m).getD []
      let p := pgOBJ n j
      (c.txqObj n).isSome → (c.queueOfCons (0x30 + n)).isSome → (c.headWords m).isSome → c.canLive n → c.flag p Reg.OBJ.OBJ_STAT_PENDING = false → (c.can n).txq = none → (c.can n).txqStop = false →
      Completes (.canTxqTake dt n corr bad) s fun d =>
        (d.que m).done = (c.que m).done.drop 1 ∧ d.fld (pgQUE m) Reg.QUE.PKT_OUT_CNT = (c.fld (pgQUE m) Reg.QUE.PKT_OUT_CNT + 1) % 2 ^ 32 ∧ ((txqFrame ws).isSome ∧ bad = 0 → ((d.can n).txq = txqFrame ws ∧ d.fld p Reg.OBJ.OBJ_STAT_PENDING = 1 ∧ (d.objOf n j).since = c.t)) ∧ (bad ≠ 0 → d.fld pgBSN Reg.BSN.UNCORR_CNT = Nat.min (c.fld pgBSN Reg.BSN.UNCORR_CNT + bad) (2 ^ 32 - 1)) ∧ (txqFrame ws = none → (d.fld (pgCAN n) Reg.CAN.TXQ_BAD_CNT = Nat.min (c.fld (pgCAN n) Reg.CAN.TXQ_BAD_CNT + 1) 65535 ∧ (d.can n).txq = none ∧ d.fld p Reg.OBJ.OBJ_STAT_PENDING = 0)))

/-- A bus error raises TEC and REC by the amounts that ISO 11898-1 gives for its kind (the amounts are presumed, log entry 98), and an acknowledgement error that a passive sender meets alone raises nothing; STATE becomes PASSIVE at 128 and BUS_OFF above a TEC of 255, where every PENDING object ends BUSOFF. RECOVER leaves BUS_OFF and is refused elsewhere (NOT_BUS_OFF 0x44), and the recovered controller is ACTIVE with both counters 0. At s_k the reference message is offered unless it was withdrawn, and half a period later it is dropped and counted. A window of an armed object opens OFFSET after the reference message and makes the object PENDING, and at its end the object is MISSED unless its frame has started. -/
def Obligations.BusErrorsRecoveryAndTimeMastering : Prop :=
  (∀ (dt : Nat) (n : Fin 6) (lec : Fin 8) (kind : CanErrorKind) (s : State),
      let c := s.chip.after dt
      let p := pgCAN n
      let passive := c.fld p Reg.CAN.ERR_STAT_STATE == 1
      let up := (match kind with | .receiver => (0, 1) | .receiverDominant => (0, 8) | .transmitter => (8, 0) | .ackAlone => (if passive then 0 else 8, 0) | .stuffArbitration => (0, 0) | .flagBit tx => (if tx then 8 else 0, if tx then 0 else 8) | .dominantRun tx => (if tx then 8 else 0, if tx then 0 else 8))
      let tec2 := c.fld p Reg.CAN.ERR_STAT_TEC + up.1
      let rec2 := Nat.min (c.fld p Reg.CAN.ERR_STAT_REC + up.2) 128
      c.canLive n → c.canSynced n c.t →
      Completes (.canBusError dt n lec kind) s fun d =>
        ((kind = .ackAlone ∧ passive = true) → (d.fld p Reg.CAN.ERR_STAT_TEC = Nat.min (c.fld p Reg.CAN.ERR_STAT_TEC) 255)) ∧ (d.fld p Reg.CAN.ERR_STAT_LEC = (if kind = .ackAlone then 3 else if kind = .stuffArbitration then 1 else lec.val)) ∧ d.fld p Reg.CAN.ERR_STAT_TEC = Nat.min tec2 255 ∧ d.fld p Reg.CAN.ERR_STAT_REC = rec2 ∧ (d.fld p Reg.CAN.ERR_STAT_WARNING = (if 96 ≤ tec2 ∨ 96 ≤ rec2 then 1 else 0)) ∧ (d.fld p Reg.CAN.ERR_STAT_STATE = (if 255 < tec2 then 2 else if 128 ≤ tec2 ∨ 128 ≤ rec2 then 1 else 0)) ∧ Word.bits (d.shown p 0x00C) 16 2 = d.fld p Reg.CAN.ERR_STAT_STATE ∧ (255 < tec2 → (d.fld p Reg.CAN.BUSOFF_CNT = Nat.min (c.fld p Reg.CAN.BUSOFF_CNT + 1) 65535 ∧ (d.fld p Reg.HDR.EVT_RAW).testBit 4)) ∧ (255 < tec2 → (List.range 128).all fun j => !c.flag (pgOBJ n j) Reg.OBJ.OBJ_STAT_PENDING || (!d.flag (pgOBJ n j) Reg.OBJ.OBJ_STAT_PENDING && d.fld (pgOBJ n j) Reg.OBJ.OBJ_STAT_TX_RESULT == 3))) ∧
  (∀ (dt : Nat) (src : Src) (n : Fin 6) (s : State),
      let c := s.chip.after dt
      let p := pgCAN n
      c.serves src p 0x050 true →
      Completes (.canRecover dt src n) s fun d =>
        ((c.fld p Reg.CAN.ERR_STAT_STATE = 2 ∧ (c.can n).stopAt ≠ some c.t) → d.fld p Reg.CAN.ERR_STAT_STATE = 3) ∧ ((c.fld p Reg.CAN.ERR_STAT_STATE = 2 ∧ (c.can n).stopAt = some c.t) → d.fld p Reg.CAN.ERR_STAT_STATE = 2) ∧ (c.fld p Reg.CAN.ERR_STAT_STATE ≠ 2 → (d.fld p Reg.CAN.ERR_STAT_STATE = c.fld p Reg.CAN.ERR_STAT_STATE ∧ d.fld p Reg.HDR.ERR_CODE_LAST = c.lastErr p 0x44))) ∧
  (∀ (dt : Nat) (n : Fin 6) (s : State),
      let c := s.chip.after dt
      let p := pgCAN n
      c.fld p Reg.CAN.ERR_STAT_STATE = 3 → c.on p → c.domainOn 10 →
      Completes (.canRecovered dt n) s fun d =>
        d.fld p Reg.CAN.ERR_STAT_STATE = 0 ∧ d.fld p Reg.CAN.ERR_STAT_TEC = 0 ∧ d.fld p Reg.CAN.ERR_STAT_REC = 0 ∧ d.fld p Reg.CAN.ERR_STAT_WARNING = 0) ∧
  (∀ (dt : Nat) (n : Fin 6) (s : State),
      let c := s.chip.after dt
      let k := (c.can n).refNext.getD 0
      (c.can n).refNext.isSome →
      Completes (.refMsgDue dt n) s fun d =>
        (d.can n).refNext = some (k + c.act (pgCAN n) Reg.CAN.REF_PERIOD) ∧ (d.can n).yield = none ∧ ((c.can n).yield = some k → (d.can n).refOffer = (c.can n).refOffer) ∧ ((c.can n).yield ≠ some k → ((d.can n).refOffer.map Prod.fst) = some k)) ∧
  (∀ (dt : Nat) (n : Fin 6) (s : State),
      let c := s.chip.after dt
      (c.can n).refOffer.isSome →
      Completes (.refMsgDrop dt n) s fun d =>
        (d.can n).refOffer = none ∧ d.fld (pgCAN n) Reg.CAN.REF_MISSED_CNT = Nat.min (c.fld (pgCAN n) Reg.CAN.REF_MISSED_CNT + 1) 65535 ∧ d.fld (pgCAN n) Reg.CAN.TT_STAT_CYCLE = c.fld (pgCAN n) Reg.CAN.TT_STAT_CYCLE) ∧
  (∀ (dt : Nat) (n : Fin 6) (j : Fin 128) (s : State),
      let c := s.chip.after dt
      let p := pgOBJ n j
      let ref := c.lastRef n
      let o := c.objOf n j
      c.canSends n → o.armed → ref ≠ 0 → o.win ≠ some ref → c.fld (pgCAN n) Reg.CAN.TT_STAT_CYCLE % 2 ^ c.fld p Reg.OBJ.OBJ_CYCLE_REP = c.fld p Reg.OBJ.OBJ_CYCLE_BASE →
      Completes (.ttWindowOpen dt n j) s fun d =>
        (d.objOf n j).win = some ref ∧ (d.objOf n j).winOpen ∧ d.fld p Reg.OBJ.OBJ_STAT_PENDING = 1) ∧
  (∀ (dt : Nat) (n : Fin 6) (j : Fin 128) (started : Bool) (s : State),
      let c := s.chip.after dt
      let p := pgOBJ n j
      let o := c.objOf n j
      let pend := c.flag p Reg.OBJ.OBJ_STAT_PENDING
      o.win.isSome → o.winOpen →
      Completes (.ttWindowEnd dt n j started) s fun d =>
        (d.objOf n j).winOpen = false ∧ ((pend ∧ started) → (d.fld p Reg.OBJ.OBJ_STAT_PENDING = 1 ∧ (d.objOf n j).last)) ∧ ((pend ∧ started = false) → (d.fld p Reg.OBJ.OBJ_STAT_PENDING = 0 ∧ d.fld p Reg.OBJ.OBJ_STAT_TX_RESULT = 4 ∧ (d.fld (pgCAN n) Reg.HDR.EVT_RAW).testBit 7)) ∧ (pend = false → d.fld p Reg.OBJ.OBJ_STAT_TX_RESULT = c.fld p Reg.OBJ.OBJ_STAT_TX_RESULT))

/-- A bad frame only counts, a frame outside the filter is discarded, and an accepted one becomes a packet or, where no queue takes it or eight wait, is dropped and counted. A transmit packet is retired and sent, or only counted where it is malformed. APPLY is a valid sync if it comes from a core of the owning Quay (SYNC_SRC 0x40), is later than the previous one (SYNC_STALE 0x41) and is on the port that GPTP_PORT names, and then it renews XPAIR. The byte order of MAC_ADDR and the EtherType of 802.1AS are the model's (log entry 62). -/
def Obligations.EthernetCarriesFramesAndTime : Prop :=
  (∀ (dt : Nat) (n : Fin 2) (stamp : Nat) (good : Bool) (bs : List Byte) (s : State),
      let c := s.chip.after dt
      let p := pgETH n
      let code := 0x28 + n.val
      let bad := !good || decide (bs.length < 60) || decide (1518 < bs.length)
      let drop := etherType bs == 0x8808 || !c.etherDest n bs
      let x := c.port code
      let room := (c.queueOfProd code).isSome && decide (x.frames.length < 8)
      c.etherLive n → c.etherBoots n = false →
      Completes (.ethRxFrame dt n stamp good bs) s fun d =>
        (bad = true → (d.fld p Reg.ETH.RX_ERR_CNT = Nat.min (c.fld p Reg.ETH.RX_ERR_CNT + 1) 65535 ∧ d.port code = x ∧ d.fld p Reg.ETH.RX_CNT = c.fld p Reg.ETH.RX_CNT)) ∧ ((bad = false ∧ drop = true) → (d.port code = x ∧ d.fld p Reg.ETH.RX_CNT = c.fld p Reg.ETH.RX_CNT)) ∧ ((bad = false ∧ drop = false) → d.fld p Reg.ETH.RX_CNT = (c.fld p Reg.ETH.RX_CNT + 1) % 2 ^ 32) ∧ ((bad = false ∧ drop = false ∧ room = true) → ((d.port code).frames.length = x.frames.length + 1 ∧ (d.port code).lost = false ∧ (d.port code).frames.getLast?.map (fun ws => (ws.length, (ws.getD 0 0).bits 0 11, (ws.getD 0 0).bits 13 1, ws.drop 3)) = some (3 + (bs.length + 3) / 4, bs.length, if x.lost then 1 else 0, leWords bs))) ∧ ((bad = false ∧ drop = false ∧ room = false) → ((d.port code).frames = x.frames ∧ (d.port code).lost = true ∧ d.fld p Reg.ETH.RX_DROP_CNT = Nat.min (c.fld p Reg.ETH.RX_DROP_CNT + 1) 65535 ∧ (d.fld p Reg.HDR.EVT_RAW).testBit 1))) ∧
  (∀ (dt : Nat) (n : Fin 2) (stamp : Nat) (fine : Fin 8) (corr bad : Nat) (s : State),
      let c := s.chip.after dt
      let p := pgETH n
      let m := (c.queueOfCons (0x38 + n.val)).getD 0
      let ws := (c.headWords m).getD []
      let w := ws.getD 0 0
      (c.queueOfCons (0x38 + n.val)).isSome → (c.headWords m).isSome → c.etherLive n →
      Completes (.ethTxFrame dt n stamp fine corr bad) s fun d =>
        (d.que m).done = (c.que m).done.drop 1 ∧ (txValid ws = false → (d.fld p Reg.ETH.TX_BAD_CNT = Nat.min (c.fld p Reg.ETH.TX_BAD_CNT + 1) 65535 ∧ d.fld p Reg.ETH.TX_CNT = c.fld p Reg.ETH.TX_CNT)) ∧ ((txValid ws = true ∧ bad = 0) → (d.fld p Reg.ETH.TX_CNT = (c.fld p Reg.ETH.TX_CNT + 1) % 2 ^ 32 ∧ (d.eth n).sent.length = Nat.max 60 (w.bits 0 11) + 4 ∧ (d.eth n).sent.take (w.bits 0 11) = (leBytes (ws.drop 1)).take (w.bits 0 11))) ∧ (bad ≠ 0 → d.fld pgBSN Reg.BSN.UNCORR_CNT = Nat.min (c.fld pgBSN Reg.BSN.UNCORR_CNT + bad) (2 ^ 32 - 1)) ∧ ((txValid ws = true ∧ bad = 0 ∧ w.getLsbD 11) → (d.fld p Reg.HDR.EVT_RAW).testBit 3)) ∧
  (∀ (dt : Nat) (n : Fin 2) (up : Bool) (s : State),
      let c := s.chip.after dt
      let p := pgETH n
      let was := c.flag p Reg.ETH.ETH_STAT_LINK
      Completes (.ethLinkChange dt n up) s fun d =>
        (d.fld p Reg.ETH.ETH_STAT_LINK = (if up then 1 else 0)) ∧ (was ≠ up → d.fld p Reg.ETH.ETH_STAT_AN_DONE = (if up ∧ c.actFlag p Reg.ETH.ETH_CFG_AN_EN then 1 else 0)) ∧ ((was = false ∧ up) → (d.fld p Reg.HDR.EVT_RAW).testBit 0)) ∧
  (∀ (dt : Nat) (src : Src) (n : Fin 2) (s : State),
      let c := s.chip.after dt
      let p := pgETH n
      let tide := c.wide p Reg.ETH.SYNC_TIDE_LO Reg.ETH.SYNC_TIDE_HI
      let owns := (match src with | .core q _ => c.owner == some q | _ => false)
      let stale := (c.eth n).sync.any fun x => decide (tide ≤ x)
      let here := decide (c.act pgTIDE Reg.TIDE.REF_CTRL_GPTP_PORT = n.val)
      c.serves src p 0x070 true →
      Completes (.syncApply dt src n) s fun d =>
        (owns = false → (d.fld p Reg.HDR.ERR_CODE_LAST = c.lastErr p 0x40 ∧ d.eth n = c.eth n)) ∧ ((owns = true ∧ stale = true) → (d.fld p Reg.HDR.ERR_CODE_LAST = c.lastErr p 0x41 ∧ d.eth n = c.eth n)) ∧ ((owns = true ∧ stale = false) → ((d.eth n).sync = some tide ∧ (d.fld p Reg.HDR.EVT_RAW).testBit 2)) ∧ ((owns = true ∧ stale = false ∧ here = true) → (d.wide pgTIDE Reg.TIDE.XPAIR_TIDE_LO Reg.TIDE.XPAIR_TIDE_HI = tide ∧ d.fld pgTIDE Reg.TIDE.XPAIR_SEC_LO = c.fld p Reg.ETH.SYNC_SEC_LO ∧ d.fld pgTIDE Reg.TIDE.XPAIR_NS = c.fld p Reg.ETH.SYNC_NS ∧ d.fld pgTIDE Reg.TIDE.XPAIR_SEQ = (c.fld pgTIDE Reg.TIDE.XPAIR_SEQ + 1) % 2 ^ 32)) ∧ (¬ (owns = true ∧ stale = false ∧ here = true) → d.fld pgTIDE Reg.TIDE.XPAIR_SEQ = c.fld pgTIDE Reg.TIDE.XPAIR_SEQ))

/-- A header and SCB that pass are placed; otherwise RESULT names the failure and copy B, or nothing, follows. When both Quays have left BIST a QUAY section that passes is written to SRAM at LOAD in every Quay that passed BIST, and its cores are released; one that fails is wiped. With no image left, or BOOT_SRC none, the boot is in HOLD with no core released and no SCB. An Ethernet image grows by frames that arrive in order at the boot address, and is given up 10 s after its first. A restarted Quay's cores are held; once its self-test has passed its reload is ordered, except after an Ethernet boot, and they are released when it passes. The order in which the checks name a RESULT and the RESULT of the timeout are the model's (log entry 63). -/
def Obligations.TheBootVerifiesLoadsAndReleases : Prop :=
  (∀ (dt : Nat) (img : BootImage) (s : State),
      let c := s.chip.after dt
      let eth := c.bootSrc == 2
      let h := if eth then headerOf c.bootSt.image else img.header
      let off := ((sectOf h 1).map fun s => sectField h s 1).getD 0
      let scb := if eth then leWords (bytesAt c.bootSt.image off 512) else img.scb
      let copy := if eth then 2 else c.bootSt.copy
      let r := c.headerResult img h
      let pass := decide (r = 0) && decide (scb.length = 128) && decide (sha256 (leBytes scb) = ((sectOf h 1).map fun s => sectDigest h s).getD [])
      c.tideOn → c.bootSrc ≠ 3 → (c.bootSt.phase = .idle ∨ c.bootSt.phase = .copyB) → (eth = true → (528 ≤ c.bootSt.image.length ∧ off + 512 ≤ c.bootSt.image.length)) →
      Completes (.bootStart dt img) s fun d =>
        (pass = true → (d.bootSt.phase = .header ∧ d.bootSt.copy = copy ∧ d.safSt.placed = true ∧ d.fld pgXSP Reg.XSP.HEADER = 0x6410B001)) ∧ (pass = false → (d.bootSt.phase = (if copy = 0 then .copyB else .failed) ∧ d.safSt.placed = false ∧ d.fld pgXSP Reg.XSP.BOOT_STAT_RESULT = (if r ≠ 0 then r else 6) ∧ d.fld pgXSP Reg.XSP.HEADER = 0)) ∧ ((pass = false ∧ copy = 0) → d.fld pgXSP Reg.XSP.BOOT_STAT_RESULT_A = (if r ≠ 0 then r else 6))) ∧
  (∀ (dt : Nat) (readOk : Bool) (bytes : List Byte) (s : State),
      let c := s.chip.after dt
      let b := c.bootSt
      let h := b.header
      let bs := if b.copy = 2 then ((sectOf h 2).map fun s => bytesAt b.image (sectField h s 1) (sectField h s 2)).getD [] else bytes
      let readable := readOk && !c.regionDown 5
      let pass := quaySectionOk h readable bs
      b.phase = .header → c.leftBist .A → c.leftBist .B → (b.copy = 2 → imageLength h ≤ b.image.length) →
      Completes (.bootLoad dt readOk bytes) s fun d =>
        (pass = true → (d.bootSt.phase = .done ∧ d.bootSt.released = c.bistPassed.map Quay.idx ∧ d.fld pgXSP Reg.XSP.BOOT_STAT_RESULT = 0 ∧ d.fld pgXSP Reg.XSP.BOOT_STAT_COPY = b.copy % 4)) ∧ ((pass = true ∧ quayLoad h + bs.length ≤ 0x00800000) → c.bistPassed.all fun q => (List.range bs.length).all fun i => d.byte (sramAddr q (quayLoad h + i)) == bs.getD i 0) ∧ ((pass = true ∧ b.copy ≠ 2) → (d.fld pgXSP Reg.XSP.PROT_BASE = (if b.copy = 1 then 0x01000000 else 0) ∧ d.fld pgXSP Reg.XSP.PROT_LEN = imageLength h % 2 ^ 32)) ∧ (pass = false → (d.bootSt.phase = (if b.copy = 0 then .copyB else .failed) ∧ d.bootSt.released = b.released ∧ d.safSt.placed = false ∧ d.fld pgXSP Reg.XSP.BOOT_STAT_RESULT = (if readable then 6 else 8))) ∧ (pass = false → c.bistPassed.all fun q => (List.range bs.length).all fun i => d.byte (sramAddr q (quayLoad h + i)) == 0)) ∧
  (∀ (dt : Nat) (s : State),
      let c := s.chip.after dt
      (c.bootSt.phase = .failed ∨ (c.tideOn ∧ c.bootSt.phase = .idle ∧ c.bootSrc = 3)) →
      Completes (.bootFail dt) s fun d =>
        d.bootSt.phase = .hold ∧ d.bootSt.released = [] ∧ d.safSt.placed = false ∧ d.fld pgXSP Reg.XSP.BOOT_STAT_COPY = 3 ∧ (d.fld pgXSP Reg.XSP.BOOT_STAT_RESULT = (if c.bootSt.phase = .failed then c.fld pgXSP Reg.XSP.BOOT_STAT_RESULT else 9))) ∧
  (∀ (dt : Nat) (dest : BitVec 48) (etype : BitVec 16) (off : Word) (bs : List Byte) (s : State),
      let c := s.chip.after dt
      let b := c.bootSt
      let open_ := c.tideOn && c.bootSrc == 2 && (b.phase == .idle || b.phase == .header)
      let fits := dest == 0x020064100000#48 && etype == 0x88B5#16 && decide (1 ≤ bs.length) && decide (bs.length ≤ 1024) && off.toNat == b.image.length
      Completes (.bootEthFrame dt dest etype off bs) s fun d =>
        ((open_ = true ∧ fits = true) → (d.bootSt.image = b.image ++ bs ∧ d.bootSt.answer = some (off.toNat, bs.length) ∧ d.bootSt.ethAt = some (b.ethAt.getD c.t))) ∧ (¬ (open_ = true ∧ fits = true) → d.bootSt = b)) ∧
  (∀ (dt : Nat) (s : State),
      let c := s.chip.after dt
      let h := headerOf c.bootSt.image
      c.bootSt.ethAt.isSome → (c.bootSt.phase = .idle ∨ c.bootSt.phase = .header) → (h.length ≠ 132 ∨ c.bootSt.image.length < imageLength h) →
      Completes (.bootEthTimeout dt) s fun d =>
        d.bootSt.phase = .hold ∧ d.bootSt.released = [] ∧ d.safSt.placed = false ∧ d.fld pgXSP Reg.XSP.BOOT_STAT_RESULT = 1) ∧
  (∀ (dt : Nat) (q : Quay) (s : State),
      let c := s.chip.after dt
      let b := c.bootSt
      b.phase = .done → b.due.contains q.idx → c.leftBist q → c.qstate q ≠ 5 →
      Completes (.quayReload dt q) s fun d =>
        d.bootSt.released = b.released ∧ (d.bootSt.due = b.due.filter fun i => i != q.idx) ∧ (d.bootSt.reloads = (if b.copy = 2 then b.reloads else b.reloads ++ [q.idx])) ∧ d.flag pgXSP Reg.XSP.XSP_STAT_RELOAD = (!d.bootSt.reloads.isEmpty && !d.bootSt.cmd)) ∧
  (∀ (dt : Nat) (img : BootImage) (bs : List Byte) (s : State),
      let c := s.chip.after dt
      let b := c.bootSt
      let i := b.reloads.head?.getD 0
      let q := Quay.ofIdx i
      let h := b.header
      let pass := c.headerResult img img.header == 0 && img.header == h && quaySectionOk h img.readOk bs && !c.regionDown i
      b.reloads ≠ [] → b.cmd = false →
      Completes (.quayReloadDone dt img bs) s fun d =>
        d.bootSt.reloads = b.reloads.drop 1 ∧ (d.bootSt.released = (if pass then b.released ++ [i] else b.released)) ∧ ((d.fld pgXSP Reg.HDR.EVT_RAW).testBit (if pass then 1 else 2)) ∧ (pass = true → (List.range bs.length).all fun j => d.byte (sramAddr q (quayLoad h + j)) == bs.getD j 0) ∧ (pass = false → d.mem = c.mem))

/-- ROLLBACK_BURN and REVOKE need the key window and every function in STO, and a REVOKE of the running slot is refused (FUSE_REFUSED 0x42). GO of a command that writes the booted copy is refused (0x40), as is one while a command runs or waits (0x41); a command waits for a reload, and a read delivers the bytes of the flash. The debug port opens where DEBUG_ALLOW latched 1, the seal condition holds and PD_DBG is on; ATTACH is the debugger's and names no checker core. A boundary-scan instruction needs the port open and every function in STO, and otherwise the TAP selects BYPASS. A command without data protects one byte (log entry 64). -/
def Obligations.FusesFlashAndDebugAreGuarded : Prop :=
  (∀ (dt : Nat) (src : Src) (s : State),
      let c := s.chip.after dt
      let r := Nat.max c.fuse.rollback (if c.bootSt.phase = .done then (c.bootSt.header.getD 2 0).bits 0 16 else 0)
      c.serves src pgXSP 0x048 true → c.windowHeld pgXSP src →
      Completes (.rollbackBurn dt src) s fun d =>
        (c.allSto = false → (d.fuse = c.fuse ∧ d.fld pgXSP Reg.HDR.ERR_CODE_LAST = c.lastErr pgXSP 0x42)) ∧ (c.allSto = true → (d.fuse = { c.fuse with rollback := r } ∧ d.fld pgXSP Reg.XSP.FUSE_STAT_ROLLBACK_MIN = r % 65536))) ∧
  (∀ (dt : Nat) (src : Src) (mask : BitVec 4) (s : State),
      let c := s.chip.after dt
      let own := decide (c.bootSt.phase = .done) && mask.getLsbD c.bootSt.slot
      c.serves src pgXSP 0x048 true → c.windowHeld pgXSP src →
      Completes (.revoke dt src mask) s fun d =>
        ((c.allSto = false ∨ own = true) → (d.fuse = c.fuse ∧ d.fld pgXSP Reg.HDR.ERR_CODE_LAST = c.lastErr pgXSP 0x42)) ∧ ((c.allSto = true ∧ own = false) → (d.fuse = { c.fuse with revoked := c.fuse.revoked ||| mask.toNat } ∧ d.fld pgXSP Reg.XSP.FUSE_STAT_KEY_REVOKED = (c.fuse.revoked ||| mask.toNat) % 16))) ∧
  (∀ (dt : Nat) (src : Src) (s : State),
      let c := s.chip.after dt
      let b := c.bootSt
      c.serves src pgXSP 0x054 true →
      Completes (.xspGo dt src) s fun d =>
        ((b.cmd ∨ b.cmdWait) → (d.bootSt = b ∧ d.fld pgXSP Reg.HDR.ERR_CODE_LAST = c.lastErr pgXSP 0x41)) ∧ ((b.cmd = false ∧ b.cmdWait = false ∧ c.xspProtected) → (d.bootSt = b ∧ d.fld pgXSP Reg.HDR.ERR_CODE_LAST = c.lastErr pgXSP 0x40)) ∧ ((b.cmd = false ∧ b.cmdWait = false ∧ c.xspProtected = false) → (d.bootSt = { b with cmd := b.reloads.isEmpty, cmdWait := !b.reloads.isEmpty, issued := (c.word (pgXSP.base + 0x04C), c.word (pgXSP.base + 0x050), (List.range 16).map fun i => BitVec.ofNat 32 (c.fld pgXSP Reg.XSP.XSP_DATA i)) } ∧ d.fld pgXSP Reg.XSP.XSP_STAT_BUSY = 1))) ∧
  (∀ (dt : Nat) (data : List Byte) (s : State),
      let c := s.chip.after dt
      let n := Nat.min (c.bootSt.issued.1.bits 24 7) 64
      let wr := c.bootSt.issued.1.getLsbD 23
      c.bootSt.cmd →
      Completes (.xspCmdDone dt data) s fun d =>
        d.bootSt.cmd = (c.bootSt.reloads.isEmpty && c.bootSt.cmdWait) ∧ (d.fld pgXSP Reg.HDR.EVT_RAW).testBit 0 ∧ ((wr = false ∧ n ≤ data.length) → (List.range n).all fun i => Word.bits (BitVec.ofNat 32 (d.fld pgXSP Reg.XSP.XSP_DATA (i / 4))) (8 * (i % 4)) 8 == (data.getD i 0).toNat) ∧ (wr = true → (List.range 16).all fun i => d.fld pgXSP Reg.XSP.XSP_DATA i == c.fld pgXSP Reg.XSP.XSP_DATA i)) ∧
  (∀ (dt : Nat) (s : State),
      let c := s.chip.after dt
      let open_ := c.strap.getLsbD 11 && c.sealOk && c.domainOn 13
      Completes (.debugPortOpen dt) s fun d =>
        d.flag pgDBG Reg.DBG.DBG_STAT_PORT_OPEN = open_ ∧ (d.shown pgDBG 0x040).getLsbD 2 = c.sealOk ∧ ((open_ = true ∧ c.flag pgDBG Reg.DBG.DBG_STAT_PORT_OPEN = false) → (d.fld pgDBG Reg.DBG.DBG_ATTACH = 0 ∧ (d.fld pgDBG Reg.HDR.EVT_RAW).testBit 0))) ∧
  (∀ (dt : Nat) (src : Src) (core : Fin 8) (s : State),
      let c := s.chip.after dt
      let no := src != .debug || (!c.split && core.val % 2 == 1)
      c.serves src pgDBG 0x04C true →
      Completes (.dbgAttach dt src core) s fun d =>
        (no = true → (d.fld pgDBG Reg.DBG.DBG_ATTACH = c.fld pgDBG Reg.DBG.DBG_ATTACH ∧ d.fld pgDBG Reg.DBG.REFUSED_CNT = Nat.min (c.fld pgDBG Reg.DBG.REFUSED_CNT + 1) 65535 ∧ (d.fld pgDBG Reg.HDR.EVT_RAW).testBit 2)) ∧ (no = false → d.fld pgDBG Reg.DBG.DBG_ATTACH = core.val) ∧ ((no = false ∧ c.fld pgDBG Reg.DBG.DBG_ATTACH ≠ core.val) → d.fld pgDBG Reg.DBG.DBG_STAT_ATTACH = core.val)) ∧
  (∀ (dt : Nat) (ins : Fin 3) (s : State),
      let c := s.chip.after dt
      Completes (.scanInstruction dt ins) s fun d =>
        (d.dbgSt.ir = (if c.flag pgDBG Reg.DBG.DBG_STAT_PORT_OPEN ∧ c.allSto then ins.val + 1 else 0))) ∧
  (∀ (dt : Nat) (s : State),
      let c := s.chip.after dt
      Completes (.tapReset dt) s fun d =>
        d.dbgSt.ir = 0 ∧ d.regs = c.regs)

/-- Power-on reset stops the Tide, empties the memories, keeps the fuses and the reset cause, and adds its cause; loss of PD_AON leaves COLD alone. Straps that disagree postpone the release three times and are then latched with their unstable pins marked, and a later change shows in STRAP_LIVE only. From the release each domain of the start order is switched on when its needs are good, is left off with DOM_FAULT when it is not good in time, and PD_SAFE and PD_TIDE start power-on reset anew. The Tide starts when the order is done, and each Quay whose domain is good enters BIST. SYS_RESET needs the key window and every function in STO (SYSRST_REFUSED 0x40) and asserts power-on reset 1 ms later. That cause bits accumulate until COLD, that a retry is not counted in POR_CNT and that a Quay without its domain is FAILED are the model's (log entry 90). -/
def Obligations.PowerOnResetStrapsAndSequencer : Prop :=
  (∀ (dt : Nat) (k : Fin 5) (s : State),
      let c := s.chip.after dt
      let a := pgRST.base + 0x040
      Completes (.porAssert dt k) s fun d =>
        d.tideOn = false ∧ d.owner = none ∧ d.mem = [] ∧ d.fuse = c.fuse ∧ d.seqSt = {} ∧ (k.val = 0 → d.fld pgRST Reg.RST.POR_CNT = 0) ∧ (k.val ≠ 0 → d.fld pgRST Reg.RST.POR_CNT = Nat.min (c.fld pgRST Reg.RST.POR_CNT + 1) 65535) ∧ ((List.range 7).all fun i => (d.word a).getLsbD i == ((k.val != 0 && (c.word a).getLsbD i) || porBit k == some i)) ∧ (d.regs.all fun e => e.1 == a || e.1 == a + 4)) ∧
  (∀ (dt : Nat) (last unstable : BitVec 16) (s : State),
      let c := s.chip.after dt
      let n := c.seqSt.tries
      c.seqSt.released = none → c.seqSt.latched = false →
      Completes (.strapLatch dt last unstable) s fun d =>
        ((unstable ≠ 0 ∧ n < 3) → (d.seqSt = { c.seqSt with tries := n + 1 } ∧ d.strap = c.strap ∧ d.now = c.now + 2500000)) ∧ ((unstable = 0 ∨ 3 ≤ n) → (d.strap = last ∧ d.seqSt = { c.seqSt with latched := true } ∧ d.fld pgSTRP Reg.STRP.STRAP_LIVE = last.toNat ∧ d.fld pgSTRP Reg.STRP.STRAP_STAT_UNSTABLE = unstable.toNat ∧ d.fld pgSTRP Reg.STRP.STRAP_STAT_ATTEMPTS = n % 4)) ∧ ((unstable = 0 ∨ 3 ≤ n) → d.fld pgSTRP Reg.STRP.STRAP_STAT_INVALID = (if last.toNat / 256 % 4 = 3 then 1 else 0))) ∧
  (∀ (dt : Nat) (live : BitVec 16) (s : State),
      let c := s.chip.after dt
      Completes (.strapChanged dt live) s fun d =>
        d.strap = c.strap ∧ d.fld pgSTRP Reg.STRP.STRAP_LIVE = live.toNat ∧ (live ≠ c.strap → (d.fld pgSTRP Reg.HDR.EVT_RAW).testBit 0)) ∧
  (∀ (dt : Nat) (s : State),
      let c := s.chip.after dt
      c.seqSt.released = none → c.seqSt.latched →
      Completes (.porRelease dt) s fun d =>
        d.seqSt = { c.seqSt with released := some c.now, order := c.startOrder, on := c.seqSt.on ||| 1, good := c.seqSt.good ||| 1 } ∧ d.fld pgPWR Reg.PWR.DOM_STAT = c.fld pgPWR Reg.PWR.DOM_STAT ||| 1 ∧ d.fld pgPWR Reg.PWR.DOM_GOOD = c.fld pgPWR Reg.PWR.DOM_GOOD ||| 1) ∧
  (∀ (dt : Nat) (good : Bool) (us : Fin 101) (s : State),
      let c := s.chip.after dt
      let k := c.seqSt.order.head?.getD 14
      let waits := decide (k = 5) && !c.flag pgCLK Reg.CLK.CLK_STAT_XTAL_OK
      let met := c.needsMet k
      let next := { c.seqSt with order := c.seqSt.order.drop 1 }
      let off := { next with leftOff := c.seqSt.leftOff ||| 2 ^ k }
      k < 14 →
      Completes (.seqDomainOn dt good us) s fun d =>
        (waits = true → d.seqSt = c.seqSt) ∧ ((waits = false ∧ met = false) → (d.seqSt = off ∧ d.fld pgPWR Reg.PWR.DOM_STAT = c.fld pgPWR Reg.PWR.DOM_STAT)) ∧ ((waits = false ∧ met ∧ good) → (d.seqSt = { next with on := c.seqSt.on ||| 2 ^ k, good := c.seqSt.good ||| 2 ^ k } ∧ (d.fld pgPWR Reg.PWR.DOM_STAT).testBit k ∧ us.val ≤ d.fld pgPWR Reg.PWR.RAMP_MAX)) ∧ ((waits = false ∧ met ∧ good = false ∧ (k = 1 ∨ k = 5)) → d.seqSt = c.seqSt) ∧ ((waits = false ∧ met ∧ good = false ∧ k ≠ 1 ∧ k ≠ 5) → (d.seqSt = off ∧ (d.fld pgPWR Reg.PWR.DOM_FAULT).testBit k ∧ d.fld pgPWR Reg.PWR.DOM_STAT = c.fld pgPWR Reg.PWR.DOM_STAT ∧ (d.fld pgPWR Reg.HDR.EVT_RAW).testBit 2))) ∧
  (∀ (dt : Nat) (s : State),
      let c := s.chip.after dt
      let a := pgRST.base + 0x040
      (c.seqSt.order.head? = some 1 ∨ c.seqSt.order.head? = some 5) →
      Completes (.seqRetry dt) s fun d =>
        d.tideOn = false ∧ d.seqSt = {} ∧ d.now = c.now + 25000000 ∧ (d.word a).getLsbD 5 ∧ d.fld pgRST Reg.RST.POR_CNT = c.fld pgRST Reg.RST.POR_CNT) ∧
  (∀ (dt : Nat) (s : State),
      let c := s.chip.after dt
      let t := c.seqSt.released.getD 0
      c.seqSt.released.isSome → c.tideOn = false → c.seqSt.order = [] →
      Completes (.tideStart dt) s fun d =>
        d.tideOn ∧ d.fld pgRST Reg.RST.START_US = Nat.min ((c.now - t) / 2500) 65535 ∧ d.fld pgTIDE Reg.TIDE.REF_STAT_PLL_LOCK = 1 ∧ d.fld pgTIDE Reg.HDR.PAGE_STAT_ENABLED = 1 ∧ d.qstate .A = 1 ∧ d.qstate .B = 1 ∧ ((List.range 14).all fun k => !(c.fld pgPWR Reg.PWR.DOM_FAULT).testBit k || d.bitAt pgFLT8 Reg.FLT8.RAW (fPWR_DOM k))) ∧
  (∀ (dt : Nat) (src : Src) (s : State),
      let c := s.chip.after dt
      let ok := c.windowHeld pgRST src && c.allSto
      c.serves src pgRST 0x048 true →
      Completes (.sysReset dt src) s fun d =>
        (ok = false → (d.seqSt = c.seqSt ∧ d.fld pgRST Reg.HDR.ERR_CODE_LAST = c.lastErr pgRST (if c.windowHeld pgRST src then 0x40 else 0x0B))) ∧ ((ok = true ∧ c.seqSt.sysReset = none) → (d.seqSt = { c.seqSt with sysReset := some (c.now + 2500000) } ∧ d.fld pgRST Reg.RST.RST_CTRL = 1)) ∧ ((ok = true ∧ c.seqSt.sysReset.isSome) → d.seqSt = c.seqSt)) ∧
  (∀ (dt : Nat) (s : State),
      let c := s.chip.after dt
      let a := pgRST.base + 0x040
      let t := c.seqSt.sysReset.getD 0
      c.seqSt.sysReset.isSome →
      Completes (.sysResetFire dt) s fun d =>
        d.tideOn = false ∧ d.seqSt = {} ∧ d.now = Nat.max c.now t ∧ (d.word a).getLsbD 4 ∧ d.fld pgRST Reg.RST.POR_CNT = Nat.min (c.fld pgRST Reg.RST.POR_CNT + 1) 65535)

/-- A write of DOM_CTRL acts on each domain in turn, both requests for one domain act as neither, and the lowest one named follows R457: DOM_FIXED 0x41 for a domain that software never switches, DOM_DEPENDS 0x42, DOM_BUSY 0x40, or it goes off or on. A domain switched on is good, or is left off with its fault; one out of range goes off, raises PWR_DOM and isolates the region whose logic it carries. A rail is measured and warns outside its window, and VDDA below 4.5 V fails PD_ADC. A failed PLL is recorded once and raises the fault of Table 17-4. -/
def Obligations.DomainsSuppliesAndClocksAreWatched : Prop :=
  (∀ (dt : Nat) (src : Src) (on off : BitVec 14) (s : State),
      let c := s.chip.after dt
      let k := ((List.range 14).find? fun i => on.getLsbD i || off.getLsbD i).getD 14
      let one := (List.range 14).all fun i => i == k || !(on.getLsbD i || off.getLsbD i)
      let up := on.getLsbD k && !off.getLsbD k
      let down := !on.getLsbD k && off.getLsbD k
      let dep := (List.range 14).any fun e => (needs e).contains k && c.domainOn e
      let was := c.domainOn k
      c.serves src pgPWR 0x04C true → c.windowHeld pgPWR src →
      Completes (.domOnReq dt src on off) s fun d =>
        ((List.range 14).all fun i => (on.getLsbD i != off.getLsbD i && !domFixed i) || d.domainOn i == c.domainOn i) ∧ ((k < 14 ∧ up = true ∧ (domFixed k ∨ c.needsMet k = false)) → d.domainOn k = was) ∧ ((k < 14 ∧ up = true ∧ domFixed k = false ∧ c.needsMet k) → (d.domainOn k ∧ (was = false → d.seqSt.ramp.contains k))) ∧ ((k < 14 ∧ down = true ∧ (domFixed k ∨ dep = true ∨ c.domIdle k = false)) → d.domainOn k = was) ∧ ((k < 14 ∧ down = true ∧ domFixed k = false ∧ dep = false ∧ c.domIdle k) → (d.domainOn k = false ∧ (was → (d.fld pgPWR Reg.HDR.EVT_RAW).testBit 1))) ∧ ((k < 14 ∧ one = true ∧ on.getLsbD k ∧ off.getLsbD k) → d.fld pgPWR Reg.HDR.ERR_CODE_LAST = c.lastErr pgPWR 0x40) ∧ ((k < 14 ∧ one = true ∧ (up || down) = true ∧ domFixed k) → d.fld pgPWR Reg.HDR.ERR_CODE_LAST = c.lastErr pgPWR 0x41) ∧ ((k < 14 ∧ one = true ∧ domFixed k = false ∧ ((up = true ∧ c.needsMet k = false) ∨ (down = true ∧ dep = true))) → d.fld pgPWR Reg.HDR.ERR_CODE_LAST = c.lastErr pgPWR 0x42) ∧ ((k < 14 ∧ one = true ∧ down = true ∧ domFixed k = false ∧ dep = false ∧ c.domIdle k = false) → d.fld pgPWR Reg.HDR.ERR_CODE_LAST = c.lastErr pgPWR 0x40)) ∧
  (∀ (dt : Nat) (src : Src) (off : BitVec 14) (s : State),
      let c := s.chip.after dt
      let k := ((List.range 14).find? fun i => off.getLsbD i).getD 14
      let one := (List.range 14).all fun i => i == k || !off.getLsbD i
      let dep := (List.range 14).any fun e => (needs e).contains k && c.domainOn e
      let was := c.domainOn k
      c.serves src pgPWR 0x04C true → c.windowHeld pgPWR src →
      Completes (.domOffReq dt src off) s fun d =>
        ((List.range 14).all fun i => (off.getLsbD i && !domFixed i) || d.domainOn i == c.domainOn i) ∧ ((k < 14 ∧ (domFixed k ∨ dep = true ∨ c.domIdle k = false)) → d.domainOn k = was) ∧ ((k < 14 ∧ domFixed k = false ∧ dep = false ∧ c.domIdle k) → (d.domainOn k = false ∧ (was → (d.fld pgPWR Reg.HDR.EVT_RAW).testBit 1))) ∧ ((k < 14 ∧ one = true ∧ domFixed k) → d.fld pgPWR Reg.HDR.ERR_CODE_LAST = c.lastErr pgPWR 0x41) ∧ ((k < 14 ∧ one = true ∧ domFixed k = false ∧ dep = true) → d.fld pgPWR Reg.HDR.ERR_CODE_LAST = c.lastErr pgPWR 0x42) ∧ ((k < 14 ∧ one = true ∧ domFixed k = false ∧ dep = false ∧ c.domIdle k = false) → d.fld pgPWR Reg.HDR.ERR_CODE_LAST = c.lastErr pgPWR 0x40)) ∧
  (∀ (dt : Nat) (dom : Fin 14) (us : Fin 101) (s : State),
      let c := s.chip.after dt
      c.seqSt.ramp.contains dom.val → c.needsMet dom →
      Completes (.domGood dt dom us) s fun d =>
        d.domainOn dom ∧ d.domainIsGood dom ∧ (d.fld pgPWR Reg.PWR.DOM_FAULT).testBit dom = false ∧ d.seqSt.ramp.contains dom.val = false ∧ (d.fld pgPWR Reg.HDR.EVT_RAW).testBit 0 ∧ us.val ≤ d.fld pgPWR Reg.PWR.RAMP_MAX) ∧
  (∀ (dt : Nat) (dom : Fin 14) (s : State),
      let c := s.chip.after dt
      c.seqSt.ramp.contains dom.val →
      Completes (.domRampTimeout dt dom) s fun d =>
        d.domainOn dom = false ∧ (d.fld pgPWR Reg.PWR.DOM_FAULT).testBit dom ∧ d.seqSt.ramp.contains dom.val = false ∧ d.bitAt pgFLT8 Reg.FLT8.RAW (fPWR_DOM dom) ∧ (d.fld pgPWR Reg.HDR.EVT_RAW).testBit 2) ∧
  (∀ (dt : Nat) (dom : Fin 14) (s : State),
      let c := s.chip.after dt
      let r := logicOf dom.val
      c.domainIsGood dom →
      Completes (.domOutOfRange dt dom) s fun d =>
        d.domainOn dom = false ∧ d.domainIsGood dom = false ∧ (d.fld pgPWR Reg.PWR.DOM_FAULT).testBit dom ∧ d.bitAt pgFLT8 Reg.FLT8.RAW (fPWR_DOM dom) ∧ ((r.isSome ∧ r ≠ some 7) → d.isolated (r.getD 0)) ∧ (r = some 7 → d.bitAt pgFLT8 Reg.FLT8.RAW fSF_INTERNAL) ∧ (d.fld pgPWR Reg.HDR.EVT_RAW).testBit 2) ∧
  (∀ (dt : Nat) (rail : Fin 4) (mv : BitVec 13) (s : State),
      let c := s.chip.after dt
      let v := mv.toNat
      let warn := decide (v < (supWindow rail).1) || decide ((supWindow rail).2 < v)
      let fail := decide (rail.val = 3) && decide (v < 4500)
      Completes (.supWarn dt rail mv) s fun d =>
        (rail.val = 0 → (d.fld pgPWR Reg.PWR.SUP_MEAS0_VDD = v % 4096 ∧ d.flag pgPWR Reg.PWR.SUP_STAT_VDD_WARN = warn)) ∧ (rail.val = 1 → (d.fld pgPWR Reg.PWR.SUP_MEAS0_VDDIO18 = v % 4096 ∧ d.flag pgPWR Reg.PWR.SUP_STAT_IO18_WARN = warn)) ∧ (rail.val = 2 → (d.fld pgPWR Reg.PWR.SUP_MEAS1_VDDIO33 = v % 4096 ∧ d.flag pgPWR Reg.PWR.SUP_STAT_IO33_WARN = warn)) ∧ (rail.val = 3 → (d.fld pgPWR Reg.PWR.SUP_MEAS1_VDDA = v / 2 ∧ d.flag pgPWR Reg.PWR.SUP_STAT_VDDA_WARN = warn ∧ d.flag pgPWR Reg.PWR.SUP_STAT_VDDA_FAIL = fail)) ∧ (warn = true → (d.fld pgPWR Reg.HDR.EVT_RAW).testBit 3) ∧ ((fail = true ∧ c.domainIsGood 8) → (d.domainOn 8 = false ∧ d.isolated 3 ∧ d.bitAt pgFLT8 Reg.FLT8.RAW (fPWR_DOM 8))) ∧ ((fail = false ∨ c.domainIsGood 8 = false) → d.domainOn 8 = c.domainOn 8)) ∧
  (∀ (dt : Nat) (i : Fin 6) (lost : Bool) (khz : BitVec 22) (s : State),
      let c := s.chip.after dt
      let f := c.fld pgCLK Reg.CLK.CLK_STAT_FAULT
      let first := !f.testBit i && c.domainIsGood (pllDomain i)
      Completes (.pllFail dt i lost khz) s fun d =>
        d.fld pgCLK Reg.CLK.MEAS i = khz.toNat ∧ (d.fld pgCLK Reg.CLK.CLK_STAT_FAULT = if first then f ||| 2 ^ i.val else f) ∧ (d.fld pgCLK Reg.CLK.FAULT_CNT = Nat.min (c.fld pgCLK Reg.CLK.FAULT_CNT + if first then 1 else 0) 65535) ∧ ((first = true ∧ lost) → (d.fld pgCLK Reg.CLK.CLK_STAT_LOCK).testBit i = false) ∧ ((first = true ∧ i.val = 0) → d.bitAt pgFLT8 Reg.FLT8.RAW fSF_INTERNAL) ∧ ((first = true ∧ i.val = 1) → (d.bitAt pgFLT8 Reg.FLT8.RAW fTIDE_UNLOCK ∧ d.fld pgTIDE Reg.TIDE.REF_STAT_SUSPECT = 1)) ∧ ((first = true ∧ (i.val = 2 ∨ i.val = 5)) → d.bitAt pgFLT8 Reg.FLT8.RAW fCLK_FAULT) ∧ ((first = true ∧ i.val = 3) → c.quayFaulted d .A 9) ∧ ((first = true ∧ i.val = 4) → c.quayFaulted d .B 9)) ∧
  (∀ (dt : Nat) (khz : BitVec 18) (s : State),
      let c := s.chip.after dt
      let xtal := c.flag pgCLK Reg.CLK.CLK_STAT_XTAL_OK
      Completes (.safeOscMismatch dt khz) s fun d =>
        d.fld pgCLK Reg.CLK.SAFE_MEAS = khz.toNat ∧ (xtal = true → (d.fld pgCLK Reg.CLK.CLK_STAT_SAFE_OSC_OK = 0 ∧ d.bitAt pgFLT8 Reg.FLT8.RAW fSF_INTERNAL)) ∧ (xtal = false → d.fld pgCLK Reg.CLK.CLK_STAT_SAFE_OSC_OK = c.fld pgCLK Reg.CLK.CLK_STAT_SAFE_OSC_OK))

/-- When a command stands at the front of the queue of waiting commands, a step is that command's effect on the same chip with the rest of the queue behind it. The queue itself is the model's (log entry 1). -/
def Obligations.StepRunsFrontCommand : Prop :=
  ∀ (i : Instr) (l : List Instr) (s : State), s.pending = i :: l → step s = exec i { s with pending := l }

/-- A step of a state whose queue is empty answers that state: nothing happens between commands but the passing of time that the next one brings with it. This is the model's choice (log entry 1). -/
def Obligations.EmptyQueueIdles : Prop :=
  ∀ s : State, s.pending = [] → step s = .next s

/-- At reset no command waits, the Tide does not count, no page is enabled and no leg or bridge cell commands a gate on. CONS_SRC of every queue reads 0xFE, POP_LEN 0xFFFF_FFFF and FREE 65,536 and 32,768; CAN_CFG of every controller allows CAN FD; no copy is booted. PAGE_ID of a queue page carries its TYPE 0x14 and its instance. -/
def Obligations.ResetIsAsTheTablesSay : Prop :=
  State.reset.pending = [] ∧ State.reset.chip.tideOn = false ∧
  ((List.range 64).all fun n => State.reset.chip.fld (pgQUE n) Reg.QUE.QUE_CFG_CONS_SRC == 0xFE && State.reset.chip.fld (pgQUE n) Reg.QUE.POP_LEN == 0xFFFFFFFF &&
    State.reset.chip.fld (pgQUE n) Reg.HDR.PAGE_ID_TYPE == 0x14 && State.reset.chip.fld (pgQUE n) Reg.HDR.PAGE_ID_INSTANCE == n && !State.reset.chip.on (pgQUE n)) = true ∧
  State.reset.chip.fld pgBSN Reg.BSN.POOL_STAT_FREE = 65536 ∧ State.reset.chip.fld pgBSN Reg.BSN.CAPT_STAT_FREE = 32768 ∧
  ((List.range 6).all fun n => State.reset.chip.act (pgCAN n) Reg.CAN.CAN_CFG_FD_EN == 1 && State.reset.chip.act (pgCAN n) Reg.CAN.NBT_TSEG1 == 62) = true ∧
  State.reset.chip.fld pgXSP Reg.XSP.BOOT_STAT_COPY = 3 ∧
  ((List.range 96).all fun n => State.reset.chip.fld (pgLEG n) Reg.LEG.LEG_STAT_GATE_H == 0 && State.reset.chip.fld (pgLEG n) Reg.LEG.LEG_STAT_GATE_L == 0 && !State.reset.chip.on (pgLEG n)) = true ∧
  ((List.range 16).all fun n => State.reset.chip.fld (pgBRG n) Reg.BRG.BRG_STAT_GATE_H == 0 && State.reset.chip.fld (pgBRG n) Reg.BRG.BRG_STAT_GATE_L == 0) = true

/-- After reset the register store and the byte memories are in their canonical forms, and every stored word is one that its register can hold. -/
def Obligations.ResetMeetsTheInvariant : Prop :=
  State.reset.chip.Inv

/-- From every state that meets the invariant, whatever command stands at the front, a step leaves a state that meets it: both stores stay canonical, every stored word stays one that its register can hold, so that reserved bits keep what they read at reset, and no leg or bridge cell commands both of its gates on. -/
def Obligations.StepKeepsTheInvariant : Prop :=
  ∀ s t : State, s.chip.Inv → step s = .next t → t.chip.Inv

/-- From every state that meets the invariant, after any step a bit that no field of a register word can hold reads what it reads at reset under the straps then latched, at every address; in particular TYPE, INSTANCE and VERSION of PAGE_ID of every queue page read 0x14, the queue and 0x21. -/
def Obligations.ReservedBitsAndPageIdentityNeverChange : Prop :=
  ∀ s t : State, s.chip.Inv → step s = .next t →
    (∀ a, t.chip.word a &&& ~~~implMask a = resetWord t.chip.strap.toNat a &&& ~~~implMask a) ∧
    ∀ n, n < 64 → t.chip.fld (pgQUE n) Reg.HDR.PAGE_ID_TYPE = 0x14 ∧ t.chip.fld (pgQUE n) Reg.HDR.PAGE_ID_INSTANCE = n ∧ t.chip.fld (pgQUE n) Reg.HDR.PAGE_ID_VERSION = 0x21

/-- From every state that meets the invariant, whatever command stands at the front of the queue, after a step no leg cell commands H and L on together and no bridge cell drives GH and GL on together. -/
def Obligations.NoCellCommandsBothGates : Prop :=
  ∀ s t : State, s.chip.Inv → step s = .next t →
    (∀ n, n < 96 → ¬ (t.chip.flag (pgLEG n) Reg.LEG.LEG_STAT_GATE_H ∧ t.chip.flag (pgLEG n) Reg.LEG.LEG_STAT_GATE_L)) ∧
    ∀ n, n < 16 → ¬ (t.chip.flag (pgBRG n) Reg.BRG.BRG_STAT_GATE_H ∧ t.chip.flag (pgBRG n) Reg.BRG.BRG_STAT_GATE_L)

/-- Every command completes, leaves the queue of waiting commands alone, and never runs time back. The strap latch changes at STRAP_LATCH only; the fuses at ROLLBACK_BURN, REVOKE and SEAL_PROG_DONE only; the ownership token at TOKEN_RELEASE, TAKEOVER, STARTUP_TAKE and a power-on reset only; the Tide starts or stops to count at TIDE_START and a power-on reset only. -/
def Obligations.TokenFusesAndStrapsMoveOnlyByTheirCommands : Prop :=
  ∀ (i : Instr) (s : State), ∃ t : State, exec i s = .next t ∧ t.pending = s.pending ∧ s.chip.now ≤ t.chip.now ∧
    (t.chip.strap = s.chip.strap ∨ ∃ dt l u, i = .strapLatch dt l u) ∧
    (t.chip.fuse = s.chip.fuse ∨ (∃ dt src, i = .rollbackBurn dt src) ∨ (∃ dt src m, i = .revoke dt src m) ∨ ∃ dt r, i = .sealProgDone dt r) ∧
    (t.chip.owner = s.chip.owner ∨ (∃ dt, i = .tokenRelease dt ∨ i = .takeover dt ∨ i = .startupTake dt) ∨ (∃ dt k, i = .porAssert dt k) ∨ (∃ dt, i = .seqRetry dt) ∨ ∃ dt, i = .sysResetFire dt) ∧
    (t.chip.tideOn = s.chip.tideOn ∨ (∃ dt, i = .tideStart dt) ∨ (∃ dt k, i = .porAssert dt k) ∨ (∃ dt, i = .seqRetry dt) ∨ ∃ dt, i = .sysResetFire dt)

/-- A write of one, two or four bytes to Quay-local SRAM, to the queue pool or to the capture memory stores its bytes at its address, in the writer's own SRAM, and no other byte. A word that PUSH_DATA appends is stored in the next word of its packet and no other byte changes. No command that stores into cells changes a byte of Quay-local SRAM. -/
def Obligations.StoresChangeOnlyTheirBytes : Prop :=
  (∀ (dt : Nat) (src : Src) (a : BitVec 32) (size : Fin 3) (ecc : Fin 3) (s : State), Completes (.rcRead dt src a size ecc) s fun d => ∀ a, a < 0x60000000 → d.byte a = s.chip.byte a) ∧
  (∀ (dt : Nat) (src : Src) (p : Page) (off : Fin 1024) (s : State), Completes (.holdingRead dt src p off) s fun d => ∀ a, a < 0x60000000 → d.byte a = s.chip.byte a) ∧
  (∀ (dt : Nat) (src : Src) (p : Page) (v : Word) (s : State), Completes (.evtPendClear dt src p v) s fun d => ∀ a, a < 0x60000000 → d.byte a = s.chip.byte a) ∧
  (∀ (dt : Nat) (src : Src) (p : Page) (s : State), Completes (.errClr dt src p) s fun d => ∀ a, a < 0x60000000 → d.byte a = s.chip.byte a) ∧
  (∀ (dt : Nat) (src : Src) (r : Fin 8) (s : State), Completes (.isoReq dt src r) s fun d => ∀ a, a < 0x60000000 → d.byte a = s.chip.byte a) ∧
  (∀ (dt : Nat) (src : Src) (r : Fin 8) (s : State), Completes (.restart dt src r) s fun d => ∀ a, a < 0x60000000 → d.byte a = s.chip.byte a) ∧
  (∀ (dt : Nat) (src : Src) (a : BitVec 32) (write : Bool) (waited : Nat) (s : State), Completes (.interconnectTimeout dt src a write waited) s fun d => ∀ a, a < 0x60000000 → d.byte a = s.chip.byte a) ∧
  (∀ (dt : Nat) (r : Fin 8) (cause : Fin 4) (s : State), Completes (.regionFaultIsolate dt r cause) s fun d => ∀ a, a < 0x60000000 → d.byte a = s.chip.byte a) ∧
  (∀ (dt : Nat) (p : Page) (code : BitVec 8) (s : State), Completes (.cellFault dt p code) s fun d => ∀ a, a < 0x60000000 → d.byte a = s.chip.byte a) ∧
  (∀ (dt : Nat) (p : Page) (s : State), Completes (.regParityError dt p) s fun d => ∀ a, a < 0x60000000 → d.byte a = s.chip.byte a) ∧
  (∀ (dt : Nat) (src : Src) (p : Page) (s : State), Completes (.enClear dt src p) s fun d => ∀ a, a < 0x60000000 → d.byte a = s.chip.byte a) ∧
  (∀ (dt : Nat) (src : Src) (p : Page) (s : State), Completes (.enSet dt src p) s fun d => ∀ a, a < 0x60000000 → d.byte a = s.chip.byte a) ∧
  (∀ (dt : Nat) (p : Page) (s : State), Completes (.enApply dt p) s fun d => ∀ a, a < 0x60000000 → d.byte a = s.chip.byte a) ∧
  (∀ (dt : Nat) (src : Src) (p : Page) (s : State), Completes (.srst dt src p) s fun d => ∀ a, a < 0x60000000 → d.byte a = s.chip.byte a) ∧
  (∀ (dt : Nat) (src : Src) (p : Page) (discard : Bool) (s : State), Completes (.commitGo dt src p discard) s fun d => ∀ a, a < 0x60000000 → d.byte a = s.chip.byte a) ∧
  (∀ (dt : Nat) (p : Page) (s : State), Completes (.snapshotApply dt p) s fun d => ∀ a, a < 0x60000000 → d.byte a = s.chip.byte a) ∧
  (∀ (dt : Nat) (src : Src) (p : Page) (s : State), Completes (.commitDiscard dt src p) s fun d => ∀ a, a < 0x60000000 → d.byte a = s.chip.byte a) ∧
  (∀ (dt : Nat) (src : Src) (p : Page) (s : State), Completes (.lockFirstWord dt src p) s fun d => ∀ a, a < 0x60000000 → d.byte a = s.chip.byte a) ∧
  (∀ (dt : Nat) (src : Src) (p : Page) (s : State), Completes (.lockSecondWord dt src p) s fun d => ∀ a, a < 0x60000000 → d.byte a = s.chip.byte a) ∧
  (∀ (dt : Nat) (src : Src) (p : Page) (v : Word) (s : State), Completes (.lockBadWord dt src p v) s fun d => ∀ a, a < 0x60000000 → d.byte a = s.chip.byte a) ∧
  (∀ (dt : Nat) (src : Src) (p : Page) (v : Word) (s : State), Completes (.lockBusyWrite dt src p v) s fun d => ∀ a, a < 0x60000000 → d.byte a = s.chip.byte a) ∧
  (∀ (dt : Nat) (src : Src) (p : Page) (s : State), Completes (.lockRelease dt src p) s fun d => ∀ a, a < 0x60000000 → d.byte a = s.chip.byte a) ∧
  (∀ (dt : Nat) (src : Src) (g : Fin 8) (s : State), Completes (.fgStart dt src g) s fun d => ∀ a, a < 0x60000000 → d.byte a = s.chip.byte a) ∧
  (∀ (dt : Nat) (g : Fin 8) (s : State), Completes (.frameBoundary dt g) s fun d => ∀ a, a < 0x60000000 → d.byte a = s.chip.byte a) ∧
  (∀ (dt : Nat) (src : BitVec 20) (corr : Nat) (s : State), Completes (.evsFifoDrain dt src corr) s fun d => ∀ a, a < 0x60000000 → d.byte a = s.chip.byte a) ∧
  (∀ (dt : Nat) (q : Quay) (tap : Fin 16) (corr : Nat) (s : State), Completes (.tapFifoDrain dt q tap corr) s fun d => ∀ a, a < 0x60000000 → d.byte a = s.chip.byte a) ∧
  (∀ (dt : Nat) (src : Src) (k : Fin 24) (s : State), Completes (.rearm dt src k) s fun d => ∀ a, a < 0x60000000 → d.byte a = s.chip.byte a) ∧
  (∀ (dt : Nat) (src : Src) (k : Fin 24) (s : State), Completes (.linkTrain dt src k) s fun d => ∀ a, a < 0x60000000 → d.byte a = s.chip.byte a) ∧
  (∀ (dt : Nat) (src : Src) (k : Fin 24) (s : State), Completes (.linkDown dt src k) s fun d => ∀ a, a < 0x60000000 → d.byte a = s.chip.byte a) ∧
  (∀ (dt : Nat) (src : Src) (k : Fin 24) (s : State), Completes (.linkDesatClr dt src k) s fun d => ∀ a, a < 0x60000000 → d.byte a = s.chip.byte a) ∧
  (∀ (dt : Nat) (src : Src) (k : Fin 24) (s : State), Completes (.linkRecal dt src k) s fun d => ∀ a, a < 0x60000000 → d.byte a = s.chip.byte a) ∧
  (∀ (dt : Nat) (src : Src) (v : Bool) (s : State), Completes (.cplS2 dt src v) s fun d => ∀ a, a < 0x60000000 → d.byte a = s.chip.byte a) ∧
  (∀ (dt : Nat) (src : Src) (r : Fin 8) (s : State), Completes (.tripClr dt src r) s fun d => ∀ a, a < 0x60000000 → d.byte a = s.chip.byte a) ∧
  (∀ (dt : Nat) (src : Src) (q : Quay) (s : State), Completes (.sigReq dt src q) s fun d => ∀ a, a < 0x60000000 → d.byte a = s.chip.byte a) ∧
  (∀ (dt : Nat) (src : Src) (n : Fin 8) (s : State), Completes (.posFaultClr dt src n) s fun d => ∀ a, a < 0x60000000 → d.byte a = s.chip.byte a) ∧
  (∀ (dt : Nat) (src : Src) (n : Fin 8) (s : State), Completes (.zarm dt src n) s fun d => ∀ a, a < 0x60000000 → d.byte a = s.chip.byte a) ∧
  (∀ (dt : Nat) (src : Src) (s : State), Completes (.cnvStart dt src) s fun d => ∀ a, a < 0x60000000 → d.byte a = s.chip.byte a) ∧
  (∀ (dt : Nat) (src : Src) (s : State), Completes (.cnvStop dt src) s fun d => ∀ a, a < 0x60000000 → d.byte a = s.chip.byte a) ∧
  (∀ (dt : Nat) (src : Src) (s : State), Completes (.cnvRestart dt src) s fun d => ∀ a, a < 0x60000000 → d.byte a = s.chip.byte a) ∧
  (∀ (dt : Nat) (src : Src) (n : Fin 16) (lowH lowL : Bool) (s : State), Completes (.vdsClr dt src n lowH lowL) s fun d => ∀ a, a < 0x60000000 → d.byte a = s.chip.byte a) ∧
  (∀ (dt : Nat) (src : Src) (n : Fin 16) (s : State), Completes (.brgRearm dt src n) s fun d => ∀ a, a < 0x60000000 → d.byte a = s.chip.byte a) ∧
  (∀ (dt : Nat) (src : Src) (n : Fin 16) (s : State), Completes (.selftest dt src n) s fun d => ∀ a, a < 0x60000000 → d.byte a = s.chip.byte a) ∧
  (∀ (dt : Nat) (src : Src) (u : Fin 5) (s : State), Completes (.sscStart dt src u) s fun d => ∀ a, a < 0x60000000 → d.byte a = s.chip.byte a) ∧
  (∀ (dt : Nat) (src : Src) (u : Fin 5) (s : State), Completes (.sscStop dt src u) s fun d => ∀ a, a < 0x60000000 → d.byte a = s.chip.byte a) ∧
  (∀ (dt : Nat) (src : Src) (u : Fin 5) (s : State), Completes (.sscFaultClr dt src u) s fun d => ∀ a, a < 0x60000000 → d.byte a = s.chip.byte a) ∧
  (∀ (dt : Nat) (src : Src) (q : Quay) (w : Fin 4) (v : Word) (s : State), Completes (.wdKick dt src q w v) s fun d => ∀ a, a < 0x60000000 → d.byte a = s.chip.byte a) ∧
  (∀ (dt : Nat) (s : State), Completes (.takeover dt) s fun d => ∀ a, a < 0x60000000 → d.byte a = s.chip.byte a) ∧
  (∀ (dt : Nat) (src : Src) (q : Quay) (s : State), Completes (.switchReq dt src q) s fun d => ∀ a, a < 0x60000000 → d.byte a = s.chip.byte a) ∧
  (∀ (dt : Nat) (src : Src) (q : Quay) (s : State), Completes (.msgSend dt src q) s fun d => ∀ a, a < 0x60000000 → d.byte a = s.chip.byte a) ∧
  (∀ (dt : Nat) (src : Src) (q : Quay) (s : State), Completes (.msgPop dt src q) s fun d => ∀ a, a < 0x60000000 → d.byte a = s.chip.byte a) ∧
  (∀ (dt : Nat) (src : Src) (q : Quay) (s : State), Completes (.lckForce dt src q) s fun d => ∀ a, a < 0x60000000 → d.byte a = s.chip.byte a) ∧
  (∀ (dt : Nat) (src : Src) (id : BitVec 8) (s : State), Completes (.fltClr dt src id) s fun d => ∀ a, a < 0x60000000 → d.byte a = s.chip.byte a) ∧
  (∀ (dt : Nat) (src : Src) (mask : BitVec 7) (s : State), Completes (.stoReq dt src mask) s fun d => ∀ a, a < 0x60000000 → d.byte a = s.chip.byte a) ∧
  (∀ (dt : Nat) (src : Src) (mask : BitVec 7) (s : State), Completes (.ss1Req dt src mask) s fun d => ∀ a, a < 0x60000000 → d.byte a = s.chip.byte a) ∧
  (∀ (dt : Nat) (src : Src) (s : State), Completes (.safReset dt src) s fun d => ∀ a, a < 0x60000000 → d.byte a = s.chip.byte a) ∧
  (∀ (dt : Nat) (src : Src) (mask : BitVec 16) (s : State), Completes (.sinFaultClr dt src mask) s fun d => ∀ a, a < 0x60000000 → d.byte a = s.chip.byte a) ∧
  (∀ (dt : Nat) (src : Src) (on : BitVec 8) (s : State), Completes (.soutCmd dt src on) s fun d => ∀ a, a < 0x60000000 → d.byte a = s.chip.byte a) ∧
  (∀ (dt : Nat) (src : Src) (mask high : BitVec 8) (s : State), Completes (.soutFaultClr dt src mask high) s fun d => ∀ a, a < 0x60000000 → d.byte a = s.chip.byte a) ∧
  (∀ (dt : Nat) (src : Src) (s : State), Completes (.sbcRelease dt src) s fun d => ∀ a, a < 0x60000000 → d.byte a = s.chip.byte a) ∧
  (∀ (dt : Nat) (src : Src) (s : State), Completes (.sbcEngage dt src) s fun d => ∀ a, a < 0x60000000 → d.byte a = s.chip.byte a) ∧
  (∀ (dt : Nat) (src : Src) (s : State), Completes (.btStart dt src) s fun d => ∀ a, a < 0x60000000 → d.byte a = s.chip.byte a) ∧
  (∀ (dt : Nat) (src : Src) (s : State), Completes (.sealProgram dt src) s fun d => ∀ a, a < 0x60000000 → d.byte a = s.chip.byte a) ∧
  (∀ (dt : Nat) (src : Src) (n : Fin 64) (corr : Nat) (s : State), Completes (.pushOpen dt src n corr) s fun d => ∀ a, a < 0x60000000 → d.byte a = s.chip.byte a) ∧
  (∀ (dt : Nat) (src : Src) (n : Fin 64) (v : Word) (corr : Nat) (s : State), Completes (.pushData dt src n v corr) s fun d => ∀ a, a < 0x60000000 → d.byte a = s.chip.byte a) ∧
  (∀ (dt : Nat) (n : Fin 64) (s : State), Completes (.pushHoldExpire dt n) s fun d => ∀ a, a < 0x60000000 → d.byte a = s.chip.byte a) ∧
  (∀ (dt : Nat) (src : Src) (n : Fin 64) (corr : Nat) (s : State), Completes (.pushClose dt src n corr) s fun d => ∀ a, a < 0x60000000 → d.byte a = s.chip.byte a) ∧
  (∀ (dt : Nat) (i : Fin 8) (corr : Nat) (s : State), Completes (.portWordWrite dt i corr) s fun d => ∀ a, a < 0x60000000 → d.byte a = s.chip.byte a) ∧
  (∀ (dt : Nat) (src : Src) (n : Fin 64) (ecc : Fin 3) (corr : Nat) (s : State), Completes (.popData dt src n ecc corr) s fun d => ∀ a, a < 0x60000000 → d.byte a = s.chip.byte a) ∧
  (∀ (dt : Nat) (src : Src) (n : Fin 64) (corr : Nat) (s : State), Completes (.popSkip dt src n corr) s fun d => ∀ a, a < 0x60000000 → d.byte a = s.chip.byte a) ∧
  (∀ (dt : Nat) (src : Src) (n : Fin 64) (corr : Nat) (s : State), Completes (.queFlush dt src n corr) s fun d => ∀ a, a < 0x60000000 → d.byte a = s.chip.byte a) ∧
  (∀ (dt : Nat) (n : Fin 64) (uncorr : Nat) (s : State), Completes (.queReset dt n uncorr) s fun d => ∀ a, a < 0x60000000 → d.byte a = s.chip.byte a) ∧
  (∀ (dt : Nat) (st : Fin 2) (bad : List Nat) (corr : List (Option (Fin 64))) (uncorr : Nat) (s : State), Completes (.sweepDone dt st bad corr uncorr) s fun d => ∀ a, a < 0x60000000 → d.byte a = s.chip.byte a) ∧
  (∀ (dt : Nat) (st : Fin 2) (bad : List Nat) (corr : List (Option (Fin 64))) (uncorr : Nat) (s : State), Completes (.rebuildDone dt st bad corr uncorr) s fun d => ∀ a, a < 0x60000000 → d.byte a = s.chip.byte a) ∧
  (∀ (dt : Nat) (src : Src) (n : Fin 6) (s : State), Completes (.canSend dt src n) s fun d => ∀ a, a < 0x60000000 → d.byte a = s.chip.byte a) ∧
  (∀ (dt : Nat) (src : Src) (n : Fin 6) (bus : Bool) (s : State), Completes (.canAbort dt src n bus) s fun d => ∀ a, a < 0x60000000 → d.byte a = s.chip.byte a) ∧
  (∀ (dt : Nat) (src : Src) (n : Fin 6) (v : Word) (bus : Bool) (s : State), Completes (.objCfgWrite dt src n v bus) s fun d => ∀ a, a < 0x60000000 → d.byte a = s.chip.byte a) ∧
  (∀ (dt : Nat) (src : Src) (n : Fin 6) (s : State), Completes (.objHeadRead dt src n) s fun d => ∀ a, a < 0x60000000 → d.byte a = s.chip.byte a) ∧
  (∀ (dt : Nat) (src : Src) (n : Fin 6) (s : State), Completes (.objLastRead dt src n) s fun d => ∀ a, a < 0x60000000 → d.byte a = s.chip.byte a) ∧
  (∀ (dt : Nat) (src : Src) (n : Fin 6) (s : State), Completes (.objRelease dt src n) s fun d => ∀ a, a < 0x60000000 → d.byte a = s.chip.byte a) ∧
  (∀ (dt : Nat) (src : Src) (n : Fin 6) (s : State), Completes (.canRecover dt src n) s fun d => ∀ a, a < 0x60000000 → d.byte a = s.chip.byte a) ∧
  (∀ (dt : Nat) (n : Fin 6) (corr bad : Nat) (s : State), Completes (.canTxqTake dt n corr bad) s fun d => ∀ a, a < 0x60000000 → d.byte a = s.chip.byte a) ∧
  (∀ (dt : Nat) (n : Fin 2) (stamp : Nat) (fine : Fin 8) (corr bad : Nat) (s : State), Completes (.ethTxFrame dt n stamp fine corr bad) s fun d => ∀ a, a < 0x60000000 → d.byte a = s.chip.byte a) ∧
  (∀ (dt : Nat) (src : Src) (n : Fin 2) (s : State), Completes (.syncApply dt src n) s fun d => ∀ a, a < 0x60000000 → d.byte a = s.chip.byte a) ∧
  (∀ (dt : Nat) (src : Src) (s : State), Completes (.rollbackBurn dt src) s fun d => ∀ a, a < 0x60000000 → d.byte a = s.chip.byte a) ∧
  (∀ (dt : Nat) (src : Src) (mask : BitVec 4) (s : State), Completes (.revoke dt src mask) s fun d => ∀ a, a < 0x60000000 → d.byte a = s.chip.byte a) ∧
  (∀ (dt : Nat) (src : Src) (s : State), Completes (.xspGo dt src) s fun d => ∀ a, a < 0x60000000 → d.byte a = s.chip.byte a) ∧
  (∀ (dt : Nat) (src : Src) (core : Fin 8) (s : State), Completes (.dbgAttach dt src core) s fun d => ∀ a, a < 0x60000000 → d.byte a = s.chip.byte a) ∧
  (∀ (dt : Nat) (rail : Fin 4) (mv : BitVec 13) (s : State), Completes (.supWarn dt rail mv) s fun d => ∀ a, a < 0x60000000 → d.byte a = s.chip.byte a) ∧
  (∀ (dt : Nat) (src : Src) (on off : BitVec 14) (s : State), Completes (.domOnReq dt src on off) s fun d => ∀ a, a < 0x60000000 → d.byte a = s.chip.byte a) ∧
  (∀ (dt : Nat) (src : Src) (off : BitVec 14) (s : State), Completes (.domOffReq dt src off) s fun d => ∀ a, a < 0x60000000 → d.byte a = s.chip.byte a) ∧
  (∀ (dt : Nat) (dom : Fin 14) (us : Fin 101) (s : State), Completes (.domGood dt dom us) s fun d => ∀ a, a < 0x60000000 → d.byte a = s.chip.byte a) ∧
  (∀ (dt : Nat) (dom : Fin 14) (s : State), Completes (.domOutOfRange dt dom) s fun d => ∀ a, a < 0x60000000 → d.byte a = s.chip.byte a) ∧
  (∀ (dt : Nat) (src : Src) (s : State), Completes (.sysReset dt src) s fun d => ∀ a, a < 0x60000000 → d.byte a = s.chip.byte a) ∧
  (∀ (dt : Nat) (src : Src) (a : BitVec 32) (size : Fin 3) (v : Word) (s : State),
      let c := s.chip.after dt
      let n := 2 ^ size.val
      let q := (c.quayOf src).getD .A
      let base := if a.toNat < 0x00800000 then sramAddr q a.toNat else a.toNat
      (a.toNat < 0x00800000 ∨ (0x60000000 ≤ a.toNat ∧ a.toNat < 0x60400000) ∨ (0x68000000 ≤ a.toNat ∧ a.toNat < 0x68200000)) → c.respond src a.toNat (8 * n) true = .ok → c.portOpen src → src ≠ .debug →
      Completes (.regWrite dt src a size v) s fun d =>
        d.resp = 0 ∧ ((List.range n).all fun i => d.byte (base + i) == BitVec.ofNat 8 (v.bits (8 * i) 8)) ∧ d.regs = c.regs ∧ (∀ b, b < base ∨ base + n ≤ b → d.byte b = c.byte b)) ∧
  (∀ (dt : Nat) (src : Src) (n : Fin 64) (v : Word) (corr : Nat) (s : State),
      let c := s.chip.after dt
      let o := (c.que n).opened.getD ⟨[], 0, false, none, 0, false⟩
      let idx := o.len + 1
      c.serves src (pgQUE n) 0x05C true → c.act (pgQUE n) Reg.QUE.QUE_CFG_PROD = 0 → (c.que n).opened.isSome → o.holder = some src → o.discard = false → o.len < 65535 → (o.needsCell = false ∨ c.canTake n) →
      Completes (.pushData dt src n v corr) s fun d =>
        d.memAt (cellAddr ((((d.que n).opened.map OpenPkt.cells).getD []).getD (idx / 16) 0) (idx % 16)) = v ∧ (∀ b, b < cellAddr ((((d.que n).opened.map OpenPkt.cells).getD []).getD (idx / 16) 0) (idx % 16) ∨ cellAddr ((((d.que n).opened.map OpenPkt.cells).getD []).getD (idx / 16) 0) (idx % 16) + 4 ≤ b → d.byte b = c.byte b))

/-- For the quotient x / 2^s, NEAREST_EVEN gives the nearest integer, the even one of two that are equally near; HALF_UP the nearest, the upper one of two; FLOOR the largest that is not above it; TOWARD_ZERO the one without its fraction. The law words that multiply, read an accumulator or scale an input round with it. -/
def Obligations.RoundingFollowsItsMode : Prop :=
  ∀ (x : Int) (s : Nat),
    (2 * x ≤ (2 * roundShift 0 x s + 1) * 2 ^ s ∧ (2 * roundShift 0 x s - 1) * 2 ^ s ≤ 2 * x ∧
      (2 * x = (2 * roundShift 0 x s + 1) * 2 ^ s ∨ 2 * x = (2 * roundShift 0 x s - 1) * 2 ^ s → roundShift 0 x s % 2 = 0)) ∧
    ((2 * roundShift 1 x s - 1) * 2 ^ s ≤ 2 * x ∧ 2 * x < (2 * roundShift 1 x s + 1) * 2 ^ s) ∧
    (roundShift 2 x s * 2 ^ s ≤ x ∧ x < (roundShift 2 x s + 1) * 2 ^ s) ∧
    ((0 ≤ x → roundShift 3 x s * 2 ^ s ≤ x ∧ x < (roundShift 3 x s + 1) * 2 ^ s) ∧
      (x ≤ 0 → x ≤ roundShift 3 x s * 2 ^ s ∧ (roundShift 3 x s - 1) * 2 ^ s < x))

/-- Each of the page, commit, reset and region commands completes. It writes no register word outside the pages of the kinds and the pages listed with it, where a list of pages stands, and no other part of the chip than the parts listed: not memory, a lane, a leg or bridge cell, a queue, a fuse, the straps or the ownership token unless it is named there. Every list holds what the command may write in some state, so a word that it leaves alone in a given state is said by the statement of its effect. A page header counts as a word of its page, and the error words of FLT and the access counts of DBG are among what an access may write. -/
def Obligations.FramesOfPagesAndRegions : Prop :=
  (∀ (dt : Nat) (src : Src) (a : BitVec 32) (size : Fin 3) (v : Word) (s : State), FramedParts (.regWrite dt src a size v) s [.free, .mem, .pages, .streams, .taps, .ques, .stores, .ports, .cans]) ∧
  (∀ (dt : Nat) (src : Src) (a : BitVec 32) (size : Fin 3) (ecc : Fin 3) (s : State), FramedParts (.rcRead dt src a size ecc) s [.free, .mem, .pages, .streams, .faults, .taps, .engs, .gwys, .ques, .stores, .ports, .objs, .quays, .redS]) ∧
  (∀ (dt : Nat) (src : Src) (p : Page) (off : Fin 1024) (s : State), FramedParts (.holdingRead dt src p off) s [.free, .mem, .pages, .streams, .taps, .ques, .stores, .ports, .objs]) ∧
  (∀ (dt : Nat) (src : Src) (p : Page) (v : Word) (s : State), FramedParts (.evtPendClear dt src p v) s [.free, .mem, .pages, .streams, .taps, .ques, .stores, .ports]) ∧
  (∀ (dt : Nat) (src : Src) (p : Page) (s : State), FramedParts (.errClr dt src p) s [.free, .mem, .pages, .streams, .taps, .ques, .stores, .ports]) ∧
  (∀ (dt : Nat) (src : Src) (r : Fin 8) (s : State), FramedParts (.isoReq dt src r) s [.free, .mem, .pages, .streams, .legs, .blks, .links, .faults, .temps, .taps, .gwys, .ques, .stores, .ports, .objs, .quays, .redS]) ∧
  (∀ (dt : Nat) (src : Src) (r : Fin 8) (s : State), FramedParts (.restart dt src r) s [.free, .mem, .pages, .streams, .taps, .ques, .stores, .ports]) ∧
  (∀ (dt : Nat) (r : Fin 8) (s : State), FramedParts (.restartComplete dt r) s [.free, .mem, .pages, .arbs, .streams, .legs, .blks, .links, .faults, .adcs, .dsfs, .tsns, .temps, .lanes, .slots, .taps, .engs, .gwys, .tracs, .convs, .chgs, .poss, .emus, .brgs, .sscs, .ques, .stores, .ports, .cans, .objs, .eths, .sins, .quays, .tideS, .cplS, .outbox, .vcmds, .capWins, .cnvS, .safS, .brakeS, .sealS, .seqS]) ∧
  (∀ (dt : Nat) (src : Src) (a : BitVec 32) (write : Bool) (waited : Nat) (s : State), FramedParts (.interconnectTimeout dt src a write waited) s [.free, .mem, .pages, .streams, .legs, .blks, .links, .faults, .temps, .taps, .gwys, .ques, .stores, .ports, .objs, .quays, .redS]) ∧
  (∀ (dt : Nat) (r : Fin 8) (cause : Fin 4) (s : State), FramedParts (.regionFaultIsolate dt r cause) s [.free, .mem, .pages, .streams, .legs, .blks, .links, .faults, .temps, .taps, .gwys, .ques, .stores, .ports, .objs, .quays, .redS]) ∧
  (∀ (dt : Nat) (at_ : Arbiter) (reqs : List (Fin 16 × ArbClient)) (s : State), Framed (.arbDecision dt at_ reqs) s [.fltr] [] [.arbs, .gwys]) ∧
  (∀ (dt : Nat) (p : Page) (code : BitVec 8) (s : State), FramedParts (.cellFault dt p code) s [.free, .mem, .pages, .streams, .legs, .blks, .links, .faults, .temps, .taps, .emus, .brgs, .sscs, .ques, .stores, .ports, .cans, .objs]) ∧
  (∀ (dt : Nat) (p : Page) (s : State), FramedParts (.regParityError dt p) s [.free, .mem, .pages, .streams, .legs, .blks, .links, .faults, .temps, .taps, .emus, .brgs, .sscs, .ques, .stores, .ports, .cans, .objs, .cnvS]) ∧
  (∀ (dt : Nat) (src : Src) (p : Page) (s : State), FramedParts (.enClear dt src p) s [.free, .mem, .pages, .streams, .legs, .blks, .links, .faults, .dsfs, .temps, .lanes, .slots, .taps, .engs, .poss, .emus, .brgs, .sscs, .ques, .stores, .ports, .cans, .objs, .tideS, .cnvS]) ∧
  (∀ (dt : Nat) (src : Src) (p : Page) (s : State), FramedParts (.enSet dt src p) s [.free, .mem, .pages, .streams, .taps, .emus, .brgs, .ques, .stores, .ports, .tideS]) ∧
  (∀ (dt : Nat) (p : Page) (s : State), FramedParts (.enApply dt p) s [.free, .mem, .pages, .streams, .legs, .blks, .links, .faults, .dsfs, .temps, .taps, .poss, .emus, .brgs, .ques, .stores, .ports, .cans, .tideS, .cnvS]) ∧
  (∀ (dt : Nat) (src : Src) (p : Page) (s : State), FramedParts (.srst dt src p) s [.free, .mem, .pages, .streams, .legs, .blks, .links, .faults, .adcs, .dsfs, .tsns, .temps, .lanes, .slots, .taps, .engs, .gwys, .poss, .emus, .brgs, .sscs, .ques, .stores, .ports, .cans, .objs, .eths, .sins, .tideS, .cplS, .capWins, .cnvS, .safS, .brakeS, .sealS]) ∧
  (∀ (dt : Nat) (p : Page) (s : State), Framed (.srstComplete dt p) s [] [p] [.pages]) ∧
  (∀ (dt : Nat) (src : Src) (p : Page) (discard : Bool) (s : State), FramedParts (.commitGo dt src p discard) s [.free, .mem, .pages, .streams, .taps, .ques, .stores, .ports]) ∧
  (∀ (dt : Nat) (p : Page) (parity : Bool) (s : State), FramedParts (.snapshotCheckDone dt p parity) s [.pages]) ∧
  (∀ (dt : Nat) (p : Page) (s : State), FramedParts (.snapshotApply dt p) s [.free, .mem, .pages, .streams, .legs, .links, .faults, .dsfs, .temps, .slots, .taps, .engs, .emus, .brgs, .sscs, .ques, .stores, .ports, .cans, .tideS, .cnvS]) ∧
  (∀ (dt : Nat) (src : Src) (p : Page) (s : State), FramedParts (.commitDiscard dt src p) s [.free, .mem, .pages, .streams, .taps, .ques, .stores, .ports]) ∧
  (∀ (dt : Nat) (src : Src) (p : Page) (s : State), FramedParts (.lockFirstWord dt src p) s [.free, .mem, .pages, .streams, .faults, .taps, .ques, .stores, .ports]) ∧
  (∀ (dt : Nat) (src : Src) (p : Page) (s : State), FramedParts (.lockSecondWord dt src p) s [.free, .mem, .pages, .streams, .faults, .taps, .ques, .stores, .ports]) ∧
  (∀ (dt : Nat) (src : Src) (p : Page) (v : Word) (s : State), FramedParts (.lockBadWord dt src p v) s [.free, .mem, .pages, .streams, .faults, .taps, .ques, .stores, .ports]) ∧
  (∀ (dt : Nat) (src : Src) (p : Page) (v : Word) (s : State), FramedParts (.lockBusyWrite dt src p v) s [.free, .mem, .pages, .streams, .faults, .taps, .ques, .stores, .ports]) ∧
  (∀ (dt : Nat) (src : Src) (p : Page) (s : State), FramedParts (.lockRelease dt src p) s [.free, .mem, .pages, .streams, .faults, .taps, .ques, .stores, .ports]) ∧
  (∀ (dt : Nat) (src : Src) (p : Page) (s : State), Framed (.lockArmExpire dt src p) s [] [p] [.pages]) ∧
  (∀ (dt : Nat) (p : Page) (s : State), FramedParts (.lockWindowExpire dt p) s [.pages]) ∧
  (∀ (dt : Nat) (src : Src) (g : Fin 8) (s : State), FramedParts (.fgStart dt src g) s [.free, .mem, .pages, .streams, .taps, .ques, .stores, .ports, .tideS]) ∧
  (∀ (dt : Nat) (s : State), FramedParts (.bankCopyDone dt) s [.pages]) ∧
  (∀ (dt : Nat) (q : Quay) (s : State), FramedParts (.coefCopyDone dt q) s [.pages])

/-- Each of the Tide, frame, action and event-stream commands completes. It writes no register word outside the pages of the kinds and the pages listed with it, where a list of pages stands, and no other part of the chip than the parts listed: not memory, a lane, a leg or bridge cell, a queue, a fuse, the straps or the ownership token unless it is named there. Every list holds what the command may write in some state, so a word that it leaves alone in a given state is said by the statement of its effect. A page header counts as a word of its page, and the error words of FLT and the access counts of DBG are among what an access may write. -/
def Obligations.FramesOfTideAndActions : Prop :=
  (∀ (dt : Nat) (ext : Bool) (s : State), Framed (.refLost dt ext) s [.evs, .tide] [] [.streams, .tideS]) ∧
  (∀ (dt : Nat) (phase : Fin 250) (s : State), Framed (.refRegained dt phase) s [.evs, .tide] [] [.streams, .tideS]) ∧
  (∀ (dt : Nat) (ext : Int) (s : State), Framed (.trimSlewStep dt ext) s [.evs, .tide] [] [.streams, .tideS]) ∧
  (∀ (dt : Nat) (s : State), Framed (.xtalLoss dt) s [.clk, .evs, .flt8, .tide] [] [.streams, .faults, .tideS]) ∧
  (∀ (dt : Nat) (s : State), Framed (.xtalRegained dt) s [.clk, .evs, .flt8, .rst, .tide] [] [.streams, .tideS]) ∧
  (∀ (dt : Nat) (s : State), FramedParts (.tideUnlock dt) s [.streams, .faults, .gwys, .objs, .quays, .redS]) ∧
  (∀ (dt : Nat) (g : Fin 8) (s : State), FramedParts (.frameBoundary dt g) s [.free, .mem, .pages, .streams, .legs, .links, .faults, .dsfs, .tsns, .temps, .slots, .taps, .engs, .gwys, .emus, .brgs, .sscs, .ques, .stores, .ports, .cans, .tideS, .deliveries, .cnvS]) ∧
  (∀ (dt : Nat) (i : Fin 256) (s : State), Framed (.actionDispatch dt i) s [] [] [.tideS]) ∧
  (∀ (dt : Nat) (i : Fin 256) (s : State), FramedParts (.actionSample dt i) s [.streams, .adcs, .dsfs, .tsns, .lanes, .poss, .tideS, .cplS, .capWins, .cnvS]) ∧
  (∀ (dt : Nat) (i : Fin 256) (s : State), FramedParts (.actionLaunch dt i) s [.streams, .adcs, .dsfs, .tsns, .lanes, .poss, .tideS, .cplS, .capWins, .cnvS]) ∧
  (∀ (dt : Nat) (i : Fin 256) (s : State), FramedParts (.actionCapture dt i) s [.streams, .adcs, .dsfs, .tsns, .lanes, .poss, .tideS, .cplS, .capWins, .cnvS]) ∧
  (∀ (dt : Nat) (i : Fin 256) (s : State), FramedParts (.actionVstep dt i) s [.streams, .adcs, .dsfs, .tsns, .lanes, .poss, .tideS, .cplS, .capWins, .cnvS]) ∧
  (∀ (dt : Nat) (i : Fin 256) (s : State), FramedParts (.actionMark dt i) s [.streams, .adcs, .dsfs, .tsns, .lanes, .poss, .tideS, .cplS, .capWins, .cnvS]) ∧
  (∀ (dt : Nat) (s : State), Framed (.vclCmdAccept dt) s [.evs, .vcl] [] [.streams, .vcmds, .cnvS]) ∧
  (∀ (dt : Nat) (w : Word) (crc : BitVec 8) (s : State), Framed (.vclExtFrame dt w crc) s [.evs, .vcl] [] [.streams, .cnvS]) ∧
  (∀ (dt : Nat) (s : State), Framed (.vclExtTimeout dt) s [.vcl] [] [.cnvS]) ∧
  (∀ (dt : Nat) (s : State), Framed (.vclAckSend dt) s [] [] [.cnvS]) ∧
  (∀ (dt : Nat) (src : Src) (s : State), FramedParts (.cnvStart dt src) s [.free, .mem, .pages, .streams, .taps, .ques, .stores, .ports, .cnvS]) ∧
  (∀ (dt : Nat) (src : Src) (s : State), FramedParts (.cnvStop dt src) s [.free, .mem, .pages, .streams, .taps, .ques, .stores, .ports, .cnvS]) ∧
  (∀ (dt : Nat) (src : Src) (s : State), FramedParts (.cnvRestart dt src) s [.free, .mem, .pages, .streams, .taps, .ques, .stores, .ports, .cnvS]) ∧
  (∀ (dt : Nat) (s : State), Framed (.fineStepCalibration dt) s [] [] [.tideS]) ∧
  (∀ (dt : Nat) (s : State), Framed (.extFrameInvalid dt) s [.vcl] [] [])

/-- Each of the leg-cell and leg-link commands completes. It writes no register word outside the pages of the kinds and the pages listed with it, where a list of pages stands, and no other part of the chip than the parts listed: not memory, a lane, a leg or bridge cell, a queue, a fuse, the straps or the ownership token unless it is named there. Every list holds what the command may write in some state, so a word that it leaves alone in a given state is said by the statement of its effect. A page header counts as a word of its page, and the error words of FLT and the access counts of DBG are among what an access may write. -/
def Obligations.FramesOfLegsAndLinks : Prop :=
  (∀ (dt : Nat) (q : Quay) (lane : Fin 8) (k : Fin 24) (w0 w1 : Word) (s : State), Framed (.edgeEntry dt q lane k w0 w1) s [.evs, .leg] [] [.streams, .blks, .outbox]) ∧
  (∀ (dt : Nat) (q : Quay) (lane : Fin 8) (k : Fin 24) (w0 w1 : Word) (s : State), Framed (.closeEntry dt q lane k w0 w1) s [.evs, .leg] [] [.streams, .blks, .outbox]) ∧
  (∀ (dt : Nat) (k : Fin 24) (s : State), Framed (.closeDeadline dt k) s [.evs, .flt8, .leg] [] [.streams, .legs, .blks, .links, .faults]) ∧
  (∀ (dt : Nat) (k : Fin 24) (s : State), Framed (.patternTakeover dt k) s [.evs, .leg] [] [.streams, .blks]) ∧
  (∀ (dt : Nat) (n : Fin 96) (s : State), Framed (.gateEdgeDue dt n) s [.leg] [] [.legs]) ∧
  (∀ (dt : Nat) (k : Fin 24) (s : State), Framed (.patternEccError dt k) s [.evs, .flt8, .fltr, .leg] [] [.streams, .legs, .blks, .links, .faults]) ∧
  (∀ (dt : Nat) (k : Fin 24) (cause : Fin 7) (s : State), Framed (.blockEnterSafe dt k cause) s [.evs, .flt8, .leg] [] [.streams, .legs, .blks, .links, .faults]) ∧
  (∀ (dt : Nat) (k : Fin 24) (s : State), Framed (.shutterCloseReport dt k) s [.evs, .leg] [] [.streams, .legs, .blks, .links]) ∧
  (∀ (dt : Nat) (src : Src) (k : Fin 24) (s : State), FramedParts (.rearm dt src k) s [.free, .mem, .pages, .streams, .legs, .blks, .links, .taps, .ques, .stores, .ports]) ∧
  (∀ (dt : Nat) (src : Src) (k : Fin 24) (s : State), FramedParts (.linkTrain dt src k) s [.free, .mem, .pages, .streams, .links, .taps, .ques, .stores, .ports]) ∧
  (∀ (dt : Nat) (src : Src) (k : Fin 24) (s : State), FramedParts (.linkDown dt src k) s [.free, .mem, .pages, .streams, .legs, .blks, .links, .faults, .temps, .taps, .ques, .stores, .ports]) ∧
  (∀ (dt : Nat) (src : Src) (k : Fin 24) (s : State), FramedParts (.linkDesatClr dt src k) s [.free, .mem, .pages, .streams, .links, .taps, .ques, .stores, .ports]) ∧
  (∀ (dt : Nat) (src : Src) (k : Fin 24) (s : State), FramedParts (.linkRecal dt src k) s [.free, .mem, .pages, .streams, .links, .taps, .ques, .stores, .ports]) ∧
  (∀ (dt : Nat) (k : Fin 24) (s : State), Framed (.trainComplete dt k) s [.evs, .flt8, .leg, .llp] [] [.streams, .legs, .blks, .links, .faults, .temps]) ∧
  (∀ (dt : Nat) (k : Fin 24) (s : State), Framed (.trainTimeout dt k) s [.evs, .flt8, .leg, .llp] [] [.streams, .legs, .blks, .links, .faults, .temps]) ∧
  (∀ (dt : Nat) (k : Fin 24) (fine : Fin 8) (s : State), Framed (.calSend dt k fine) s [] [] [.links]) ∧
  (∀ (dt : Nat) (k : Fin 24) (s : State), Framed (.calEchoTimeout dt k) s [] [] [.links]) ∧
  (∀ (dt : Nat) (k : Fin 24) (s : State), Framed (.calComplete dt k) s [.evs, .flt8, .leg, .llp] [] [.streams, .legs, .blks, .links, .faults, .temps]) ∧
  (∀ (dt : Nat) (k : Fin 24) (s : State), Framed (.calPeriodExpire dt k) s [] [] [.links]) ∧
  (∀ (dt : Nat) (k : Fin 24) (s : State), Framed (.cfgSend dt k) s [] [] [.links]) ∧
  (∀ (dt : Nat) (k : Fin 24) (s : State), Framed (.edgeFrameSend dt k) s [.evs, .flt8, .leg, .llp] [] [.streams, .legs, .blks, .links, .faults, .temps]) ∧
  (∀ (dt : Nat) (k : Fin 24) (s : State), Framed (.edgeLate dt k) s [.evs, .flt8, .leg, .llp] [] [.streams, .legs, .blks, .links, .faults, .temps]) ∧
  (∀ (dt : Nat) (k : Fin 24) (fine : Fin 8) (s : State), Framed (.syncSend dt k fine) s [] [] [.links]) ∧
  (∀ (dt : Nat) (k : Fin 24) (s : State), Framed (.commaSend dt k) s [] [] [.links]) ∧
  (∀ (dt : Nat) (k : Fin 24) (f : BitVec 60) (s : State), Framed (.uplinkStatus dt k f) s [.evs, .flt8, .leg, .llp] [] [.streams, .legs, .blks, .links, .faults, .temps]) ∧
  (∀ (dt : Nat) (k : Fin 24) (f : BitVec 60) (s : State), Framed (.uplinkState dt k f) s [.evs, .flt8, .leg, .llp] [] [.streams, .legs, .blks, .links, .faults, .temps]) ∧
  (∀ (dt : Nat) (k : Fin 24) (f : BitVec 60) (s : State), Framed (.uplinkNtc dt k f) s [.evs, .flt8, .leg, .llp] [] [.streams, .legs, .blks, .links, .faults, .temps]) ∧
  (∀ (dt : Nat) (k : Fin 24) (f : BitVec 60) (s : State), Framed (.uplinkSupply dt k f) s [.evs, .flt8, .leg, .llp] [] [.streams, .legs, .blks, .links, .faults, .temps]) ∧
  (∀ (dt : Nat) (k : Fin 24) (f : BitVec 60) (s : State), Framed (.uplinkVce dt k f) s [.evs, .flt8, .leg, .llp] [] [.streams, .legs, .blks, .links, .faults, .temps]) ∧
  (∀ (dt : Nat) (k : Fin 24) (f : BitVec 60) (t1 : Nat) (s : State), Framed (.uplinkEcho dt k f t1) s [.evs, .flt8, .leg, .llp] [] [.streams, .legs, .blks, .links, .faults, .temps]) ∧
  (∀ (dt : Nat) (k : Fin 24) (f : BitVec 60) (s : State), Framed (.uplinkCaps dt k f) s [.evs, .flt8, .leg, .llp] [] [.streams, .legs, .blks, .links, .faults, .temps]) ∧
  (∀ (dt : Nat) (k : Fin 24) (f : BitVec 60) (s : State), Framed (.uplinkInvalid dt k f) s [.evs, .flt8, .leg, .llp] [] [.streams, .legs, .blks, .links, .faults, .temps]) ∧
  (∀ (dt : Nat) (k : Fin 24) (s : State), Framed (.upTimeout dt k) s [.evs, .flt8, .leg, .llp] [] [.streams, .legs, .blks, .links, .faults, .temps]) ∧
  (∀ (dt : Nat) (k : Fin 24) (i : Fin 4) (s : State), Framed (.ntcStale dt k i) s [.evs, .llp] [] [.streams])

/-- Each of the sensing and position commands completes. It writes no register word outside the pages of the kinds and the pages listed with it, where a list of pages stands, and no other part of the chip than the parts listed: not memory, a lane, a leg or bridge cell, a queue, a fuse, the straps or the ownership token unless it is named there. Every list holds what the command may write in some state, so a word that it leaves alone in a given state is said by the statement of its effect. A page header counts as a word of its page, and the error words of FLT and the access counts of DBG are among what an access may write. -/
def Obligations.FramesOfSensingAndPosition : Prop :=
  (∀ (dt : Nat) (n : Fin 12) (code : BitVec 14) (s : State), FramedParts (.adcResultReady dt n code) s [.streams, .faults, .adcs, .deliveries]) ∧
  (∀ (dt : Nat) (n : Fin 12) (s : State), Framed (.adcRefFault dt n) s [.adc, .evs, .flt8] [] [.streams, .faults]) ∧
  (∀ (dt : Nat) (n : Fin 12) (s : State), Framed (.adcRefOk dt n) s [.adc, .evs, .flt8] [] [.streams]) ∧
  (∀ (dt : Nat) (n : Fin 32) (bits : List (Nat × Bool)) (s : State), Framed (.dsfResultReady dt n bits) s [.dsf, .evs, .flt8] [] [.streams, .faults, .dsfs, .deliveries]) ∧
  (∀ (dt : Nat) (n : Fin 32) (bits : List (Nat × Bool)) (s : State), Framed (.dsfCompTrip dt n bits) s [.dsf, .evs, .flt8] [] [.streams, .faults, .dsfs]) ∧
  (∀ (dt : Nat) (pin : Fin 4) (s : State), Framed (.dsfClkLost dt pin) s [.dsf, .evs] [] [.streams]) ∧
  (∀ (dt : Nat) (n : Fin 32) (bits : List (Nat × Bool)) (s : State), Framed (.dsfStuck dt n bits) s [.dsf, .evs, .flt8] [] [.streams, .faults, .dsfs]) ∧
  (∀ (dt : Nat) (n : Fin 32) (bits : List (Nat × Bool)) (s : State), Framed (.dsfSettled dt n bits) s [.dsf, .evs, .flt8] [] [.streams, .faults, .dsfs]) ∧
  (∀ (dt : Nat) (up : Bool) (samples : List (Nat × BitVec 16)) (s : State), Framed (.cplTransition dt up samples) s [.cpl, .evs] [] [.free, .streams, .cplS]) ∧
  (∀ (dt : Nat) (samples : List (Nat × BitVec 16)) (s : State), Framed (.cplOscLost dt samples) s [.cpl, .evs] [] [.free, .streams, .cplS]) ∧
  (∀ (dt : Nat) (src : Src) (v : Bool) (s : State), FramedParts (.cplS2 dt src v) s [.free, .mem, .pages, .streams, .taps, .ques, .stores, .ports]) ∧
  (∀ (dt : Nat) (s : State), Framed (.cplResultReady dt) s [.cpl] [] [.cplS, .deliveries]) ∧
  (∀ (dt : Nat) (r : Fin 8) (temp : BitVec 12) (ok : Bool) (s : State), FramedParts (.tsnConversion dt r temp ok) s [.tsns]) ∧
  (∀ (dt : Nat) (r : Fin 8) (s : State), Framed (.tsnResultReady dt r) s [] [] [.tsns, .deliveries]) ∧
  (∀ (dt : Nat) (src : Src) (r : Fin 8) (s : State), FramedParts (.tripClr dt src r) s [.free, .mem, .pages, .streams, .taps, .ques, .stores, .ports]) ∧
  (∀ (dt : Nat) (s : State), Framed (.slotSampleArrive dt) s [] [] [.slots, .deliveries]) ∧
  (∀ (dt : Nat) (n : Fin 8) (low : Bool) (bits : List Bool) (s : State), Framed (.serialFrameDone dt n low bits) s [.emu, .evs, .flt8, .pos] [] [.free, .streams, .faults, .poss, .emus]) ∧
  (∀ (dt : Nat) (n : Fin 8) (s : State), Framed (.posWordsReady dt n) s [.emu, .evs, .pos] [] [.streams, .poss, .emus, .deliveries]) ∧
  (∀ (dt : Nat) (n : Fin 8) (a b : Bool) (held : Nat) (s : State), Framed (.quadEdge dt n a b held) s [.emu, .evs, .flt8, .pos] [] [.free, .streams, .faults, .poss, .emus]) ∧
  (∀ (dt : Nat) (n : Fin 8) (z : Bool) (held : Nat) (s : State), Framed (.quadIndex dt n z held) s [.evs, .pos] [] [.streams, .poss]) ∧
  (∀ (dt : Nat) (n : Fin 8) (code : BitVec 3) (held : Nat) (s : State), Framed (.hallEdge dt n code held) s [.emu, .evs, .flt8, .pos] [] [.free, .streams, .faults, .poss, .emus]) ∧
  (∀ (dt : Nat) (n : Fin 8) (s : State), Framed (.stillTimeout dt n) s [.evs, .pos] [] [.streams]) ∧
  (∀ (dt : Nat) (src : Src) (n : Fin 8) (s : State), FramedParts (.posFaultClr dt src n) s [.free, .mem, .pages, .streams, .faults, .taps, .poss, .emus, .ques, .stores, .ports]) ∧
  (∀ (dt : Nat) (src : Src) (n : Fin 8) (s : State), FramedParts (.zarm dt src n) s [.free, .mem, .pages, .streams, .taps, .poss, .ques, .stores, .ports]) ∧
  (∀ (dt : Nat) (j : Fin 4) (s : State), Framed (.emuCountStep dt j) s [.emu, .evs] [] [.streams, .emus]) ∧
  (∀ (dt : Nat) (samples : List (Nat × BitVec 16)) (s : State), Framed (.cplSteadyState dt samples) s [.cpl, .evs] [] [.free, .streams, .cplS]) ∧
  (∀ (dt : Nat) (pin : Fin 4) (s : State), Framed (.dsfClkRegained dt pin) s [.dsf, .evs] [] [.streams, .dsfs]) ∧
  (∀ (dt : Nat) (n : Fin 32) (bits : List (Nat × Bool)) (s : State), Framed (.dsfStuckClear dt n bits) s [.dsf, .evs, .flt8] [] [.streams, .faults, .dsfs]) ∧
  (∀ (dt : Nat) (n : Fin 32) (bits : List (Nat × Bool)) (s : State), Framed (.dsfCompReturn dt n bits) s [.dsf, .evs, .flt8] [] [.streams, .faults, .dsfs]) ∧
  (∀ (dt : Nat) (j : Fin 4) (s : State), Framed (.emuPassFollow dt j) s [.emu] [] [])

/-- Each of the law-word and engine commands completes. It writes no register word outside the pages of the kinds and the pages listed with it, where a list of pages stands, and no other part of the chip than the parts listed: not memory, a lane, a leg or bridge cell, a queue, a fuse, the straps or the ownership token unless it is named there. Every list holds what the command may write in some state, so a word that it leaves alone in a given state is said by the statement of its effect. A page header counts as a word of its page, and the error words of FLT and the access counts of DBG are among what an access may write. -/
def Obligations.FramesOfLawsAndEngines : Prop :=
  (∀ (dt : Nat) (q : Quay) (l : Fin 8) (img : ImageRun) (s : State), FramedParts (.runStart dt q l img) s [.streams, .lanes, .taps, .gwys, .tracs, .convs, .chgs, .outbox, .vcmds]) ∧
  (∀ (dt : Nat) (q : Quay) (l : Fin 8) (s : State), Framed (.nop dt q l) s [.eng, .evs, .lane] [] [.streams, .lanes]) ∧
  (∀ (dt : Nat) (q : Quay) (l : Fin 8) (s : State), Framed (.lds dt q l) s [.cap, .eng, .evs, .lane] [] [.streams, .lanes, .taps]) ∧
  (∀ (dt : Nat) (q : Quay) (l : Fin 8) (s : State), FramedParts (.ldsRelease dt q l) s [.streams, .lanes, .taps, .gwys, .tracs, .convs, .chgs, .outbox, .vcmds]) ∧
  (∀ (dt : Nat) (q : Quay) (l : Fin 8) (s : State), Framed (.ldc dt q l) s [.eng, .evs, .lane] [] [.streams, .lanes]) ∧
  (∀ (dt : Nat) (q : Quay) (l : Fin 8) (s : State), Framed (.ldm dt q l) s [.eng, .evs, .lane] [] [.streams, .lanes]) ∧
  (∀ (dt : Nat) (q : Quay) (l : Fin 8) (s : State), Framed (.stm dt q l) s [.eng, .evs, .lane] [] [.streams, .lanes]) ∧
  (∀ (dt : Nat) (q : Quay) (l : Fin 8) (s : State), Framed (.movi dt q l) s [.eng, .evs, .lane] [] [.streams, .lanes]) ∧
  (∀ (dt : Nat) (q : Quay) (l : Fin 8) (s : State), Framed (.mulc dt q l) s [.eng, .evs, .lane] [] [.streams, .lanes]) ∧
  (∀ (dt : Nat) (q : Quay) (l : Fin 8) (s : State), Framed (.mulx dt q l) s [.eng, .evs, .lane] [] [.streams, .lanes]) ∧
  (∀ (dt : Nat) (q : Quay) (l : Fin 8) (s : State), Framed (.macc dt q l) s [.eng, .evs, .lane] [] [.streams, .lanes]) ∧
  (∀ (dt : Nat) (q : Quay) (l : Fin 8) (s : State), Framed (.rdacc dt q l) s [.eng, .evs, .lane] [] [.streams, .lanes]) ∧
  (∀ (dt : Nat) (q : Quay) (l : Fin 8) (s : State), Framed (.clra dt q l) s [.eng, .evs, .lane] [] [.streams, .lanes]) ∧
  (∀ (dt : Nat) (q : Quay) (l : Fin 8) (s : State), Framed (.add dt q l) s [.eng, .evs, .lane] [] [.streams, .lanes]) ∧
  (∀ (dt : Nat) (q : Quay) (l : Fin 8) (s : State), Framed (.sub dt q l) s [.eng, .evs, .lane] [] [.streams, .lanes]) ∧
  (∀ (dt : Nat) (q : Quay) (l : Fin 8) (s : State), Framed (.addi dt q l) s [.eng, .evs, .lane] [] [.streams, .lanes]) ∧
  (∀ (dt : Nat) (q : Quay) (l : Fin 8) (s : State), Framed (.shs dt q l) s [.eng, .evs, .lane] [] [.streams, .lanes]) ∧
  (∀ (dt : Nat) (q : Quay) (l : Fin 8) (s : State), Framed (.min dt q l) s [.eng, .evs, .lane] [] [.streams, .lanes]) ∧
  (∀ (dt : Nat) (q : Quay) (l : Fin 8) (s : State), Framed (.max dt q l) s [.eng, .evs, .lane] [] [.streams, .lanes]) ∧
  (∀ (dt : Nat) (q : Quay) (l : Fin 8) (s : State), Framed (.abs dt q l) s [.eng, .evs, .lane] [] [.streams, .lanes]) ∧
  (∀ (dt : Nat) (q : Quay) (l : Fin 8) (s : State), Framed (.neg dt q l) s [.eng, .evs, .lane] [] [.streams, .lanes]) ∧
  (∀ (dt : Nat) (q : Quay) (l : Fin 8) (s : State), Framed (.cmp dt q l) s [.eng, .evs, .lane] [] [.streams, .lanes]) ∧
  (∀ (dt : Nat) (q : Quay) (l : Fin 8) (s : State), Framed (.and dt q l) s [.eng, .evs, .lane] [] [.streams, .lanes]) ∧
  (∀ (dt : Nat) (q : Quay) (l : Fin 8) (s : State), Framed (.or dt q l) s [.eng, .evs, .lane] [] [.streams, .lanes]) ∧
  (∀ (dt : Nat) (q : Quay) (l : Fin 8) (s : State), Framed (.xor dt q l) s [.eng, .evs, .lane] [] [.streams, .lanes]) ∧
  (∀ (dt : Nat) (q : Quay) (l : Fin 8) (s : State), Framed (.sincos dt q l) s [.eng, .evs, .lane] [] [.streams, .lanes]) ∧
  (∀ (dt : Nat) (q : Quay) (l : Fin 8) (s : State), Framed (.div dt q l) s [.eng, .evs, .lane] [] [.streams, .lanes]) ∧
  (∀ (dt : Nat) (q : Quay) (l : Fin 8) (s : State), Framed (.sqrt dt q l) s [.eng, .evs, .lane] [] [.streams, .lanes]) ∧
  (∀ (dt : Nat) (q : Quay) (l : Fin 8) (s : State), Framed (.gett dt q l) s [.eng, .evs, .lane] [] [.streams, .lanes]) ∧
  (∀ (dt : Nat) (q : Quay) (l : Fin 8) (s : State), Framed (.tadd dt q l) s [.eng, .evs, .lane] [] [.streams, .lanes]) ∧
  (∀ (dt : Nat) (q : Quay) (l : Fin 8) (s : State), Framed (.taddi dt q l) s [.eng, .evs, .lane] [] [.streams, .lanes]) ∧
  (∀ (dt : Nat) (q : Quay) (l : Fin 8) (s : State), Framed (.tsub dt q l) s [.eng, .evs, .lane] [] [.streams, .lanes]) ∧
  (∀ (dt : Nat) (q : Quay) (l : Fin 8) (s : State), Framed (.edge dt q l) s [.eng, .evs, .lane] [] [.streams, .lanes, .outbox]) ∧
  (∀ (dt : Nat) (q : Quay) (l : Fin 8) (s : State), Framed (.close dt q l) s [.eng, .evs, .lane] [] [.streams, .lanes, .outbox]) ∧
  (∀ (dt : Nat) (q : Quay) (l : Fin 8) (s : State), Framed (.vcmd dt q l) s [.eng, .evs, .lane] [] [.streams, .lanes, .vcmds]) ∧
  (∀ (dt : Nat) (q : Quay) (l : Fin 8) (s : State), FramedParts (.mbx dt q l) s [.streams, .lanes]) ∧
  (∀ (dt : Nat) (q : Quay) (l : Fin 8) (s : State), FramedParts (.mbx2 dt q l) s [.streams, .lanes]) ∧
  (∀ (dt : Nat) (q : Quay) (l : Fin 8) (s : State), Framed (.tap dt q l) s [.cap, .eng, .evs, .lane] [] [.streams, .lanes, .taps]) ∧
  (∀ (dt : Nat) (q : Quay) (l : Fin 8) (s : State), Framed (.inj dt q l) s [.eng, .evs, .lane] [] [.streams, .lanes]) ∧
  (∀ (dt : Nat) (q : Quay) (l : Fin 8) (s : State), Framed (.br dt q l) s [.eng, .evs, .lane] [] [.streams, .lanes]) ∧
  (∀ (dt : Nat) (q : Quay) (l : Fin 8) (s : State), FramedParts (.endRun dt q l) s [.streams, .lanes, .gwys]) ∧
  (∀ (dt : Nat) (q : Quay) (l : Fin 8) (s : State), Framed (.runOvertime dt q l) s [.eng, .evs, .lane] [] [.streams, .lanes]) ∧
  (∀ (dt : Nat) (q : Quay) (l : Fin 8) (s : State), Framed (.runStallTimeout dt q l) s [.eng, .evs, .lane] [] [.streams, .lanes]) ∧
  (∀ (dt : Nat) (q : Quay) (l : Fin 8) (s : State), FramedParts (.runUncorr dt q l) s [.streams, .faults, .lanes, .gwys, .objs, .quays, .redS]) ∧
  (∀ (dt : Nat) (src : Src) (q : Quay) (i : Fin 65536) (w : Word) (s : State), FramedParts (.lawmemWrite dt src q i w) s []) ∧
  (∀ (dt : Nat) (src : Src) (q : Quay) (s : State), FramedParts (.sigReq dt src q) s [.free, .mem, .pages, .streams, .taps, .ques, .stores, .ports]) ∧
  (∀ (dt : Nat) (q : Quay) (s : State), Framed (.sigDone dt q) s [.eng] [] []) ∧
  (∀ (dt : Nat) (src : Src) (q : Quay) (i : Fin 256) (s : State), Framed (.mailboxPairRead dt src q i) s [.dbg, .fltr] [] [.engs]) ∧
  (∀ (dt : Nat) (tap : Fin 16) (s : State), Framed (.captureWindowClose dt tap) s [.cap] [] [.capWins]) ∧
  (∀ (dt : Nat) (q : Quay) (g : Fin 4) (s : State), Framed (.injWindowOpen dt q g) s [.inj] [] [.engs]) ∧
  (∀ (dt : Nat) (q : Quay) (g : Fin 4) (s : State), Framed (.injWindowClose dt q g) s [.inj] [] [.engs])

/-- Each of the bridge, six-step, converter, Quay and safety commands completes. It writes no register word outside the pages of the kinds and the pages listed with it, where a list of pages stands, and no other part of the chip than the parts listed: not memory, a lane, a leg or bridge cell, a queue, a fuse, the straps or the ownership token unless it is named there. Every list holds what the command may write in some state, so a word that it leaves alone in a given state is said by the statement of its effect. A page header counts as a word of its page, and the error words of FLT and the access counts of DBG are among what an access may write. -/
def Obligations.FramesOfBridgesQuaysAndSafety : Prop :=
  (∀ (dt : Nat) (n : Fin 16) (s : State), Framed (.brgCarrierStart dt n) s [.brg, .evs] [] [.streams, .brgs]) ∧
  (∀ (dt : Nat) (n : Fin 16) (dv : BitVec 8) (s : State), Framed (.bstMeasure dt n dv) s [.brg, .evs] [] [.streams, .brgs]) ∧
  (∀ (dt : Nat) (n : Fin 16) (s : State), Framed (.cpFaultSet dt n) s [.brg, .evs] [] [.streams]) ∧
  (∀ (dt : Nat) (n : Fin 16) (s : State), Framed (.cpFaultClear dt n) s [.brg, .evs] [] [.streams]) ∧
  (∀ (dt : Nat) (n : Fin 16) (high atBlank : Bool) (s : State), Framed (.vdsDetect dt n high atBlank) s [.brg, .evs, .flt8, .ssc] [] [.pages, .streams, .faults, .brgs, .sscs]) ∧
  (∀ (dt : Nat) (src : Src) (n : Fin 16) (lowH lowL : Bool) (s : State), FramedParts (.vdsClr dt src n lowH lowL) s [.free, .mem, .pages, .streams, .taps, .brgs, .ques, .stores, .ports]) ∧
  (∀ (dt : Nat) (src : Src) (n : Fin 16) (s : State), FramedParts (.brgRearm dt src n) s [.free, .mem, .pages, .streams, .taps, .brgs, .ques, .stores, .ports]) ∧
  (∀ (dt : Nat) (src : Src) (n : Fin 16) (s : State), FramedParts (.selftest dt src n) s [.free, .mem, .pages, .streams, .taps, .brgs, .ques, .stores, .ports]) ∧
  (∀ (dt : Nat) (n : Fin 16) (result : BitVec 10) (s : State), Framed (.selftestDone dt n result) s [.brg, .evs] [] [.streams, .brgs]) ∧
  (∀ (dt : Nat) (b : Fin 4) (dv : BitVec 10) (s : State), Framed (.vbrMeasure dt b dv) s [.brg, .evs, .ssc] [] [.pages, .streams, .brgs, .sscs]) ∧
  (∀ (dt : Nat) (src : Src) (u : Fin 5) (s : State), FramedParts (.sscStart dt src u) s [.free, .mem, .pages, .streams, .taps, .brgs, .sscs, .ques, .stores, .ports]) ∧
  (∀ (dt : Nat) (src : Src) (u : Fin 5) (s : State), FramedParts (.sscStop dt src u) s [.free, .mem, .pages, .streams, .taps, .brgs, .sscs, .ques, .stores, .ports]) ∧
  (∀ (dt : Nat) (src : Src) (u : Fin 5) (s : State), FramedParts (.sscFaultClr dt src u) s [.free, .mem, .pages, .streams, .taps, .brgs, .sscs, .ques, .stores, .ports]) ∧
  (∀ (dt : Nat) (u : Fin 5) (s : State), Framed (.sscCarrierStart dt u) s [.brg, .evs, .ssc] [] [.streams, .brgs, .sscs]) ∧
  (∀ (dt : Nat) (u : Fin 5) (s : State), Framed (.listenEnd dt u) s [.brg, .evs, .ssc] [] [.pages, .streams, .brgs, .sscs]) ∧
  (∀ (dt : Nat) (u : Fin 5) (phase : Fin 3) (rising : Bool) (s : State), Framed (.zeroCrossing dt u phase rising) s [.brg, .evs, .ssc] [] [.streams, .brgs, .sscs]) ∧
  (∀ (dt : Nat) (u : Fin 5) (s : State), Framed (.stepLost dt u) s [.brg, .evs, .ssc] [] [.pages, .streams, .brgs, .sscs]) ∧
  (∀ (dt : Nat) (u : Fin 5) (s : State), Framed (.commutation dt u) s [.ssc] [] [.sscs]) ∧
  (∀ (dt : Nat) (u : Fin 5) (v : BitVec 16) (s : State), Framed (.keSample dt u v) s [.brg, .evs, .ssc] [] [.pages, .streams, .brgs, .sscs]) ∧
  (∀ (dt : Nat) (u : Fin 5) (s : State), Framed (.brakeEnd dt u) s [.brg, .evs, .ssc] [] [.streams, .brgs, .sscs]) ∧
  (∀ (dt : Nat) (u : Fin 5) (s : State), Framed (.alignEnd dt u) s [.brg, .evs, .ssc] [] [.streams, .brgs, .sscs]) ∧
  (∀ (dt : Nat) (u : Fin 5) (s : State), Framed (.forcedStep dt u) s [.brg, .evs, .ssc] [] [.pages, .streams, .brgs, .sscs]) ∧
  (∀ (dt : Nat) (u : Fin 5) (s : State), Framed (.stoppingEnd dt u) s [.brg, .evs, .ssc] [] [.streams, .brgs, .sscs]) ∧
  (∀ (dt : Nat) (u : LockstepUnit) (s : State), FramedParts (.lockstepMismatch dt u) s [.streams, .faults, .lanes, .gwys, .objs, .quays, .redS]) ∧
  (∀ (dt : Nat) (q : Quay) (l : Fin 8) (s : State), FramedParts (.laneMismatch dt q l) s [.streams, .faults, .lanes, .gwys, .objs, .quays, .redS]) ∧
  (∀ (dt : Nat) (q : Quay) (unit : Fin 10) (ok : Bool) (s : State), FramedParts (.compTest dt q unit ok) s [.streams, .faults, .lanes, .gwys, .objs, .quays, .redS]) ∧
  (∀ (dt : Nat) (q : Quay) (pair : Fin 2) (ok : Bool) (s : State), FramedParts (.coreScrub dt q pair ok) s [.streams, .faults, .lanes, .gwys, .objs, .quays, .redS]) ∧
  (∀ (dt : Nat) (q : Quay) (l : Fin 8) (ok : Bool) (s : State), FramedParts (.laneScrub dt q l ok) s [.streams, .faults, .lanes, .gwys, .objs, .quays, .redS]) ∧
  (∀ (dt : Nat) (s : State), Framed (.debugHalt dt) s [.dbg, .evs, .qctl] [] [.streams, .quays]) ∧
  (∀ (dt : Nat) (single : Bool) (s : State), Framed (.debugResume dt single) s [.dbg, .evs, .lck, .qctl] [] [.streams, .quays]) ∧
  (∀ (dt : Nat) (r : BitVec 8) (v : Word) (s : State), Framed (.debugRegWrite dt r v) s [.dbg, .lck] [] [.quays]) ∧
  (∀ (dt : Nat) (src : Src) (q : Quay) (w : Fin 4) (v : Word) (s : State), FramedParts (.wdKick dt src q w v) s [.free, .mem, .pages, .streams, .faults, .taps, .gwys, .ques, .stores, .ports, .objs, .quays, .redS]) ∧
  (∀ (dt : Nat) (q : Quay) (w : Fin 4) (s : State), FramedParts (.wdTimeout dt q w) s [.streams, .faults, .gwys, .objs, .quays, .redS]) ∧
  (∀ (dt : Nat) (s : State), FramedParts (.tokenRelease dt) s [.owner, .faults, .gwys, .tracs, .convs, .chgs, .objs, .redS]) ∧
  (∀ (dt : Nat) (s : State), FramedParts (.takeover dt) s [.owner, .free, .mem, .pages, .streams, .faults, .lanes, .taps, .gwys, .ques, .stores, .ports, .redS]) ∧
  (∀ (dt : Nat) (chk : MarkerCheck) (s : State), FramedParts (.snapshotMarker dt chk) s [.streams, .faults, .gwys, .tracs, .convs, .chgs, .redS]) ∧
  (∀ (dt : Nat) (s : State), Framed (.snapshotDeadline dt) s [.evs, .flt8, .gwy, .qctl] [] [.streams, .faults, .gwys, .quays, .redS]) ∧
  (∀ (dt : Nat) (src : Src) (q : Quay) (s : State), FramedParts (.switchReq dt src q) s [.free, .mem, .pages, .streams, .taps, .ques, .stores, .ports, .redS]) ∧
  (∀ (dt : Nat) (q : Quay) (s : State), FramedParts (.quayReset dt q) s [.mem, .pages, .arbs, .streams, .lanes, .slots, .taps, .engs, .gwys, .tracs, .convs, .chgs, .objs, .quays, .outbox, .vcmds, .bootS, .seqS]) ∧
  (∀ (dt : Nat) (q : Quay) (pass : Bool) (s : State), Framed (.bistDone dt q pass) s [.flt8, .fltr, .gwy, .qctl] [] [.faults, .quays, .redS]) ∧
  (∀ (dt : Nat) (s : State), FramedParts (.bulkCopyDone dt) s [.pages, .engs, .gwys, .tracs, .convs, .chgs]) ∧
  (∀ (dt : Nat) (s : State), Framed (.singleExpire dt) s [.flt8, .qctl] [] [.faults]) ∧
  (∀ (dt : Nat) (s : State), Framed (.startupTake dt) s [.flt8, .fltr, .gwy, .qctl] [] [.owner, .faults, .quays, .redS]) ∧
  (∀ (dt : Nat) (src : Src) (q : Quay) (s : State), FramedParts (.msgSend dt src q) s [.free, .mem, .pages, .streams, .taps, .gwys, .ques, .stores, .ports]) ∧
  (∀ (dt : Nat) (q : Quay) (s : State), Framed (.msgArrive dt q) s [.gwy, .qctl] [] [.gwys]) ∧
  (∀ (dt : Nat) (src : Src) (q : Quay) (s : State), FramedParts (.msgPop dt src q) s [.free, .mem, .pages, .streams, .taps, .gwys, .ques, .stores, .ports]) ∧
  (∀ (dt : Nat) (src : Src) (q : Quay) (s : State), FramedParts (.lckForce dt src q) s [.free, .mem, .pages, .streams, .faults, .lanes, .taps, .gwys, .ques, .stores, .ports, .objs, .quays, .redS]) ∧
  (∀ (dt : Nat) (us : BitVec 16) (s : State), Framed (.kernelCycle dt us) s [.evs, .saf, .sbc, .sio] [] [.free, .pages, .streams, .safS, .brakeS]) ∧
  (∀ (dt : Nat) (s : State), Framed (.sfWatchdog dt) s [.flt8, .saf] [] [.faults, .safS]) ∧
  (∀ (dt : Nat) (id : BitVec 8) (s : State), Framed (.faultAssert dt id) s [.evs, .flt8, .saf, .sbc, .sio] [] [.streams, .faults, .safS, .brakeS]) ∧
  (∀ (dt : Nat) (src : Src) (id : BitVec 8) (s : State), FramedParts (.fltClr dt src id) s [.free, .mem, .pages, .streams, .taps, .ques, .stores, .ports]) ∧
  (∀ (dt : Nat) (failed : Bool) (s : State), Framed (.fcTest dt failed) s [.flt8] [] [.faults]) ∧
  (∀ (dt : Nat) (s : State), FramedParts (.shtDistribute dt) s [.pages, .streams, .legs, .blks, .links, .brgs, .sscs]) ∧
  (∀ (dt : Nat) (i : Fin 28) (b : Bool) (s : State), Framed (.shtWireClosed dt i b) s [] [] [.safS]) ∧
  (∀ (dt : Nat) (i : Fin 28) (s : State), FramedParts (.shtRunReport dt i) s [.pages, .streams, .legs, .links, .brgs, .sscs, .safS]) ∧
  (∀ (dt : Nat) (i : Fin 28) (a b : Bool) (s : State), Framed (.shtWireFault dt i a b) s [.evs, .flt8, .saf] [] [.streams, .faults, .safS]) ∧
  (∀ (dt : Nat) (src : Src) (mask : BitVec 7) (s : State), FramedParts (.stoReq dt src mask) s [.free, .mem, .pages, .streams, .taps, .ques, .stores, .ports, .safS]) ∧
  (∀ (dt : Nat) (src : Src) (mask : BitVec 7) (s : State), FramedParts (.ss1Req dt src mask) s [.free, .mem, .pages, .streams, .taps, .ques, .stores, .ports, .safS]) ∧
  (∀ (dt : Nat) (f : Fin 7) (s : State), Framed (.ss1Expire dt f) s [.evs, .saf, .sio] [] [.streams, .safS, .brakeS]) ∧
  (∀ (dt : Nat) (src : Src) (s : State), FramedParts (.safReset dt src) s [.free, .mem, .pages, .streams, .taps, .ques, .stores, .ports, .safS]) ∧
  (∀ (dt : Nat) (i : Fin 16) (chB level rawA rawB : Bool) (s : State), Framed (.sinFilterChange dt i chB level rawA rawB) s [.evs, .saf, .sio] [] [.streams, .sins, .safS]) ∧
  (∀ (dt : Nat) (i : Fin 16) (s : State), Framed (.sinDiscrepant dt i) s [.evs, .saf, .sio] [] [.streams, .sins]) ∧
  (∀ (dt : Nat) (i : Fin 16) (chB : Bool) (s : State), Framed (.sinChanLost dt i chB) s [.evs, .saf, .sio] [] [.streams, .sins, .safS]) ∧
  (∀ (dt : Nat) (src : Src) (mask : BitVec 16) (s : State), FramedParts (.sinFaultClr dt src mask) s [.free, .mem, .pages, .streams, .taps, .ques, .stores, .ports, .sins, .safS]) ∧
  (∀ (dt : Nat) (i : Fin 16) (s : State), Framed (.degrExpire dt i) s [.evs, .flt8, .sio] [] [.streams, .faults]) ∧
  (∀ (dt : Nat) (src : Src) (on : BitVec 8) (s : State), FramedParts (.soutCmd dt src on) s [.free, .mem, .pages, .streams, .taps, .ques, .stores, .ports]) ∧
  (∀ (dt : Nat) (j : Fin 8) (low high : Bool) (missA missB : BitVec 16) (s : State), Framed (.soutTestPulse dt j low high missA missB) s [.evs, .flt8, .sio] [] [.streams, .faults, .sins]) ∧
  (∀ (dt : Nat) (src : Src) (mask high : BitVec 8) (s : State), FramedParts (.soutFaultClr dt src mask high) s [.free, .mem, .pages, .streams, .taps, .ques, .stores, .ports]) ∧
  (∀ (dt : Nat) (src : Src) (s : State), FramedParts (.sbcRelease dt src) s [.free, .mem, .pages, .streams, .taps, .ques, .stores, .ports]) ∧
  (∀ (dt : Nat) (src : Src) (s : State), FramedParts (.sbcEngage dt src) s [.free, .mem, .pages, .streams, .taps, .ques, .stores, .ports, .brakeS]) ∧
  (∀ (dt : Nat) (s : State), Framed (.sbcDelayExpire dt) s [.evs, .sbc] [] [.streams, .brakeS]) ∧
  (∀ (dt : Nat) (low pulse : Bool) (rb : BitVec 2) (s : State), Framed (.sbcTestPulse dt low pulse rb) s [.evs, .flt8, .sbc] [] [.streams, .faults, .brakeS]) ∧
  (∀ (dt : Nat) (src : Src) (s : State), FramedParts (.btStart dt src) s [.free, .mem, .pages, .streams, .taps, .ques, .stores, .ports, .brakeS]) ∧
  (∀ (dt : Nat) (s : State), Framed (.btSettleEnd dt) s [] [] [.brakeS]) ∧
  (∀ (dt : Nat) (s : State), Framed (.btWindowEnd dt) s [.evs, .flt8, .sbc] [] [.streams, .faults, .brakeS]) ∧
  (∀ (dt : Nat) (s : State), Framed (.btOverdue dt) s [.flt8, .sbc] [] [.faults]) ∧
  (∀ (dt : Nat) (a b : BitVec 16) (s : State), Framed (.sealRead dt a b) s [.evs, .flt8, .saf, .seal] [] [.pages, .streams, .faults, .sealS]) ∧
  (∀ (dt : Nat) (src : Src) (s : State), FramedParts (.sealProgram dt src) s [.free, .mem, .pages, .streams, .taps, .ques, .stores, .ports, .sealS]) ∧
  (∀ (dt : Nat) (a : BitVec 16) (s : State), Framed (.sealProgDone dt a) s [.evs, .seal] [] [.pages, .streams, .fuse, .sealS]) ∧
  (∀ (dt : Nat) (s : State), Framed (.channelBEnableLapse dt) s [.evs, .saf] [] [.streams, .safS])

/-- Each of the queue, bus, host, boot and supply commands completes. It writes no register word outside the pages of the kinds and the pages listed with it, where a list of pages stands, and no other part of the chip than the parts listed: not memory, a lane, a leg or bridge cell, a queue, a fuse, the straps or the ownership token unless it is named there. Every list holds what the command may write in some state, so a word that it leaves alone in a given state is said by the statement of its effect. A page header counts as a word of its page, and the error words of FLT and the access counts of DBG are among what an access may write. -/
def Obligations.FramesOfBasinBusesAndSupply : Prop :=
  (∀ (dt : Nat) (src : BitVec 20) (corr : Nat) (s : State), FramedParts (.evsFifoDrain dt src corr) s [.free, .mem, .pages, .arbs, .streams, .taps, .ques, .stores, .ports]) ∧
  (∀ (dt : Nat) (q : Quay) (tap : Fin 16) (corr : Nat) (s : State), FramedParts (.tapFifoDrain dt q tap corr) s [.free, .mem, .pages, .arbs, .streams, .taps, .ques, .stores, .ports]) ∧
  (∀ (dt : Nat) (src : Src) (n : Fin 64) (corr : Nat) (s : State), FramedParts (.pushOpen dt src n corr) s [.free, .mem, .pages, .streams, .taps, .ques, .stores, .ports]) ∧
  (∀ (dt : Nat) (src : Src) (n : Fin 64) (v : Word) (corr : Nat) (s : State), FramedParts (.pushData dt src n v corr) s [.free, .mem, .pages, .streams, .taps, .ques, .stores, .ports]) ∧
  (∀ (dt : Nat) (n : Fin 64) (s : State), FramedParts (.pushHoldExpire dt n) s [.free, .mem, .pages, .streams, .taps, .ques, .stores, .ports]) ∧
  (∀ (dt : Nat) (src : Src) (n : Fin 64) (corr : Nat) (s : State), FramedParts (.pushClose dt src n corr) s [.free, .mem, .pages, .streams, .taps, .ques, .stores, .ports]) ∧
  (∀ (dt : Nat) (i : Fin 8) (corr : Nat) (s : State), FramedParts (.portWordWrite dt i corr) s [.free, .mem, .pages, .arbs, .streams, .taps, .ques, .stores, .ports]) ∧
  (∀ (dt : Nat) (src : Src) (n : Fin 64) (ecc : Fin 3) (corr : Nat) (s : State), FramedParts (.popData dt src n ecc corr) s [.free, .mem, .pages, .streams, .taps, .ques, .stores, .ports]) ∧
  (∀ (dt : Nat) (src : Src) (n : Fin 64) (corr : Nat) (s : State), FramedParts (.popSkip dt src n corr) s [.free, .mem, .pages, .streams, .taps, .ques, .stores, .ports]) ∧
  (∀ (dt : Nat) (src : Src) (n : Fin 64) (corr : Nat) (s : State), FramedParts (.queFlush dt src n corr) s [.free, .mem, .pages, .streams, .taps, .ques, .stores, .ports]) ∧
  (∀ (dt : Nat) (n : Fin 64) (uncorr : Nat) (s : State), FramedParts (.queReset dt n uncorr) s [.free, .mem, .pages, .streams, .taps, .ques, .stores, .ports]) ∧
  (∀ (dt : Nat) (st : Fin 2) (bad : List Nat) (corr : List (Option (Fin 64))) (uncorr : Nat) (s : State), FramedParts (.sweepDone dt st bad corr uncorr) s [.free, .mem, .pages, .streams, .taps, .ques, .stores, .ports]) ∧
  (∀ (dt : Nat) (st : Fin 2) (s : State), Framed (.freelistRebuild dt st) s [.bsn, .que] [] [.stores]) ∧
  (∀ (dt : Nat) (st : Fin 2) (bad : List Nat) (corr : List (Option (Fin 64))) (uncorr : Nat) (s : State), FramedParts (.rebuildDone dt st bad corr uncorr) s [.free, .mem, .pages, .streams, .taps, .ques, .stores, .ports]) ∧
  (∀ (dt : Nat) (n : Fin 6) (f : CanFrame) (s : State), Framed (.canRxFrame dt n f) s [.can, .evs, .obj] [] [.free, .streams, .ports, .cans, .objs]) ∧
  (∀ (dt : Nat) (src : Src) (n : Fin 6) (s : State), FramedParts (.canSend dt src n) s [.free, .mem, .pages, .streams, .taps, .ques, .stores, .ports, .objs]) ∧
  (∀ (dt : Nat) (src : Src) (n : Fin 6) (bus : Bool) (s : State), FramedParts (.canAbort dt src n bus) s [.free, .mem, .pages, .streams, .taps, .ques, .stores, .ports, .cans, .objs]) ∧
  (∀ (dt : Nat) (n : Fin 6) (sof delay : Nat) (s : State), Framed (.canTxDone dt n sof delay) s [.can, .evs, .obj] [] [.free, .streams, .ports, .cans, .objs]) ∧
  (∀ (dt : Nat) (n : Fin 6) (sof : Nat) (lost : Bool) (s : State), Framed (.canAttemptFail dt n sof lost) s [.can, .evs, .obj] [] [.streams, .cans, .objs]) ∧
  (∀ (dt : Nat) (src : Src) (n : Fin 6) (v : Word) (bus : Bool) (s : State), FramedParts (.objCfgWrite dt src n v bus) s [.free, .mem, .pages, .streams, .taps, .ques, .stores, .ports, .cans, .objs]) ∧
  (∀ (dt : Nat) (src : Src) (n : Fin 6) (s : State), FramedParts (.objHeadRead dt src n) s [.free, .mem, .pages, .streams, .taps, .ques, .stores, .ports, .objs]) ∧
  (∀ (dt : Nat) (src : Src) (n : Fin 6) (s : State), FramedParts (.objLastRead dt src n) s [.free, .mem, .pages, .streams, .taps, .ques, .stores, .ports, .objs]) ∧
  (∀ (dt : Nat) (src : Src) (n : Fin 6) (s : State), FramedParts (.objRelease dt src n) s [.free, .mem, .pages, .streams, .taps, .ques, .stores, .ports, .objs]) ∧
  (∀ (dt : Nat) (n : Fin 6) (lec : Fin 8) (kind : CanErrorKind) (s : State), Framed (.canBusError dt n lec kind) s [.can, .evs, .obj] [] [.streams, .cans, .objs]) ∧
  (∀ (dt : Nat) (src : Src) (n : Fin 6) (s : State), FramedParts (.canRecover dt src n) s [.free, .mem, .pages, .streams, .taps, .ques, .stores, .ports, .cans]) ∧
  (∀ (dt : Nat) (n : Fin 6) (s : State), Framed (.canRecovered dt n) s [.can, .evs] [] [.streams, .cans]) ∧
  (∀ (dt : Nat) (n : Fin 6) (corr bad : Nat) (s : State), FramedParts (.canTxqTake dt n corr bad) s [.free, .mem, .pages, .streams, .taps, .ques, .stores, .ports, .cans, .objs]) ∧
  (∀ (dt : Nat) (n : Fin 6) (s : State), Framed (.refMsgDue dt n) s [.can] [] [.cans]) ∧
  (∀ (dt : Nat) (n : Fin 6) (s : State), Framed (.refMsgDrop dt n) s [.can] [] [.cans]) ∧
  (∀ (dt : Nat) (n : Fin 6) (j : Fin 128) (s : State), Framed (.ttWindowOpen dt n j) s [.obj] [] [.objs]) ∧
  (∀ (dt : Nat) (n : Fin 6) (j : Fin 128) (started : Bool) (s : State), Framed (.ttWindowEnd dt n j started) s [.can, .evs, .obj] [] [.streams, .cans, .objs]) ∧
  (∀ (dt : Nat) (n : Fin 2) (stamp : Nat) (good : Bool) (bs : List Byte) (s : State), Framed (.ethRxFrame dt n stamp good bs) s [.eth] [] [.ports]) ∧
  (∀ (dt : Nat) (n : Fin 2) (stamp : Nat) (fine : Fin 8) (corr bad : Nat) (s : State), FramedParts (.ethTxFrame dt n stamp fine corr bad) s [.free, .mem, .pages, .streams, .taps, .ques, .stores, .ports, .eths]) ∧
  (∀ (dt : Nat) (n : Fin 2) (up : Bool) (s : State), Framed (.ethLinkChange dt n up) s [.eth, .evs] [] [.streams]) ∧
  (∀ (dt : Nat) (src : Src) (n : Fin 2) (s : State), FramedParts (.syncApply dt src n) s [.free, .mem, .pages, .streams, .taps, .ques, .stores, .ports, .eths, .tideS]) ∧
  (∀ (dt : Nat) (img : BootImage) (s : State), Framed (.bootStart dt img) s [.evs, .flt8, .saf, .seal, .sio, .xsp] [] [.streams, .sins, .bootS, .safS]) ∧
  (∀ (dt : Nat) (readOk : Bool) (bytes : List Byte) (s : State), Framed (.bootLoad dt readOk bytes) s [.flt8, .saf, .seal, .xsp] [] [.mem, .bootS, .safS]) ∧
  (∀ (dt : Nat) (s : State), Framed (.bootFail dt) s [.flt8, .saf, .seal, .xsp] [] [.bootS, .safS]) ∧
  (∀ (dt : Nat) (dest : BitVec 48) (etype : BitVec 16) (off : Word) (bs : List Byte) (s : State), Framed (.bootEthFrame dt dest etype off bs) s [] [] [.bootS]) ∧
  (∀ (dt : Nat) (s : State), Framed (.bootEthTimeout dt) s [.flt8, .saf, .seal, .xsp] [] [.bootS, .safS]) ∧
  (∀ (dt : Nat) (q : Quay) (s : State), Framed (.quayReload dt q) s [.xsp] [] [.bootS]) ∧
  (∀ (dt : Nat) (img : BootImage) (bs : List Byte) (s : State), Framed (.quayReloadDone dt img bs) s [.xsp] [] [.mem, .bootS]) ∧
  (∀ (dt : Nat) (src : Src) (s : State), FramedParts (.rollbackBurn dt src) s [.free, .mem, .pages, .streams, .taps, .ques, .stores, .ports, .fuse]) ∧
  (∀ (dt : Nat) (src : Src) (mask : BitVec 4) (s : State), FramedParts (.revoke dt src mask) s [.free, .mem, .pages, .streams, .taps, .ques, .stores, .ports, .fuse]) ∧
  (∀ (dt : Nat) (src : Src) (s : State), FramedParts (.xspGo dt src) s [.free, .mem, .pages, .streams, .taps, .ques, .stores, .ports, .bootS]) ∧
  (∀ (dt : Nat) (data : List Byte) (s : State), Framed (.xspCmdDone dt data) s [.xsp] [] [.bootS]) ∧
  (∀ (dt : Nat) (s : State), Framed (.debugPortOpen dt) s [.dbg, .evs] [] [.streams, .dbgS]) ∧
  (∀ (dt : Nat) (src : Src) (core : Fin 8) (s : State), FramedParts (.dbgAttach dt src core) s [.free, .mem, .pages, .streams, .taps, .ques, .stores, .ports]) ∧
  (∀ (dt : Nat) (ins : Fin 3) (s : State), Framed (.scanInstruction dt ins) s [] [] [.dbgS]) ∧
  (∀ (dt : Nat) (s : State), Framed (.tapReset dt) s [] [] [.dbgS]) ∧
  (∀ (dt : Nat) (last unstable : BitVec 16) (s : State), FramedParts (.strapLatch dt last unstable) s [.strap, .seqS]) ∧
  (∀ (dt : Nat) (s : State), Framed (.porRelease dt) s [.pwr] [] [.seqS]) ∧
  (∀ (dt : Nat) (good : Bool) (us : Fin 101) (s : State), Framed (.seqDomainOn dt good us) s [.pwr] [] [.seqS]) ∧
  (∀ (dt : Nat) (s : State), FramedParts (.tideStart dt) s [.tideOn, .faults]) ∧
  (∀ (dt : Nat) (rail : Fin 4) (mv : BitVec 13) (s : State), FramedParts (.supWarn dt rail mv) s [.free, .mem, .pages, .streams, .legs, .blks, .links, .faults, .temps, .taps, .gwys, .ques, .stores, .ports, .objs, .quays, .safS, .seqS, .redS]) ∧
  (∀ (dt : Nat) (src : Src) (on off : BitVec 14) (s : State), FramedParts (.domOnReq dt src on off) s [.free, .mem, .pages, .streams, .legs, .blks, .links, .faults, .adcs, .dsfs, .tsns, .temps, .lanes, .slots, .taps, .engs, .gwys, .poss, .emus, .brgs, .sscs, .ques, .stores, .ports, .cans, .objs, .eths, .sins, .tideS, .cplS, .capWins, .cnvS, .safS, .brakeS, .sealS, .seqS]) ∧
  (∀ (dt : Nat) (src : Src) (off : BitVec 14) (s : State), FramedParts (.domOffReq dt src off) s [.free, .mem, .pages, .streams, .legs, .blks, .links, .faults, .adcs, .dsfs, .tsns, .temps, .lanes, .slots, .taps, .engs, .gwys, .poss, .emus, .brgs, .sscs, .ques, .stores, .ports, .cans, .objs, .eths, .sins, .tideS, .cplS, .capWins, .cnvS, .safS, .brakeS, .sealS, .seqS]) ∧
  (∀ (dt : Nat) (dom : Fin 14) (us : Fin 101) (s : State), FramedParts (.domGood dt dom us) s [.free, .mem, .pages, .streams, .legs, .blks, .links, .faults, .adcs, .dsfs, .tsns, .temps, .lanes, .slots, .taps, .engs, .gwys, .poss, .emus, .brgs, .sscs, .ques, .stores, .ports, .cans, .objs, .eths, .sins, .tideS, .cplS, .capWins, .cnvS, .safS, .brakeS, .sealS, .seqS]) ∧
  (∀ (dt : Nat) (dom : Fin 14) (s : State), Framed (.domRampTimeout dt dom) s [.evs, .flt8, .pwr] [] [.streams, .faults, .seqS]) ∧
  (∀ (dt : Nat) (dom : Fin 14) (s : State), FramedParts (.domOutOfRange dt dom) s [.free, .mem, .pages, .streams, .legs, .blks, .links, .faults, .temps, .taps, .gwys, .ques, .stores, .ports, .objs, .quays, .safS, .seqS, .redS]) ∧
  (∀ (dt : Nat) (i : Fin 6) (lost : Bool) (khz : BitVec 22) (s : State), FramedParts (.pllFail dt i lost khz) s [.streams, .faults, .gwys, .objs, .quays, .redS]) ∧
  (∀ (dt : Nat) (khz : BitVec 18) (s : State), Framed (.safeOscMismatch dt khz) s [.clk, .flt8] [] [.faults]) ∧
  (∀ (dt : Nat) (src : Src) (s : State), FramedParts (.sysReset dt src) s [.free, .mem, .pages, .streams, .taps, .ques, .stores, .ports, .seqS]) ∧
  (∀ (dt : Nat) (live : BitVec 16) (s : State), Framed (.strapChanged dt live) s [.evs, .strp] [] [.streams])
end

