-- ==== Sys2Proof/Laws/Bits.lean ====
section
/-! SUPPORT. Bit fields of a word: what a field reads after a field is set, and after a mask. -/

namespace Sys2Proof

/-- A field is decided by its bits. -/
theorem Word.bits_ext (w x : Word) (lo n : Nat) (h : ∀ i, i < n → w.getLsbD (lo + i) = x.getLsbD (lo + i)) :
    w.bits lo n = x.bits lo n := by
  apply Nat.eq_of_testBit_eq
  intro i
  simp only [Word.bits, Nat.testBit_mod_two_pow, Nat.testBit_div_two_pow]
  by_cases hi : i < n
  · have := h i hi
    simp only [BitVec.getLsbD] at this
    simp [hi, Nat.add_comm i lo, this]
  · simp [hi]

/-- A field that was set reads the value set. -/
theorem Word.bits_setBits (w : Word) (lo n v : Nat) (h : lo + n ≤ 32) : (w.setBits lo n v).bits lo n = v % 2 ^ n := by
  have h32 : 2 ^ (lo + n) * 2 ^ (32 - (lo + n)) = 2 ^ 32 := by rw [← Nat.pow_add]; congr 1; omega
  have hw : w.toNat < 2 ^ 32 := w.isLt
  have hsum : w.toNat % 2 ^ lo + 2 ^ lo * (v % 2 ^ n) + 2 ^ (lo + n) * (w.toNat / 2 ^ (lo + n)) < 2 ^ 32 := by
    have h1 : w.toNat % 2 ^ lo < 2 ^ lo := Nat.mod_lt _ (Nat.two_pow_pos _)
    have h2 : v % 2 ^ n < 2 ^ n := Nat.mod_lt _ (Nat.two_pow_pos _)
    have h3 : 2 ^ lo * (v % 2 ^ n) + 2 ^ lo ≤ 2 ^ (lo + n) := by
      rw [Nat.pow_add, ← Nat.mul_succ]; exact Nat.mul_le_mul_left _ h2
    have h4 : w.toNat / 2 ^ (lo + n) < 2 ^ (32 - (lo + n)) := Nat.div_lt_of_lt_mul (by rw [h32]; exact hw)
    calc _ < 2 ^ (lo + n) + 2 ^ (lo + n) * (w.toNat / 2 ^ (lo + n)) := by omega
      _ = 2 ^ (lo + n) * (w.toNat / 2 ^ (lo + n) + 1) := by rw [Nat.mul_succ, Nat.add_comm]
      _ ≤ 2 ^ (lo + n) * 2 ^ (32 - (lo + n)) := Nat.mul_le_mul_left _ h4
      _ = 2 ^ 32 := h32
  simp only [Word.bits, Word.setBits, BitVec.toNat_ofNat, Nat.mod_eq_of_lt hsum]
  have hlo : 0 < 2 ^ lo := Nat.two_pow_pos _
  rw [show w.toNat % 2 ^ lo + 2 ^ lo * (v % 2 ^ n) + 2 ^ (lo + n) * (w.toNat / 2 ^ (lo + n)) =
      w.toNat % 2 ^ lo + 2 ^ lo * (v % 2 ^ n + 2 ^ n * (w.toNat / 2 ^ (lo + n))) by
      rw [Nat.pow_add, Nat.mul_add, Nat.mul_assoc, Nat.add_assoc],
    Nat.add_mul_div_left _ _ hlo, Nat.div_eq_of_lt (Nat.mod_lt _ hlo), Nat.zero_add, Nat.add_mul_mod_self_left, Nat.mod_mod]

/-- Setting a field leaves the bits outside it. -/
theorem Word.getLsbD_setBits (w : Word) (lo n v i : Nat) (hi : i < 32) (h : i < lo ∨ lo + n ≤ i) :
    (w.setBits lo n v).getLsbD i = w.getLsbD i := by
  rw [Word.setBits, BitVec.getLsbD_ofNat]
  simp only [hi, decide_true, Bool.true_and, BitVec.getLsbD]
  have hlo : 0 < 2 ^ lo := Nat.two_pow_pos _
  rcases h with h | h
  · rw [show w.toNat % 2 ^ lo + 2 ^ lo * (v % 2 ^ n) + 2 ^ (lo + n) * (w.toNat / 2 ^ (lo + n)) =
      2 ^ lo * (v % 2 ^ n + 2 ^ n * (w.toNat / 2 ^ (lo + n))) + w.toNat % 2 ^ lo by
        rw [Nat.pow_add, Nat.mul_add, Nat.mul_assoc]; omega,
      Nat.testBit_two_pow_mul_add _ (Nat.mod_lt _ hlo), if_pos h, Nat.testBit_mod_two_pow]
    simp [h]
  · have hv : w.toNat % 2 ^ lo + 2 ^ lo * (v % 2 ^ n) < 2 ^ (lo + n) := by
      have h1 : w.toNat % 2 ^ lo < 2 ^ lo := Nat.mod_lt _ hlo
      have h2 : v % 2 ^ n < 2 ^ n := Nat.mod_lt _ (Nat.two_pow_pos _)
      have h3 : 2 ^ lo * (v % 2 ^ n) + 2 ^ lo ≤ 2 ^ lo * 2 ^ n := by rw [← Nat.mul_succ]; exact Nat.mul_le_mul_left _ h2
      rw [Nat.pow_add]; omega
    rw [Nat.add_comm, Nat.testBit_two_pow_mul_add _ hv, if_neg (by omega), Nat.testBit_div_two_pow]
    congr 1; omega

/-- Setting a field leaves every field that shares no bit with it. -/
theorem Word.bits_setBits_other (w : Word) (lo n v lo' n' : Nat) (h' : lo' + n' ≤ 32) (h : lo' + n' ≤ lo ∨ lo + n ≤ lo') :
    (w.setBits lo n v).bits lo' n' = w.bits lo' n' :=
  Word.bits_ext _ _ _ _ fun i hi => Word.getLsbD_setBits w lo n v (lo' + i) (by omega) (by omega)

/-- A field smaller than its limit. -/
theorem Word.bits_lt (w : Word) (lo n : Nat) : w.bits lo n < 2 ^ n := Nat.mod_lt _ (Nat.two_pow_pos _)

end Sys2Proof
end

