-- ==== Sys2Proof/Laws/SMap.lean ====
section
/-! SUPPORT. Laws of sparse maps: what a key reads after each operation, and that each operation keeps the canonical form. -/

namespace Sys2Proof

variable {α : Type}

@[simp] theorem SMap.get_nil (d : Nat → α) (a : Nat) : SMap.get d [] a = d a := rfl

theorem SMap.get_cons (d : Nat → α) (k : Nat) (v : α) (m : SMap α) (a : Nat) :
    SMap.get d ((k, v) :: m) a = if k = a then v else SMap.get d m a := rfl

/-- An erased key reads its default; every other key reads as before. -/
@[simp] theorem SMap.get_erase (d : Nat → α) (p : Nat → Bool) (m : SMap α) (a : Nat) :
    SMap.get d (SMap.erase p m) a = if p a then d a else SMap.get d m a := by
  induction m with
  | nil => simp [SMap.erase]
  | cons e m ih =>
    obtain ⟨k, v⟩ := e
    by_cases hk : p k <;> by_cases ha : k = a
    · subst ha; simp [SMap.erase, hk, ih]
    · simp [SMap.erase, hk, ih, SMap.get_cons, ha]
    · subst ha; simp [SMap.erase, hk, SMap.get_cons]
    · simp [SMap.erase, hk, ih, SMap.get_cons, ha]

/-- The map lists no entry for a key. -/
theorem SMap.get_insert (d : Nat → α) (m : SMap α) (a : Nat) (v : α) (b : Nat) (h : a ∉ m.keys) :
    SMap.get d (SMap.insert a v m) b = if b = a then v else SMap.get d m b := by
  induction m with
  | nil => simp [SMap.insert, SMap.get_cons, eq_comm]
  | cons e m ih =>
    obtain ⟨k, w⟩ := e
    have hk : a ≠ k := fun e => h (by simp [SMap.keys, e])
    have hm : a ∉ SMap.keys m := fun e => h (by simp only [SMap.keys, List.map_cons, List.mem_cons]; exact .inr e)
    by_cases hlt : a < k
    · simp [SMap.insert, hlt, SMap.get_cons, eq_comm]
    · simp only [SMap.insert, hlt, if_false, SMap.get_cons, ih hm]
      by_cases hb : b = a
      · subst hb; simp [Ne.symm hk]
      · simp [hb]

theorem SMap.not_mem_keys_erase (m : SMap α) (a : Nat) : a ∉ (SMap.erase (fun k => k == a) m).keys := by
  induction m with
  | nil => simp [SMap.erase, SMap.keys]
  | cons e m ih =>
    obtain ⟨k, v⟩ := e
    by_cases hk : k = a
    · simpa [SMap.erase, hk] using ih
    · have : ¬ (a = k) := fun e => hk e.symm
      simp only [SMap.keys] at ih
      simp [SMap.erase, hk, SMap.keys, this]
      simpa using ih

/-- A write is read back at its key and leaves every other key alone. -/
@[simp] theorem SMap.get_put [DecidableEq α] (d : Nat → α) (m : SMap α) (a : Nat) (v : α) (b : Nat) :
    SMap.get d (SMap.put d m a v) b = if b = a then v else SMap.get d m b := by
  unfold SMap.put
  split
  · next h => simp only [SMap.get_erase]; by_cases hb : b = a <;> simp [hb, h]
  · next h =>
    rw [SMap.get_insert d _ a v b (SMap.not_mem_keys_erase m a)]
    by_cases hb : b = a <;> simp [hb]

/-! ### The canonical form -/

variable [DecidableEq α]

theorem SMap.wfAbove_weaken {d : Nat → α} {b x : Option Nat} {m : SMap α}
    (hx : ∀ n, x = some n → ∃ k, b = some k ∧ n ≤ k) (h : SMap.wfAbove d b m = true) : SMap.wfAbove d x m = true := by
  cases m with
  | nil => rfl
  | cons e m =>
    obtain ⟨k, v⟩ := e
    simp only [SMap.wfAbove, Bool.and_eq_true] at h ⊢
    refine ⟨⟨?_, h.1.2⟩, h.2⟩
    cases x with
    | none => rfl
    | some n =>
      obtain ⟨j, hj, hn⟩ := hx n rfl
      subst hj
      have := h.1.1
      simp only [decide_eq_true_eq] at this ⊢
      omega

/-- Erasing keys keeps the canonical form above any bound. -/
theorem SMap.wfAbove_erase (d : Nat → α) (p : Nat → Bool) (b : Option Nat) (m : SMap α) (h : SMap.wfAbove d b m = true) :
    SMap.wfAbove d b (SMap.erase p m) = true := by
  induction m generalizing b with
  | nil => rfl
  | cons e m ih =>
    obtain ⟨k, v⟩ := e
    by_cases hk : p k
    · have hw : SMap.wfAbove d b m = true := by
        have h' := h
        simp only [SMap.wfAbove, Bool.and_eq_true] at h'
        refine SMap.wfAbove_weaken (b := some k) ?_ h'.2
        intro n hn; subst hn
        have := h'.1.1
        simp only [decide_eq_true_eq] at this
        exact ⟨k, rfl, by omega⟩
      simpa [SMap.erase, hk] using ih b hw
    · simp only [SMap.wfAbove, Bool.and_eq_true] at h
      simp only [SMap.erase, hk, Bool.false_eq_true, if_false, SMap.wfAbove, Bool.and_eq_true]
      exact ⟨h.1, ih (some k) h.2⟩

theorem SMap.wfAbove_insert (d : Nat → α) (b : Option Nat) (m : SMap α) (a : Nat) (v : α) (hv : v ≠ d a)
    (hb : ∀ n, b = some n → n < a) (hm : a ∉ m.keys) (h : SMap.wfAbove d b m = true) :
    SMap.wfAbove d b (SMap.insert a v m) = true := by
  induction m generalizing b with
  | nil => cases b <;> simp_all [SMap.insert, SMap.wfAbove]
  | cons e m ih =>
    obtain ⟨k, w⟩ := e
    simp only [SMap.keys, List.map_cons, List.mem_cons, not_or] at hm
    simp only [SMap.wfAbove, Bool.and_eq_true] at h
    by_cases hlt : a < k
    · simp only [SMap.insert, hlt, if_true, SMap.wfAbove, Bool.and_eq_true, decide_eq_true_eq]
      refine ⟨⟨?_, hv⟩, ⟨trivial, by simpa using h.1.2⟩, h.2⟩
      cases b with
      | none => rfl
      | some n => simpa using hb n rfl
    · simp only [SMap.insert, hlt, if_false, SMap.wfAbove, Bool.and_eq_true]
      refine ⟨h.1, ih (some k) ?_ hm.2 h.2⟩
      intro n hn; cases hn; have := hm.1; omega

/-- Erasing keys keeps the canonical form. -/
theorem SMap.wf_erase (d : Nat → α) (p : Nat → Bool) (m : SMap α) (h : SMap.wf d m = true) : SMap.wf d (SMap.erase p m) = true :=
  SMap.wfAbove_erase d p none m h

/-- A write keeps the canonical form. -/
theorem SMap.wf_put (d : Nat → α) (m : SMap α) (a : Nat) (v : α) (h : SMap.wf d m = true) : SMap.wf d (SMap.put d m a v) = true := by
  unfold SMap.put
  split
  · exact SMap.wf_erase d _ m h
  · next hv => exact SMap.wfAbove_insert d none _ a v hv (by simp) (SMap.not_mem_keys_erase m a) (SMap.wf_erase d _ m h)

end Sys2Proof
end

