-- ==== Sys2Proof/Laws/State.lean ====
section
/-! SUPPORT. What each update of the chip leaves in each field: every field, after every primitive write; and what an effect does to the chip, by its shape. -/

namespace Sys2Proof.Machine

open Sys2Proof

/-! ### Effects by their shape -/

@[simp] theorem Act.run_skip (c : Chip) : Act.skip.run c = c := rfl
@[simp] theorem Act.run_prim (p : Prim) (c : Chip) : (Act.prim p).run c = p.run c := rfl
@[simp] theorem Act.run_seq (a b : Act) (c : Chip) : (Act.seq a b).run c = b.run (a.run c) := rfl
@[simp] theorem Act.run_dyn (f : Chip → Act) (c : Chip) : (Act.dyn f).run c = (f c).run c := rfl
@[simp] theorem seqs_nil : seqs [] = Act.skip := rfl
@[simp] theorem seqs_cons (a : Act) (as : List Act) : seqs (a :: as) = .seq a (seqs as) := rfl
@[simp] theorem when_true (a : Act) : when true a = a := rfl
@[simp] theorem when_false (a : Act) : when false a = .skip := rfl
@[simp] theorem whenC_run (b : Chip → Bool) (a : Act) (c : Chip) : (whenC b a).run c = if b c then a.run c else c := by
  cases h : b c <;> simp [whenC, h]
@[simp] theorem each_nil {α : Type} (f : α → Act) : each [] f = Act.skip := rfl
@[simp] theorem each_cons {α : Type} (x : α) (l : List α) (f : α → Act) : each (x :: l) f = .seq (f x) (each l f) := rfl

theorem Act.run_ite (b : Prop) [Decidable b] (x y : Act) (c : Chip) : (if b then x else y).run c = if b then x.run c else y.run c := by
  split <;> rfl

/-- A command that acts ends in a next state, with the queue as it was. -/
theorem State.act_next (s : State) (dt : Nat) (a : Act) :
    s.act dt a = .next { s with chip := a.run ((Prim.elapse dt).run s.chip) } := rfl

/-! ### Fields of the chip after a primitive write -/

@[simp] theorem Prim.run_now (p : Prim) (c : Chip) : (p.run c).now = match p with
      | .elapse n => c.now + n
      | .until_ t => if c.tideOn && decide (c.tide.toNat < t) then c.now + (t - c.tide.toNat) else c.now
      | _ => c.now := by
  cases p <;> first | rfl | (simp only [Prim.run]; split <;> rfl)

@[simp] theorem Prim.run_tide (p : Prim) (c : Chip) : (p.run c).tide = match p with
      | .elapse n => if c.tideOn then c.tide + BitVec.ofNat 64 n else c.tide
      | .until_ t => if c.tideOn && decide (c.tide.toNat < t) then BitVec.ofNat 64 t else c.tide
      | .tideRun _ => 0
      | .por => 0
      | _ => c.tide := by
  cases p <;> first | rfl | (simp only [Prim.run]; split <;> rfl)

@[simp] theorem Prim.run_tideOn (p : Prim) (c : Chip) : (p.run c).tideOn = match p with
      | .tideRun on => on
      | .por => false
      | _ => c.tideOn := by
  cases p <;> first | rfl | (simp only [Prim.run]; split <;> rfl)

@[simp] theorem Prim.run_strap (p : Prim) (c : Chip) : (p.run c).strap = match p with
      | .strap v => v
      | _ => c.strap := by
  cases p <;> first | rfl | (simp only [Prim.run]; split <;> rfl)

@[simp] theorem Prim.run_owner (p : Prim) (c : Chip) : (p.run c).owner = match p with
      | .owner q => q
      | .por => none
      | _ => c.owner := by
  cases p <;> first | rfl | (simp only [Prim.run]; split <;> rfl)

@[simp] theorem Prim.run_resp (p : Prim) (c : Chip) : (p.run c).resp = match p with
      | .answer r _ => r
      | .por => 0
      | _ => c.resp := by
  cases p <;> first | rfl | (simp only [Prim.run]; split <;> rfl)

@[simp] theorem Prim.run_rdata (p : Prim) (c : Chip) : (p.run c).rdata = match p with
      | .answer _ d => d
      | .por => 0
      | _ => c.rdata := by
  cases p <;> first | rfl | (simp only [Prim.run]; split <;> rfl)

@[simp] theorem Prim.run_free (p : Prim) (c : Chip) : (p.run c).free = match p with
      | .freeNext => c.free + 1
      | _ => c.free := by
  cases p <;> first | rfl | (simp only [Prim.run]; split <;> rfl)

@[simp] theorem Prim.run_regs (p : Prim) (c : Chip) : (p.run c).regs = match p with
      | .reg a v => SMap.put (resetWord c.strap.toNat) c.regs a (regNorm c.strap.toNat a v)
      | .regsReset lo hi => SMap.erase (fun a => decide (lo ≤ a) && decide (a < hi)) c.regs
      | .strap _ => []
      | .por => []
      | _ => c.regs := by
  cases p <;> first | rfl | (simp only [Prim.run]; split <;> rfl)

@[simp] theorem Prim.run_mem (p : Prim) (c : Chip) : (p.run c).mem = match p with
      | .byte a v => SMap.put (fun _ => 0) c.mem a v
      | .memReset lo hi => SMap.erase (fun a => decide (lo ≤ a) && decide (a < hi)) c.mem
      | .por => []
      | _ => c.mem := by
  cases p <;> first | rfl | (simp only [Prim.run]; split <;> rfl)

@[simp] theorem Prim.run_pages (p : Prim) (c : Chip) : (p.run c).pages = match p with
      | .page k v => SMap.put (fun _ => {}) c.pages k v
      | .por => []
      | _ => c.pages := by
  cases p <;> first | rfl | (simp only [Prim.run]; split <;> rfl)

@[simp] theorem Prim.run_arbs (p : Prim) (c : Chip) : (p.run c).arbs = match p with
      | .arb k v => SMap.put (fun _ => {}) c.arbs k v
      | .por => []
      | _ => c.arbs := by
  cases p <;> first | rfl | (simp only [Prim.run]; split <;> rfl)

@[simp] theorem Prim.run_streams (p : Prim) (c : Chip) : (p.run c).streams = match p with
      | .stream k v => SMap.put (fun _ => {}) c.streams k v
      | .por => []
      | _ => c.streams := by
  cases p <;> first | rfl | (simp only [Prim.run]; split <;> rfl)

@[simp] theorem Prim.run_legs (p : Prim) (c : Chip) : (p.run c).legs = match p with
      | .leg k v => SMap.put (fun _ => {}) c.legs k v
      | .por => []
      | _ => c.legs := by
  cases p <;> first | rfl | (simp only [Prim.run]; split <;> rfl)

@[simp] theorem Prim.run_blks (p : Prim) (c : Chip) : (p.run c).blks = match p with
      | .blk k v => SMap.put (fun _ => {}) c.blks k v
      | .por => []
      | _ => c.blks := by
  cases p <;> first | rfl | (simp only [Prim.run]; split <;> rfl)

@[simp] theorem Prim.run_links (p : Prim) (c : Chip) : (p.run c).links = match p with
      | .link k v => SMap.put (fun _ => {}) c.links k v
      | .por => []
      | _ => c.links := by
  cases p <;> first | rfl | (simp only [Prim.run]; split <;> rfl)

@[simp] theorem Prim.run_faults (p : Prim) (c : Chip) : (p.run c).faults = match p with
      | .fault k v => SMap.put (fun _ => {}) c.faults k v
      | .por => []
      | _ => c.faults := by
  cases p <;> first | rfl | (simp only [Prim.run]; split <;> rfl)

@[simp] theorem Prim.run_adcs (p : Prim) (c : Chip) : (p.run c).adcs = match p with
      | .adc k v => SMap.put (fun _ => {}) c.adcs k v
      | .por => []
      | _ => c.adcs := by
  cases p <;> first | rfl | (simp only [Prim.run]; split <;> rfl)

@[simp] theorem Prim.run_dsfs (p : Prim) (c : Chip) : (p.run c).dsfs = match p with
      | .dsf k v => SMap.put (fun _ => {}) c.dsfs k v
      | .por => []
      | _ => c.dsfs := by
  cases p <;> first | rfl | (simp only [Prim.run]; split <;> rfl)

@[simp] theorem Prim.run_tsns (p : Prim) (c : Chip) : (p.run c).tsns = match p with
      | .tsn k v => SMap.put (fun _ => {}) c.tsns k v
      | .por => []
      | _ => c.tsns := by
  cases p <;> first | rfl | (simp only [Prim.run]; split <;> rfl)

@[simp] theorem Prim.run_temps (p : Prim) (c : Chip) : (p.run c).temps = match p with
      | .temp k v => SMap.put (fun _ => {}) c.temps k v
      | .por => []
      | _ => c.temps := by
  cases p <;> first | rfl | (simp only [Prim.run]; split <;> rfl)

@[simp] theorem Prim.run_lanes (p : Prim) (c : Chip) : (p.run c).lanes = match p with
      | .lane k v => SMap.put (fun _ => {}) c.lanes k v
      | .por => []
      | _ => c.lanes := by
  cases p <;> first | rfl | (simp only [Prim.run]; split <;> rfl)

@[simp] theorem Prim.run_slotMem (p : Prim) (c : Chip) : (p.run c).slotMem = match p with
      | .slot k v => SMap.put (fun _ => {}) c.slotMem k v
      | .por => []
      | _ => c.slotMem := by
  cases p <;> first | rfl | (simp only [Prim.run]; split <;> rfl)

@[simp] theorem Prim.run_taps (p : Prim) (c : Chip) : (p.run c).taps = match p with
      | .tap k v => SMap.put (fun _ => {}) c.taps k v
      | .por => []
      | _ => c.taps := by
  cases p <;> first | rfl | (simp only [Prim.run]; split <;> rfl)

@[simp] theorem Prim.run_engs (p : Prim) (c : Chip) : (p.run c).engs = match p with
      | .eng k v => SMap.put (fun _ => {}) c.engs k v
      | .por => []
      | _ => c.engs := by
  cases p <;> first | rfl | (simp only [Prim.run]; split <;> rfl)

@[simp] theorem Prim.run_gwys (p : Prim) (c : Chip) : (p.run c).gwys = match p with
      | .gwy k v => SMap.put (fun _ => {}) c.gwys k v
      | .por => []
      | _ => c.gwys := by
  cases p <;> first | rfl | (simp only [Prim.run]; split <;> rfl)

@[simp] theorem Prim.run_tracs (p : Prim) (c : Chip) : (p.run c).tracs = match p with
      | .trac k v => SMap.put (fun _ => {}) c.tracs k v
      | .por => []
      | _ => c.tracs := by
  cases p <;> first | rfl | (simp only [Prim.run]; split <;> rfl)

@[simp] theorem Prim.run_convs (p : Prim) (c : Chip) : (p.run c).convs = match p with
      | .conv k v => SMap.put (fun _ => {}) c.convs k v
      | .por => []
      | _ => c.convs := by
  cases p <;> first | rfl | (simp only [Prim.run]; split <;> rfl)

@[simp] theorem Prim.run_chgs (p : Prim) (c : Chip) : (p.run c).chgs = match p with
      | .chg k v => SMap.put (fun _ => {}) c.chgs k v
      | .por => []
      | _ => c.chgs := by
  cases p <;> first | rfl | (simp only [Prim.run]; split <;> rfl)

@[simp] theorem Prim.run_poss (p : Prim) (c : Chip) : (p.run c).poss = match p with
      | .pos k v => SMap.put (fun _ => {}) c.poss k v
      | .por => []
      | _ => c.poss := by
  cases p <;> first | rfl | (simp only [Prim.run]; split <;> rfl)

@[simp] theorem Prim.run_emus (p : Prim) (c : Chip) : (p.run c).emus = match p with
      | .emu k v => SMap.put (fun _ => {}) c.emus k v
      | .por => []
      | _ => c.emus := by
  cases p <;> first | rfl | (simp only [Prim.run]; split <;> rfl)

@[simp] theorem Prim.run_brgs (p : Prim) (c : Chip) : (p.run c).brgs = match p with
      | .brg k v => SMap.put (fun _ => {}) c.brgs k v
      | .por => []
      | _ => c.brgs := by
  cases p <;> first | rfl | (simp only [Prim.run]; split <;> rfl)

@[simp] theorem Prim.run_sscs (p : Prim) (c : Chip) : (p.run c).sscs = match p with
      | .ssc k v => SMap.put (fun _ => {}) c.sscs k v
      | .por => []
      | _ => c.sscs := by
  cases p <;> first | rfl | (simp only [Prim.run]; split <;> rfl)

@[simp] theorem Prim.run_ques (p : Prim) (c : Chip) : (p.run c).ques = match p with
      | .que k v => SMap.put (fun _ => {}) c.ques k v
      | .por => []
      | _ => c.ques := by
  cases p <;> first | rfl | (simp only [Prim.run]; split <;> rfl)

@[simp] theorem Prim.run_stores (p : Prim) (c : Chip) : (p.run c).stores = match p with
      | .store k v => SMap.put (fun _ => {}) c.stores k v
      | .por => []
      | _ => c.stores := by
  cases p <;> first | rfl | (simp only [Prim.run]; split <;> rfl)

@[simp] theorem Prim.run_ports (p : Prim) (c : Chip) : (p.run c).ports = match p with
      | .port k v => SMap.put (fun _ => {}) c.ports k v
      | .por => []
      | _ => c.ports := by
  cases p <;> first | rfl | (simp only [Prim.run]; split <;> rfl)

@[simp] theorem Prim.run_cans (p : Prim) (c : Chip) : (p.run c).cans = match p with
      | .can k v => SMap.put (fun _ => {}) c.cans k v
      | .por => []
      | _ => c.cans := by
  cases p <;> first | rfl | (simp only [Prim.run]; split <;> rfl)

@[simp] theorem Prim.run_objs (p : Prim) (c : Chip) : (p.run c).objs = match p with
      | .obj k v => SMap.put (fun _ => {}) c.objs k v
      | .por => []
      | _ => c.objs := by
  cases p <;> first | rfl | (simp only [Prim.run]; split <;> rfl)

@[simp] theorem Prim.run_eths (p : Prim) (c : Chip) : (p.run c).eths = match p with
      | .eth k v => SMap.put (fun _ => {}) c.eths k v
      | .por => []
      | _ => c.eths := by
  cases p <;> first | rfl | (simp only [Prim.run]; split <;> rfl)

@[simp] theorem Prim.run_sins (p : Prim) (c : Chip) : (p.run c).sins = match p with
      | .sin k v => SMap.put (fun _ => {}) c.sins k v
      | .por => []
      | _ => c.sins := by
  cases p <;> first | rfl | (simp only [Prim.run]; split <;> rfl)

@[simp] theorem Prim.run_quays (p : Prim) (c : Chip) : (p.run c).quays = match p with
      | .quay k v => SMap.put (fun _ => {}) c.quays k v
      | .por => []
      | _ => c.quays := by
  cases p <;> first | rfl | (simp only [Prim.run]; split <;> rfl)

@[simp] theorem Prim.run_tideSt (p : Prim) (c : Chip) : (p.run c).tideSt = match p with
      | .tideS v => v
      | .por => {}
      | _ => c.tideSt := by
  cases p <;> first | rfl | (simp only [Prim.run]; split <;> rfl)

@[simp] theorem Prim.run_cplSt (p : Prim) (c : Chip) : (p.run c).cplSt = match p with
      | .cplS v => v
      | .por => {}
      | _ => c.cplSt := by
  cases p <;> first | rfl | (simp only [Prim.run]; split <;> rfl)

@[simp] theorem Prim.run_deliveries (p : Prim) (c : Chip) : (p.run c).deliveries = match p with
      | .deliveries v => v
      | .por => []
      | _ => c.deliveries := by
  cases p <;> first | rfl | (simp only [Prim.run]; split <;> rfl)

@[simp] theorem Prim.run_outbox (p : Prim) (c : Chip) : (p.run c).outbox = match p with
      | .outbox v => v
      | .por => []
      | _ => c.outbox := by
  cases p <;> first | rfl | (simp only [Prim.run]; split <;> rfl)

@[simp] theorem Prim.run_vcmds (p : Prim) (c : Chip) : (p.run c).vcmds = match p with
      | .vcmds v => v
      | .por => []
      | _ => c.vcmds := by
  cases p <;> first | rfl | (simp only [Prim.run]; split <;> rfl)

@[simp] theorem Prim.run_capWins (p : Prim) (c : Chip) : (p.run c).capWins = match p with
      | .capWins v => v
      | .por => []
      | _ => c.capWins := by
  cases p <;> first | rfl | (simp only [Prim.run]; split <;> rfl)

@[simp] theorem Prim.run_cnvSt (p : Prim) (c : Chip) : (p.run c).cnvSt = match p with
      | .cnvS v => v
      | .por => {}
      | _ => c.cnvSt := by
  cases p <;> first | rfl | (simp only [Prim.run]; split <;> rfl)

@[simp] theorem Prim.run_bootSt (p : Prim) (c : Chip) : (p.run c).bootSt = match p with
      | .bootS v => v
      | .por => {}
      | _ => c.bootSt := by
  cases p <;> first | rfl | (simp only [Prim.run]; split <;> rfl)

@[simp] theorem Prim.run_fuse (p : Prim) (c : Chip) : (p.run c).fuse = match p with
      | .fuseS v => v
      | _ => c.fuse := by
  cases p <;> first | rfl | (simp only [Prim.run]; split <;> rfl)

@[simp] theorem Prim.run_dbgSt (p : Prim) (c : Chip) : (p.run c).dbgSt = match p with
      | .dbgS v => v
      | .por => {}
      | _ => c.dbgSt := by
  cases p <;> first | rfl | (simp only [Prim.run]; split <;> rfl)

@[simp] theorem Prim.run_safSt (p : Prim) (c : Chip) : (p.run c).safSt = match p with
      | .safS v => v
      | .por => {}
      | _ => c.safSt := by
  cases p <;> first | rfl | (simp only [Prim.run]; split <;> rfl)

@[simp] theorem Prim.run_brakeSt (p : Prim) (c : Chip) : (p.run c).brakeSt = match p with
      | .brakeS v => v
      | .por => {}
      | _ => c.brakeSt := by
  cases p <;> first | rfl | (simp only [Prim.run]; split <;> rfl)

@[simp] theorem Prim.run_sealSt (p : Prim) (c : Chip) : (p.run c).sealSt = match p with
      | .sealS v => v
      | .por => {}
      | _ => c.sealSt := by
  cases p <;> first | rfl | (simp only [Prim.run]; split <;> rfl)

@[simp] theorem Prim.run_seqSt (p : Prim) (c : Chip) : (p.run c).seqSt = match p with
      | .seqS v => v
      | .por => {}
      | _ => c.seqSt := by
  cases p <;> first | rfl | (simp only [Prim.run]; split <;> rfl)

@[simp] theorem Prim.run_redSt (p : Prim) (c : Chip) : (p.run c).redSt = match p with
      | .redS v => v
      | .por => {}
      | _ => c.redSt := by
  cases p <;> first | rfl | (simp only [Prim.run]; split <;> rfl)

/-! ### What the chip reads after a primitive write -/

@[simp] theorem Prim.run_word (p : Prim) (c : Chip) (b : Nat) : (p.run c).word b = match p with
      | .reg a v => if b = a then regNorm c.strap.toNat a v else c.word b
      | .regsReset lo hi => if lo ≤ b ∧ b < hi then resetWord c.strap.toNat b else c.word b
      | .strap v => resetWord v.toNat b
      | .por => resetWord c.strap.toNat b
      | _ => c.word b := by
  cases p <;> first | rfl | (simp [Chip.word, Prim.run]; done) | (simp only [Prim.run]; split <;> rfl)

@[simp] theorem Prim.run_page_at (p : Prim) (c : Chip) (k : Nat) : (p.run c).page k = match p with
      | .page j v => if k = j then v else c.page k
      | .por => {}
      | _ => c.page k := by
  cases p <;> first | rfl | (simp [Chip.page, Prim.run]; done) | (simp only [Prim.run]; split <;> rfl)

@[simp] theorem Prim.run_arb_at (p : Prim) (c : Chip) (k : Nat) : (p.run c).arb k = match p with
      | .arb j v => if k = j then v else c.arb k
      | .por => {}
      | _ => c.arb k := by
  cases p <;> first | rfl | (simp [Chip.arb, Prim.run]; done) | (simp only [Prim.run]; split <;> rfl)

@[simp] theorem Prim.run_stream_at (p : Prim) (c : Chip) (k : Nat) : (p.run c).stream k = match p with
      | .stream j v => if k = j then v else c.stream k
      | .por => {}
      | _ => c.stream k := by
  cases p <;> first | rfl | (simp [Chip.stream, Prim.run]; done) | (simp only [Prim.run]; split <;> rfl)

@[simp] theorem Prim.run_leg_at (p : Prim) (c : Chip) (k : Nat) : (p.run c).leg k = match p with
      | .leg j v => if k = j then v else c.leg k
      | .por => {}
      | _ => c.leg k := by
  cases p <;> first | rfl | (simp [Chip.leg, Prim.run]; done) | (simp only [Prim.run]; split <;> rfl)

@[simp] theorem Prim.run_blk_at (p : Prim) (c : Chip) (k : Nat) : (p.run c).blk k = match p with
      | .blk j v => if k = j then v else c.blk k
      | .por => {}
      | _ => c.blk k := by
  cases p <;> first | rfl | (simp [Chip.blk, Prim.run]; done) | (simp only [Prim.run]; split <;> rfl)

@[simp] theorem Prim.run_link_at (p : Prim) (c : Chip) (k : Nat) : (p.run c).link k = match p with
      | .link j v => if k = j then v else c.link k
      | .por => {}
      | _ => c.link k := by
  cases p <;> first | rfl | (simp [Chip.link, Prim.run]; done) | (simp only [Prim.run]; split <;> rfl)

@[simp] theorem Prim.run_fault_at (p : Prim) (c : Chip) (k : Nat) : (p.run c).fault k = match p with
      | .fault j v => if k = j then v else c.fault k
      | .por => {}
      | _ => c.fault k := by
  cases p <;> first | rfl | (simp [Chip.fault, Prim.run]; done) | (simp only [Prim.run]; split <;> rfl)

@[simp] theorem Prim.run_adc_at (p : Prim) (c : Chip) (k : Nat) : (p.run c).adc k = match p with
      | .adc j v => if k = j then v else c.adc k
      | .por => {}
      | _ => c.adc k := by
  cases p <;> first | rfl | (simp [Chip.adc, Prim.run]; done) | (simp only [Prim.run]; split <;> rfl)

@[simp] theorem Prim.run_dsf_at (p : Prim) (c : Chip) (k : Nat) : (p.run c).dsf k = match p with
      | .dsf j v => if k = j then v else c.dsf k
      | .por => {}
      | _ => c.dsf k := by
  cases p <;> first | rfl | (simp [Chip.dsf, Prim.run]; done) | (simp only [Prim.run]; split <;> rfl)

@[simp] theorem Prim.run_tsn_at (p : Prim) (c : Chip) (k : Nat) : (p.run c).tsn k = match p with
      | .tsn j v => if k = j then v else c.tsn k
      | .por => {}
      | _ => c.tsn k := by
  cases p <;> first | rfl | (simp [Chip.tsn, Prim.run]; done) | (simp only [Prim.run]; split <;> rfl)

@[simp] theorem Prim.run_temp_at (p : Prim) (c : Chip) (k : Nat) : (p.run c).temp k = match p with
      | .temp j v => if k = j then v else c.temp k
      | .por => {}
      | _ => c.temp k := by
  cases p <;> first | rfl | (simp [Chip.temp, Prim.run]; done) | (simp only [Prim.run]; split <;> rfl)

@[simp] theorem Prim.run_lane_at (p : Prim) (c : Chip) (k : Nat) : (p.run c).lane k = match p with
      | .lane j v => if k = j then v else c.lane k
      | .por => {}
      | _ => c.lane k := by
  cases p <;> first | rfl | (simp [Chip.lane, Prim.run]; done) | (simp only [Prim.run]; split <;> rfl)

@[simp] theorem Prim.run_slot_at (p : Prim) (c : Chip) (k : Nat) : (p.run c).slot k = match p with
      | .slot j v => if k = j then v else c.slot k
      | .por => {}
      | _ => c.slot k := by
  cases p <;> first | rfl | (simp [Chip.slot, Prim.run]; done) | (simp only [Prim.run]; split <;> rfl)

@[simp] theorem Prim.run_tap_at (p : Prim) (c : Chip) (k : Nat) : (p.run c).tap k = match p with
      | .tap j v => if k = j then v else c.tap k
      | .por => {}
      | _ => c.tap k := by
  cases p <;> first | rfl | (simp [Chip.tap, Prim.run]; done) | (simp only [Prim.run]; split <;> rfl)

@[simp] theorem Prim.run_eng_at (p : Prim) (c : Chip) (k : Nat) : (p.run c).eng k = match p with
      | .eng j v => if k = j then v else c.eng k
      | .por => {}
      | _ => c.eng k := by
  cases p <;> first | rfl | (simp [Chip.eng, Prim.run]; done) | (simp only [Prim.run]; split <;> rfl)

@[simp] theorem Prim.run_gwy_at (p : Prim) (c : Chip) (k : Nat) : (p.run c).gwy k = match p with
      | .gwy j v => if k = j then v else c.gwy k
      | .por => {}
      | _ => c.gwy k := by
  cases p <;> first | rfl | (simp [Chip.gwy, Prim.run]; done) | (simp only [Prim.run]; split <;> rfl)

@[simp] theorem Prim.run_trac_at (p : Prim) (c : Chip) (k : Nat) : (p.run c).trac k = match p with
      | .trac j v => if k = j then v else c.trac k
      | .por => {}
      | _ => c.trac k := by
  cases p <;> first | rfl | (simp [Chip.trac, Prim.run]; done) | (simp only [Prim.run]; split <;> rfl)

@[simp] theorem Prim.run_conv_at (p : Prim) (c : Chip) (k : Nat) : (p.run c).conv k = match p with
      | .conv j v => if k = j then v else c.conv k
      | .por => {}
      | _ => c.conv k := by
  cases p <;> first | rfl | (simp [Chip.conv, Prim.run]; done) | (simp only [Prim.run]; split <;> rfl)

@[simp] theorem Prim.run_chg_at (p : Prim) (c : Chip) (k : Nat) : (p.run c).chg k = match p with
      | .chg j v => if k = j then v else c.chg k
      | .por => {}
      | _ => c.chg k := by
  cases p <;> first | rfl | (simp [Chip.chg, Prim.run]; done) | (simp only [Prim.run]; split <;> rfl)

@[simp] theorem Prim.run_pos_at (p : Prim) (c : Chip) (k : Nat) : (p.run c).pos k = match p with
      | .pos j v => if k = j then v else c.pos k
      | .por => {}
      | _ => c.pos k := by
  cases p <;> first | rfl | (simp [Chip.pos, Prim.run]; done) | (simp only [Prim.run]; split <;> rfl)

@[simp] theorem Prim.run_emu_at (p : Prim) (c : Chip) (k : Nat) : (p.run c).emu k = match p with
      | .emu j v => if k = j then v else c.emu k
      | .por => {}
      | _ => c.emu k := by
  cases p <;> first | rfl | (simp [Chip.emu, Prim.run]; done) | (simp only [Prim.run]; split <;> rfl)

@[simp] theorem Prim.run_brg_at (p : Prim) (c : Chip) (k : Nat) : (p.run c).brg k = match p with
      | .brg j v => if k = j then v else c.brg k
      | .por => {}
      | _ => c.brg k := by
  cases p <;> first | rfl | (simp [Chip.brg, Prim.run]; done) | (simp only [Prim.run]; split <;> rfl)

@[simp] theorem Prim.run_ssc_at (p : Prim) (c : Chip) (k : Nat) : (p.run c).ssc k = match p with
      | .ssc j v => if k = j then v else c.ssc k
      | .por => {}
      | _ => c.ssc k := by
  cases p <;> first | rfl | (simp [Chip.ssc, Prim.run]; done) | (simp only [Prim.run]; split <;> rfl)

@[simp] theorem Prim.run_que_at (p : Prim) (c : Chip) (k : Nat) : (p.run c).que k = match p with
      | .que j v => if k = j then v else c.que k
      | .por => {}
      | _ => c.que k := by
  cases p <;> first | rfl | (simp [Chip.que, Prim.run]; done) | (simp only [Prim.run]; split <;> rfl)

@[simp] theorem Prim.run_store_at (p : Prim) (c : Chip) (k : Nat) : (p.run c).store k = match p with
      | .store j v => if k = j then v else c.store k
      | .por => {}
      | _ => c.store k := by
  cases p <;> first | rfl | (simp [Chip.store, Prim.run]; done) | (simp only [Prim.run]; split <;> rfl)

@[simp] theorem Prim.run_port_at (p : Prim) (c : Chip) (k : Nat) : (p.run c).port k = match p with
      | .port j v => if k = j then v else c.port k
      | .por => {}
      | _ => c.port k := by
  cases p <;> first | rfl | (simp [Chip.port, Prim.run]; done) | (simp only [Prim.run]; split <;> rfl)

@[simp] theorem Prim.run_can_at (p : Prim) (c : Chip) (k : Nat) : (p.run c).can k = match p with
      | .can j v => if k = j then v else c.can k
      | .por => {}
      | _ => c.can k := by
  cases p <;> first | rfl | (simp [Chip.can, Prim.run]; done) | (simp only [Prim.run]; split <;> rfl)

@[simp] theorem Prim.run_obj_at (p : Prim) (c : Chip) (k : Nat) : (p.run c).obj k = match p with
      | .obj j v => if k = j then v else c.obj k
      | .por => {}
      | _ => c.obj k := by
  cases p <;> first | rfl | (simp [Chip.obj, Prim.run]; done) | (simp only [Prim.run]; split <;> rfl)

@[simp] theorem Prim.run_eth_at (p : Prim) (c : Chip) (k : Nat) : (p.run c).eth k = match p with
      | .eth j v => if k = j then v else c.eth k
      | .por => {}
      | _ => c.eth k := by
  cases p <;> first | rfl | (simp [Chip.eth, Prim.run]; done) | (simp only [Prim.run]; split <;> rfl)

@[simp] theorem Prim.run_sin_at (p : Prim) (c : Chip) (k : Nat) : (p.run c).sin k = match p with
      | .sin j v => if k = j then v else c.sin k
      | .por => {}
      | _ => c.sin k := by
  cases p <;> first | rfl | (simp [Chip.sin, Prim.run]; done) | (simp only [Prim.run]; split <;> rfl)

@[simp] theorem Prim.run_quay_at (p : Prim) (c : Chip) (k : Nat) : (p.run c).quay k = match p with
      | .quay j v => if k = j then v else c.quay k
      | .por => {}
      | _ => c.quay k := by
  cases p <;> first | rfl | (simp [Chip.quay, Prim.run]; done) | (simp only [Prim.run]; split <;> rfl)

end Sys2Proof.Machine
end

