-- ==== Sys2Proof/Laws/Effects.lean ====
section
/-! SUPPORT. What an effect can write: a bound on its primitive writes bounds what it does to the chip; the bound of each shared operation. -/

namespace Sys2Proof.Machine

open Sys2Proof

/-- Every primitive write that the effect can make satisfies `P`. -/
def Act.Only (P : Prim → Prop) : Act → Prop
  | .skip => True
  | .prim p => P p
  | .seq a b => a.Only P ∧ b.Only P
  | .dyn f => ∀ c, (f c).Only P

variable {P : Prim → Prop}

@[simp] theorem Act.only_skip : Act.skip.Only P := trivial
@[simp] theorem Act.only_prim (p : Prim) : (Act.prim p).Only P ↔ P p := Iff.rfl
@[simp] theorem Act.only_seq (a b : Act) : (Act.seq a b).Only P ↔ a.Only P ∧ b.Only P := Iff.rfl
@[simp] theorem Act.only_dyn (f : Chip → Act) : (Act.dyn f).Only P ↔ ∀ c, (f c).Only P := Iff.rfl

/-- What relates the chip before and after every write of a kind relates it before and after an effect that makes no other. -/
theorem Act.run_rel {R : Chip → Chip → Prop} (refl : ∀ c, R c c) (trans : ∀ a b c, R a b → R b c → R a c)
    (step : ∀ p c, P p → R c (p.run c)) (a : Act) (h : a.Only P) (c : Chip) : R c (a.run c) := by
  induction a generalizing c with
  | skip => exact refl c
  | prim p => exact step p c h
  | seq a b iha ihb => exact trans _ _ _ (iha h.1 c) (ihb h.2 (a.run c))
  | dyn f ih => exact ih c (h c) c

/-- What every write of a kind keeps, an effect that makes no other keeps. -/
theorem Act.run_keeps {Q : Chip → Prop} (step : ∀ p c, P p → Q c → Q (p.run c)) (a : Act) (h : a.Only P) (c : Chip) (hq : Q c) : Q (a.run c) :=
  Act.run_rel (R := fun c d => Q c → Q d) (fun _ h => h) (fun _ _ _ h g x => g (h x)) step a h c hq

theorem Act.only_mono {P Q : Prim → Prop} (hpq : ∀ p, P p → Q p) (a : Act) (h : a.Only P) : a.Only Q := by
  induction a with
  | skip => trivial
  | prim p => exact hpq p h
  | seq a b iha ihb => exact ⟨iha h.1, ihb h.2⟩
  | dyn f ih => exact fun c => ih c (h c)

theorem Act.only_all (a : Act) (h : ∀ p, P p) : a.Only P := by
  induction a with
  | skip => trivial
  | prim p => exact h p
  | seq a b iha ihb => exact ⟨iha, ihb⟩
  | dyn f ih => exact fun c => ih c

/-! ### Combinations -/

theorem only_when (b : Bool) (a : Act) (h : b = true → a.Only P) : (when b a).Only P := by
  cases b with
  | true => exact h rfl
  | false => trivial

theorem only_whenC (b : Chip → Bool) (a : Act) (h : a.Only P) : (whenC b a).Only P := fun c => only_when (b c) a fun _ => h

theorem only_seqs (l : List Act) (h : ∀ a ∈ l, a.Only P) : (seqs l).Only P := by
  induction l with
  | nil => trivial
  | cons a l ih => exact ⟨h a (by simp), ih fun x hx => h x (by simp [hx])⟩

theorem only_each {α : Type} (l : List α) (f : α → Act) (h : ∀ x ∈ l, (f x).Only P) : (each l f).Only P :=
  only_seqs _ fun a ha => by
    obtain ⟨x, hx, rfl⟩ := List.mem_map.mp ha
    exact h x hx

theorem only_ite (b : Prop) [Decidable b] (x y : Act) (hx : b → x.Only P) (hy : ¬ b → y.Only P) : (if b then x else y).Only P := by
  split
  · next h => exact hx h
  · next h => exact hy h

/-! ### Shared operations -/

theorem only_setWord (a : Nat) (v : Word) (h : P (.reg a v)) : (setWord a v).Only P := h

theorem only_put (p : Page) (f : Field) (v k : Nat) (h : ∀ w, P (.reg (p.base + f.word k) w)) : (put p f v k).Only P := fun _ => h _

theorem only_putActive (p : Page) (f : Field) (v k : Nat) (h : ∀ w, P (.reg (p.base + 0x800 + f.word k) w)) : (putActive p f v k).Only P := fun _ => h _

theorem only_putFlag (p : Page) (f : Field) (b : Bool) (k : Nat) (h : ∀ w, P (.reg (p.base + f.word k) w)) : (putFlag p f b k).Only P := fun _ => h _

theorem only_putWide (p : Page) (lo hi : Field) (v k : Nat) (h : ∀ w, P (.reg (p.base + lo.word k) w)) (h' : ∀ w, P (.reg (p.base + hi.word k) w)) :
    (putWide p lo hi v k).Only P := ⟨fun _ => h _, fun _ => h' _⟩

theorem only_bump (p : Page) (f : Field) (n k : Nat) (h : ∀ w, P (.reg (p.base + f.word k) w)) : (bump p f n k).Only P := fun _ _ => h _

theorem only_bumpWrap (p : Page) (f : Field) (k : Nat) (h : ∀ w, P (.reg (p.base + f.word k) w)) : (bumpWrap p f k).Only P := fun _ _ => h _

theorem only_putMax (p : Page) (f : Field) (v k : Nat) (h : ∀ w, P (.reg (p.base + f.word k) w)) : (putMax p f v k).Only P := fun _ _ => h _

theorem only_putMin (p : Page) (f : Field) (v k : Nat) (h : ∀ w, P (.reg (p.base + f.word k) w)) : (putMin p f v k).Only P := fun _ _ => h _

theorem only_atTick (t : Nat) (h : P (.until_ t)) : (atTick t).Only P := h

/-- The effect writes only header words of the page. -/
abbrev HeaderOf (P : Prim → Prop) (p : Page) : Prop := ∀ o w, o < 0x040 → P (.reg (p.base + o) w)

theorem only_evt (p : Page) (b : Nat) (h : HeaderOf P p) : (evt p b).Only P := fun _ => only_put _ _ _ _ fun w => h _ w (by decide)

theorem only_raiseLevels (p : Page) (l : Chip → Nat) (h : HeaderOf P p) : (raiseLevels p l).Only P := fun _ =>
  only_put _ _ _ _ fun w => h _ w (by decide)

theorem only_modPst (p : Page) (f : PageSt → PageSt) (h : ∀ v, P (.page p.base v)) : (modPst p f).Only P := fun _ => h _

/-- An error writes only header words of its page and the tick of the page's latest error (R66). -/
theorem only_err (p : Page) (code src : Nat) (h : HeaderOf P p) (hp : ∀ v, P (.page p.base v)) : (err p code src).Only P := by
  refine fun c => only_seqs _ fun a ha => ?_
  simp only [List.mem_cons, List.not_mem_nil, or_false] at ha
  rcases ha with rfl | rfl | rfl | rfl | rfl | rfl
  · exact only_put _ _ _ _ fun w => h _ w (by decide)
  · exact only_when _ _ fun _ => only_put _ _ _ _ fun w => h _ w (by decide)
  · exact only_when _ _ fun _ => only_put _ _ _ _ fun w => h _ w (by decide)
  · exact only_bump _ _ _ _ fun w => h _ w (by decide)
  · exact only_evt p _ h
  · exact only_modPst p _ hp

/-- A record writes only the stream of its source, and DROP_CNT and EVT_RAW of EVS (R34, R90). -/
theorem only_record (p : Page) (chan code stamp d0 d1 fine : Nat) (hs : ∀ v, P (.stream (p.srcId chan) v))
    (hd : ∀ w, P (.reg (pgEVS.base + Reg.EVS.DROP_CNT.word 0) w)) (he : HeaderOf P pgEVS) :
    (record p chan code stamp d0 d1 fine).Only P := by
  intro c
  refine only_ite _ _ _ (fun _ => ?_) fun _ => trivial
  refine only_ite _ _ _ (fun _ => hs _) fun _ => ?_
  exact ⟨hs _, only_bump _ _ _ _ hd, only_evt _ _ he, trivial⟩

/-- A refused access writes the answer and the BUS_ERR words of FLT of its region (R21). -/
theorem only_busError (src : Src) (a : Nat) (r : Resp) (ha : ∀ r d, P (.answer r d))
    (hf : ∀ n o w, n < 8 → o < 0x1000 → P (.reg ((pgFLT n).base + o) w)) : (busError src a r).Only P := by
  intro c
  refine ⟨ha _ _, ?_⟩
  split
  · next n _ =>
    refine only_when _ _ fun hn => ?_
    simp only [Bool.and_eq_true, decide_eq_true_eq] at hn
    refine only_seqs _ fun a ha => ?_
    simp only [List.mem_cons, List.not_mem_nil, or_false] at ha
    rcases ha with rfl | rfl | rfl | rfl
    · exact only_put _ _ _ _ fun w => hf n _ w hn.2 (by decide)
    · exact only_put _ _ _ _ fun w => hf n _ w hn.2 (by decide)
    · exact only_bump _ _ _ _ fun w => hf n _ w hn.2 (by decide)
    · exact only_put _ _ _ _ fun w => hf n _ w hn.2 (by decide)
  · trivial

/-- An access writes what it does at its target, or what a refused access writes; one of the debugger also counts (R21, R448). -/
theorem only_access (src : Src) (a width : Nat) (write : Bool) (k : Act) (hk : k.Only P) (ha : ∀ r d, P (.answer r d))
    (hf : ∀ n o w, n < 8 → o < 0x1000 → P (.reg ((pgFLT n).base + o) w)) (hd : ∀ o w, o < 0x1000 → P (.reg (pgDBG.base + o) w)) :
    (access src a width write k).Only P := by
  intro c
  refine only_when _ _ fun _ => ⟨only_when _ _ fun _ => only_bumpWrap _ _ _ fun w => hd _ w (by decide), ?_⟩
  split
  · exact ⟨ha _ _, hk⟩
  · exact ⟨only_when _ _ fun _ => ⟨only_bump _ _ _ _ fun w => hd _ w (by decide), only_evt _ _ fun o w ho => hd o w (by omega)⟩,
      only_busError _ _ _ ha hf⟩

theorem only_disarm (p : Page) (src : Src) (hp : ∀ v, P (.page p.base v)) (h : HeaderOf P p) : (disarm p src).Only P :=
  fun _ => ⟨only_modPst p _ hp, only_putFlag _ _ _ _ fun w => h _ w (by decide)⟩

theorem only_srstDone (p : Page) (hp : ∀ v, P (.page p.base v)) (h : HeaderOf P p) : (srstDone p).Only P :=
  ⟨only_putFlag _ _ _ _ fun w => h _ w (by decide), only_putFlag _ _ _ _ fun w => h _ w (by decide), only_modPst p _ hp, trivial⟩

theorem only_afterSrst (p : Page) (k : Act) (hk : k.Only P) (hp : ∀ v, P (.page p.base v)) (h : HeaderOf P p) : (afterSrst p k).Only P :=
  ⟨only_whenC _ _ (only_srstDone p hp h), hk⟩

/-- An access to a register of a page writes what it does there, what a refused access writes, and the page's key sequence; it ends a soft reset, and at a queue it may wait behind a held PUSH_DATA write (R53, R63, R396). -/
theorem only_onPage (src : Src) (p : Page) (off : Nat) (write : Bool) (k : Act) (hk : k.Only P) (ha : ∀ r d, P (.answer r d))
    (hf : ∀ n o w, n < 8 → o < 0x1000 → P (.reg ((pgFLT n).base + o) w)) (hd : ∀ o w, o < 0x1000 → P (.reg (pgDBG.base + o) w))
    (hq : p.blk = .que → ∀ n, (waitHeld p.idx src n).Only P) (hp : ∀ v, P (.page p.base v)) (h : HeaderOf P p) :
    (onPage src p off write k).Only P := by
  refine only_access _ _ _ _ _ ?_ ha hf hd
  refine only_afterSrst p _ ⟨fun c => only_when _ _ fun hb => hq (by simpa using hb) _, ?_, hk⟩ hp h
  exact only_when _ _ fun _ => only_disarm p src hp h

/-- A write without the key window records LOCK_CLOSED (R65). -/
theorem only_locked (src : Src) (p : Page) (k : Act) (hk : k.Only P) (h : HeaderOf P p) (hp : ∀ v, P (.page p.base v)) :
    (locked src p k).Only P := by
  intro c
  refine only_ite _ _ _ (fun _ => hk) fun _ => only_err _ _ _ h hp

end Sys2Proof.Machine
end

