-- ==== Sys2Proof/Laws/Exec.lean ====
section
/-! SUPPORT. What every command has in common: it is an effect on the chip after some time, whatever the command. -/

namespace Sys2Proof.Machine

open Sys2Proof

/-- Every command is one effect on the chip: it completes, and the queue of waiting commands stays as it is. -/
theorem exec_is_act (i : Instr) (s : State) : ∃ dt a, exec i s = s.act dt a := by
  cases i <;> exact ⟨_, _, rfl⟩

/-- What every primitive write keeps, every command keeps. -/
theorem exec_keeps {Q : Chip → Prop} (h : ∀ (p : Prim) (c : Chip), Q c → Q (p.run c)) (i : Instr) (s t : State) (ht : exec i s = .next t)
    (hq : Q s.chip) : Q t.chip := by
  obtain ⟨dt, a, e⟩ := exec_is_act i s
  rw [e, State.act_next] at ht
  cases ht
  exact Act.run_keeps (P := fun _ => True) (fun p c _ => h p c) a (Act.only_all _ fun _ => trivial) _ (h _ _ hq)

end Sys2Proof.Machine
end

