-- ==== Sys2Proof/Laws/Pages.lean ====
section
/-! SUPPORT. The address map read backwards: the page that an address lies in is the page whose word it is. -/

namespace Sys2Proof

/-- Only the page address of an address matters. -/
theorem pageOf_aligned (a : Nat) : pageOf (a / 4096 * 4096) = pageOf a := by
  have h1 : a / 4096 * 4096 / 0x01000000 = a / 0x01000000 := by omega
  have h2 : a / 4096 * 4096 / 4096 * 4096 = a / 4096 * 4096 := by omega
  have h3 : (a / 4096 * 4096 % 0x01000000 < 4096) = (a % 0x01000000 < 4096) := propext (by omega)
  have h4 : (0x21000 ≤ a / 4096 * 4096 % 0x01000000) = (0x21000 ≤ a % 0x01000000) := propext (by omega)
  have h5 : (a / 4096 * 4096 % 0x01000000 < 0x29000) = (a % 0x01000000 < 0x29000) := propext (by omega)
  have h6 : (a / 4096 * 4096 % 0x01000000 - 0x21000) / 4096 = (a % 0x01000000 - 0x21000) / 4096 := by omega
  have base0 : ∀ b : Blk, b.base 0 % 4096 = 0 := fun b => by cases b <;> rfl
  have h7 : ∀ b : Blk, (b.base 0 ≤ a / 4096 * 4096) = (b.base 0 ≤ a) := fun b => propext (by have := base0 b; omega)
  have h8 : ∀ b : Blk, (a / 4096 * 4096 - b.base 0) / 4096 = (a - b.base 0) / 4096 := fun b => by have := base0 b; omega
  refine congrArg (fun f => Blk.all.findSome? f) (funext fun b => ?_)
  cases b <;> simp only [h1, h2, h3, h4, h5, h6, h7, h8]

/-- Page addresses are multiples of 4,096. -/
theorem Page.base_aligned (p : Page) : p.base % 4096 = 0 := by
  obtain ⟨b, n⟩ := p
  cases b <;> simp only [Page.base, Blk.base] <;> omega

/-- The address map holds every page but the object windows where Table 1-10 puts it. -/
theorem pageOf_base_all : (Blk.all.all fun b => (List.range (min b.count 96)).all fun n =>
    match pageOf ((⟨b, n⟩ : Page).base) with
    | some q => q.blk == b && q.idx == n
    | none => false) = true := by
  decide +kernel

/-- Above the 32-bit address space lie the object windows. -/
theorem pageOf_obj (n : Nat) (h : n < 768) : pageOf ((⟨.obj, n⟩ : Page).base) = some ⟨.obj, n⟩ := by
  have key : ∀ (l : List Blk) (f : Blk → Option Page), (∀ b ∈ l, b ≠ .obj → f b = none) → .obj ∈ l →
      f .obj = some ⟨.obj, n⟩ → l.findSome? f = some ⟨.obj, n⟩ := by
    intro l f h0 hm hs
    induction l with
    | nil => cases hm
    | cons b l ih =>
      by_cases hb : b = .obj
      · subst hb; simp [List.findSome?, hs]
      · rw [List.findSome?, h0 b (by simp) hb]
        exact ih (fun x hx => h0 x (by simp [hx])) (by simpa [Ne.symm hb] using hm)
  have ha : (⟨.obj, n⟩ : Page).base = 0x100000000 + n * 0x1000 := rfl
  generalize (⟨.obj, n⟩ : Page).base = a at ha ⊢
  refine key _ _ ?_ (by decide) ?_
  · intro b _ hb
    have h0 : b ≠ .obj → b.base 0 + 4096 * b.count ≤ 0x100000000 ∧ b.base 0 < 0x100000000 ∧ b.base 1 + 4096 ≤ 0x100000000 := by cases b <;> decide
    have := h0 hb
    cases b <;> first
      | exact absurd rfl hb
      | exact if_neg (by omega)
      | exact (if_neg (by omega)).trans (if_neg (by omega))
  · have hb : Blk.base .obj 0 = 0x100000000 := rfl
    have hc : Blk.count .obj = 768 := rfl
    refine (if_pos (by omega)).trans ?_
    rw [show (a - Blk.base .obj 0) / 4096 = n by omega]

/-- Every word of a page that exists is found on it. -/
theorem pageOf_base (p : Page) (h : p.valid = true) (off : Nat) (ho : off < 4096) : pageOf (p.base + off) = some p := by
  have ha := p.base_aligned
  rw [← pageOf_aligned, show (p.base + off) / 4096 * 4096 = p.base by omega]
  have hv : p.idx < p.blk.count := by simpa [Page.valid] using h
  by_cases hobj : p.blk = .obj
  · obtain ⟨b, n⟩ := p; subst hobj; exact pageOf_obj n hv
  · have hall := pageOf_base_all
    rw [List.all_eq_true] at hall
    have hb := hall p.blk (by cases p.blk <;> decide)
    rw [List.all_eq_true] at hb
    have hc : p.blk.count ≤ 96 := by
      obtain ⟨b, n⟩ := p; cases b <;> first | exact absurd rfl hobj | (simp only [Blk.count]; omega)
    have hn := hb p.idx (List.mem_range.mpr (by omega))
    split at hn
    · next q hq =>
      simp only [Bool.and_eq_true, beq_iff_eq] at hn
      rw [show (⟨p.blk, p.idx⟩ : Page) = p from rfl] at hq
      rw [hq]; obtain ⟨b, n⟩ := q; obtain ⟨b', n'⟩ := p
      simp only at hn; rw [hn.1, hn.2]
    · cases hn

end Sys2Proof
end

