-- ==== Sys2Proof/Laws/Fields.lean ====
section
/-! SUPPORT. Register fields: a field that was written reads the value written, and every other field reads as before. -/

namespace Sys2Proof

/-! ### The bits that a word can hold -/

theorem getLsbD_foldl_or {α : Type} (l : List α) (b : α → Bool) (m : α → Word) (w : Word) (i : Nat) :
    (l.foldl (fun w f => if b f then w ||| m f else w) w).getLsbD i = (w.getLsbD i || l.any fun f => b f && (m f).getLsbD i) := by
  induction l generalizing w with
  | nil => simp
  | cons x l ih =>
    simp only [List.foldl_cons, ih, List.any_cons]
    cases b x <;> simp [Bool.or_assoc]

/-- The elements of the field lie within words below the active-value aliases. -/
def Field.fits (f : Field) : Bool :=
  decide (0 < f.stride) && decide (0 < f.per) && decide (f.lo + f.step * (f.per - 1) + f.width ≤ 32) &&
    decide (f.off % 4 = 0) && decide (f.stride % 4 = 0) && decide (0 < f.count) && decide (f.off + f.stride * ((f.count - 1) / f.per) < 0x800)

theorem fields_fit_all : (Blk.all.all fun b => ([0, 1, 2, 4].all fun n => (⟨b, n⟩ : Page).fields.all Field.fits)) = true := by
  decide +kernel

/-- Every field of a page fits. -/
theorem Page.fits_of_mem (p : Page) (f : Field) (hf : f ∈ p.fields) : f.fits = true := by
  have all := fields_fit_all
  simp only [List.all_eq_true] at all
  obtain ⟨b, n⟩ := p
  have sub : ∃ m ∈ [0, 1, 2, 4], f ∈ (⟨b, m⟩ : Page).fields := by
    cases b
    case leg =>
      by_cases h : n % 4 = 0
      · exact ⟨0, by simp, by simpa [Page.fields, Page.blockFields, h] using hf⟩
      · exact ⟨1, by simp, by simpa [Page.fields, Page.blockFields, h] using hf⟩
    case dsf =>
      by_cases h : n < 4
      · exact ⟨0, by simp, by simpa only [Page.fields, Page.blockFields, h, if_true, Nat.lt_irrefl, Nat.zero_lt_succ] using hf⟩
      · exact ⟨4, by simp, by simpa only [Page.fields, Page.blockFields, h, if_false, Nat.lt_irrefl] using hf⟩
    case tsn =>
      by_cases h : n = 2
      · exact ⟨2, by simp, by simpa only [Page.fields, Page.blockFields, h, if_true] using hf⟩
      · exact ⟨0, by simp, by simpa only [Page.fields, Page.blockFields, h, if_false, show ¬ (0 = 2) by decide] using hf⟩
    case brg =>
      by_cases h : n % 4 = 0
      · exact ⟨0, by simp, by simpa only [Page.fields, Page.blockFields, h, if_true] using hf⟩
      · exact ⟨1, by simp, by simpa only [Page.fields, Page.blockFields, h, if_false, show ¬ (1 % 4 = 0) by decide] using hf⟩
    all_goals exact ⟨0, by simp, hf⟩
  obtain ⟨m, hm, hmem⟩ := sub
  exact all b (by cases b <;> decide) m hm f hmem

theorem Field.covers_word (f : Field) (k : Nat) (h : f.fits = true) (hk : k < f.count) : f.covers (f.word k) = true := by
  simp only [Field.fits, Bool.and_eq_true, decide_eq_true_eq] at h
  obtain ⟨⟨⟨⟨⟨⟨h1, h2⟩, _⟩, _⟩, _⟩, _⟩, _⟩ := h
  simp only [Field.covers, Field.word, Nat.add_sub_cancel_left, Nat.mul_mod_right, Nat.mul_div_cancel_left _ h1, Nat.le_add_right,
    decide_true, Bool.true_and, decide_eq_true_eq]
  exact Nat.lt_of_le_of_lt (Nat.div_mul_le_self k f.per) hk

theorem Field.bit_le (f : Field) (k : Nat) (h : f.fits = true) : f.bit k + f.width ≤ 32 := by
  simp only [Field.fits, Bool.and_eq_true, decide_eq_true_eq] at h
  obtain ⟨⟨⟨⟨⟨⟨_, h2⟩, h3⟩, _⟩, _⟩, _⟩, _⟩ := h
  have : f.step * (k % f.per) ≤ f.step * (f.per - 1) := Nat.mul_le_mul_left _ (by have := Nat.mod_lt k h2; omega)
  simp only [Field.bit]; omega

theorem Field.word_lt (f : Field) (k : Nat) (h : f.fits = true) (hk : k < f.count) : f.word k < 0x800 ∧ f.word k % 4 = 0 := by
  simp only [Field.fits, Bool.and_eq_true, decide_eq_true_eq] at h
  obtain ⟨⟨⟨⟨⟨⟨_, h2⟩, _⟩, h4⟩, h5⟩, _⟩, h7⟩ := h
  have : f.stride * (k / f.per) ≤ f.stride * ((f.count - 1) / f.per) :=
    Nat.mul_le_mul_left _ (Nat.div_le_div_right (by omega))
  have h8 : f.stride * (k / f.per) % 4 = 0 := by rw [Nat.mul_mod, h5]; simp
  simp only [Field.word]; omega

/-- The bits of an element are among the bits of its field in that word. -/
theorem Field.mask_bit (f : Field) (k i : Nat) (h : f.fits = true) (hk : k < f.count) (hi : i < f.width) :
    (f.mask (f.word k)).getLsbD (f.bit k + i) = true := by
  have h' := h
  simp only [Field.fits, Bool.and_eq_true, decide_eq_true_eq] at h'
  obtain ⟨⟨⟨⟨⟨⟨h1, h2⟩, _⟩, _⟩, _⟩, _⟩, _⟩ := h'
  have hle := f.bit_le k h
  have e := getLsbD_foldl_or (List.range (f.inWord (f.word k))) (fun _ => true)
    (fun j => BitVec.ofNat 32 ((2 ^ f.width - 1) * 2 ^ (f.lo + f.step * j))) 0 (f.bit k + i)
  simp only [if_true] at e
  rw [Field.mask, e, Bool.or_eq_true, List.any_eq_true]
  refine .inr ⟨k % f.per, ?_, ?_⟩
  · rw [List.mem_range]
    have hdiv : (f.word k - f.off) / f.stride = k / f.per := by
      simp only [Field.word, Nat.add_sub_cancel_left, Nat.mul_div_cancel_left _ h1]
    have := Nat.mod_lt k h2
    have := Nat.div_add_mod k f.per
    have hm : f.per * (k / f.per) = k / f.per * f.per := Nat.mul_comm _ _
    simp only [Field.inWord, hdiv, Nat.min_def]
    split <;> omega
  · have hb : f.lo + f.step * (k % f.per) = f.bit k := rfl
    rw [hb, Bool.true_and, BitVec.getLsbD_ofNat]
    simp only [show f.bit k + i < 32 by omega, decide_true, Bool.true_and]
    rw [Nat.mul_comm, Nat.testBit_two_pow_mul, Nat.testBit_two_pow_sub_one]
    simp [hi]

/-- The word of an element can hold it. -/
theorem implMask_bit (p : Page) (f : Field) (k i : Nat) (hp : p.valid = true) (hf : f ∈ p.fields) (hk : k < f.count) (hi : i < f.width) (h8 : 8 ≤ f.word k) :
    (implMask (p.base + f.word k)).getLsbD (f.bit k + i) = true := by
  have hfit := p.fits_of_mem f hf
  have hw := f.word_lt k hfit hk
  have hb := f.bit_le k hfit
  have ha := p.base_aligned
  unfold implMask
  split
  · rw [BitVec.getLsbD_allOnes, decide_eq_true_eq]; omega
  · rw [pageOf_base p hp _ (by omega)]
    simp only [show (p.base + f.word k) % 4096 = f.word k by omega, hw.1, show ¬ f.word k < 8 by omega, if_false, if_true, Page.mask, Bool.and_true]
    rw [getLsbD_foldl_or, Bool.or_eq_true, List.any_eq_true]
    exact .inr ⟨f, hf, by simp [f.covers_word k hfit hk, f.mask_bit k i hfit hk hi]⟩

/-- Distinct pages, or distinct offsets, are distinct addresses. -/
theorem Page.addr_ne (p q : Page) (o o' : Nat) (hp : p.valid = true) (hq : q.valid = true) (ho : o < 4096) (ho' : o' < 4096)
    (h : p ≠ q ∨ o ≠ o') : p.base + o ≠ q.base + o' := by
  intro e
  have h1 := pageOf_base p hp o ho
  have h2 := pageOf_base q hq o' ho'
  rw [e, h2] at h1
  obtain rfl : q = p := by simpa using h1
  rcases h with h | h
  · exact h rfl
  · omega

end Sys2Proof

namespace Sys2Proof.Machine

open Sys2Proof

/-! ### The register store -/

/-- After a register write, the word written reads what it can hold of the value, and every other word as before. -/
theorem Chip.word_reg (c : Chip) (a b : Nat) (v : Word) :
    ((Prim.reg a v).run c).word b = if b = a then regNorm c.strap.toNat a v else c.word b := by
  simp [Chip.word, Prim.run]

/-- A word reset with its range reads its reset value; every other word reads as before. -/
theorem Chip.word_regsReset (c : Chip) (lo hi b : Nat) :
    ((Prim.regsReset lo hi).run c).word b = if lo ≤ b ∧ b < hi then resetWord c.strap.toNat b else c.word b := by
  simp [Chip.word, Prim.run]

/-- The word does not hold whatever is written: the fixed PAGE_ID and PAGE_CAP, and the gate bits of a leg cell or of a bridge cell. -/
def boundWord (p : Page) (o : Nat) : Bool := decide (o < 8) || (o == 0x05C && (p.blk == .leg || p.blk == .brg))

theorem boundWord_ge {p : Page} {o : Nat} (h : boundWord p o = false) : 8 ≤ o := by
  simp only [boundWord, Bool.or_eq_false_iff, decide_eq_false_iff_not] at h; omega

/-- Away from the bound words, each bit of a stored word is the bit written, or its reset value where none can be held. -/
theorem regNorm_bit (p : Page) (o strap i : Nat) (v : Word) (hp : p.valid = true) (ho : o < 4096) (hg : boundWord p o = false)
    (hm : (implMask (p.base + o)).getLsbD i = true) : (regNorm strap (p.base + o) v).getLsbD i = v.getLsbD i := by
  have hi : i < 32 := by
    by_cases h : i < 32
    · exact h
    · rw [BitVec.getLsbD_of_ge _ _ (by omega)] at hm; cases hm
  have ha := p.base_aligned
  have hoff : (p.base + o) % 4096 = o := by omega
  have hidx : p.idx < p.blk.count := by simpa [Page.valid] using hp
  have h1 : ¬ (0x42100000 ≤ p.base + o ∧ p.base + o < 0x42160000 ∧ (p.base + o) % 4096 = 0x05C) := by
    rintro ⟨hlo, hhi, hx⟩
    rw [hoff] at hx
    subst hx
    have h0 : pageOf (p.base + 0x05C) = some ⟨.leg, (p.base + 0x05C - 0x42100000) / 4096⟩ := by
      have := pageOf_base ⟨.leg, (p.base + 0x05C - 0x42100000) / 4096⟩ (by simp [Page.valid, Blk.count]; omega) 0x05C (by omega)
      rwa [show (⟨.leg, (p.base + 0x05C - 0x42100000) / 4096⟩ : Page).base + 0x05C = p.base + 0x05C by
        simp only [Page.base, Blk.base] at *; omega] at this
    rw [pageOf_base p hp _ (by omega)] at h0
    have : p.blk = .leg := by rw [Option.some.inj h0]
    simp [boundWord, this] at hg
  have h2 : ¬ (0x44100000 ≤ p.base + o ∧ p.base + o < 0x44110000 ∧ (p.base + o) % 4096 = 0x05C) := by
    rintro ⟨hlo, hhi, hx⟩
    rw [hoff] at hx
    subst hx
    have h0 : pageOf (p.base + 0x05C) = some ⟨.brg, (p.base + 0x05C - 0x44100000) / 4096⟩ := by
      have := pageOf_base ⟨.brg, (p.base + 0x05C - 0x44100000) / 4096⟩ (by simp [Page.valid, Blk.count]; omega) 0x05C (by omega)
      rwa [show (⟨.brg, (p.base + 0x05C - 0x44100000) / 4096⟩ : Page).base + 0x05C = p.base + 0x05C by
        simp only [Page.base, Blk.base] at *; omega] at this
    rw [pageOf_base p hp _ (by omega)] at h0
    have : p.blk = .brg := by rw [Option.some.inj h0]
    simp [boundWord, this] at hg
  simp only [regNorm, h1, h2, false_and, if_false]
  rw [BitVec.getLsbD_or, BitVec.getLsbD_and, BitVec.getLsbD_and, BitVec.getLsbD_not, hm]
  simp

/-! ### Fields -/

/-- A field that was written reads the value written. -/
theorem Chip.fld_put_same (c : Chip) (p : Page) (f : Field) (v k : Nat) (hp : p.valid = true) (hf : f ∈ p.fields) (hk : k < f.count)
    (hg : boundWord p (f.word k) = false) : ((put p f v k).run c).fld p f k = v % 2 ^ f.width := by
  have hfit := p.fits_of_mem f hf
  have hw := f.word_lt k hfit hk
  have hb := f.bit_le k hfit
  simp only [put, setWord, Act.run_dyn, Act.run_prim, Chip.fld, Chip.word_reg, if_true]
  rw [Word.bits_ext _ ((c.word (p.base + f.word k)).setBits (f.bit k) f.width v), Word.bits_setBits _ _ _ _ hb]
  intro i hi
  exact regNorm_bit p _ _ _ _ hp (by omega) hg (implMask_bit p f k i hp hf hk hi (boundWord_ge hg))

/-- A field of another word reads as before. -/
theorem Chip.fld_put_word (c : Chip) (p q : Page) (f g : Field) (v k j : Nat) (h : p.base + f.word k ≠ q.base + g.word j) :
    ((put p f v k).run c).fld q g j = c.fld q g j := by
  simp only [put, setWord, Act.run_dyn, Act.run_prim, Chip.fld, Chip.word_reg, if_neg (Ne.symm h)]

/-- A field of the same word that shares no bit reads as before. -/
theorem Chip.fld_put_bits (c : Chip) (p : Page) (f g : Field) (v k j : Nat) (hp : p.valid = true) (hg : g ∈ p.fields) (hj : j < g.count)
    (hw : f.word k = g.word j) (hd : g.bit j + g.width ≤ f.bit k ∨ f.bit k + f.width ≤ g.bit j) (hgate : boundWord p (g.word j) = false) :
    ((put p f v k).run c).fld p g j = c.fld p g j := by
  have hfit := p.fits_of_mem g hg
  have hlt := g.word_lt j hfit hj
  have hb := g.bit_le j hfit
  simp only [put, setWord, Act.run_dyn, Act.run_prim, Chip.fld, Chip.word_reg, hw, if_true]
  rw [Word.bits_ext _ ((c.word (p.base + g.word j)).setBits (f.bit k) f.width v), Word.bits_setBits_other _ _ _ _ _ _ hb hd]
  intro i hi
  exact regNorm_bit p _ _ _ _ hp (by omega) hgate (implMask_bit p g j i hp hg hj hi (boundWord_ge hgate))

/-- A write of a field leaves every word but its own. -/
theorem Chip.word_put (c : Chip) (p : Page) (f : Field) (v k b : Nat) (h : b ≠ p.base + f.word k) :
    ((put p f v k).run c).word b = c.word b := by
  simp only [put, setWord, Act.run_dyn, Act.run_prim, Chip.word_reg, if_neg h]

end Sys2Proof.Machine
end

