-- ==== Sys2Proof/Laws/Memory.lean ====
section
/-! SUPPORT. The byte memories keep their canonical form, and what a byte reads after each primitive write. -/

namespace Sys2Proof.Machine

open Sys2Proof

/-- Every primitive write keeps the canonical form of the byte memories. -/
theorem Prim.run_memory_wf (p : Prim) (c : Chip) (h : Memory.wf c.mem = true) : Memory.wf (p.run c).mem = true := by
  cases p <;> try exact h
  case until_ t => simp only [Prim.run]; split <;> exact h
  case por => rfl
  case byte a v => exact SMap.wf_put _ _ _ _ h
  case memReset lo hi => exact SMap.wf_erase _ _ _ h

/-- Every effect keeps the canonical form of the byte memories. -/
theorem Act.run_memory_wf (a : Act) (c : Chip) (h : Memory.wf c.mem = true) : Memory.wf (a.run c).mem = true :=
  Act.run_keeps (P := fun _ => True) (Q := fun c => Memory.wf c.mem = true) (fun p c _ h => p.run_memory_wf c h) a (a.only_all fun _ => trivial) c h

/-- The memory at reset is in its canonical form. -/
theorem reset_memory_wf : Memory.wf State.reset.chip.mem = true := rfl

/-- A byte that is written reads back, and every other byte reads as before. -/
theorem Chip.byte_write (c : Chip) (a b : Nat) (v : Byte) : ((Prim.byte a v).run c).byte b = if b = a then v else c.byte b :=
  SMap.get_put _ _ _ _ _

/-- A byte in a range that is cleared reads 0, and every other byte reads as before. -/
theorem Chip.byte_memReset (c : Chip) (lo hi b : Nat) :
    ((Prim.memReset lo hi).run c).byte b = if lo ≤ b ∧ b < hi then 0 else c.byte b := by
  simp [Chip.byte, Prim.run]

end Sys2Proof.Machine
end

