-- ==== Sys2Proof/Tests/Slice0.lean ====
section
/-! SUPPORT. Tests: states that meet the hypotheses of the statements, terms that a check of WellFormed refuses, and effects worked out by hand from the spec. -/

namespace Sys2Proof.Tests

open Sys2Proof Sys2Proof.Machine

section

set_option Elab.async false
set_option linter.unusedVariables false

/-- A powered chip: every domain on, the Tide counting, Quay A the active one; then what `as` does. -/
def liveOn (b : Chip) (as : List Act) : State :=
  { chip := (seqs ([put pgPWR Reg.PWR.DOM_STAT 0x3FFF, modSeqS fun s => { s with on := 0x3FFF, good := 0x3FFF }, .prim (.owner (some .A)), .prim (.tideRun true)] ++ as)).run b, pending := [] }

/-- The same from reset. -/
def live (as : List Act) : State := liveOn {} as


/-- These domains are on, and these are good. -/
def domsOn (m : Nat) : Act := .seq (put pgPWR Reg.PWR.DOM_STAT m) (modSeqS fun s => { s with on := m })

def domsGood (m : Nat) : Act := .seq (put pgPWR Reg.PWR.DOM_GOOD m) (modSeqS fun s => { s with good := m })

/-- Lane 0 of Quay A is about to execute this word of law memory. -/
def lawAct (lo hi : Word) : Act :=
  seqs [setWord (lawAddr .A 2048) lo, setWord (lawAddr .A 2048 + 4) hi,
    modLane 0 fun s => { s with run := some ⟨⟨1, 0, [], [], [], 0, []⟩, 0, 2100, 4, 1000, 1000, 2048, 0, 0, 0, none, 0, .none⟩ }]

/-- The header of a signed image: key 1 of the base point, an SCB of 512 zero bytes and an empty QUAY section. -/
def bootWords : List Word :=
    [0x6410b001, 0, 0, 0x2, 0xf2d1176b, 0x47422ce1, 0xe5e6bcf8, 0xf240a463, 0x817d0377, 0xa033eb2d, 0x4539a1f4, 0x96c298d8, 0xe242e34f, 0x9b7f1afe, 0x4aebe78e, 0x169e0f7c, 0x5733ce2b, 0xce5e316b, 0x6840b6cb, 0xf551bf37] ++
    [0x1, 0x210, 0x200, 0, 0xc7276a07, 0x2ace5a9e, 0xddf9473d, 0xffe4832e, 0x2b87a86e, 0xf618223c, 0x9bb8926c, 0x6065f355] ++
    [0x2, 0x410, 0, 0, 0x42c4b0e3, 0x141cfc98, 0xc8f4fb9a, 0x24b96f99, 0xe441ae27, 0x4c939b64, 0x1b9995a4, 0x55b85278] ++
    List.replicate 72 0 ++
    [0xf2d1176b, 0x47422ce1, 0xe5e6bcf8, 0xf240a463, 0x817d0377, 0xa033eb2d, 0x4539a1f4, 0x96c298d8, 0x33cf2edd, 0xb3af383d, 0x2e020f65, 0x53afb6ad, 0x3943dcab, 0x5e4f68e5, 0xd3694e46, 0x2ad2740e]

/-- The chip after a command on its own. -/
def ran (i : Instr) (s : State) : Chip :=
  match exec i s with
  | .next t => t.chip
  | _ => s.chip

/-- KeyWordsOpenTheWindow: lockFirstWord can complete as stated. -/
theorem test_meets_KeyWordsOpenTheWindow_lockFirstWord :
    (fun (dt : Nat) (src : Src) (p : Page) (s : State) =>
      let c := s.chip.after dt
      ((c.serves src p 0x024 true ∧ c.mirrorShuts p = false ∧ (c.pst p).holder = none ∧ c.flag p Reg.HDR.LOCK_LOCKOUT = false) : Prop)) 5 (.core .A 2) (pgLEG 7) (live []) := by
  decide +kernel

/-- KeyWordsOpenTheWindow: lockSecondWord can complete as stated. -/
theorem test_meets_KeyWordsOpenTheWindow_lockSecondWord :
    (fun (dt : Nat) (src : Src) (p : Page) (s : State) =>
      let c := s.chip.after dt
      ((c.serves src p 0x024 true ∧ c.mirrorShuts p = false ∧ (c.pst p).holder = none ∧ c.flag p Reg.HDR.LOCK_LOCKOUT = false ∧ ((c.pst p).armed.any fun e => e.1 == src.code && decide (c.now ≤ e.2 + 640))) : Prop)) 640 (.core .A 2) (pgLEG 7) (live [modPst (pgLEG 7) fun x => { x with armed := [(2, 0)] }]) := by
  decide +kernel

/-- KeyWordsOpenTheWindow: lockBadWord can complete as stated. -/
theorem test_meets_KeyWordsOpenTheWindow_lockBadWord :
    (fun (dt : Nat) (src : Src) (p : Page) (v : Word) (s : State) =>
      let c := s.chip.after dt
      ((c.serves src p 0x024 true ∧ c.mirrorShuts p = false ∧ (c.pst p).holder = none ∧ c.flag p Reg.HDR.LOCK_LOCKOUT = false ∧ v ≠ 0 ∧ v ≠ firstWord p ∧ v ≠ secondWord p) : Prop)) 0 (.core .A 2) (pgLEG 95) 7#32 (live [put (pgLEG 95) Reg.HDR.LOCK_FAILS 2]) := by
  decide +kernel

/-- KeyWordsOpenTheWindow: lockBusyWrite can complete as stated. -/
theorem test_meets_KeyWordsOpenTheWindow_lockBusyWrite :
    (fun (dt : Nat) (src : Src) (p : Page) (v : Word) (s : State) =>
      let c := s.chip.after dt
      ((c.serves src p 0x024 true ∧ c.mirrorShuts p = false ∧ ((c.pst p).holder.any fun e => e.1 != src.code && decide (c.now < e.2 + 20480))) : Prop)) 20479 (.core .A 2) (pgLEG 7) 0#32 (live [modPst (pgLEG 7) fun x => { x with holder := some (0, 0) }]) := by
  decide +kernel

/-- KeyWordsOpenTheWindow: lockRelease can complete as stated. -/
theorem test_meets_KeyWordsOpenTheWindow_lockRelease :
    (fun (dt : Nat) (src : Src) (p : Page) (s : State) =>
      let c := s.chip.after dt
      ((c.serves src p 0x024 true ∧ c.mirrorShuts p = false ∧ ((c.pst p).holder.any fun e => e.1 == src.code && decide (c.now < e.2 + 20480))) : Prop)) 20479 (.core .A 2) (pgLEG 7) (live [modPst (pgLEG 7) fun x => { x with holder := some (2, 0) }]) := by
  decide +kernel

/-- KeyWordsOpenTheWindow: lockArmExpire can complete as stated. -/
theorem test_meets_KeyWordsOpenTheWindow_lockArmExpire :
    (fun (dt : Nat) (src : Src) (p : Page) (s : State) =>
      let c := s.chip.after dt
      ((pageAddressed p ∧ ((c.pst p).armed.any fun e => e.1 == src.code)) : Prop)) 0 (.core .A 2) (pgLEG 7) (live [modPst (pgLEG 7) fun x => { x with armed := [(2, 0)] }]) := by
  decide +kernel

/-- KeyWordsOpenTheWindow: lockWindowExpire can complete as stated. -/
theorem test_meets_KeyWordsOpenTheWindow_lockWindowExpire :
    (fun (dt : Nat) (p : Page) (s : State) =>
      let c := s.chip.after dt
      ((pageAddressed p ∧ (c.pst p).holder.isSome) : Prop)) 0 (pgLEG 7) (live [modPst (pgLEG 7) fun x => { x with holder := some (1, 0) }]) := by
  decide +kernel

/-- CommitsTakeAndApplySnapshots: commitGo can complete as stated. -/
theorem test_meets_CommitsTakeAndApplySnapshots_commitGo :
    (fun (dt : Nat) (src : Src) (p : Page) (discard : Bool) (s : State) =>
      let c := s.chip.after dt
      let plain := !p.grouped && (mirrorPage p).isNone
      ((c.serves src p 0x028 true ∧ plain ∧ discard = false ∧ (c.pst p).copyDue = none ∧ (c.pst p).holder = none) : Prop)) 0 (.core .A 0) (pgFG 3) false (live [put (pgFG 3) Reg.FG.PERIOD 30000]) := by
  decide +kernel

/-- CommitsTakeAndApplySnapshots: snapshotCheckDone can complete as stated. -/
theorem test_meets_CommitsTakeAndApplySnapshots_snapshotCheckDone :
    (fun (dt : Nat) (p : Page) (parity : Bool) (s : State) =>
      let c := s.chip.after dt
      let x := (c.pst p).snaps.head?
      ((pageAddressed p ∧ p.grouped = false ∧ (x.any fun x => x.ok.isNone)) : Prop)) 0 (pgFG 3) false (live [modPst (pgFG 3) fun x => { x with snaps := [⟨[(0x040, 30000#32)], [], 0, 0, 0, false, none⟩] }]) := by
  decide +kernel

/-- CommitsTakeAndApplySnapshots: snapshotApply can complete as stated. -/
theorem test_meets_CommitsTakeAndApplySnapshots_snapshotApply :
    (fun (dt : Nat) (p : Page) (s : State) =>
      let c := s.chip.after dt
      let lead := leadOf p
      ((pageAddressed p ∧ ((c.pst lead).snaps.any Snap.due)) : Prop)) 0 (pgFG 3) (live [modPst (pgFG 3) fun x => { x with snaps := [⟨[(0x040, 30000#32)], [], 0, 0, 0, false, some true⟩] }]) := by
  decide +kernel

/-- CommitsTakeAndApplySnapshots: commitDiscard can complete as stated. -/
theorem test_meets_CommitsTakeAndApplySnapshots_commitDiscard :
    (fun (dt : Nat) (src : Src) (p : Page) (s : State) =>
      let c := s.chip.after dt
      ((c.serves src p 0x028 true ∧ p.grouped = false ∧ (mirrorPage p).isNone) : Prop)) 0 (.core .A 0) (pgFG 3) (live [putFlag (pgFG 3) Reg.HDR.PAGE_STAT_DIRTY true]) := by
  decide +kernel

/-- CommitsTakeAndApplySnapshots: bankCopyDone can complete as stated. -/
theorem test_meets_CommitsTakeAndApplySnapshots_bankCopyDone :
    (fun (dt : Nat) (s : State) =>
      let c := s.chip.after dt
      (((c.pst pgACT).copyDue.isSome ∧ ((c.pst pgACT).held.all fun x => match x with | .write _ _ _ => true | .go _ => false)) : Prop)) 0 (live [modPst pgACT fun x => { x with copyDue := some 5 }]) := by
  decide +kernel

/-- CommitsTakeAndApplySnapshots: coefCopyDone can complete as stated. -/
theorem test_meets_CommitsTakeAndApplySnapshots_coefCopyDone :
    (fun (dt : Nat) (q : Quay) (s : State) =>
      let c := s.chip.after dt
      (((c.pst (pgENG q)).copyDue.isSome ∧ ((c.pst (pgENG q)).held.all fun x => match x with | .write _ _ _ => true | .go _ => false)) : Prop)) 0 .B (live [modPst (pgENG .B) fun x => { x with copyDue := some 5 }]) := by
  decide +kernel

/-- EnableAndSoftResetOfPages: enSet can complete as stated. -/
theorem test_meets_EnableAndSoftResetOfPages_enSet :
    (fun (dt : Nat) (src : Src) (p : Page) (s : State) =>
      let c := s.chip.after dt
      ((c.serves src p 0x008 true ∧ p.blk ≠ .fg ∧ p.blk ≠ .brg ∧ p.blk ≠ .ssc ∧ (mirrorPage p).isNone ∧ c.en p = false ∧ c.fgOn (c.fgOf p)) : Prop)) 0 (.core .A 0) (pgLEG 8) (live [putFlag (pgFG 0) Reg.HDR.PAGE_STAT_ENABLED true]) := by
  decide +kernel

/-- EnableAndSoftResetOfPages: enApply can complete as stated, in each case. -/
theorem test_meets_EnableAndSoftResetOfPages_enApply :
    ((fun (dt : Nat) (p : Page) (s : State) =>
      let c := s.chip.after dt
      ((pageAddressed p ∧ ((c.pst p).enWait.any fun e => e.1 == 0) ∧ (c.activeFails p || c.legMissing p || !c.fgOn (c.fgOf p)) = true) : Prop)) 0 ⟨.adc, 2⟩ (live [modPst ⟨.adc, 2⟩ fun x => { x with enWait := some (0, 0) }])) ∧
    ((fun (dt : Nat) (p : Page) (s : State) =>
      let c := s.chip.after dt
      ((pageAddressed p ∧ ((c.pst p).enWait.any fun e => e.1 == 0) ∧ (c.activeFails p || c.legMissing p || !c.fgOn (c.fgOf p)) = false) : Prop)) 0 ⟨.adc, 2⟩ (live [putFlag (pgFG 0) Reg.HDR.PAGE_STAT_ENABLED true, putFlag (pgFG 1) Reg.HDR.PAGE_STAT_ENABLED true, putFlag (pgFG 2) Reg.HDR.PAGE_STAT_ENABLED true, modPst ⟨.adc, 2⟩ fun x => { x with enWait := some (0, 0) }])) :=
  ⟨by decide +kernel, by decide +kernel⟩

/-- EnableAndSoftResetOfPages: enClear can complete as stated. -/
theorem test_meets_EnableAndSoftResetOfPages_enClear :
    (fun (dt : Nat) (src : Src) (p : Page) (s : State) =>
      let c := s.chip.after dt
      ((c.serves src p 0x008 true ∧ (c.stopRefused p).isNone ∧ (mirrorPage p).isNone) : Prop)) 0 (.core .A 0) (pgLEG 8) (live [put (pgLEG 8) Reg.HDR.PAGE_CTRL_EN 1]) := by
  decide +kernel

/-- EnableAndSoftResetOfPages: srst can complete as stated. -/
theorem test_meets_EnableAndSoftResetOfPages_srst :
    (fun (dt : Nat) (src : Src) (p : Page) (s : State) =>
      let c := s.chip.after dt
      ((c.serves src p 0x008 true ∧ (c.stopRefused p).isNone ∧ (!p.hasLock || c.windowHeld p src) ∧ (mirrorPage p).isNone) : Prop)) 0 (.core .A 0) (pgFG 5) (live [put (pgFG 5) Reg.FG.PERIOD 30000]) := by
  decide +kernel

/-- EnableAndSoftResetOfPages: srstComplete can complete as stated. -/
theorem test_meets_EnableAndSoftResetOfPages_srstComplete :
    (fun (dt : Nat) (p : Page) (s : State) =>
      let c := s.chip.after dt
      ((pageAddressed p ∧ (c.pst p).srstDue.isSome) : Prop)) 0 (pgFG 5) (live [modPst (pgFG 5) fun x => { x with srstDue := some 160 }]) := by
  decide +kernel

/-- EnableAndSoftResetOfPages: fgStart can complete as stated. -/
theorem test_meets_EnableAndSoftResetOfPages_fgStart :
    (fun (dt : Nat) (src : Src) (g : Fin 8) (s : State) =>
      let c := s.chip.after dt
      ((c.serves src (pgFG g) 0x008 true ∧ c.on (pgFG g) = false ∧ c.activeFails (pgFG g) = false ∧ c.fgFirst g < 2 ^ 64) : Prop)) 0 (.core .A 0) 3 (live [putActive (pgFG 3) Reg.FG.PERIOD 30000]) := by
  decide +kernel

/-- RegisterAccessesReadAndWrite: regWrite can complete as stated. -/
theorem test_meets_RegisterAccessesReadAndWrite_regWrite :
    (fun (dt : Nat) (src : Src) (a : BitVec 32) (size : Fin 3) (v : Word) (s : State) =>
      let c := s.chip.after dt
      let p := (pageOf a.toNat).getD pgTIDE
      let off := a.toNat % 4096
      let fs := p.fields.filter fun f => f.covers off
      (((pageOf a.toNat).isSome ∧ c.serves src p off true ∧ size = 2 ∧ 0x040 ≤ off ∧ off < 0x800 ∧ !fs.isEmpty ∧ (fs.all fun f => f.acc == .st && !f.lock) ∧ p.blk ≠ .can ∧ (mirrorPage p).isNone ∧ c.absent p off = false) : Prop)) 0 (.core .A 0) 0x42012040#32 2 30000#32 (live []) := by
  decide +kernel

/-- RegisterAccessesReadAndWrite: rcRead can complete as stated, in each case. -/
theorem test_meets_RegisterAccessesReadAndWrite_rcRead :
    ((fun (dt : Nat) (src : Src) (a : BitVec 32) (size : Fin 3) (ecc : Fin 3) (s : State) =>
      let c := s.chip.after dt
      let p := (pageOf a.toNat).getD pgTIDE
      let off := a.toNat % 4096
      (((pageOf a.toNat).isSome ∧ c.serves src p off false ∧ size = 2 ∧ (p.blk ≠ .evs ∨ off < 0x200 ∨ 0x400 ≤ off) ∧ (p.blk ≠ .can ∨ off < 0x104 ∨ 0x180 ≤ off) ∧ (p.blk ≠ .que ∨ (off ≠ 0x060 ∧ off ≠ 0x064)) ∧ (p.blk ≠ .dbg ∨ src ≠ .debug) ∧ c.mayWrite src p.region) : Prop)) 0 (.core .A 0) 0x42012020#32 2 0 (live [put (pgFG 1) Reg.HDR.ERR_CNT 5])) ∧
    ((fun (dt : Nat) (src : Src) (a : BitVec 32) (size : Fin 3) (ecc : Fin 3) (s : State) =>
      let c := s.chip.after dt
      let p := (pageOf a.toNat).getD pgTIDE
      let off := a.toNat % 4096
      (((pageOf a.toNat).isSome ∧ c.serves src p off false ∧ size = 2 ∧ (p.blk ≠ .evs ∨ off < 0x200 ∨ 0x400 ≤ off) ∧ (p.blk ≠ .can ∨ off < 0x104 ∨ 0x180 ≤ off) ∧ (p.blk ≠ .que ∨ (off ≠ 0x060 ∧ off ≠ 0x064)) ∧ (p.blk ≠ .dbg ∨ src ≠ .debug) ∧ c.mayWrite src p.region ∧ holdingLo p off) : Prop)) 0 (.core .A 0) 0x42010040#32 2 0 (live [])) ∧
    ((fun (dt : Nat) (src : Src) (a : BitVec 32) (size : Fin 3) (ecc : Fin 3) (s : State) =>
      let c := s.chip.after dt
      let n := (pageOf a.toNat).getD pgTIDE
      let off := a.toNat % 4096
      (((pageOf a.toNat).isSome ∧ n.blk = .evs ∧ 0x200 ≤ off ∧ off < 0x400 ∧ c.serves src n off false ∧ size = 2) : Prop)) 0 (.core .A 0) 0x4201C200#32 2 0 (live [])) ∧
    ((fun (dt : Nat) (src : Src) (a : BitVec 32) (size : Fin 3) (ecc : Fin 3) (s : State) =>
      let c := s.chip.after dt
      ((((match c.target src a.toNat with | .page _ | .none => false | .window => (mailboxOf a.toNat).isNone | _ => true) = true) ∧ c.respond src a.toNat (8 * 2 ^ size.val) false = .ok ∧ c.portOpen src ∧ (src ≠ .debug ∨ c.flag pgDBG Reg.DBG.DBG_STAT_PORT_OPEN) ∧ ecc ≠ 2) : Prop)) 0 (.core .A 0) 0x60000004#32 0 1 (live [.prim (.byte 0x60000004 7)])) ∧
    ((fun (dt : Nat) (src : Src) (a : BitVec 32) (size : Fin 3) (ecc : Fin 3) (s : State) =>
      let c := s.chip.after dt
      ((((match c.target src a.toNat with | .page _ | .none => false | .window => (mailboxOf a.toNat).isNone | _ => true) = true) ∧ c.respond src a.toNat (8 * 2 ^ size.val) false = .ok ∧ c.portOpen src ∧ (src ≠ .debug ∨ c.flag pgDBG Reg.DBG.DBG_STAT_PORT_OPEN) ∧ ecc ≠ 2) : Prop)) 0 (.core .B 2) 0x00000004#32 2 0 (live [])) ∧
    ((fun (dt : Nat) (src : Src) (a : BitVec 32) (size : Fin 3) (ecc : Fin 3) (s : State) =>
      let c := s.chip.after dt
      ((((match c.target src a.toNat with | .page _ | .none => false | .window => (mailboxOf a.toNat).isNone | _ => true) = true) ∧ c.respond src a.toNat (8 * 2 ^ size.val) false = .ok ∧ c.portOpen src ∧ (src ≠ .debug ∨ c.flag pgDBG Reg.DBG.DBG_STAT_PORT_OPEN) ∧ ecc = 2) : Prop)) 0 (.core .A 0) 0x4201A000#32 2 2 (live [])) :=
  ⟨by decide +kernel, by decide +kernel, by decide +kernel, by decide +kernel, by decide +kernel, by decide +kernel⟩

/-- RegisterAccessesReadAndWrite: holdingRead can complete as stated, in each case. -/
theorem test_meets_RegisterAccessesReadAndWrite_holdingRead :
    ((fun (dt : Nat) (src : Src) (p : Page) (off : Fin 1024) (s : State) =>
      let c := s.chip.after dt
      let o := 4 * off.val
      ((holdingLo p o ∧ c.serves src p o false ∧ p.blk ≠ .evs) : Prop)) 0 (.core .A 0) (pgFG 0) 12 (live [])) ∧
    ((fun (dt : Nat) (src : Src) (p : Page) (off : Fin 1024) (s : State) =>
      let c := s.chip.after dt
      let o := 4 * off.val
      ((holdingLo p o ∧ c.serves src p o false ∧ p.blk ≠ .evs) : Prop)) 0 (.core .A 0) pgTIDE 16 (live [])) ∧
    ((fun (dt : Nat) (src : Src) (p : Page) (off : Fin 1024) (s : State) =>
      let c := s.chip.after dt
      let o := 4 * off.val
      ((holdingLo p o ∧ c.serves src p o false ∧ p.blk = .evs) : Prop)) 0 (.core .A 0) ⟨.evs, 0⟩ 128 (live [])) :=
  ⟨by decide +kernel, by decide +kernel, by decide +kernel⟩

/-- RegisterAccessesReadAndWrite: evtPendClear can complete as stated, in each case. -/
theorem test_meets_RegisterAccessesReadAndWrite_evtPendClear :
    ((fun (dt : Nat) (src : Src) (p : Page) (v : Word) (s : State) =>
      let c := s.chip.after dt
      ((c.serves src p 0x018 true ∧ c.mirrorShuts p = false ∧ p.blk ∈ [Blk.fg, .act, .evs, .eng, .lane, .inj, .irq, .lck]) : Prop)) 0 (.core .A 0) (pgFG 0) 5#32 (live [put (pgFG 0) Reg.HDR.EVT_RAW 7])) ∧
    ((fun (dt : Nat) (src : Src) (p : Page) (v : Word) (s : State) =>
      let c := s.chip.after dt
      ((c.serves src p 0x018 true ∧ c.mirrorShuts p) : Prop)) 0 (.core .B 0) (pgENG .B) 5#32 (live [put (pgQCTL .A) Reg.QCTL.Q_STAT_QSTATE 4, put (pgQCTL .B) Reg.QCTL.Q_STAT_QSTATE 3])) :=
  ⟨by decide +kernel, by decide +kernel⟩

/-- RegisterAccessesReadAndWrite: errClr can complete as stated, in each case. -/
theorem test_meets_RegisterAccessesReadAndWrite_errClr :
    ((fun (dt : Nat) (src : Src) (p : Page) (s : State) =>
      let c := s.chip.after dt
      ((c.serves src p 0x01C true ∧ c.mirrorShuts p = false) : Prop)) 0 (.core .A 0) (pgFG 0) (live [put (pgFG 0) Reg.HDR.ERR_CODE_LAST 9])) ∧
    ((fun (dt : Nat) (src : Src) (p : Page) (s : State) =>
      let c := s.chip.after dt
      ((c.serves src p 0x01C true ∧ c.mirrorShuts p) : Prop)) 0 (.core .B 0) (pgENG .B) (live [put (pgQCTL .A) Reg.QCTL.Q_STAT_QSTATE 4, put (pgQCTL .B) Reg.QCTL.Q_STAT_QSTATE 3])) :=
  ⟨by decide +kernel, by decide +kernel⟩

/-- RegionsIsolateAndRestart: isoReq can complete as stated, in each case. -/
theorem test_meets_RegionsIsolateAndRestart_isoReq :
    ((fun (dt : Nat) (src : Src) (r : Fin 8) (s : State) =>
      let c := s.chip.after dt
      let p := pgFLT r
      ((c.serves src p 0x044 true ∧ r ≠ 7 ∧ ((r ≠ 2 ∧ r ≠ 3) ∨ c.windowHeld p src = true) ∧ c.isolated r = false) : Prop)) 0 (.core .A 0) 4 (live [])) ∧
    ((fun (dt : Nat) (src : Src) (r : Fin 8) (s : State) =>
      let c := s.chip.after dt
      let p := pgFLT r
      ((c.serves src p 0x044 true ∧ r ≠ 7 ∧ ((r ≠ 2 ∧ r ≠ 3) ∨ c.windowHeld p src = true) ∧ c.isolated r = false) : Prop)) 0 (.core .A 0) 2 (live [modPst (pgFLT 2) fun x => { x with holder := some (0, 0) }])) :=
  ⟨by decide +kernel, by decide +kernel⟩

/-- RegionsIsolateAndRestart: restart can complete as stated. -/
theorem test_meets_RegionsIsolateAndRestart_restart :
    (fun (dt : Nat) (src : Src) (r : Fin 8) (s : State) =>
      let c := s.chip.after dt
      let p := pgFLT r
      ((c.serves src p 0x044 true ∧ c.mayRestart r) : Prop)) 0 (.core .A 0) 4 (live [putFlag (pgFLT 4) Reg.FLTR.REG_STAT_ISOLATED true]) := by
  decide +kernel

/-- RegionsIsolateAndRestart: restartComplete can complete as stated. -/
theorem test_meets_RegionsIsolateAndRestart_restartComplete :
    (fun (dt : Nat) (r : Fin 8) (s : State) =>
      let c := s.chip.after dt
      let p := pgFLT r
      ((2 ≤ r.val ∧ r.val ≤ 6 ∧ c.flag p Reg.FLTR.REG_STAT_RESTARTING) : Prop)) 0 4 (live [putFlag (pgFLT 4) Reg.FLTR.REG_STAT_RESTARTING true]) := by
  decide +kernel

/-- RegionsIsolateAndRestart: interconnectTimeout can complete as stated. -/
theorem test_meets_RegionsIsolateAndRestart_interconnectTimeout :
    (fun (dt : Nat) (src : Src) (a : BitVec 32) (write : Bool) (waited : Nat) (s : State) =>
      let c := s.chip.after dt
      let r := (c.regionOf src a.toNat).getD 8
      ((2048 ≤ waited ∧ src ≠ .debug ∧ c.respond src a.toNat 32 write = .ok ∧ c.portOpen src ∧ r < 7 ∧ c.isolated r = false) : Prop)) 0 (.core .A 0) 0x44100040#32 false 2048 (live []) := by
  decide +kernel

/-- RegionsIsolateAndRestart: regionFaultIsolate can complete as stated. -/
theorem test_meets_RegionsIsolateAndRestart_regionFaultIsolate :
    (fun (dt : Nat) (r : Fin 8) (cause : Fin 4) (s : State) =>
      let c := s.chip.after dt
      ((r ≠ 7 ∧ c.isolated r = false) : Prop)) 0 5 3 (live []) := by
  decide +kernel

/-- RegionsIsolateAndRestart: arbDecision can complete as stated. -/
theorem test_meets_RegionsIsolateAndRestart_arbDecision :
    (fun (dt : Nat) (at_ : Arbiter) (reqs : List (Fin 16 × ArbClient)) (s : State) =>
      let c := s.chip.after dt
      ((((match at_ with | .gangway _ => false | _ => true) = true)) : Prop)) 0 (.region 3) [(1, .core), (0, .can)] (live []) := by
  decide +kernel

/-- RegionsIsolateAndRestart: cellFault can complete as stated. -/
theorem test_meets_RegionsIsolateAndRestart_cellFault :
    (fun (dt : Nat) (p : Page) (code : BitVec 8) (s : State) =>
      let c := s.chip.after dt
      ((pageAddressed p ∧ p.blk ∈ [Blk.leg, .adc, .dsf, .pos, .brg, .ssc]) : Prop)) 0 ⟨.adc, 3⟩ 0x41#8 (live []) := by
  decide +kernel

/-- RegionsIsolateAndRestart: regParityError can complete as stated, in each case. -/
theorem test_meets_RegionsIsolateAndRestart_regParityError :
    ((fun (dt : Nat) (p : Page) (s : State) =>
      let c := s.chip.after dt
      ((pageAddressed p ∧ p.blk ∈ [Blk.adc, .dsf, .pos, .ssc, .leg] ∧ (p.blk = .leg ∧ c.bstate (p.idx / 4) ∈ [1, 2, 3])) : Prop)) 0 (pgLEG 9) (live [put (pgLead 2) Reg.LEGL.BLK_STAT_BSTATE 2])) ∧
    ((fun (dt : Nat) (p : Page) (s : State) =>
      let c := s.chip.after dt
      ((pageAddressed p ∧ p.blk ∈ [Blk.adc, .dsf, .pos, .ssc, .leg] ∧ p.blk ≠ .leg) : Prop)) 0 (pgADC 11) (live [])) :=
  ⟨by decide +kernel, by decide +kernel⟩

/-- TrimSlewsWithinItsLimits: trimSlewStep can complete as stated. -/
theorem test_meets_TrimSlewsWithinItsLimits_trimSlewStep :
    (fun (dt : Nat) (ext : Int) (s : State) =>
      let c := s.chip.after dt
      let v := signed 32 c.trim
      ((c.fld pgTIDE Reg.TIDE.REF_STAT_STATE ∈ [1, 3] ∧ (-100000 ≤ v ∧ v ≤ 100000)) : Prop)) 0 0 (live [put pgTIDE Reg.TIDE.REF_STAT_STATE 1, putActive pgTIDE Reg.TIDE.TRIM_TARGET 5000, putActive pgTIDE Reg.TIDE.SLEW 100]) := by
  decide +kernel

/-- TrimSlewsWithinItsLimits: refLost can complete as stated. -/
theorem test_meets_TrimSlewsWithinItsLimits_refLost :
    (fun (dt : Nat) (ext : Bool) (s : State) =>
      let c := s.chip.after dt
      ((c.tideSt.refLost = false ∧ c.tideSt.refSeen ∧ ((c.refSrc = 1 ∧ ext = true) ∨ (c.refSrc = 2 ∧ ext = false ∧ c.flag pgTIDE Reg.TIDE.REF_STAT_GPTP_OK = true))) : Prop)) 0 true (live [putActive pgTIDE Reg.TIDE.REF_CTRL_SRC 1, modTideS fun x => { x with refSeen := true }]) := by
  decide +kernel

/-- TrimSlewsWithinItsLimits: refRegained can complete as stated. -/
theorem test_meets_TrimSlewsWithinItsLimits_refRegained :
    (fun (dt : Nat) (phase : Fin 250) (s : State) =>
      let c := s.chip.after dt
      ((c.refSrc = 1) : Prop)) 0 249 (live [putActive pgTIDE Reg.TIDE.REF_CTRL_SRC 1, modTideS fun x => { x with refLost := true }]) := by
  decide +kernel

/-- CrystalAndTidePllFaults: xtalLoss can complete as stated. -/
theorem test_meets_CrystalAndTidePllFaults_xtalLoss :
    (fun (dt : Nat) (s : State) =>
      let c := s.chip.after dt
      ((c.flag pgCLK Reg.CLK.CLK_STAT_XTAL_OK) : Prop)) 0 (live [putFlag pgCLK Reg.CLK.CLK_STAT_XTAL_OK true]) := by
  decide +kernel

/-- CrystalAndTidePllFaults: xtalRegained can complete as stated. -/
theorem test_meets_CrystalAndTidePllFaults_xtalRegained :
    (fun (dt : Nat) (s : State) =>
      let c := s.chip.after dt
      ((c.flag pgCLK Reg.CLK.CLK_STAT_XTAL_OK = false) : Prop)) 0 (live [modTideS fun x => { x with xtalLost := true }]) := by
  decide +kernel

/-- CrystalAndTidePllFaults: tideUnlock can complete as stated. -/
theorem test_meets_CrystalAndTidePllFaults_tideUnlock :
    (fun (dt : Nat) (s : State) =>
      let c := s.chip.after dt
      ((c.domainIsGood 5 ∧ (c.fld pgCLK Reg.CLK.CLK_STAT_FAULT).testBit 1 = false) : Prop)) 0 (live [put pgPWR Reg.PWR.DOM_GOOD 0x3FFF]) := by
  decide +kernel

/-- ActionsAreJudgedAtTheirDueTick: frameBoundary can complete as stated. -/
theorem test_meets_ActionsAreJudgedAtTheirDueTick_frameBoundary :
    (fun (dt : Nat) (g : Fin 8) (s : State) =>
      let c := s.chip.after dt
      ((c.tideOn ∧ c.fgOn g ∧ c.tideSt.firsts.contains g.val = false) : Prop)) 0 3 (live [putFlag (pgFG 3) Reg.HDR.PAGE_STAT_ENABLED true]) := by
  decide +kernel

/-- ActionsAreJudgedAtTheirDueTick: actionDispatch can complete as stated. -/
theorem test_meets_ActionsAreJudgedAtTheirDueTick_actionDispatch :
    (fun (dt : Nat) (i : Fin 256) (s : State) =>
      let c := s.chip.after dt
      let t := (c.dispatchDue i).getD 0
      (((c.dispatchDue i).isSome ∧ c.tideOn ∧ c.actRuns t ∧ c.tideSt.dispatched.contains (i.val, t) = false ∧ c.tideSt.judged.contains (i.val, t) = false ∧ t < 2 ^ 64 + 160) : Prop)) 0 3 (live [putFlag pgACT Reg.HDR.PAGE_STAT_ENABLED true, setWord 0x4201B030 0x2A1B#32, setWord 0x4201B034 5000#32]) := by
  decide +kernel

/-- ActionsAreJudgedAtTheirDueTick: actionSample can complete as stated. -/
theorem test_meets_ActionsAreJudgedAtTheirDueTick_actionSample :
    (fun (dt : Nat) (i : Fin 256) (s : State) =>
      let c := s.chip.after dt
      let e := c.action i
      let t := (c.dueOf i).getD 0
      (((c.dueOf i).isSome ∧ e.kind = akSAMPLE ∧ e.abs = false ∧ c.judgeable i t ∧ c.collides i t = false ∧ ((c.tideSt.executed.filter fun x => decide (t < x + 128) && decide (x ≤ t)).length < 32) ∧ e.type = 0x08) : Prop)) 0 0 (live [putFlag pgACT Reg.HDR.PAGE_STAT_ENABLED true, putFlag (pgFG 0) Reg.HDR.PAGE_STAT_ENABLED true, putActive (pgFG 0) Reg.FG.PERIOD 25000, put (pgFG 0) Reg.FG.NEXT_LO 25000, setWord 0x4201B000 0x803#32, setWord 0x4201B004 5000#32, setWord 0x4201B008 1#32, modTideS fun x => { x with dispatched := [(0, 5000)] }]) := by
  decide +kernel

/-- ActionsAreJudgedAtTheirDueTick: actionLaunch can complete as stated. -/
theorem test_meets_ActionsAreJudgedAtTheirDueTick_actionLaunch :
    (fun (dt : Nat) (i : Fin 256) (s : State) =>
      let c := s.chip.after dt
      let e := c.action i
      let t := (c.dueOf i).getD 0
      let q := c.owner.getD .A
      (((c.dueOf i).isSome ∧ e.kind = akLAUNCH ∧ e.abs = false ∧ c.judgeable i t ∧ c.collides i t = false ∧ ((c.tideSt.executed.filter fun x => decide (t < x + 128) && decide (x ≤ t)).length < 32) ∧ c.owner.isSome ∧ c.qstate q = 4 ∧ (c.laneOf q e.chan).queue.length < 4 ∧ c.lawBusy q e.arg = false ∧ e.arg < 1024 ∧ c.en (pgLANE q e.chan) ∧ c.en (pgENG q)) : Prop)) 0 0 (live [putFlag pgACT Reg.HDR.PAGE_STAT_ENABLED true, putFlag (pgFG 0) Reg.HDR.PAGE_STAT_ENABLED true, putActive (pgFG 0) Reg.FG.PERIOD 25000, put (pgFG 0) Reg.FG.NEXT_LO 25000, setWord 0x4201B000 0x01001005#32, setWord 0x4201B004 5000#32, setWord 0x4201B008 1#32, put (pgQCTL .A) Reg.QCTL.Q_STAT_QSTATE 4, putFlag (pgLANE .A 2) Reg.HDR.PAGE_CTRL_EN true, putFlag (pgENG .A) Reg.HDR.PAGE_CTRL_EN true, modTideS fun x => { x with dispatched := [(0, 5000)] }]) := by
  decide +kernel

/-- ActionsAreJudgedAtTheirDueTick: actionCapture can complete as stated. -/
theorem test_meets_ActionsAreJudgedAtTheirDueTick_actionCapture :
    (fun (dt : Nat) (i : Fin 256) (s : State) =>
      let c := s.chip.after dt
      let e := c.action i
      let t := (c.dueOf i).getD 0
      (((c.dueOf i).isSome ∧ e.kind = akCAPTURE ∧ e.abs = false ∧ c.judgeable i t ∧ c.collides i t = false ∧ ((c.tideSt.executed.filter fun x => decide (t < x + 128) && decide (x ≤ t)).length < 32) ∧ e.chan < 16) : Prop)) 0 0 (live [putFlag pgACT Reg.HDR.PAGE_STAT_ENABLED true, putFlag (pgFG 0) Reg.HDR.PAGE_STAT_ENABLED true, putActive (pgFG 0) Reg.FG.PERIOD 25000, put (pgFG 0) Reg.FG.NEXT_LO 25000, setWord 0x4201B000 0x01801507#32, setWord 0x4201B004 5000#32, setWord 0x4201B008 1#32, setWord 0x4201B00C 9#32, modTideS fun x => { x with dispatched := [(0, 5000)] }]) := by
  decide +kernel

/-- ActionsAreJudgedAtTheirDueTick: actionVstep can complete as stated, in each case. -/
theorem test_meets_ActionsAreJudgedAtTheirDueTick_actionVstep :
    ((fun (dt : Nat) (i : Fin 256) (s : State) =>
      let c := s.chip.after dt
      let e := c.action i
      let t := (c.dueOf i).getD 0
      (((c.dueOf i).isSome ∧ e.kind = akVSTEP ∧ e.abs = false ∧ c.judgeable i t ∧ c.collides i t = false ∧ ((c.tideSt.executed.filter fun x => decide (t < x + 128) && decide (x ≤ t)).length < 32) ∧ (c.on pgVCL ∧ c.act pgVCL Reg.VCL.VCL_CFG_SRC ≠ 1)) : Prop)) 0 0 (live [putFlag pgVCL Reg.HDR.PAGE_STAT_ENABLED true, putFlag pgACT Reg.HDR.PAGE_STAT_ENABLED true, putFlag (pgFG 0) Reg.HDR.PAGE_STAT_ENABLED true, putActive (pgFG 0) Reg.FG.PERIOD 25000, put (pgFG 0) Reg.FG.NEXT_LO 25000, setWord 0x4201B000 0x609#32, setWord 0x4201B004 5000#32, setWord 0x4201B008 1#32, modTideS fun x => { x with dispatched := [(0, 5000)] }])) ∧
    ((fun (dt : Nat) (i : Fin 256) (s : State) =>
      let c := s.chip.after dt
      let e := c.action i
      let t := (c.dueOf i).getD 0
      (((c.dueOf i).isSome ∧ e.kind = akVSTEP ∧ e.abs = false ∧ c.judgeable i t ∧ c.collides i t = false ∧ ((c.tideSt.executed.filter fun x => decide (t < x + 128) && decide (x ≤ t)).length < 32) ∧ c.on pgVCL = false) : Prop)) 0 0 (live [putFlag pgACT Reg.HDR.PAGE_STAT_ENABLED true, putFlag (pgFG 0) Reg.HDR.PAGE_STAT_ENABLED true, putActive (pgFG 0) Reg.FG.PERIOD 25000, put (pgFG 0) Reg.FG.NEXT_LO 25000, setWord 0x4201B000 0x609#32, setWord 0x4201B004 5000#32, setWord 0x4201B008 1#32, modTideS fun x => { x with dispatched := [(0, 5000)] }])) :=
  ⟨by decide +kernel, by decide +kernel⟩

/-- ActionsAreJudgedAtTheirDueTick: actionMark can complete as stated, in each case. -/
theorem test_meets_ActionsAreJudgedAtTheirDueTick_actionMark :
    ((fun (dt : Nat) (i : Fin 256) (s : State) =>
      let c := s.chip.after dt
      let e := c.action i
      let t := (c.dueOf i).getD 0
      (((c.dueOf i).isSome ∧ e.kind = akMARK ∧ e.abs = false ∧ c.judgeable i t ∧ c.collides i t = false ∧ ((c.tideSt.executed.filter fun x => decide (t < x + 128) && decide (x ≤ t)).length < 32)) : Prop)) 0 0 (live [putFlag pgACT Reg.HDR.PAGE_STAT_ENABLED true, putFlag (pgFG 0) Reg.HDR.PAGE_STAT_ENABLED true, putActive (pgFG 0) Reg.FG.PERIOD 25000, put (pgFG 0) Reg.FG.NEXT_LO 25000, setWord 0x4201B000 0x20B#32, setWord 0x4201B004 5000#32, setWord 0x4201B008 1#32, modTideS fun x => { x with dispatched := [(0, 5000)] }])) ∧
    ((fun (dt : Nat) (i : Fin 256) (s : State) =>
      let c := s.chip.after dt
      let e := c.action i
      let t := (c.dueOf i).getD 0
      (((c.dueOf i).isSome ∧ e.kind = akMARK ∧ e.abs = false ∧ c.judgeable i t ∧ c.collides i t = false ∧ ((c.tideSt.executed.filter fun x => decide (t < x + 128) && decide (x ≤ t)).length < 32) ∧ (c.actFlag pgEVS Reg.EVS.ROUTE_EN pgACT.route = true ∧ (c.stream (pgACT.srcId 0)).fifo.length < 8)) : Prop)) 0 0 (live [putActive pgEVS Reg.EVS.ROUTE_EN 1 pgACT.route, putFlag pgACT Reg.HDR.PAGE_STAT_ENABLED true, putFlag (pgFG 0) Reg.HDR.PAGE_STAT_ENABLED true, putActive (pgFG 0) Reg.FG.PERIOD 25000, put (pgFG 0) Reg.FG.NEXT_LO 25000, setWord 0x4201B000 0x20B#32, setWord 0x4201B004 5000#32, setWord 0x4201B008 1#32, modTideS fun x => { x with dispatched := [(0, 5000)] }])) :=
  ⟨by decide +kernel, by decide +kernel⟩

/-- VoltageCommandsAreJudgedAndAcknowledged: vclCmdAccept can complete as stated. -/
theorem test_meets_VoltageCommandsAreJudgedAndAcknowledged_vclCmdAccept :
    (fun (dt : Nat) (s : State) =>
      let c := s.chip.after dt
      let x := c.vcmds.headD (.A, 0, 0#32, 0)
      ((c.vcmds ≠ [] ∧ (c.owner = some x.1 ∧ c.on pgVCL = true ∧ vclValid x.2.2.1 = true ∧ x.2.2.1.bits 29 3 = 1 ∧ x.2.1 ≠ c.act pgVCL Reg.VCL.VCL_CFG_CMD_LANE)) : Prop)) 0 (live [modVcmds fun _ => [(.A, 3, 0x20000005#32, 100)], putFlag pgVCL Reg.HDR.PAGE_STAT_ENABLED true]) := by
  decide +kernel

/-- VoltageCommandsAreJudgedAndAcknowledged: vclExtFrame can complete as stated. -/
theorem test_meets_VoltageCommandsAreJudgedAndAcknowledged_vclExtFrame :
    (fun (dt : Nat) (w : Word) (crc : BitVec 8) (s : State) =>
      let c := s.chip.after dt
      ((c.on pgVCL ∧ crc.toNat = crc8 (wordBytes w) ∧ vclValid w ∧ w.bits 29 3 = 1 ∧ c.act pgVCL Reg.VCL.VCL_CFG_SRC = 2 ∧ c.act pgVCL Reg.VCL.V_LIMITS_V_MIN ≤ w.bits 0 16 ∧ w.bits 0 16 ≤ c.act pgVCL Reg.VCL.V_LIMITS_V_MAX ∧ c.act pgVCL Reg.VCL.V_LIMITS_V_MAX ≠ 0 ∧ c.cnvDown = false) : Prop)) 0 0x20000005#32 (BitVec.ofNat 8 (crc8 (wordBytes 0x20000005#32))) (live [putFlag pgVCL Reg.HDR.PAGE_STAT_ENABLED true, putActive pgVCL Reg.VCL.VCL_CFG_SRC 2, putActive pgVCL Reg.VCL.V_LIMITS_V_MAX 100, put pgCNV Reg.CNV.CNV_STAT_STATE 2]) := by
  decide +kernel

/-- VoltageCommandsAreJudgedAndAcknowledged: extFrameInvalid can complete as stated. -/
theorem test_meets_VoltageCommandsAreJudgedAndAcknowledged_extFrameInvalid :
    (fun (dt : Nat) (s : State) =>
      let c := s.chip.after dt
      ((c.on pgVCL) : Prop)) 0 (live [putFlag pgVCL Reg.HDR.PAGE_STAT_ENABLED true]) := by
  decide +kernel

/-- VoltageCommandsAreJudgedAndAcknowledged: vclExtTimeout can complete as stated. -/
theorem test_meets_VoltageCommandsAreJudgedAndAcknowledged_vclExtTimeout :
    (fun (dt : Nat) (s : State) =>
      let c := s.chip.after dt
      let ms := c.act pgVCL Reg.VCL.VCL_CFG_EXT_TIMEOUT
      ((c.on pgVCL ∧ c.act pgVCL Reg.VCL.VCL_CFG_SRC = 2 ∧ ms ≠ 0 ∧ c.flag pgVCL Reg.VCL.VCL_STAT_EXT_LOST = false ∧ (c.tideOn = true ∧ c.cnvSt.heard + 2500000 * ms < 2 ^ 64)) : Prop)) 0 (live [putFlag pgVCL Reg.HDR.PAGE_STAT_ENABLED true, putActive pgVCL Reg.VCL.VCL_CFG_SRC 2]) := by
  decide +kernel

/-- VoltageCommandsAreJudgedAndAcknowledged: vclAckSend can complete as stated. -/
theorem test_meets_VoltageCommandsAreJudgedAndAcknowledged_vclAckSend :
    (fun (dt : Nat) (s : State) =>
      let c := s.chip.after dt
      ((c.cnvSt.tx ≠ []) : Prop)) 0 (live [modCnvS fun x => { x with tx := [7#32] }]) := by
  decide +kernel

/-- VoltageCommandsAreJudgedAndAcknowledged: cnvStart can complete as stated, in each case. -/
theorem test_meets_VoltageCommandsAreJudgedAndAcknowledged_cnvStart :
    ((fun (dt : Nat) (src : Src) (s : State) =>
      let c := s.chip.after dt
      let ok := c.cnvState == cvOFF && c.cnvBlocks.all fun k => c.en (pgLead k)
      ((c.serves src pgCNV 0x050 true ∧ ok = true) : Prop)) 0 (.core .A 0) (live [put (pgLead 0) Reg.HDR.PAGE_CTRL_EN 1, putActive pgCNV Reg.CNV.CNV_CFG_PHASES 4])) ∧
    ((fun (dt : Nat) (src : Src) (s : State) =>
      let c := s.chip.after dt
      let ok := c.cnvState == cvOFF && c.cnvBlocks.all fun k => c.en (pgLead k)
      ((c.serves src pgCNV 0x050 true ∧ ok = false) : Prop)) 0 (.core .A 0) (live [put pgCNV Reg.CNV.CNV_STAT_STATE 3])) :=
  ⟨by decide +kernel, by decide +kernel⟩

/-- VoltageCommandsAreJudgedAndAcknowledged: cnvStop can complete as stated. -/
theorem test_meets_VoltageCommandsAreJudgedAndAcknowledged_cnvStop :
    (fun (dt : Nat) (src : Src) (s : State) =>
      let c := s.chip.after dt
      ((c.serves src pgCNV 0x050 true) : Prop)) 0 (.core .A 0) (live []) := by
  decide +kernel

/-- VoltageCommandsAreJudgedAndAcknowledged: cnvRestart can complete as stated. -/
theorem test_meets_VoltageCommandsAreJudgedAndAcknowledged_cnvRestart :
    (fun (dt : Nat) (src : Src) (s : State) =>
      let c := s.chip.after dt
      ((c.serves src pgCNV 0x050 true ∧ c.cnvState = cvFAULT) : Prop)) 0 (.core .A 0) (live [put pgCNV Reg.CNV.CNV_STAT_STATE 6]) := by
  decide +kernel

/-- LegBlocksShapeHoldAndStop: edgeEntry can complete as stated, in each case. -/
theorem test_meets_LegBlocksShapeHoldAndStop_edgeEntry :
    ((fun (dt : Nat) (q : Quay) (lane : Fin 8) (k : Fin 24) (w0 w1 : Word) (s : State) =>
      let c := s.chip.after dt
      let lead := pgLead k
      ((((c.outbox.find? fun e => e.q == q && e.lane == lane.val && e.block == k.val) = some ⟨q, lane, k, w0, w1⟩) ∧ c.owner = some q ∧ c.isolated 2 = false ∧ lane.val = c.act lead Reg.LEGL.BLK_CFG_LANE ∧ c.bstate k ≠ 0 ∧ c.bstate k ≠ 4) : Prop)) 100 .A 0 0 20000#32 0x10#32 (live [put (pgLead 0) Reg.LEGL.BLK_STAT_BSTATE 2, put (pgFG 0) Reg.FG.NEXT_LO 12500, put (pgLEG 0) Reg.HDR.PAGE_CTRL_EN 1, modOutbox fun _ => [⟨.A, 0, 0, 20000, 0x10⟩]])) ∧
    ((fun (dt : Nat) (q : Quay) (lane : Fin 8) (k : Fin 24) (w0 w1 : Word) (s : State) =>
      let c := s.chip.after dt
      let lead := pgLead k
      let last : Int := c.fgLast (c.fgOf lead)
      let per : Int := c.fgPeriod (c.fgOf lead)
      let t := fullTick c.t w0.toNat
      let b := last + (t - last) / per * per
      let pat := (c.blk k).pattern b.toNat
      let out := match c.earliestOf k b.toNat with | some e => c.classify k c.t t b per w1 pat e | none => .late
      ((((c.outbox.find? fun e => e.q == q && e.lane == lane.val && e.block == k.val) = some ⟨q, lane, k, w0, w1⟩) ∧ c.owner = some q ∧ c.isolated 2 = false ∧ lane.val = c.act lead Reg.LEGL.BLK_CFG_LANE ∧ c.bstate k ≠ 0 ∧ c.bstate k ≠ 4 ∧ out = .closes) : Prop)) 100 .A 0 0 12500#32 0#32 (live [put (pgLead 0) Reg.LEGL.BLK_STAT_BSTATE 2, put (pgFG 0) Reg.FG.NEXT_LO 12500, modOutbox fun _ => [⟨.A, 0, 0, 12500, 0⟩]])) ∧
    ((fun (dt : Nat) (q : Quay) (lane : Fin 8) (k : Fin 24) (w0 w1 : Word) (s : State) =>
      let c := s.chip.after dt
      let lead := pgLead k
      let last : Int := c.fgLast (c.fgOf lead)
      let per : Int := c.fgPeriod (c.fgOf lead)
      let t := fullTick c.t w0.toNat
      let b := last + (t - last) / per * per
      let pat := (c.blk k).pattern b.toNat
      let out := match c.earliestOf k b.toNat with | some e => c.classify k c.t t b per w1 pat e | none => .late
      ((((c.outbox.find? fun e => e.q == q && e.lane == lane.val && e.block == k.val) = some ⟨q, lane, k, w0, w1⟩) ∧ c.owner = some q ∧ c.isolated 2 = false ∧ lane.val = c.act lead Reg.LEGL.BLK_CFG_LANE ∧ c.bstate k ≠ 0 ∧ c.bstate k ≠ 4 ∧ (out = .late ∧ (c.bstate k ≠ 1 ∨ c.flag lead Reg.LEGL.BLK_STAT_SHUTTER_HOLD = false))) : Prop)) 100 .A 0 0 5000#32 0#32 (live [put (pgLead 0) Reg.LEGL.BLK_STAT_BSTATE 2, put (pgFG 0) Reg.FG.NEXT_LO 12500, modOutbox fun _ => [⟨.A, 0, 0, 5000, 0⟩]])) ∧
    ((fun (dt : Nat) (q : Quay) (lane : Fin 8) (k : Fin 24) (w0 w1 : Word) (s : State) =>
      let c := s.chip.after dt
      let lead := pgLead k
      ((((c.outbox.find? fun e => e.q == q && e.lane == lane.val && e.block == k.val) = some ⟨q, lane, k, w0, w1⟩) ∧ c.owner = some q ∧ c.isolated 2 = false ∧ lane.val = c.act lead Reg.LEGL.BLK_CFG_LANE ∧ c.bstate k ≠ 0 ∧ c.bstate k ≠ 4 ∧ (c.bstate k = 1 ∧ c.flag lead Reg.LEGL.BLK_STAT_SHUTTER_HOLD = true)) : Prop)) 100 .A 0 0 5000#32 0#32 (live [put (pgLead 0) Reg.LEGL.BLK_STAT_BSTATE 1, put (pgLead 0) Reg.LEGL.BLK_STAT_SHUTTER_HOLD 1, put (pgFG 0) Reg.FG.NEXT_LO 12500, modOutbox fun _ => [⟨.A, 0, 0, 5000, 0⟩]])) ∧
    ((fun (dt : Nat) (q : Quay) (lane : Fin 8) (k : Fin 24) (w0 w1 : Word) (s : State) =>
      let c := s.chip.after dt
      let lead := pgLead k
      let last : Int := c.fgLast (c.fgOf lead)
      let per : Int := c.fgPeriod (c.fgOf lead)
      let t := fullTick c.t w0.toNat
      let b := last + (t - last) / per * per
      let pat := (c.blk k).pattern b.toNat
      let out := match c.earliestOf k b.toNat with | some e => c.classify k c.t t b per w1 pat e | none => .late
      ((((c.outbox.find? fun e => e.q == q && e.lane == lane.val && e.block == k.val) = some ⟨q, lane, k, w0, w1⟩) ∧ c.owner = some q ∧ c.isolated 2 = false ∧ lane.val = c.act lead Reg.LEGL.BLK_CFG_LANE ∧ c.bstate k ≠ 0 ∧ c.bstate k ≠ 4 ∧ out = .ignored) : Prop)) 100 .A 0 0 20000#32 0x10#32 (live [put (pgLead 0) Reg.LEGL.BLK_STAT_BSTATE 2, put (pgFG 0) Reg.FG.NEXT_LO 12500, modBlk 0 fun x => x.setPattern ⟨12500, [], false, some 1⟩, modOutbox fun _ => [⟨.A, 0, 0, 20000, 0x10⟩]])) :=
  ⟨by decide +kernel, by decide +kernel, by decide +kernel, by decide +kernel, by decide +kernel⟩

/-- LegBlocksShapeHoldAndStop: closeEntry can complete as stated, in each case. -/
theorem test_meets_LegBlocksShapeHoldAndStop_closeEntry :
    ((fun (dt : Nat) (q : Quay) (lane : Fin 8) (k : Fin 24) (w0 w1 : Word) (s : State) =>
      let c := s.chip.after dt
      let lead := pgLead k
      let last : Int := c.fgLast (c.fgOf lead)
      let per : Int := c.fgPeriod (c.fgOf lead)
      let t := fullTick c.t w0.toNat
      let b := last + (t - last) / per * per
      let pat := (c.blk k).pattern b.toNat
      let out := match c.earliestOf k b.toNat with | some e => c.classify k c.t t b per (w1.setBits 4 3 0) pat e | none => .late
      ((((c.outbox.find? fun e => e.q == q && e.lane == lane.val && e.block == k.val) = some ⟨q, lane, k, w0, w1.setBits 4 3 0⟩) ∧ c.owner = some q ∧ c.isolated 2 = false ∧ lane.val = c.act lead Reg.LEGL.BLK_CFG_LANE ∧ c.bstate k ≠ 0 ∧ c.bstate k ≠ 4 ∧ out = .closes) : Prop)) 100 .A 0 0 12500#32 0#32 (live [put (pgLead 0) Reg.LEGL.BLK_STAT_BSTATE 2, put (pgFG 0) Reg.FG.NEXT_LO 12500, modOutbox fun _ => [⟨.A, 0, 0, 12500, 0⟩]])) ∧
    ((fun (dt : Nat) (q : Quay) (lane : Fin 8) (k : Fin 24) (w0 w1 : Word) (s : State) =>
      let c := s.chip.after dt
      let lead := pgLead k
      let last : Int := c.fgLast (c.fgOf lead)
      let per : Int := c.fgPeriod (c.fgOf lead)
      let t := fullTick c.t w0.toNat
      let b := last + (t - last) / per * per
      let pat := (c.blk k).pattern b.toNat
      let out := match c.earliestOf k b.toNat with | some e => c.classify k c.t t b per (w1.setBits 4 3 0) pat e | none => .late
      ((((c.outbox.find? fun e => e.q == q && e.lane == lane.val && e.block == k.val) = some ⟨q, lane, k, w0, w1.setBits 4 3 0⟩) ∧ c.owner = some q ∧ c.isolated 2 = false ∧ lane.val = c.act lead Reg.LEGL.BLK_CFG_LANE ∧ c.bstate k ≠ 0 ∧ c.bstate k ≠ 4 ∧ out = .closes) : Prop)) 100 .A 0 0 12500#32 0#32 (live [put (pgLead 0) Reg.LEGL.BLK_STAT_BSTATE 2, put (pgFG 0) Reg.FG.NEXT_LO 12500, modOutbox fun _ => [⟨.A, 0, 0, 12500, 0⟩]])) ∧
    ((fun (dt : Nat) (q : Quay) (lane : Fin 8) (k : Fin 24) (w0 w1 : Word) (s : State) =>
      let c := s.chip.after dt
      let lead := pgLead k
      let last : Int := c.fgLast (c.fgOf lead)
      let per : Int := c.fgPeriod (c.fgOf lead)
      let t := fullTick c.t w0.toNat
      let b := last + (t - last) / per * per
      let pat := (c.blk k).pattern b.toNat
      let out := match c.earliestOf k b.toNat with | some e => c.classify k c.t t b per (w1.setBits 4 3 0) pat e | none => .late
      ((((c.outbox.find? fun e => e.q == q && e.lane == lane.val && e.block == k.val) = some ⟨q, lane, k, w0, w1.setBits 4 3 0⟩) ∧ c.owner = some q ∧ c.isolated 2 = false ∧ lane.val = c.act lead Reg.LEGL.BLK_CFG_LANE ∧ c.bstate k ≠ 0 ∧ c.bstate k ≠ 4 ∧ (out = .late ∧ (c.bstate k ≠ 1 ∨ c.flag lead Reg.LEGL.BLK_STAT_SHUTTER_HOLD = false))) : Prop)) 100 .A 0 0 0#32 0#32 (live [put (pgLead 0) Reg.LEGL.BLK_STAT_BSTATE 2, put (pgFG 0) Reg.FG.NEXT_LO 12500, modOutbox fun _ => [⟨.A, 0, 0, 0, 0⟩]])) ∧
    ((fun (dt : Nat) (q : Quay) (lane : Fin 8) (k : Fin 24) (w0 w1 : Word) (s : State) =>
      let c := s.chip.after dt
      let lead := pgLead k
      ((((c.outbox.find? fun e => e.q == q && e.lane == lane.val && e.block == k.val) = some ⟨q, lane, k, w0, w1.setBits 4 3 0⟩) ∧ c.owner = some q ∧ c.isolated 2 = false ∧ lane.val = c.act lead Reg.LEGL.BLK_CFG_LANE ∧ c.bstate k ≠ 0 ∧ c.bstate k ≠ 4 ∧ (c.bstate k = 1 ∧ c.flag lead Reg.LEGL.BLK_STAT_SHUTTER_HOLD = true)) : Prop)) 100 .A 0 0 0#32 0#32 (live [put (pgLead 0) Reg.LEGL.BLK_STAT_BSTATE 1, put (pgLead 0) Reg.LEGL.BLK_STAT_SHUTTER_HOLD 1, put (pgFG 0) Reg.FG.NEXT_LO 12500, modOutbox fun _ => [⟨.A, 0, 0, 0, 0⟩]])) :=
  ⟨by decide +kernel, by decide +kernel, by decide +kernel, by decide +kernel⟩

/-- LegBlocksShapeHoldAndStop: closeDeadline can complete as stated, in each case. -/
theorem test_meets_LegBlocksShapeHoldAndStop_closeDeadline :
    ((fun (dt : Nat) (k : Fin 24) (s : State) =>
      let c := s.chip.after dt
      ((c.deadlineNear k ∧ (c.blk k).next.isSome) : Prop)) 0 2 (live [put (pgLead 2) Reg.LEGL.BLK_STAT_BSTATE 1, modBlk 2 (fun x => { x with next := some (25000, 736) }), putFlag (pgFG 0) Reg.HDR.PAGE_STAT_ENABLED true, putActive (pgFG 0) Reg.FG.PERIOD 25000, put (pgFG 0) Reg.FG.NEXT_LO 50000])) ∧
    ((fun (dt : Nat) (k : Fin 24) (s : State) =>
      let c := s.chip.after dt
      let lead := pgLead k
      let b := (c.nextDeadline k).1
      let pat := (c.blk k).pattern b
      let ok := pat.closed && pat.cause.isNone
      ((c.deadlineNear k ∧ (c.blk k).next.isSome ∧ (c.bstate k = 1 ∧ ok = true ∧ c.flag lead Reg.LEGL.BLK_STAT_SHUTTER_HOLD = false)) : Prop)) 0 2 (live [put (pgLead 2) Reg.LEGL.BLK_STAT_BSTATE 1, modBlk 2 (fun x => { x with next := some (25000, 736), pats := [⟨25000, [], true, none⟩] }), put (pgLead 2) Reg.LEGL.BLK_STAT_SHUTTER_HOLD 0, putFlag (pgFG 0) Reg.HDR.PAGE_STAT_ENABLED true, putActive (pgFG 0) Reg.FG.PERIOD 25000, put (pgFG 0) Reg.FG.NEXT_LO 50000])) ∧
    ((fun (dt : Nat) (k : Fin 24) (s : State) =>
      let c := s.chip.after dt
      let lead := pgLead k
      let b := (c.nextDeadline k).1
      let pat := (c.blk k).pattern b
      let ok := pat.closed && pat.cause.isNone
      ((c.deadlineNear k ∧ (c.blk k).next.isSome ∧ (c.bstate k = 3 ∧ ok = false ∧ c.flag lead Reg.LEGL.BLK_STAT_SWITCH_HOLD = false ∧ c.actFlag lead Reg.LEGL.BLK_CFG_MODE = false ∧ 1 ≤ c.fld lead Reg.LEGL.BLK_STAT_MISS_RUN)) : Prop)) 0 2 (live [put (pgLead 2) Reg.LEGL.BLK_STAT_BSTATE 3, put (pgLead 2) Reg.LEGL.BLK_STAT_MISS_RUN 1, modBlk 2 (fun x => { x with next := some (25000, 736) }), putFlag (pgFG 0) Reg.HDR.PAGE_STAT_ENABLED true, putActive (pgFG 0) Reg.FG.PERIOD 25000, put (pgFG 0) Reg.FG.NEXT_LO 50000])) ∧
    ((fun (dt : Nat) (k : Fin 24) (s : State) =>
      let c := s.chip.after dt
      ((c.deadlineNear k ∧ (c.blk k).next.isSome ∧ (c.bstate k = 0 ∨ c.bstate k = 4)) : Prop)) 0 2 (live [put (pgLead 2) Reg.LEGL.BLK_STAT_BSTATE 4, modBlk 2 (fun x => { x with next := some (25000, 736) }), putFlag (pgFG 0) Reg.HDR.PAGE_STAT_ENABLED true, putActive (pgFG 0) Reg.FG.PERIOD 25000, put (pgFG 0) Reg.FG.NEXT_LO 50000])) :=
  ⟨by decide +kernel, by decide +kernel, by decide +kernel, by decide +kernel⟩

/-- LegBlocksShapeHoldAndStop: patternTakeover can complete as stated. -/
theorem test_meets_LegBlocksShapeHoldAndStop_patternTakeover :
    (fun (dt : Nat) (k : Fin 24) (s : State) =>
      let c := s.chip.after dt
      (((c.blk k).takeover.isSome) : Prop)) 0 2 (live [modBlk 2 fun x => { x with takeover := some (500, 6) }]) := by
  decide +kernel

/-- LegBlocksShapeHoldAndStop: gateEdgeDue can complete as stated, in each case. -/
theorem test_meets_LegBlocksShapeHoldAndStop_gateEdgeDue :
    ((fun (dt : Nat) (n : Fin 96) (s : State) =>
      let c := s.chip.after dt
      let e := ((c.leg n).gates.headD ⟨0, false, false⟩)
      let obeys := match c.forced n with | some (_, st) => st == LegState.low && !e.high && e.on | none => true
      (((c.leg n).gates ≠ [] ∧ obeys = false) : Prop)) 0 5 (live [modLeg 5 (fun x => { x with gates := [⟨8000, true, true⟩] }), putFlag (pgLEG 5) Reg.LEG.LEG_STAT_GATE_L true])) ∧
    ((fun (dt : Nat) (n : Fin 96) (s : State) =>
      let c := s.chip.after dt
      let e := ((c.leg n).gates.headD ⟨0, false, false⟩)
      let obeys := match c.forced n with | some (_, st) => st == LegState.low && !e.high && e.on | none => true
      (((c.leg n).gates ≠ [] ∧ obeys = true) : Prop)) 0 5 (live [modLeg 5 (fun x => { x with gates := [⟨8000, true, true⟩] }), putFlag (pgLEG 5) Reg.HDR.PAGE_CTRL_EN true, putFlag (pgLEG 5) Reg.HDR.PAGE_STAT_ENABLED true, putFlag (pgLEG 4) Reg.HDR.PAGE_CTRL_EN true, putFlag (pgLEG 4) Reg.HDR.PAGE_STAT_ENABLED true, put (pgLead 1) Reg.LEGL.BLK_STAT_BSTATE 2, modBlk 1 (fun x => { x with imposed := false }), putFlag (pgLead 1) Reg.LEGL.BLK_STAT_SHUTTER_CLOSED false, putFlag (pgLead 1) Reg.LEGL.BLK_STAT_SHUTTER_HOLD false])) :=
  ⟨by decide +kernel, by decide +kernel⟩

/-- LegBlocksShapeHoldAndStop: patternEccError can complete as stated. -/
theorem test_meets_LegBlocksShapeHoldAndStop_patternEccError :
    (fun (dt : Nat) (k : Fin 24) (s : State) =>
      let c := s.chip.after dt
      ((c.bstate k ∈ [1, 2, 3]) : Prop)) 0 23 (live [put (pgLead 23) Reg.LEGL.BLK_STAT_BSTATE 3]) := by
  decide +kernel

/-- LegBlocksShapeHoldAndStop: blockEnterSafe can complete as stated. -/
theorem test_meets_LegBlocksShapeHoldAndStop_blockEnterSafe :
    (fun (dt : Nat) (k : Fin 24) (cause : Fin 7) (s : State) =>
      let c := s.chip.after dt
      ((cause ≠ 0 ∧ c.bstate k ∈ [1, 2, 3]) : Prop)) 0 0 4 (live [put (pgLead 0) Reg.LEGL.BLK_STAT_BSTATE 1]) := by
  decide +kernel

/-- LegBlocksShapeHoldAndStop: rearm can complete as stated, in each case. -/
theorem test_meets_LegBlocksShapeHoldAndStop_rearm :
    ((fun (dt : Nat) (src : Src) (k : Fin 24) (s : State) =>
      let c := s.chip.after dt
      let lead := pgLead k
      let ok := c.en lead && !c.flag lead Reg.LEGL.BLK_STAT_SHUTTER_CLOSED && (c.bstate k == 4 || c.flag lead Reg.LEGL.BLK_STAT_SHUTTER_HOLD) && c.fld (pgLLP k) Reg.LLP.LINK_STAT_DESAT == 0
      ((c.serves src lead 0x108 true ∧ ok = true) : Prop)) 0 (.core .A 0) 3 (live [putFlag (pgLead 3) Reg.HDR.PAGE_CTRL_EN true, putFlag (pgLead 3) Reg.HDR.PAGE_STAT_ENABLED true, putFlag (pgLead 3) Reg.LEGL.BLK_STAT_SHUTTER_CLOSED false])) ∧
    ((fun (dt : Nat) (src : Src) (k : Fin 24) (s : State) =>
      let c := s.chip.after dt
      let lead := pgLead k
      let ok := c.en lead && !c.flag lead Reg.LEGL.BLK_STAT_SHUTTER_CLOSED && (c.bstate k == 4 || c.flag lead Reg.LEGL.BLK_STAT_SHUTTER_HOLD) && c.fld (pgLLP k) Reg.LLP.LINK_STAT_DESAT == 0
      ((c.serves src lead 0x108 true ∧ ok = false) : Prop)) 0 (.core .A 0) 3 (live [])) :=
  ⟨by decide +kernel, by decide +kernel⟩

/-- LinkStatesTrainAndFail: linkTrain can complete as stated, in each case. -/
theorem test_meets_LinkStatesTrainAndFail_linkTrain :
    ((fun (dt : Nat) (src : Src) (k : Fin 24) (s : State) =>
      let c := s.chip.after dt
      let ok := (c.lstate k == 0 || c.lstate k == 5) && c.on (pgLLP k)
      ((c.serves src (pgLLP k) 0x04C true ∧ ok = true) : Prop)) 0 (.core .A 0) 3 (live [putFlag (pgLLP 3) Reg.HDR.PAGE_STAT_ENABLED true])) ∧
    ((fun (dt : Nat) (src : Src) (k : Fin 24) (s : State) =>
      let c := s.chip.after dt
      let ok := (c.lstate k == 0 || c.lstate k == 5) && c.on (pgLLP k)
      ((c.serves src (pgLLP k) 0x04C true ∧ ok = false) : Prop)) 0 (.core .A 0) 3 (live [])) :=
  ⟨by decide +kernel, by decide +kernel⟩

/-- LinkStatesTrainAndFail: linkDown can complete as stated. -/
theorem test_meets_LinkStatesTrainAndFail_linkDown :
    (fun (dt : Nat) (src : Src) (k : Fin 24) (s : State) =>
      let c := s.chip.after dt
      ((c.serves src (pgLLP k) 0x04C true ∧ c.lstate k ≠ 0 ∧ c.lstate k ≠ 5) : Prop)) 0 (.core .A 0) 3 (live [put (pgLLP 3) Reg.LLP.LINK_STAT_LSTATE 4]) := by
  decide +kernel

/-- LinkStatesTrainAndFail: linkDesatClr can complete as stated. -/
theorem test_meets_LinkStatesTrainAndFail_linkDesatClr :
    (fun (dt : Nat) (src : Src) (k : Fin 24) (s : State) =>
      let c := s.chip.after dt
      ((c.serves src (pgLLP k) 0x04C true ∧ c.linkUp k ∧ c.fld (pgLLP k) Reg.LLP.LINK_STAT_DESAT ≠ 0) : Prop)) 0 (.core .A 0) 3 (live [put (pgLLP 3) Reg.LLP.LINK_STAT_LSTATE 4, put (pgLLP 3) Reg.LLP.LINK_STAT_DESAT 5]) := by
  decide +kernel

/-- LinkStatesTrainAndFail: linkRecal can complete as stated. -/
theorem test_meets_LinkStatesTrainAndFail_linkRecal :
    (fun (dt : Nat) (src : Src) (k : Fin 24) (s : State) =>
      let c := s.chip.after dt
      ((c.serves src (pgLLP k) 0x04C true ∧ c.linkUp k) : Prop)) 0 (.core .A 0) 3 (live [put (pgLLP 3) Reg.LLP.LINK_STAT_LSTATE 4]) := by
  decide +kernel

/-- LinkStatesTrainAndFail: trainComplete can complete as stated. -/
theorem test_meets_LinkStatesTrainAndFail_trainComplete :
    (fun (dt : Nat) (k : Fin 24) (s : State) =>
      let c := s.chip.after dt
      let x := c.link k
      let legs := (x.cap 1).getD 0
      ((c.lstate k = 1 ∧ c.t ≤ x.since + 25000000 ∧ x.cap 0 = some 1 ∧ (x.cap 1).isSome ∧ (x.cap 2).isSome ∧ ((x.cap 3).getD 0).testBit (c.act (pgLLP k) Reg.LLP.LINK_CFG_RATE) ∧ (x.cap 4).isSome ∧ (x.cap 5).isSome ∧ ((legsOf k).all fun n => !(decide (legs ≤ n % 4) && c.en (pgLEG n)))) : Prop)) 0 3 (live [put (pgLLP 3) Reg.LLP.LINK_STAT_LSTATE 1, modLink 3 fun x => { x with caps := [(0, 1), (1, 4), (2, 16), (3, 7), (4, 1), (5, 1)] }]) := by
  decide +kernel

/-- LinkStatesTrainAndFail: trainTimeout can complete as stated. -/
theorem test_meets_LinkStatesTrainAndFail_trainTimeout :
    (fun (dt : Nat) (k : Fin 24) (s : State) =>
      let c := s.chip.after dt
      (((c.lstate k = 1 ∨ c.lstate k = 3)) : Prop)) 0 3 (live [put (pgLLP 3) Reg.LLP.LINK_STAT_LSTATE 1]) := by
  decide +kernel

/-- LinkStatesTrainAndFail: upTimeout can complete as stated. -/
theorem test_meets_LinkStatesTrainAndFail_upTimeout :
    (fun (dt : Nat) (k : Fin 24) (s : State) =>
      let c := s.chip.after dt
      ((c.linkUp k) : Prop)) 0 3 (live [put (pgLLP 3) Reg.LLP.LINK_STAT_LSTATE 4]) := by
  decide +kernel

/-- LinkSendsCalibrationAndEdges: calSend can complete as stated. -/
theorem test_meets_LinkSendsCalibrationAndEdges_calSend :
    (fun (dt : Nat) (k : Fin 24) (fine : Fin 8) (s : State) =>
      let c := s.chip.after dt
      let x := c.link k
      (((c.lstate k = 2 ∨ c.lstate k = 4) ∧ c.portOn k ∧ (x.rtts.any fun r => decide (r.length < 2 ^ c.act (pgLLP k) Reg.LLP.CAL_CFG_CAL_LOG2N)) ∧ x.cal = none ∧ c.nextEdge k = none) : Prop)) 0 3 2 (live [put (pgLLP 3) Reg.LLP.LINK_STAT_LSTATE 2, modLink 3 fun x => { x with rtts := some [] }]) := by
  decide +kernel

/-- LinkSendsCalibrationAndEdges: calEchoTimeout can complete as stated. -/
theorem test_meets_LinkSendsCalibrationAndEdges_calEchoTimeout :
    (fun (dt : Nat) (k : Fin 24) (s : State) =>
      let c := s.chip.after dt
      (((c.link k).cal.isSome) : Prop)) 0 3 (live [modLink 3 fun x => { x with cal := some (1, 80) }]) := by
  decide +kernel

/-- LinkSendsCalibrationAndEdges: calComplete can complete as stated. -/
theorem test_meets_LinkSendsCalibrationAndEdges_calComplete :
    (fun (dt : Nat) (k : Fin 24) (s : State) =>
      let c := s.chip.after dt
      let n := c.act (pgLLP k) Reg.LLP.CAL_CFG_CAL_LOG2N
      let r := (c.link k).rtts.getD []
      let new := (r.sum + 2 ^ n) / 2 ^ (n + 1)
      (((c.link k).rtts.isSome ∧ 2 ^ n ≤ r.length ∧ c.lstate k = 2 ∧ new ≤ 400) : Prop)) 0 3 (live [put (pgLLP 3) Reg.LLP.LINK_STAT_LSTATE 2, putActive (pgLLP 3) Reg.LLP.CAL_CFG_CAL_LOG2N 1, modLink 3 fun x => { x with rtts := some [300, 302] }]) := by
  decide +kernel

/-- LinkSendsCalibrationAndEdges: calPeriodExpire can complete as stated. -/
theorem test_meets_LinkSendsCalibrationAndEdges_calPeriodExpire :
    (fun (dt : Nat) (k : Fin 24) (s : State) =>
      let c := s.chip.after dt
      ((c.linkUp k ∧ c.act (pgLLP k) Reg.LLP.CAL_CFG_CAL_PERIOD ≠ 0) : Prop)) 0 3 (live [put (pgLLP 3) Reg.LLP.LINK_STAT_LSTATE 4]) := by
  decide +kernel

/-- LinkSendsCalibrationAndEdges: cfgSend can complete as stated. -/
theorem test_meets_LinkSendsCalibrationAndEdges_cfgSend :
    (fun (dt : Nat) (k : Fin 24) (s : State) =>
      let c := s.chip.after dt
      (((c.link k).cfg ≠ [] ∧ (c.lstate k = 3 ∨ c.lstate k = 4) ∧ c.portOn k ∧ c.nextEdge k = none) : Prop)) 0 3 (live [put (pgLLP 3) Reg.LLP.LINK_STAT_LSTATE 3, modLink 3 fun x => { x with cfg := [(1, 0, 3)] }]) := by
  decide +kernel

/-- LinkSendsCalibrationAndEdges: edgeFrameSend can complete as stated, in each case. -/
theorem test_meets_LinkSendsCalibrationAndEdges_edgeFrameSend :
    ((fun (dt : Nat) (k : Fin 24) (s : State) =>
      let c := s.chip.after dt
      let e := (c.launchable k).getD (0, ⟨0, false, false⟩, 0)
      let start := c.plainAt k (8 * c.t)
      (((c.launchable k).isSome ∧ c.linkUp k ∧ c.portOn k ∧ (start : Int) ≤ c.lastStart k e.2.1) : Prop)) 0 3 (live [put (pgLLP 3) Reg.LLP.LINK_STAT_LSTATE 4, put (pgLLP 3) Reg.LLP.DRV_CAPS1_DEPTH 16, modLink 3 fun x => { x with edges := [(1, ⟨8000, true, true⟩, 0)] }])) ∧
    ((fun (dt : Nat) (k : Fin 24) (s : State) =>
      let c := s.chip.after dt
      let e := (c.launchable k).getD (0, ⟨0, false, false⟩, 0)
      let start := c.plainAt k (8 * c.t)
      (((c.launchable k).isSome ∧ c.linkUp k ∧ c.portOn k ∧ c.lastStart k e.2.1 < start) : Prop)) 0 3 (live [put (pgLLP 3) Reg.LLP.LINK_STAT_LSTATE 4, put (pgLLP 3) Reg.LLP.DRV_CAPS1_DEPTH 16, modLink 3 fun x => { x with edges := [(1, ⟨800, true, true⟩, 0)] }])) :=
  ⟨by decide +kernel, by decide +kernel⟩

/-- LinkSendsCalibrationAndEdges: edgeLate can complete as stated. -/
theorem test_meets_LinkSendsCalibrationAndEdges_edgeLate :
    (fun (dt : Nat) (k : Fin 24) (s : State) =>
      let c := s.chip.after dt
      let e := (c.nextEdge k).getD (0, ⟨0, false, false⟩, 0)
      (((c.nextEdge k).isSome ∧ c.linkUp k ∧ e.2.1.t / 8 ≤ c.t + 524288 ∧ ((c.launchable k).isNone ∨ c.lastStart k e.2.1 < c.plainAt k (8 * c.t))) : Prop)) 0 3 (live [put (pgLLP 3) Reg.LLP.LINK_STAT_LSTATE 4, modLink 3 fun x => { x with edges := [(1, ⟨8000, true, true⟩, 0)] }]) := by
  decide +kernel

/-- LinkSendsCalibrationAndEdges: syncSend can complete as stated. -/
theorem test_meets_LinkSendsCalibrationAndEdges_syncSend :
    (fun (dt : Nat) (k : Fin 24) (fine : Fin 8) (s : State) =>
      let c := s.chip.after dt
      ((c.syncs k ∧ c.nextEdge k = none) : Prop)) 0 3 5 (live [put (pgLLP 3) Reg.LLP.LINK_STAT_LSTATE 4]) := by
  decide +kernel

/-- LinkSendsCalibrationAndEdges: commaSend can complete as stated. -/
theorem test_meets_LinkSendsCalibrationAndEdges_commaSend :
    (fun (dt : Nat) (k : Fin 24) (s : State) =>
      let c := s.chip.after dt
      ((c.portOn k ∧ c.lstate k ≠ 0 ∧ c.lstate k ≠ 5 ∧ 63 ≤ (c.link k).gapAt (c.frame8 k) (8 * c.t)) : Prop)) 0 3 (live [put (pgLLP 3) Reg.LLP.LINK_STAT_LSTATE 4, modLink 3 fun x => { x with commaGap := 63, idle := false, sent := some ⟨kEDGE, 0, 0, [], 0⟩ }]) := by
  decide +kernel

/-- UplinkFramesAreTaken: uplinkStatus can complete as stated. -/
theorem test_meets_UplinkFramesAreTaken_uplinkStatus :
    (fun (dt : Nat) (k : Fin 24) (f : BitVec 60) (s : State) =>
      let c := s.chip.after dt
      ((c.portOn k ∧ ((upFrame (c.link k).rdUp f).any fun e => e.1 == kSTATUS) ∧ (c.lstate k ≠ 0 ∧ c.lstate k ≠ 5)) : Prop)) 0 3 (symbolsFrame (encFrame false kSTATUS 0x102).1) (live [put (pgLLP 3) Reg.LLP.LINK_STAT_LSTATE 4]) := by
  decide +kernel

/-- UplinkFramesAreTaken: uplinkState can complete as stated. -/
theorem test_meets_UplinkFramesAreTaken_uplinkState :
    (fun (dt : Nat) (k : Fin 24) (f : BitVec 60) (s : State) =>
      let c := s.chip.after dt
      let w := ((upFrame (c.link k).rdUp f).getD (0, 0#32)).2
      ((c.portOn k ∧ ((upFrame (c.link k).rdUp f).any fun e => e.1 == kSTATE) ∧ c.lstate k = 3 ∧ c.t ≤ (c.link k).since + 2500000 ∧ w.getLsbD 26 = false ∧ w.bits 12 8 = 0) : Prop)) 0 3 (symbolsFrame (encFrame false kSTATE 0).1) (live [put (pgLLP 3) Reg.LLP.LINK_STAT_LSTATE 3]) := by
  decide +kernel

/-- UplinkFramesAreTaken: uplinkNtc can complete as stated. -/
theorem test_meets_UplinkFramesAreTaken_uplinkNtc :
    (fun (dt : Nat) (k : Fin 24) (f : BitVec 60) (s : State) =>
      let c := s.chip.after dt
      ((c.portOn k ∧ ((upFrame (c.link k).rdUp f).any fun e => e.1 == kNTC)) : Prop)) 0 3 (symbolsFrame (encFrame false kNTC 0x1234000).1) (live [put (pgLLP 3) Reg.LLP.LINK_STAT_LSTATE 4]) := by
  decide +kernel

/-- UplinkFramesAreTaken: uplinkSupply can complete as stated. -/
theorem test_meets_UplinkFramesAreTaken_uplinkSupply :
    (fun (dt : Nat) (k : Fin 24) (f : BitVec 60) (s : State) =>
      let c := s.chip.after dt
      ((c.portOn k ∧ ((upFrame (c.link k).rdUp f).any fun e => e.1 == kSUPPLY)) : Prop)) 0 3 (symbolsFrame (encFrame false kSUPPLY 0x1234000).1) (live [put (pgLLP 3) Reg.LLP.LINK_STAT_LSTATE 4]) := by
  decide +kernel

/-- UplinkFramesAreTaken: uplinkVce can complete as stated. -/
theorem test_meets_UplinkFramesAreTaken_uplinkVce :
    (fun (dt : Nat) (k : Fin 24) (f : BitVec 60) (s : State) =>
      let c := s.chip.after dt
      ((c.portOn k ∧ ((upFrame (c.link k).rdUp f).any fun e => e.1 == kVCE)) : Prop)) 0 3 (symbolsFrame (encFrame false kVCE 0x1234000).1) (live [put (pgLLP 3) Reg.LLP.LINK_STAT_LSTATE 4]) := by
  decide +kernel

/-- UplinkFramesAreTaken: uplinkEcho can complete as stated. -/
theorem test_meets_UplinkFramesAreTaken_uplinkEcho :
    (fun (dt : Nat) (k : Fin 24) (f : BitVec 60) (t1 : Nat) (s : State) =>
      let c := s.chip.after dt
      let w := ((upFrame (c.link k).rdUp f).getD (0, 0#32)).2
      let x := (c.link k).cal.getD (0, 0)
      ((c.portOn k ∧ ((upFrame (c.link k).rdUp f).any fun e => e.1 == kECHO) ∧ (c.link k).cal.isSome ∧ x.1 = w.bits 12 4) : Prop)) 0 3 (symbolsFrame (encFrame false kECHO 0x1000).1) 900 (live [put (pgLLP 3) Reg.LLP.LINK_STAT_LSTATE 2, modLink 3 fun x => { x with cal := some (1, 80), rtts := some [] }]) := by
  decide +kernel

/-- UplinkFramesAreTaken: uplinkCaps can complete as stated. -/
theorem test_meets_UplinkFramesAreTaken_uplinkCaps :
    (fun (dt : Nat) (k : Fin 24) (f : BitVec 60) (s : State) =>
      let c := s.chip.after dt
      ((c.portOn k ∧ ((upFrame (c.link k).rdUp f).any fun e => e.1 == kCAPS) ∧ c.lstate k = 1) : Prop)) 0 3 (symbolsFrame (encFrame false kCAPS 0x41000).1) (live [put (pgLLP 3) Reg.LLP.LINK_STAT_LSTATE 1]) := by
  decide +kernel

/-- UplinkFramesAreTaken: uplinkInvalid can complete as stated. -/
theorem test_meets_UplinkFramesAreTaken_uplinkInvalid :
    (fun (dt : Nat) (k : Fin 24) (f : BitVec 60) (s : State) =>
      let c := s.chip.after dt
      ((c.portOn k ∧ upFrame (c.link k).rdUp f = none) : Prop)) 0 3 0 (live [put (pgLLP 3) Reg.LLP.LINK_STAT_LSTATE 4]) := by
  decide +kernel

/-- ConverterResultsAndDeltaSigma: adcResultReady can complete as stated. -/
theorem test_meets_ConverterResultsAndDeltaSigma_adcResultReady :
    (fun (dt : Nat) (n : Fin 12) (code : BitVec 14) (s : State) =>
      let c := s.chip.after dt
      let v := ((c.adc n).conv).getD ⟨0, 0, false, false, 0, 0⟩
      let p := pgADC n
      let x := code.toNat
      (((c.adc n).conv.isSome ∧ v.chan < 4 ∧ c.en p ∧ c.domainOn 8 ∧ ¬ c.isolated 3 ∧ c.flag p Reg.ADC.ADC_STAT_REF_FAULT = false ∧ c.flag p Reg.HDR.PAGE_STAT_SAFE = false ∧ (v.limitFault = true ∧ (x < v.lo ∨ v.hi < x))) : Prop)) 450 5 0x3FF0#14 (live [putFlag (pgADC 5) Reg.HDR.PAGE_CTRL_EN true, modAdc 5 fun s => { s with conv := some ⟨2, 0, true, true, 10, 0x3000⟩ }]) := by
  decide +kernel

/-- ConverterResultsAndDeltaSigma: dsfResultReady can complete as stated, in each case. -/
theorem test_meets_ConverterResultsAndDeltaSigma_dsfResultReady :
    ((fun (dt : Nat) (n : Fin 32) (bits : List (Nat × Bool)) (s : State) =>
      let c := s.chip.after dt
      let d := ran (.dsfResultReady dt n bits) s
      let p := pgDSF n
      let x := (c.dsf n).due.headD ⟨0, 0, 0, false⟩
      (((c.dsf n).due ≠ [] ∧ d.fld p Reg.DSF.RES_STAT_VALID = 0 ∧ ((bits.all fun b => decide (b.1 + c.act (c.clkPage n) Reg.DSF.CLKGEN_DATA_DELAY ≤ x.t)) = true)) : Prop)) 16 9 [] (live [putFlag (pgDSF 9) Reg.HDR.PAGE_STAT_ENABLED true, modDsf 9 fun s => { s with due := [⟨0, 3, 64, true⟩] }])) ∧
    ((fun (dt : Nat) (n : Fin 32) (bits : List (Nat × Bool)) (s : State) =>
      let c := s.chip.after dt
      let d := ran (.dsfResultReady dt n bits) s
      let p := pgDSF n
      let x := (c.dsf n).due.headD ⟨0, 0, 0, false⟩
      (((c.dsf n).due ≠ [] ∧ d.fld p Reg.DSF.RES_STAT_VALID = 1 ∧ ((bits.all fun b => decide (b.1 + c.act (c.clkPage n) Reg.DSF.CLKGEN_DATA_DELAY ≤ x.t)) = true) ∧ (bits = [] ∧ x.ok = true ∧ c.flag p Reg.DSF.RES_STAT_SETTLING = false ∧ c.dsfBarred n = false)) : Prop)) 16 9 [] (live [putFlag (pgDSF 9) Reg.HDR.PAGE_STAT_ENABLED true, putFlag (pgDSF 9) Reg.HDR.PAGE_CTRL_EN true, putFlag (pgDSF 9) Reg.DSF.RES_STAT_SETTLING false, modDsf 9 fun s => { s with due := [⟨0, 3, 64, true⟩] }])) :=
  ⟨by decide +kernel, by decide +kernel⟩

/-- ConverterResultsAndDeltaSigma: dsfCompTrip can complete as stated, in each case. -/
theorem test_meets_ConverterResultsAndDeltaSigma_dsfCompTrip :
    ((fun (dt : Nat) (n : Fin 32) (bits : List (Nat × Bool)) (s : State) =>
      let c := s.chip.after dt
      let d := ran (.dsfCompTrip dt n bits) s
      let p := pgDSF n
      ((c.on p ∧ c.flag p Reg.DSF.RES_STAT_CLK_LOST = false ∧ (bits.head?.any fun b => c.clocks n b.1) ∧ (((d.comparator n).2.1 || (d.comparator n).2.2) && !(c.flag p Reg.DSF.RES_STAT_COMP_LO || c.flag p Reg.DSF.RES_STAT_COMP_HI)) = true) : Prop)) 500 9 [(100, true), (200, true)] (live [putFlag (pgDSF 9) Reg.HDR.PAGE_STAT_ENABLED true, putActive (pgDSF 0) Reg.DSF.CLKGEN_DIR 1, putActive (pgDSF 9) Reg.DSF.COMP_CFG_COMP_ORDER 1, putActive (pgDSF 9) Reg.DSF.COMP_CFG_COMP_OSR 4, putActive (pgDSF 9) Reg.DSF.COMP_LIM_HI 1])) ∧
    ((fun (dt : Nat) (n : Fin 32) (bits : List (Nat × Bool)) (s : State) =>
      let c := s.chip.after dt
      let d := ran (.dsfCompTrip dt n bits) s
      let p := pgDSF n
      ((c.on p ∧ c.flag p Reg.DSF.RES_STAT_CLK_LOST = false ∧ (bits.head?.any fun b => c.clocks n b.1) ∧ (((d.comparator n).2.1 || (d.comparator n).2.2) && !(c.flag p Reg.DSF.RES_STAT_COMP_LO || c.flag p Reg.DSF.RES_STAT_COMP_HI)) = true ∧ (((d.comparator n).2.1 || (d.comparator n).2.2) && c.actFlag p Reg.DSF.COMP_CFG_COMP_FAULT) = true) : Prop)) 500 9 [(100, true), (200, true)] (live [putFlag (pgDSF 9) Reg.HDR.PAGE_STAT_ENABLED true, putActive (pgDSF 9) Reg.DSF.COMP_CFG_COMP_FAULT 1, putActive (pgDSF 0) Reg.DSF.CLKGEN_DIR 1, putActive (pgDSF 9) Reg.DSF.COMP_CFG_COMP_ORDER 1, putActive (pgDSF 9) Reg.DSF.COMP_CFG_COMP_OSR 4, putActive (pgDSF 9) Reg.DSF.COMP_LIM_HI 1])) :=
  ⟨by decide +kernel, by decide +kernel⟩

/-- ConverterResultsAndDeltaSigma: dsfCompReturn can complete as stated. -/
theorem test_meets_ConverterResultsAndDeltaSigma_dsfCompReturn :
    (fun (dt : Nat) (n : Fin 32) (bits : List (Nat × Bool)) (s : State) =>
      let c := s.chip.after dt
      let d := ran (.dsfCompReturn dt n bits) s
      let p := pgDSF n
      ((c.on p ∧ c.flag p Reg.DSF.RES_STAT_CLK_LOST = false ∧ (bits.head?.any fun b => c.clocks n b.1) ∧ (((d.comparator n).2.1 || (d.comparator n).2.2) && c.actFlag p Reg.DSF.COMP_CFG_COMP_FAULT) = false) : Prop)) 500 9 [(100, true), (200, false)] (live [putFlag (pgDSF 9) Reg.HDR.PAGE_STAT_ENABLED true, putActive (pgDSF 0) Reg.DSF.CLKGEN_DIR 1, putActive (pgDSF 9) Reg.DSF.COMP_CFG_COMP_ORDER 1, putActive (pgDSF 9) Reg.DSF.COMP_CFG_COMP_OSR 4]) := by
  decide +kernel

/-- ConverterResultsAndDeltaSigma: dsfClkLost can complete as stated. -/
theorem test_meets_ConverterResultsAndDeltaSigma_dsfClkLost :
    (fun (dt : Nat) (pin : Fin 4) (s : State) =>
      let c := s.chip.after dt
      ((c.actFlag (pgDSF pin) Reg.DSF.CLKGEN_DIR ∧ ((c.pinPages pin).all fun n => match (c.dsf n).edge with | some e => decide (e + 2500 ≤ c.t) | none => true)) : Prop)) 0 1 (live [putActive (pgDSF 1) Reg.DSF.CLKGEN_DIR 1]) := by
  decide +kernel

/-- ConverterResultsAndDeltaSigma: dsfStuck can complete as stated, in each case. -/
theorem test_meets_ConverterResultsAndDeltaSigma_dsfStuck :
    ((fun (dt : Nat) (n : Fin 32) (bits : List (Nat × Bool)) (s : State) =>
      let c := s.chip.after dt
      let p := pgDSF n
      ((c.on p ∧ c.flag p Reg.DSF.RES_STAT_CLK_LOST = false ∧ (bits.head?.any fun b => c.clocks n b.1)) : Prop)) 500 9 [(100, true)] (live [putFlag (pgDSF 9) Reg.HDR.PAGE_STAT_ENABLED true, putActive (pgDSF 0) Reg.DSF.CLKGEN_DIR 1, putActive (pgDSF 9) Reg.DSF.COMP_CFG_COMP_ORDER 1, putActive (pgDSF 9) Reg.DSF.COMP_CFG_COMP_OSR 4])) ∧
    ((fun (dt : Nat) (n : Fin 32) (bits : List (Nat × Bool)) (s : State) =>
      let c := s.chip.after dt
      let d := ran (.dsfStuck dt n bits) s
      let p := pgDSF n
      ((c.on p ∧ c.flag p Reg.DSF.RES_STAT_CLK_LOST = false ∧ (bits.head?.any fun b => c.clocks n b.1) ∧ (2 ≤ c.act p Reg.DSF.DSF_CFG_STUCK ∧ c.act p Reg.DSF.DSF_CFG_STUCK ≤ (d.dsf n).run) ∧ (c.flag p Reg.DSF.RES_STAT_STUCK = false ∧ d.fld p Reg.DSF.RES_STAT_STUCK = 1)) : Prop)) 500 9 [(100, true)] (live [putFlag (pgDSF 9) Reg.HDR.PAGE_STAT_ENABLED true, putActive (pgDSF 9) Reg.DSF.DSF_CFG_STUCK 16, putActive (pgDSF 0) Reg.DSF.CLKGEN_DIR 1, putActive (pgDSF 9) Reg.DSF.COMP_CFG_COMP_ORDER 1, putActive (pgDSF 9) Reg.DSF.COMP_CFG_COMP_OSR 4, modDsf 9 fun s => { s with bits := [(50, true)], run := 15 }])) :=
  ⟨by decide +kernel, by decide +kernel⟩

/-- ConverterResultsAndDeltaSigma: dsfStuckClear can complete as stated, in each case. -/
theorem test_meets_ConverterResultsAndDeltaSigma_dsfStuckClear :
    ((fun (dt : Nat) (n : Fin 32) (bits : List (Nat × Bool)) (s : State) =>
      let c := s.chip.after dt
      let p := pgDSF n
      ((c.on p ∧ c.flag p Reg.DSF.RES_STAT_CLK_LOST = false ∧ (bits.head?.any fun b => c.clocks n b.1) ∧ (bits.length = 1 ∧ c.flag p Reg.DSF.RES_STAT_STUCK = true ∧ ((c.dsf n).bits.head?.any fun x => bits.all fun b => x.2 != b.2) = true)) : Prop)) 500 9 [(100, true)] (live [putFlag (pgDSF 9) Reg.HDR.PAGE_STAT_ENABLED true, putActive (pgDSF 0) Reg.DSF.CLKGEN_DIR 1, putActive (pgDSF 9) Reg.DSF.COMP_CFG_COMP_ORDER 1, putActive (pgDSF 9) Reg.DSF.COMP_CFG_COMP_OSR 4, putFlag (pgDSF 9) Reg.DSF.RES_STAT_STUCK true, modDsf 9 fun s => { s with bits := [(50, false)] }])) ∧
    ((fun (dt : Nat) (n : Fin 32) (bits : List (Nat × Bool)) (s : State) =>
      let c := s.chip.after dt
      let p := pgDSF n
      ((c.on p ∧ c.flag p Reg.DSF.RES_STAT_CLK_LOST = false ∧ (bits.head?.any fun b => c.clocks n b.1) ∧ (bits.length = 1 ∧ c.flag p Reg.DSF.RES_STAT_STUCK = true ∧ ((c.dsf n).bits.head?.any fun x => bits.all fun b => x.2 != b.2) = true) ∧ (c.act p Reg.DSF.DSF_CFG_STUCK = 0 ∧ ((c.dsf n).bits.head?.any fun x => bits.all fun b => x.2 != b.2) = true)) : Prop)) 500 9 [(100, true)] (live [putFlag (pgDSF 9) Reg.HDR.PAGE_STAT_ENABLED true, putActive (pgDSF 9) Reg.DSF.DSF_CFG_STUCK 0, putActive (pgDSF 0) Reg.DSF.CLKGEN_DIR 1, putActive (pgDSF 9) Reg.DSF.COMP_CFG_COMP_ORDER 1, putActive (pgDSF 9) Reg.DSF.COMP_CFG_COMP_OSR 4, putFlag (pgDSF 9) Reg.DSF.RES_STAT_STUCK true, modDsf 9 fun s => { s with bits := [(50, false)] }])) :=
  ⟨by decide +kernel, by decide +kernel⟩

/-- ConverterResultsAndDeltaSigma: dsfSettled can complete as stated, in each case. -/
theorem test_meets_ConverterResultsAndDeltaSigma_dsfSettled :
    ((fun (dt : Nat) (n : Fin 32) (bits : List (Nat × Bool)) (s : State) =>
      let c := s.chip.after dt
      let p := pgDSF n
      ((c.on p ∧ c.flag p Reg.DSF.RES_STAT_CLK_LOST = false ∧ (bits.head?.any fun b => c.clocks n b.1)) : Prop)) 500 9 [(100, true)] (live [putFlag (pgDSF 9) Reg.HDR.PAGE_STAT_ENABLED true, putActive (pgDSF 0) Reg.DSF.CLKGEN_DIR 1, putActive (pgDSF 9) Reg.DSF.COMP_CFG_COMP_ORDER 1, putActive (pgDSF 9) Reg.DSF.COMP_CFG_COMP_OSR 4, putFlag (pgDSF 9) Reg.DSF.RES_STAT_SETTLING true])) ∧
    ((fun (dt : Nat) (n : Fin 32) (bits : List (Nat × Bool)) (s : State) =>
      let c := s.chip.after dt
      let p := pgDSF n
      ((c.on p ∧ c.flag p Reg.DSF.RES_STAT_CLK_LOST = false ∧ (bits.head?.any fun b => c.clocks n b.1) ∧ (c.act p Reg.DSF.DSF_CFG_STUCK = 0 ∧ c.flag p Reg.DSF.RES_STAT_STUCK = false ∧ c.flag p Reg.DSF.RES_STAT_SETTLING = true ∧ c.filterSpan n ≤ (c.dsf n).count + 1)) : Prop)) 500 9 [(100, true)] (live [putFlag (pgDSF 9) Reg.HDR.PAGE_STAT_ENABLED true, putActive (pgDSF 9) Reg.DSF.DSF_CFG_STUCK 0, putActive (pgDSF 0) Reg.DSF.CLKGEN_DIR 1, putActive (pgDSF 9) Reg.DSF.COMP_CFG_COMP_ORDER 1, putActive (pgDSF 9) Reg.DSF.COMP_CFG_COMP_OSR 4, putFlag (pgDSF 9) Reg.DSF.RES_STAT_SETTLING true, modDsf 9 fun s => { s with count := 766 }])) ∧
    ((fun (dt : Nat) (n : Fin 32) (bits : List (Nat × Bool)) (s : State) =>
      let c := s.chip.after dt
      let p := pgDSF n
      ((c.on p ∧ c.flag p Reg.DSF.RES_STAT_CLK_LOST = false ∧ (bits.head?.any fun b => c.clocks n b.1) ∧ c.flag p Reg.DSF.RES_STAT_SETTLING = false) : Prop)) 500 9 [(100, true)] (live [putFlag (pgDSF 9) Reg.HDR.PAGE_STAT_ENABLED true, putActive (pgDSF 0) Reg.DSF.CLKGEN_DIR 1, putActive (pgDSF 9) Reg.DSF.COMP_CFG_COMP_ORDER 1, putActive (pgDSF 9) Reg.DSF.COMP_CFG_COMP_OSR 4, putFlag (pgDSF 9) Reg.DSF.RES_STAT_SETTLING false])) :=
  ⟨by decide +kernel, by decide +kernel, by decide +kernel⟩

/-- ControlPilotTemperaturesAndSlots: cplTransition can complete as stated, in each case. -/
theorem test_meets_ControlPilotTemperaturesAndSlots_cplTransition :
    ((fun (dt : Nat) (up : Bool) (samples : List (Nat × BitVec 16)) (s : State) =>
      let c := s.chip.after dt
      let r := c.cplSt.rise.getD 0
      let f := c.cplSt.fall.getD 0
      let ok := up && c.cplSt.rise.isSome && c.cplSt.fall.isSome && decide (r < f) && decide (r < c.t)
      ((c.on pgCPL ∧ ok = false) : Prop)) 0 true [] (live [putFlag pgCPL Reg.HDR.PAGE_STAT_ENABLED true])) ∧
    ((fun (dt : Nat) (up : Bool) (samples : List (Nat × BitVec 16)) (s : State) =>
      let c := s.chip.after dt
      let r := c.cplSt.rise.getD 0
      let f := c.cplSt.fall.getD 0
      let ok := up && c.cplSt.rise.isSome && c.cplSt.fall.isSome && decide (r < f) && decide (r < c.t)
      ((c.on pgCPL ∧ ok = true) : Prop)) 2500000 true [(1300000, 0x9000#16), (1400000, 0x9000#16), (1500000, 0x9004#16), (1600000, 0x9000#16)] (live [putFlag pgCPL Reg.HDR.PAGE_STAT_ENABLED true, modCplS fun s => { s with rise := some 0, fall := some 1250000, edge := 1250000 }])) :=
  ⟨by decide +kernel, by decide +kernel⟩

/-- ControlPilotTemperaturesAndSlots: cplOscLost can complete as stated. -/
theorem test_meets_ControlPilotTemperaturesAndSlots_cplOscLost :
    (fun (dt : Nat) (samples : List (Nat × BitVec 16)) (s : State) =>
      let c := s.chip.after dt
      let d := ran (.cplOscLost dt samples) s
      ((c.on pgCPL ∧ c.flag pgCPL Reg.CPL.CPL_STAT_OSC ∧ (c.meanIn (d.t - 2500000) d.t samples).isSome = true) : Prop)) 7500000 [(7000000, 0x1000#16)] (live [putFlag pgCPL Reg.HDR.PAGE_STAT_ENABLED true, putFlag pgCPL Reg.CPL.CPL_STAT_OSC true]) := by
  decide +kernel

/-- ControlPilotTemperaturesAndSlots: cplSteadyState can complete as stated, in each case. -/
theorem test_meets_ControlPilotTemperaturesAndSlots_cplSteadyState :
    ((fun (dt : Nat) (samples : List (Nat × BitVec 16)) (s : State) =>
      let c := s.chip.after dt
      let m := (c.meanIn (c.t - 2500000) c.t samples).getD 0
      ((c.on pgCPL ∧ c.flag pgCPL Reg.CPL.CPL_STAT_OSC = false ∧ (c.meanIn (c.t - 2500000) c.t samples).isSome ∧ ((c.cplSt.steady.all fun x => x.1 != c.cplClass m) = true)) : Prop)) 0 [(0, 0x1000#16)] (live [putFlag pgCPL Reg.HDR.PAGE_STAT_ENABLED true])) ∧
    ((fun (dt : Nat) (samples : List (Nat × BitVec 16)) (s : State) =>
      let c := s.chip.after dt
      let m := (c.meanIn (c.t - 2500000) c.t samples).getD 0
      ((c.on pgCPL ∧ c.flag pgCPL Reg.CPL.CPL_STAT_OSC = false ∧ (c.meanIn (c.t - 2500000) c.t samples).isSome ∧ ((c.cplSt.steady.any fun x => x.1 == c.cplClass m && decide (x.2 + 7500000 ≤ c.t)) = true)) : Prop)) 9000000 [(8000000, 0x1000#16)] (live [putFlag pgCPL Reg.HDR.PAGE_STAT_ENABLED true, (.dyn fun c => modCplS fun s => { s with steady := some (c.cplClass ((c.meanIn 6500000 9000000 [(8000000, 0x1000#16)]).getD 0), 0) })])) :=
  ⟨by decide +kernel, by decide +kernel⟩

/-- ControlPilotTemperaturesAndSlots: cplS2 can complete as stated. -/
theorem test_meets_ControlPilotTemperaturesAndSlots_cplS2 :
    (fun (dt : Nat) (src : Src) (v : Bool) (s : State) =>
      let c := s.chip.after dt
      ((c.serves src pgCPL 0x048 true) : Prop)) 0 (.core .A 0) true (live []) := by
  decide +kernel

/-- ControlPilotTemperaturesAndSlots: cplResultReady can complete as stated. -/
theorem test_meets_ControlPilotTemperaturesAndSlots_cplResultReady :
    (fun (dt : Nat) (s : State) =>
      let c := s.chip.after dt
      ((c.cplSt.due ≠ []) : Prop)) 16 (live [modCplS fun s => { s with due := [(0, [1, 2, 3, 4, 5])] }]) := by
  decide +kernel

/-- ControlPilotTemperaturesAndSlots: tsnConversion can complete as stated. -/
theorem test_meets_ControlPilotTemperaturesAndSlots_tsnConversion :
    (fun (dt : Nat) (r : Fin 8) (temp : BitVec 12) (ok : Bool) (s : State) =>
      let c := s.chip.after dt
      let i := (c.tsn r).next
      ((c.on (pgTSN r) ∧ i < 3) : Prop)) 0 7 0x7FF#12 true (live [putFlag (pgTSN 7) Reg.HDR.PAGE_STAT_ENABLED true]) := by
  decide +kernel

/-- ControlPilotTemperaturesAndSlots: tsnResultReady can complete as stated. -/
theorem test_meets_ControlPilotTemperaturesAndSlots_tsnResultReady :
    (fun (dt : Nat) (r : Fin 8) (s : State) =>
      let c := s.chip.after dt
      (((c.tsn r).due ≠ []) : Prop)) 16 7 (live [modTsn 7 fun s => { s with due := [(0, 1, 40, true)] }]) := by
  decide +kernel

/-- ControlPilotTemperaturesAndSlots: tripClr can complete as stated, in each case. -/
theorem test_meets_ControlPilotTemperaturesAndSlots_tripClr :
    ((fun (dt : Nat) (src : Src) (r : Fin 8) (s : State) =>
      let c := s.chip.after dt
      ((c.serves src (pgTSN r) 0x064 true ∧ ¬ (c.temp r).temp < (c.tempCfg r).trip - 24) : Prop)) 0 (.core .A 0) 7 (live [])) ∧
    ((fun (dt : Nat) (src : Src) (r : Fin 8) (s : State) =>
      let c := s.chip.after dt
      ((c.serves src (pgTSN r) 0x064 true ∧ (c.temp r).temp < (c.tempCfg r).trip - 24) : Prop)) 0 (.core .A 0) 7 (live [modTemp 7 fun x => { x with temp := -900 }])) :=
  ⟨by decide +kernel, by decide +kernel⟩

/-- ControlPilotTemperaturesAndSlots: slotSampleArrive can complete as stated. -/
theorem test_meets_ControlPilotTemperaturesAndSlots_slotSampleArrive :
    (fun (dt : Nat) (s : State) =>
      let c := s.chip.after dt
      ((c.deliveries ≠ [] ∧ c.Inv) : Prop)) 0 (live [modDeliveries fun _ => [⟨7, 1, 2, 0, 5#32, true, 0⟩]]) := by
  decide +kernel

/-- SaturatingArithmeticOfALaw: add can complete as stated. -/
theorem test_meets_SaturatingArithmeticOfALaw_add :
    (fun (dt : Nat) (q : Quay) (l : Fin 8) (s : State) =>
      let c := s.chip.after dt
      ((c.issues q l 0x10 srcAB) : Prop)) 0 .A 0 (live [lawAct 0x204510#32 0x0#32]) := by
  decide +kernel

/-- SaturatingArithmeticOfALaw: sub can complete as stated. -/
theorem test_meets_SaturatingArithmeticOfALaw_sub :
    (fun (dt : Nat) (q : Quay) (l : Fin 8) (s : State) =>
      let c := s.chip.after dt
      ((c.issues q l 0x11 srcAB) : Prop)) 0 .A 0 (live [lawAct 0x504511#32 0x0#32]) := by
  decide +kernel

/-- SaturatingArithmeticOfALaw: addi can complete as stated. -/
theorem test_meets_SaturatingArithmeticOfALaw_addi :
    (fun (dt : Nat) (q : Quay) (l : Fin 8) (s : State) =>
      let c := s.chip.after dt
      ((c.issues q l 0x12 srcA) : Prop)) 0 .A 0 (live [lawAct 0xfff12#32 0xffffffff#32]) := by
  decide +kernel

/-- SaturatingArithmeticOfALaw: abs can complete as stated. -/
theorem test_meets_SaturatingArithmeticOfALaw_abs :
    (fun (dt : Nat) (q : Quay) (l : Fin 8) (s : State) =>
      let c := s.chip.after dt
      ((c.issues q l 0x16 srcA) : Prop)) 0 .A 0 (live [lawAct 0x4516#32 0x0#32]) := by
  decide +kernel

/-- SaturatingArithmeticOfALaw: neg can complete as stated. -/
theorem test_meets_SaturatingArithmeticOfALaw_neg :
    (fun (dt : Nat) (q : Quay) (l : Fin 8) (s : State) =>
      let c := s.chip.after dt
      ((c.issues q l 0x17 srcA) : Prop)) 0 .A 0 (live [lawAct 0x4517#32 0x0#32]) := by
  decide +kernel

/-- SaturatingArithmeticOfALaw: shs can complete as stated, in each case. -/
theorem test_meets_SaturatingArithmeticOfALaw_shs :
    ((fun (dt : Nat) (q : Quay) (l : Fin 8) (s : State) =>
      let c := s.chip.after dt
      ((c.issues q l 0x13 srcA) : Prop)) 0 .A 0 (live [lawAct 0x4513#32 0x1f#32])) ∧
    ((fun (dt : Nat) (q : Quay) (l : Fin 8) (s : State) =>
      let c := s.chip.after dt
      ((c.issues q l 0x13 srcA) : Prop)) 0 .A 0 (live [lawAct 0x4513#32 0x21#32])) ∧
    ((fun (dt : Nat) (q : Quay) (l : Fin 8) (s : State) =>
      let c := s.chip.after dt
      (((c.fetched q l).isSome ∧ (c.nextWord q l).op = 0x13 ∧ (BitVec.ofNat 6 (c.nextWord q l).imm).toInt = -32) : Prop)) 0 .A 0 (live [lawAct 0x4513#32 0x20#32])) :=
  ⟨by decide +kernel, by decide +kernel, by decide +kernel⟩

/-- SelectionLogicAndMovesOfALaw: min can complete as stated. -/
theorem test_meets_SelectionLogicAndMovesOfALaw_min :
    (fun (dt : Nat) (q : Quay) (l : Fin 8) (s : State) =>
      let c := s.chip.after dt
      ((c.issues q l 0x14 srcAB) : Prop)) 0 .A 0 (live [lawAct 0x204514#32 0x0#32]) := by
  decide +kernel

/-- SelectionLogicAndMovesOfALaw: max can complete as stated. -/
theorem test_meets_SelectionLogicAndMovesOfALaw_max :
    (fun (dt : Nat) (q : Quay) (l : Fin 8) (s : State) =>
      let c := s.chip.after dt
      ((c.issues q l 0x15 srcAB) : Prop)) 0 .A 0 (live [lawAct 0x204515#32 0x0#32]) := by
  decide +kernel

/-- SelectionLogicAndMovesOfALaw: cmp can complete as stated. -/
theorem test_meets_SelectionLogicAndMovesOfALaw_cmp :
    (fun (dt : Nat) (q : Quay) (l : Fin 8) (s : State) =>
      let c := s.chip.after dt
      ((c.issues q l 0x18 srcAB) : Prop)) 0 .A 0 (live [lawAct 0x204018#32 0x0#32]) := by
  decide +kernel

/-- SelectionLogicAndMovesOfALaw: and can complete as stated. -/
theorem test_meets_SelectionLogicAndMovesOfALaw_and :
    (fun (dt : Nat) (q : Quay) (l : Fin 8) (s : State) =>
      let c := s.chip.after dt
      ((c.issues q l 0x19 srcAB) : Prop)) 0 .A 0 (live [lawAct 0x204519#32 0x0#32]) := by
  decide +kernel

/-- SelectionLogicAndMovesOfALaw: or can complete as stated. -/
theorem test_meets_SelectionLogicAndMovesOfALaw_or :
    (fun (dt : Nat) (q : Quay) (l : Fin 8) (s : State) =>
      let c := s.chip.after dt
      ((c.issues q l 0x1A srcAB) : Prop)) 0 .A 0 (live [lawAct 0x20451a#32 0x0#32]) := by
  decide +kernel

/-- SelectionLogicAndMovesOfALaw: xor can complete as stated. -/
theorem test_meets_SelectionLogicAndMovesOfALaw_xor :
    (fun (dt : Nat) (q : Quay) (l : Fin 8) (s : State) =>
      let c := s.chip.after dt
      ((c.issues q l 0x1B srcAB) : Prop)) 0 .A 0 (live [lawAct 0x20451b#32 0x0#32]) := by
  decide +kernel

/-- SelectionLogicAndMovesOfALaw: movi can complete as stated. -/
theorem test_meets_SelectionLogicAndMovesOfALaw_movi :
    (fun (dt : Nat) (q : Quay) (l : Fin 8) (s : State) =>
      let c := s.chip.after dt
      ((c.issues q l 0x05 src0) : Prop)) 0 .A 0 (live [lawAct 0x3f05#32 0xdeadbeef#32]) := by
  decide +kernel

/-- SelectionLogicAndMovesOfALaw: ldc can complete as stated. -/
theorem test_meets_SelectionLogicAndMovesOfALaw_ldc :
    (fun (dt : Nat) (q : Quay) (l : Fin 8) (s : State) =>
      let c := s.chip.after dt
      ((c.issues q l 0x02 src0) : Prop)) 0 .A 0 (live [lawAct 0x3f02#32 0xfff#32]) := by
  decide +kernel

/-- SelectionLogicAndMovesOfALaw: ldm can complete as stated. -/
theorem test_meets_SelectionLogicAndMovesOfALaw_ldm :
    (fun (dt : Nat) (q : Quay) (l : Fin 8) (s : State) =>
      let c := s.chip.after dt
      ((c.issues q l 0x03 src0) : Prop)) 0 .A 0 (live [lawAct 0x3f03#32 0x1ff#32]) := by
  decide +kernel

/-- SelectionLogicAndMovesOfALaw: stm can complete as stated. -/
theorem test_meets_SelectionLogicAndMovesOfALaw_stm :
    (fun (dt : Nat) (q : Quay) (l : Fin 8) (s : State) =>
      let c := s.chip.after dt
      ((c.issues q l 0x04 srcA) : Prop)) 0 .A 0 (live [lawAct 0x4004#32 0x1ff#32]) := by
  decide +kernel

/-- ProductsAndAccumulatorsOfALaw: mulc can complete as stated. -/
theorem test_meets_ProductsAndAccumulatorsOfALaw_mulc :
    (fun (dt : Nat) (q : Quay) (l : Fin 8) (s : State) =>
      let c := s.chip.after dt
      ((c.issues q l 0x08 srcA) : Prop)) 0 .A 0 (live [lawAct 0x4508#32 0xfff#32]) := by
  decide +kernel

/-- ProductsAndAccumulatorsOfALaw: mulx can complete as stated. -/
theorem test_meets_ProductsAndAccumulatorsOfALaw_mulx :
    (fun (dt : Nat) (q : Quay) (l : Fin 8) (s : State) =>
      let c := s.chip.after dt
      ((c.issues q l 0x09 srcAB) : Prop)) 0 .A 0 (live [lawAct 0x204509#32 0xdf#32]) := by
  decide +kernel

/-- ProductsAndAccumulatorsOfALaw: macc can complete as stated. -/
theorem test_meets_ProductsAndAccumulatorsOfALaw_macc :
    (fun (dt : Nat) (q : Quay) (l : Fin 8) (s : State) =>
      let c := s.chip.after dt
      ((c.issues q l 0x0A srcA) : Prop)) 0 .A 0 (live [lawAct 0x410a#32 0x7#32]) := by
  decide +kernel

/-- ProductsAndAccumulatorsOfALaw: rdacc can complete as stated. -/
theorem test_meets_ProductsAndAccumulatorsOfALaw_rdacc :
    (fun (dt : Nat) (q : Quay) (l : Fin 8) (s : State) =>
      let c := s.chip.after dt
      let w := c.nextWord q l
      (((c.issues q l 0x0B (fun w => [80 + w.a])) ∧ w.imm / 4 % 2 = 1) : Prop)) 0 .A 0 (live [lawAct 0x450b#32 0x4#32]) := by
  decide +kernel

/-- ProductsAndAccumulatorsOfALaw: clra can complete as stated. -/
theorem test_meets_ProductsAndAccumulatorsOfALaw_clra :
    (fun (dt : Nat) (q : Quay) (l : Fin 8) (s : State) =>
      let c := s.chip.after dt
      ((c.issues q l 0x0C src0) : Prop)) 0 .A 0 (live [lawAct 0x10c#32 0x0#32]) := by
  decide +kernel

/-- SineQuotientAndRootOfALaw: sincos can complete as stated. -/
theorem test_meets_SineQuotientAndRootOfALaw_sincos :
    (fun (dt : Nat) (q : Quay) (l : Fin 8) (s : State) =>
      let c := s.chip.after dt
      ((c.issues q l 0x20 srcA) : Prop)) 0 .A 0 (live [lawAct 0xfbe20#32 0x0#32]) := by
  decide +kernel

/-- SineQuotientAndRootOfALaw: div can complete as stated, in each case. -/
theorem test_meets_SineQuotientAndRootOfALaw_div :
    ((fun (dt : Nat) (q : Quay) (l : Fin 8) (s : State) =>
      let c := s.chip.after dt
      let w := c.nextWord q l
      let s0 := c.laneOf q l
      let y : Int := (s0.xr w.b).toInt
      (((c.issues q l 0x21 (fun w => [w.a, w.b, 85])) ∧ y = 0) : Prop)) 0 .A 0 (live [lawAct 0x204521#32 0x1f#32, modLane 0 fun s => { s with x := [(1, some 7), (2, some 0)] }])) ∧
    ((fun (dt : Nat) (q : Quay) (l : Fin 8) (s : State) =>
      let c := s.chip.after dt
      let w := c.nextWord q l
      let s0 := c.laneOf q l
      let y : Int := (s0.xr w.b).toInt
      (((c.issues q l 0x21 (fun w => [w.a, w.b, 85])) ∧ y ≠ 0) : Prop)) 0 .A 0 (live [lawAct 0x204521#32 0x1f#32, modLane 0 fun s => { s with x := [(1, some 7), (2, some 0xFFFFFFFF)] }])) :=
  ⟨by decide +kernel, by decide +kernel⟩

/-- SineQuotientAndRootOfALaw: sqrt can complete as stated, in each case. -/
theorem test_meets_SineQuotientAndRootOfALaw_sqrt :
    ((fun (dt : Nat) (q : Quay) (l : Fin 8) (s : State) =>
      let c := s.chip.after dt
      let w := c.nextWord q l
      let s0 := c.laneOf q l
      let x := s0.xr w.a
      (((c.issues q l 0x22 (fun w => [w.a, 85])) ∧ 0 ≤ x.toInt) : Prop)) 0 .A 0 (live [lawAct 0x4522#32 0x0#32, modLane 0 fun s => { s with x := [(1, some 9)] }])) ∧
    ((fun (dt : Nat) (q : Quay) (l : Fin 8) (s : State) =>
      let c := s.chip.after dt
      let w := c.nextWord q l
      let s0 := c.laneOf q l
      let x := s0.xr w.a
      (((c.issues q l 0x22 (fun w => [w.a, 85])) ∧ x.toInt < 0) : Prop)) 0 .A 0 (live [lawAct 0x4522#32 0x0#32, modLane 0 fun s => { s with x := [(1, some 0x80000000)] }])) :=
  ⟨by decide +kernel, by decide +kernel⟩

/-- TimesInjectionAndBranchesOfALaw: gett can complete as stated, in each case. -/
theorem test_meets_TimesInjectionAndBranchesOfALaw_gett :
    ((fun (dt : Nat) (q : Quay) (l : Fin 8) (s : State) =>
      let c := s.chip.after dt
      let w := c.nextWord q l
      (((c.issues q l 0x28 (fun w => if w.imm % 8 = 3 then [86] else [])) ∧ w.imm % 8 = 4) : Prop)) 0 .A 0 (live [lawAct 0xf28#32 0x4#32])) ∧
    ((fun (dt : Nat) (q : Quay) (l : Fin 8) (s : State) =>
      let c := s.chip.after dt
      let w := c.nextWord q l
      (((c.issues q l 0x28 (fun w => if w.imm % 8 = 3 then [86] else [])) ∧ w.imm % 8 = 3) : Prop)) 0 .A 0 (live [lawAct 0xf28#32 0x3#32])) ∧
    ((fun (dt : Nat) (q : Quay) (l : Fin 8) (s : State) =>
      let c := s.chip.after dt
      let w := c.nextWord q l
      (((c.issues q l 0x28 (fun w => if w.imm % 8 = 3 then [86] else [])) ∧ w.imm % 8 = 0) : Prop)) 0 .A 0 (live [lawAct 0xf28#32 0x0#32])) ∧
    ((fun (dt : Nat) (q : Quay) (l : Fin 8) (s : State) =>
      let c := s.chip.after dt
      let w := c.nextWord q l
      (((c.issues q l 0x28 (fun w => if w.imm % 8 = 3 then [86] else [])) ∧ w.imm % 8 = 1) : Prop)) 0 .A 0 (live [lawAct 0xf28#32 0x1#32])) ∧
    ((fun (dt : Nat) (q : Quay) (l : Fin 8) (s : State) =>
      let c := s.chip.after dt
      let w := c.nextWord q l
      (((c.issues q l 0x28 (fun w => if w.imm % 8 = 3 then [86] else [])) ∧ w.imm % 8 = 2) : Prop)) 0 .A 0 (live [lawAct 0xf28#32 0x2#32])) :=
  ⟨by decide +kernel, by decide +kernel, by decide +kernel, by decide +kernel, by decide +kernel⟩

/-- TimesInjectionAndBranchesOfALaw: tadd can complete as stated. -/
theorem test_meets_TimesInjectionAndBranchesOfALaw_tadd :
    (fun (dt : Nat) (q : Quay) (l : Fin 8) (s : State) =>
      let c := s.chip.after dt
      let w := c.nextWord q l
      (((c.issues q l 0x29 (fun w => [64 + w.a, w.b]))) : Prop)) 0 .A 0 (live [lawAct 0x3f3cf29#32 0x0#32]) := by
  decide +kernel

/-- TimesInjectionAndBranchesOfALaw: taddi can complete as stated. -/
theorem test_meets_TimesInjectionAndBranchesOfALaw_taddi :
    (fun (dt : Nat) (q : Quay) (l : Fin 8) (s : State) =>
      let c := s.chip.after dt
      ((c.issues q l 0x2A srcT) : Prop)) 0 .A 0 (live [lawAct 0x3cf2a#32 0xffffffff#32]) := by
  decide +kernel

/-- TimesInjectionAndBranchesOfALaw: tsub can complete as stated. -/
theorem test_meets_TimesInjectionAndBranchesOfALaw_tsub :
    (fun (dt : Nat) (q : Quay) (l : Fin 8) (s : State) =>
      let c := s.chip.after dt
      let w := c.nextWord q l
      (((c.issues q l 0x2B (fun w => [64 + w.a, 64 + w.b]))) : Prop)) 0 .A 0 (live [lawAct 0xe3c52b#32 0x0#32]) := by
  decide +kernel

/-- TimesInjectionAndBranchesOfALaw: inj can complete as stated. -/
theorem test_meets_TimesInjectionAndBranchesOfALaw_inj :
    (fun (dt : Nat) (q : Quay) (l : Fin 8) (s : State) =>
      let c := s.chip.after dt
      ((c.issues q l 0x36 src0) : Prop)) 0 .A 0 (live [lawAct 0x536#32 0x3#32]) := by
  decide +kernel

/-- TimesInjectionAndBranchesOfALaw: nop can complete as stated, in each case. -/
theorem test_meets_TimesInjectionAndBranchesOfALaw_nop :
    ((fun (dt : Nat) (q : Quay) (l : Fin 8) (s : State) =>
      let c := s.chip.after dt
      ((c.issues q l 0x00 src0) : Prop)) 0 .A 0 (live [lawAct 0x0#32 0x0#32])) ∧
    ((fun (dt : Nat) (q : Quay) (l : Fin 8) (s : State) =>
      let c := s.chip.after dt
      ((c.fetchesIllegal q l ∧ (c.nextWord q l).op ∉ lawOpcodes) : Prop)) 0 .A 0 (live [lawAct 0x6#32 0x0#32])) :=
  ⟨by decide +kernel, by decide +kernel⟩

/-- TimesInjectionAndBranchesOfALaw: br can complete as stated. -/
theorem test_meets_TimesInjectionAndBranchesOfALaw_br :
    (fun (dt : Nat) (q : Quay) (l : Fin 8) (s : State) =>
      let c := s.chip.after dt
      ((c.issues q l 0x38 srcBr) : Prop)) 0 .A 0 (live [lawAct 0x238#32 0x800#32]) := by
  decide +kernel

/-- OutputsOfALaw: edge can complete as stated. -/
theorem test_meets_OutputsOfALaw_edge :
    (fun (dt : Nat) (q : Quay) (l : Fin 8) (s : State) =>
      let c := s.chip.after dt
      ((c.issues q l 0x30 srcT) : Prop)) 0 .A 0 (live [lawAct 0x3c030#32 0x377#32]) := by
  decide +kernel

/-- OutputsOfALaw: close can complete as stated. -/
theorem test_meets_OutputsOfALaw_close :
    (fun (dt : Nat) (q : Quay) (l : Fin 8) (s : State) =>
      let c := s.chip.after dt
      ((c.issues q l 0x31 srcT) : Prop)) 0 .A 0 (live [lawAct 0x3c031#32 0x17#32]) := by
  decide +kernel

/-- OutputsOfALaw: vcmd can complete as stated. -/
theorem test_meets_OutputsOfALaw_vcmd :
    (fun (dt : Nat) (q : Quay) (l : Fin 8) (s : State) =>
      let c := s.chip.after dt
      ((c.issues q l 0x32 srcA) : Prop)) 0 .A 0 (live [lawAct 0x4032#32 0x0#32]) := by
  decide +kernel

/-- OutputsOfALaw: mbx can complete as stated. -/
theorem test_meets_OutputsOfALaw_mbx :
    (fun (dt : Nat) (q : Quay) (l : Fin 8) (s : State) =>
      let c := s.chip.after dt
      ((c.issues q l 0x33 srcA) : Prop)) 0 .A 0 (live [lawAct 0x4033#32 0x1ff#32]) := by
  decide +kernel

/-- OutputsOfALaw: mbx2 can complete as stated. -/
theorem test_meets_OutputsOfALaw_mbx2 :
    (fun (dt : Nat) (q : Quay) (l : Fin 8) (s : State) =>
      let c := s.chip.after dt
      ((c.issues q l 0x34 srcAB) : Prop)) 0 .A 0 (live [lawAct 0x204034#32 0x1fe#32]) := by
  decide +kernel

/-- OutputsOfALaw: tap can complete as stated, in each case. -/
theorem test_meets_OutputsOfALaw_tap :
    ((fun (dt : Nat) (q : Quay) (l : Fin 8) (s : State) =>
      let c := s.chip.after dt
      let w := c.nextWord q l
      let tap := w.imm % 16
      let t := c.launchTick q l
      (((c.issues q l 0x35 (fun w => (List.range (w.imm / 16 % 8 + 1)).map fun i => w.a + i)) ∧ c.tapOpen tap t = false) : Prop)) 0 .A 0 (live [lawAct 0xe0035#32 0x7f#32])) ∧
    ((fun (dt : Nat) (q : Quay) (l : Fin 8) (s : State) =>
      let c := s.chip.after dt
      let w := c.nextWord q l
      let s0 := c.laneOf q l
      let tap := w.imm % 16
      let t := c.launchTick q l
      let k := 16 * q.idx + tap
      let n := w.imm / 16 % 8
      let used := ((c.tap k).fifo.map fun r => r.words.length).sum
      (((c.issues q l 0x35 (fun w => (List.range (w.imm / 16 % 8 + 1)).map fun i => w.a + i)) ∧ (c.tapOpen tap t = true ∧ used + n + 4 ≤ 64 ∧ (c.tap k).lost = 0 ∧ (s0.run.bind fun r => r.launch.taps.find? fun e => e.1 == tap).isSome)) : Prop)) 0 .A 0 (live [lawAct 0xe0035#32 0x7f#32, modCapWins fun _ => [(15, 0, 9)], modLane 0 fun s => { s with run := s.run.map fun r => { r with launch := { r.launch with taps := [(15, 20)] } } }])) :=
  ⟨by decide +kernel, by decide +kernel⟩

/-- SlotReadsAndStalls: lds can complete as stated, in each case. -/
theorem test_meets_SlotReadsAndStalls_lds :
    ((fun (dt : Nat) (q : Quay) (l : Fin 8) (s : State) =>
      let c := s.chip.after dt
      let w := c.nextWord q l
      let s0 := c.laneOf q l
      let i := w.imm % 256
      let tick := s0.tr w.a / 8
      let m := c.slot (256 * q.idx + i)
      let en := (c.slots q).any fun e => e.1 == i
      let lost := m.lost.any fun t => decide (tick ≤ t)
      let x := m.held.find? fun x => decide (tick ≤ x.stamp)
      ((c.issues q l 0x01 srcT ∧ en = false ∧ (en = false ∨ lost = true ∨ x.isSome)) : Prop)) 0 .A 0 (live [lawAct 0x3d01#32 0x12#32])) ∧
    ((fun (dt : Nat) (q : Quay) (l : Fin 8) (s : State) =>
      let c := s.chip.after dt
      let w := c.nextWord q l
      let s0 := c.laneOf q l
      let i := w.imm % 256
      let tick := s0.tr w.a / 8
      let m := c.slot (256 * q.idx + i)
      let en := (c.slots q).any fun e => e.1 == i
      let lost := m.lost.any fun t => decide (tick ≤ t)
      let x := m.held.find? fun x => decide (tick ≤ x.stamp)
      ((c.issues q l 0x01 srcT ∧ (en = true ∧ lost = false ∧ x = none)) : Prop)) 0 .A 0 (live [lawAct 0x3d01#32 0x12#32, setWord ((pgENG .A).base + 0x948) 0x80000000#32])) ∧
    ((fun (dt : Nat) (q : Quay) (l : Fin 8) (s : State) =>
      let c := s.chip.after dt
      let w := c.nextWord q l
      let s0 := c.laneOf q l
      let i := w.imm % 256
      let tick := s0.tr w.a / 8
      let m := c.slot (256 * q.idx + i)
      let en := (c.slots q).any fun e => e.1 == i
      let lost := m.lost.any fun t => decide (tick ≤ t)
      let x := m.held.find? fun x => decide (tick ≤ x.stamp)
      ((c.issues q l 0x01 srcT ∧ (en = true ∧ lost = false ∧ x.isSome) ∧ (en = false ∨ lost = true ∨ x.isSome)) : Prop)) 0 .A 0 (live [lawAct 0x3d01#32 0x12#32, setWord ((pgENG .A).base + 0x948) 0x80000000#32, modLane 0 fun s => { s with t := [(0, some 80)] }, modSlot 18 fun x => { x with held := [⟨77, true, 12⟩] }])) ∧
    ((fun (dt : Nat) (q : Quay) (l : Fin 8) (s : State) =>
      let c := s.chip.after dt
      let w := c.nextWord q l
      let s0 := c.laneOf q l
      let i := w.imm % 256
      let tick := s0.tr w.a / 8
      let m := c.slot (256 * q.idx + i)
      let en := (c.slots q).any fun e => e.1 == i
      let lost := m.lost.any fun t => decide (tick ≤ t)
      let x := m.held.find? fun x => decide (tick ≤ x.stamp)
      ((c.issues q l 0x01 srcT ∧ (en = true ∧ lost = true) ∧ (en = false ∨ lost = true ∨ x.isSome)) : Prop)) 0 .A 0 (live [lawAct 0x3d01#32 0x12#32, setWord ((pgENG .A).base + 0x948) 0x80000000#32, modLane 0 fun s => { s with t := [(0, some 80)] }, modSlot 18 fun x => { x with lost := some 12 }])) :=
  ⟨by decide +kernel, by decide +kernel, by decide +kernel, by decide +kernel⟩

/-- SlotReadsAndStalls: ldsRelease can complete as stated, in each case. -/
theorem test_meets_SlotReadsAndStalls_ldsRelease :
    ((fun (dt : Nat) (q : Quay) (l : Fin 8) (s : State) =>
      let c := s.chip.after dt
      let s0 := c.laneOf q l
      let st := (s0.run.bind fun r => r.stall).getD (0, 0, 0, 0)
      let m := c.slot (256 * q.idx + st.1)
      let en := (c.slots q).any fun e => e.1 == st.1
      let lost := m.lost.any fun t => decide (st.2.1 ≤ t)
      let x := m.held.find? fun x => decide (st.2.1 ≤ x.stamp)
      ((((s0.run.bind fun r => r.stall).isSome) ∧ (en = false ∨ lost = true ∨ x.isSome) ∧ st.2.2.1 < 64 ∧ (s0.run.all fun r => r.img == .none && decide (c.t - st.2.2.2 ≤ r.stallLimit)) ∧ (en = false ∨ lost = true)) : Prop)) 10 .A 0 (live [lawAct 0x3d01#32 0x12#32, modLane 0 fun s => { s with run := s.run.map fun r => { r with stall := some (18, 0, 61, 0) } }])) ∧
    ((fun (dt : Nat) (q : Quay) (l : Fin 8) (s : State) =>
      let c := s.chip.after dt
      let s0 := c.laneOf q l
      let st := (s0.run.bind fun r => r.stall).getD (0, 0, 0, 0)
      let m := c.slot (256 * q.idx + st.1)
      let en := (c.slots q).any fun e => e.1 == st.1
      let lost := m.lost.any fun t => decide (st.2.1 ≤ t)
      let x := m.held.find? fun x => decide (st.2.1 ≤ x.stamp)
      ((((s0.run.bind fun r => r.stall).isSome) ∧ (en = false ∨ lost = true ∨ x.isSome) ∧ st.2.2.1 < 64 ∧ (s0.run.all fun r => r.img == .none && decide (c.t - st.2.2.2 ≤ r.stallLimit)) ∧ (en = true ∧ lost = false)) : Prop)) 10 .A 0 (live [lawAct 0x3d01#32 0x12#32, modLane 0 (fun s => { s with run := s.run.map fun r => { r with stall := some (18, 0, 61, 0) } }), setWord ((pgENG .A).base + 0x948) 0x80000000#32, modSlot 18 fun x => { x with held := [⟨77, true, 12⟩] }])) :=
  ⟨by decide +kernel, by decide +kernel⟩

/-- RunsStartEndAndAbort: runStart can complete as stated, in each case. -/
theorem test_meets_RunsStartEndAndAbort_runStart :
    ((fun (dt : Nat) (q : Quay) (l : Fin 8) (img : ImageRun) (s : State) =>
      let c := s.chip.after dt
      let s0 := c.laneOf q l
      let x := s0.queue.headD ⟨0, 0, [], [], [], 0, []⟩
      let y := c.descriptor q x.law
      ((img = .none ∧ s0.queue ≠ [] ∧ s0.run = none ∧ s0.halted = false ∧ y = none) : Prop)) 0 .A 0 .none (live [modLane 0 fun s => { s with queue := [⟨5, 0, [], [], [], 0, []⟩] }])) ∧
    ((fun (dt : Nat) (q : Quay) (l : Fin 8) (img : ImageRun) (s : State) =>
      let c := s.chip.after dt
      let s0 := c.laneOf q l
      let x := s0.queue.headD ⟨0, 0, [], [], [], 0, []⟩
      let y := c.descriptor q x.law
      ((img = .none ∧ s0.queue ≠ [] ∧ s0.run = none ∧ s0.halted = false ∧ y.isSome) : Prop)) 0 .B 7 .none (live [modLane 15 fun s => { s with queue := [⟨5, 0, [], [], [], 0, []⟩] }, setWord (lawAddr .B 10) 0x8800#32, setWord (lawAddr .B 10 + 4) 0x00020900#32, setWord (lawAddr .B 11) 100#32, setWord (lawAddr .B 11 + 4) 100#32])) :=
  ⟨by decide +kernel, by decide +kernel⟩

/-- RunsStartEndAndAbort: endRun can complete as stated, in each case. -/
theorem test_meets_RunsStartEndAndAbort_endRun :
    ((fun (dt : Nat) (q : Quay) (l : Fin 8) (s : State) =>
      let c := s.chip.after dt
      let s0 := c.laneOf q l
      let r := (s0.run.map fun r => (r.state, r.words)).getD (0, 0)
      ((c.issues q l 0x3F src0 ∧ (c.qstate q = 4 ∧ 2048 ≤ r.1 ∧ r.1 < 32768 ∧ r.2 ≤ 512)) : Prop)) 0 .A 0 (live [lawAct 0x3f#32 0#32, put (pgQCTL .A) Reg.QCTL.Q_STAT_QSTATE 4])) ∧
    ((fun (dt : Nat) (q : Quay) (l : Fin 8) (s : State) =>
      let c := s.chip.after dt
      let s0 := c.laneOf q l
      let r := (s0.run.map fun r => (r.state, r.words)).getD (0, 0)
      ((c.issues q l 0x3F src0 ∧ (c.qstate q ≠ 4 ∧ 2048 ≤ r.1 ∧ r.1 < 32768 ∧ r.2 ≤ 512) ∧ s0.fl.s = true) : Prop)) 0 .A 0 (live [lawAct 0x3f#32 0#32, put (pgQCTL .A) Reg.QCTL.Q_STAT_QSTATE 3, modLane 0 fun s => { s with fl := { s.fl with s := true } }])) :=
  ⟨by decide +kernel, by decide +kernel⟩

/-- RunsStartEndAndAbort: runOvertime can complete as stated. -/
theorem test_meets_RunsStartEndAndAbort_runOvertime :
    (fun (dt : Nat) (q : Quay) (l : Fin 8) (s : State) =>
      let c := s.chip.after dt
      ((((c.laneOf q l).run.any fun r => r.stall.isNone && decide (r.budget ≤ r.cyc))) : Prop)) 2500 .A 0 (live [lawAct 0#32 0#32, modLane 0 fun s => { s with run := s.run.map fun r => { r with cyc := 1000 } }]) := by
  decide +kernel

/-- RunsStartEndAndAbort: runStallTimeout can complete as stated. -/
theorem test_meets_RunsStartEndAndAbort_runStallTimeout :
    (fun (dt : Nat) (q : Quay) (l : Fin 8) (s : State) =>
      let c := s.chip.after dt
      ((((c.laneOf q l).run.any fun r => r.stall.any fun e => c.ldsLook q e.1 e.2.1 == .wait)) : Prop)) 2500 .A 0 (live [lawAct 0#32 0#32, modLane 0 fun s => { s with run := s.run.map fun r => { r with stall := some (18, 0, 61, 0) } }, setWord ((pgENG .A).base + 0x948) 0x80000000#32]) := by
  decide +kernel

/-- RunsStartEndAndAbort: runUncorr can complete as stated. -/
theorem test_meets_RunsStartEndAndAbort_runUncorr :
    (fun (dt : Nat) (q : Quay) (l : Fin 8) (s : State) =>
      let c := s.chip.after dt
      (((c.laneOf q l).run.isSome ∧ c.qstate q = 4) : Prop)) 0 .A 0 (live [lawAct 0#32 0#32, put (pgQCTL .A) Reg.QCTL.Q_STAT_QSTATE 4]) := by
  decide +kernel

/-- LawMemoryMailboxCaptureAndInjection: lawmemWrite can complete as stated, in each case. -/
theorem test_meets_LawMemoryMailboxCaptureAndInjection_lawmemWrite :
    ((fun (dt : Nat) (src : Src) (q : Quay) (i : Fin 65536) (w : Word) (s : State) =>
      let c := s.chip.after dt
      let a := lawAddr q 0 + 4 * i.val
      ((src ≠ .debug ∧ c.respond src a 32 true = .ok ∧ c.portOpen src ∧ (¬ c.mirrors q.other ∧ ¬ c.en (pgENG q))) : Prop)) 0 (.core .A 0) .A 65535 0xDEADBEEF#32 (live [])) ∧
    ((fun (dt : Nat) (src : Src) (q : Quay) (i : Fin 65536) (w : Word) (s : State) =>
      let c := s.chip.after dt
      let a := lawAddr q 0 + 4 * i.val
      ((src ≠ .debug ∧ c.respond src a 32 true = .ok ∧ c.portOpen src ∧ (¬ c.mirrors q.other ∧ c.en (pgENG q))) : Prop)) 0 (.core .A 0) .A 65535 0xDEADBEEF#32 (live [putFlag (pgENG .A) Reg.HDR.PAGE_CTRL_EN true])) ∧
    ((fun (dt : Nat) (src : Src) (q : Quay) (i : Fin 65536) (w : Word) (s : State) =>
      let c := s.chip.after dt
      let a := lawAddr q 0 + 4 * i.val
      ((src ≠ .debug ∧ c.respond src a 32 true = .ok ∧ c.portOpen src ∧ c.mirrors q.other) : Prop)) 0 (.core .A 0) .A 0 0xDEADBEEF#32 (live [put (pgQCTL .B) Reg.QCTL.Q_STAT_QSTATE 4, put (pgQCTL .A) Reg.QCTL.Q_STAT_QSTATE 3])) :=
  ⟨by decide +kernel, by decide +kernel, by decide +kernel⟩

/-- LawMemoryMailboxCaptureAndInjection: sigReq can complete as stated. -/
theorem test_meets_LawMemoryMailboxCaptureAndInjection_sigReq :
    (fun (dt : Nat) (src : Src) (q : Quay) (s : State) =>
      let c := s.chip.after dt
      ((c.serves src (pgENG q) 0x04C true ∧ c.mirrors q.other = false) : Prop)) 0 (.core .A 0) .A (live []) := by
  decide +kernel

/-- LawMemoryMailboxCaptureAndInjection: sigDone can complete as stated. -/
theorem test_meets_LawMemoryMailboxCaptureAndInjection_sigDone :
    (fun (dt : Nat) (q : Quay) (s : State) =>
      let c := s.chip.after dt
      ((c.flag (pgENG q) Reg.ENG.SIG_CTRL) : Prop)) 0 .B (live [putFlag (pgENG .B) Reg.ENG.SIG_CTRL true]) := by
  decide +kernel

/-- LawMemoryMailboxCaptureAndInjection: mailboxPairRead can complete as stated. -/
theorem test_meets_LawMemoryMailboxCaptureAndInjection_mailboxPairRead :
    (fun (dt : Nat) (src : Src) (q : Quay) (i : Fin 256) (s : State) =>
      let c := s.chip.after dt
      let a := mailboxAddr q (2 * i.val)
      ((src ≠ .debug ∧ c.respond src a 32 false = .ok ∧ c.portOpen src) : Prop)) 0 (.core .A 0) .A 255 (live []) := by
  decide +kernel

/-- LawMemoryMailboxCaptureAndInjection: captureWindowClose can complete as stated. -/
theorem test_meets_LawMemoryMailboxCaptureAndInjection_captureWindowClose :
    (fun (dt : Nat) (tap : Fin 16) (s : State) =>
      let c := s.chip.after dt
      (((c.fld pgCAP Reg.CAP.WIN_STAT).testBit tap) : Prop)) 0 15 (live [put pgCAP Reg.CAP.WIN_STAT 0x8001]) := by
  decide +kernel

/-- LawMemoryMailboxCaptureAndInjection: injWindowOpen can complete as stated. -/
theorem test_meets_LawMemoryMailboxCaptureAndInjection_injWindowOpen :
    (fun (dt : Nat) (q : Quay) (g : Fin 4) (s : State) =>
      let c := s.chip.after dt
      let x := (c.injSets q)[g]?
      let t := (x.map fun x => x.start).getD 0
      ((c.tideOn ∧ (x.any fun x => x.mode != 0 && decide (c.t ≤ x.start)) ∧ (c.eng q.idx).edges.contains (2 * g.val, t) = false ∧ t < 2 ^ 64) : Prop)) 0 .A 3 (live [putActive (pgINJ .A) Reg.INJ.INJ_CFG_MODE 2 3, putActive (pgINJ .A) Reg.INJ.START_LO 40 3]) := by
  decide +kernel

/-- LawMemoryMailboxCaptureAndInjection: injWindowClose can complete as stated. -/
theorem test_meets_LawMemoryMailboxCaptureAndInjection_injWindowClose :
    (fun (dt : Nat) (q : Quay) (g : Fin 4) (s : State) =>
      let c := s.chip.after dt
      let x := (c.injSets q)[g]?
      let t := (x.map fun x => x.start + x.duration).getD 0
      ((c.tideOn ∧ (x.any fun x => x.mode != 0 && decide (c.t ≤ x.start + x.duration)) ∧ (c.eng q.idx).edges.contains (2 * g.val + 1, t) = false ∧ t < 2 ^ 64) : Prop)) 0 .A 3 (live [putActive (pgINJ .A) Reg.INJ.INJ_CFG_MODE 2 3, putActive (pgINJ .A) Reg.INJ.DURATION 40 3]) := by
  decide +kernel

/-- PositionEdgesAndFrames: quadEdge can complete as stated, in each case. -/
theorem test_meets_PositionEdgesAndFrames_quadEdge :
    ((fun (dt : Nat) (n : Fin 8) (a b : Bool) (held : Nat) (s : State) =>
      let c := s.chip.after dt
      let p := pgPOS n
      let v := (c.pos n).levels
      let a0 := v.testBit 0
      let b0 := v.testBit 1
      ((c.act (pgPOS n) Reg.POS.POS_CFG_FILT < held ∧ c.on p ∧ c.posMode n = 1 ∧ ((a != a0) != (b != b0)) = true) : Prop)) 0 7 true false 99 (live [putFlag (pgPOS 7) Reg.HDR.PAGE_STAT_ENABLED true])) ∧
    ((fun (dt : Nat) (n : Fin 8) (a b : Bool) (held : Nat) (s : State) =>
      let c := s.chip.after dt
      let p := pgPOS n
      let v := (c.pos n).levels
      let a0 := v.testBit 0
      let b0 := v.testBit 1
      ((c.act (pgPOS n) Reg.POS.POS_CFG_FILT < held ∧ c.on p ∧ c.posMode n = 1 ∧ ((a != a0) && (b != b0)) = true) : Prop)) 0 7 true true 99 (live [putFlag (pgPOS 7) Reg.HDR.PAGE_STAT_ENABLED true])) ∧
    ((fun (dt : Nat) (n : Fin 8) (a b : Bool) (held : Nat) (s : State) =>
      let c := s.chip.after dt
      let p := pgPOS n
      let v := (c.pos n).levels
      let a0 := v.testBit 0
      let b0 := v.testBit 1
      ((c.act (pgPOS n) Reg.POS.POS_CFG_FILT < held ∧ c.on p ∧ c.posMode n = 1 ∧ (a = a0 ∧ b = b0)) : Prop)) 0 7 false false 99 (live [putFlag (pgPOS 7) Reg.HDR.PAGE_STAT_ENABLED true])) ∧
    ((fun (dt : Nat) (n : Fin 8) (a b : Bool) (held : Nat) (s : State) =>
      let c := s.chip.after dt
      ((held ≤ c.act (pgPOS n) Reg.POS.POS_CFG_FILT) : Prop)) 0 7 true false 7 (live [putFlag (pgPOS 7) Reg.HDR.PAGE_STAT_ENABLED true, putActive (pgPOS 7) Reg.POS.POS_CFG_FILT 7])) :=
  ⟨by decide +kernel, by decide +kernel, by decide +kernel, by decide +kernel⟩

/-- PositionEdgesAndFrames: quadIndex can complete as stated, in each case. -/
theorem test_meets_PositionEdgesAndFrames_quadIndex :
    ((fun (dt : Nat) (n : Fin 8) (z : Bool) (held : Nat) (s : State) =>
      let c := s.chip.after dt
      let p := pgPOS n
      let v := (c.pos n).levels
      let mode := c.act p Reg.POS.INDEX_CFG_Z_MODE
      let loads := mode == 3 || (mode == 2 && (c.pos n).armed)
      let qual := !c.actFlag p Reg.POS.INDEX_CFG_Z_QUAL_EN || c.act p Reg.POS.INDEX_CFG_Z_QUAL == (if v.testBit 0 then 2 else 0) + if v.testBit 1 then 1 else 0
      ((c.act (pgPOS n) Reg.POS.POS_CFG_FILT < held ∧ c.on p ∧ c.posMode n = 1 ∧ z ≠ v.testBit 2 ∧ z ≠ c.actFlag p Reg.POS.INDEX_CFG_Z_POL ∧ qual = true ∧ mode ≠ 0 ∧ loads = true) : Prop)) 0 7 true 99 (live [putFlag (pgPOS 7) Reg.HDR.PAGE_STAT_ENABLED true, modPos 7 fun s => { s with levels := 3 }, putActive (pgPOS 7) Reg.POS.INDEX_CFG_Z_MODE 3])) ∧
    ((fun (dt : Nat) (n : Fin 8) (z : Bool) (held : Nat) (s : State) =>
      let c := s.chip.after dt
      let p := pgPOS n
      let v := (c.pos n).levels
      let mode := c.act p Reg.POS.INDEX_CFG_Z_MODE
      let loads := mode == 3 || (mode == 2 && (c.pos n).armed)
      let qual := !c.actFlag p Reg.POS.INDEX_CFG_Z_QUAL_EN || c.act p Reg.POS.INDEX_CFG_Z_QUAL == (if v.testBit 0 then 2 else 0) + if v.testBit 1 then 1 else 0
      ((c.act (pgPOS n) Reg.POS.POS_CFG_FILT < held ∧ c.on p ∧ c.posMode n = 1 ∧ z ≠ v.testBit 2 ∧ z ≠ c.actFlag p Reg.POS.INDEX_CFG_Z_POL ∧ qual = true ∧ mode ≠ 0 ∧ loads = false) : Prop)) 0 7 true 99 (live [putFlag (pgPOS 7) Reg.HDR.PAGE_STAT_ENABLED true, modPos 7 (fun s => { s with levels := 3 }), putActive (pgPOS 7) Reg.POS.INDEX_CFG_Z_MODE 2])) ∧
    ((fun (dt : Nat) (n : Fin 8) (z : Bool) (held : Nat) (s : State) =>
      let c := s.chip.after dt
      ((held ≤ c.act (pgPOS n) Reg.POS.POS_CFG_FILT) : Prop)) 0 7 true 7 (live [putFlag (pgPOS 7) Reg.HDR.PAGE_STAT_ENABLED true, putActive (pgPOS 7) Reg.POS.POS_CFG_FILT 7])) :=
  ⟨by decide +kernel, by decide +kernel, by decide +kernel⟩

/-- PositionEdgesAndFrames: hallEdge can complete as stated, in each case. -/
theorem test_meets_PositionEdgesAndFrames_hallEdge :
    ((fun (dt : Nat) (n : Fin 8) (code : BitVec 3) (held : Nat) (s : State) =>
      let c := s.chip.after dt
      let p := pgPOS n
      let i := c.hallSector n (c.pos n).levels
      let k := c.hallSector n code.toNat
      let near := i.any fun i => k.any fun k => k == (i + 1) % 6 || i == (k + 1) % 6
      ((c.act (pgPOS n) Reg.POS.POS_CFG_FILT < held ∧ c.on p ∧ c.posMode n = 2 ∧ code.toNat ≠ (c.pos n).levels ∧ near = true) : Prop)) 0 7 3 99 (live [putFlag (pgPOS 7) Reg.HDR.PAGE_STAT_ENABLED true, putActive (pgPOS 7) Reg.POS.POS_CFG_MODE 2, modPos 7 fun s => { s with levels := 1 }])) ∧
    ((fun (dt : Nat) (n : Fin 8) (code : BitVec 3) (held : Nat) (s : State) =>
      let c := s.chip.after dt
      let p := pgPOS n
      let i := c.hallSector n (c.pos n).levels
      let k := c.hallSector n code.toNat
      ((c.act (pgPOS n) Reg.POS.POS_CFG_FILT < held ∧ c.on p ∧ c.posMode n = 2 ∧ code.toNat ≠ (c.pos n).levels ∧ (i.isNone ∧ k.isSome)) : Prop)) 0 7 1 99 (live [putFlag (pgPOS 7) Reg.HDR.PAGE_STAT_ENABLED true, putActive (pgPOS 7) Reg.POS.POS_CFG_MODE 2])) ∧
    ((fun (dt : Nat) (n : Fin 8) (code : BitVec 3) (held : Nat) (s : State) =>
      let c := s.chip.after dt
      let p := pgPOS n
      let i := c.hallSector n (c.pos n).levels
      let k := c.hallSector n code.toNat
      let near := i.any fun i => k.any fun k => k == (i + 1) % 6 || i == (k + 1) % 6
      ((c.act (pgPOS n) Reg.POS.POS_CFG_FILT < held ∧ c.on p ∧ c.posMode n = 2 ∧ code.toNat ≠ (c.pos n).levels ∧ (near = false ∧ (k = none ∨ i.isSome))) : Prop)) 0 7 7 99 (live [putFlag (pgPOS 7) Reg.HDR.PAGE_STAT_ENABLED true, putActive (pgPOS 7) Reg.POS.POS_CFG_MODE 2, modPos 7 fun s => { s with levels := 1 }])) ∧
    ((fun (dt : Nat) (n : Fin 8) (code : BitVec 3) (held : Nat) (s : State) =>
      let c := s.chip.after dt
      ((held ≤ c.act (pgPOS n) Reg.POS.POS_CFG_FILT) : Prop)) 0 7 3 7 (live [putFlag (pgPOS 7) Reg.HDR.PAGE_STAT_ENABLED true, putActive (pgPOS 7) Reg.POS.POS_CFG_FILT 7])) :=
  ⟨by decide +kernel, by decide +kernel, by decide +kernel, by decide +kernel⟩

/-- PositionEdgesAndFrames: stillTimeout can complete as stated. -/
theorem test_meets_PositionEdgesAndFrames_stillTimeout :
    (fun (dt : Nat) (n : Fin 8) (s : State) =>
      let c := s.chip.after dt
      let p := pgPOS n
      ((c.on p ∧ (c.stillAt n).isSome ∧ c.fld p Reg.POS.POS_STAT_STILL = 0) : Prop)) 2500000 7 (live [putFlag (pgPOS 7) Reg.HDR.PAGE_STAT_ENABLED true, putFlag (pgPOS 7) Reg.POS.POS_STAT_STILL false, modPos 7 fun s => { s with last := some 0 }]) := by
  decide +kernel

/-- PositionEdgesAndFrames: posFaultClr can complete as stated. -/
theorem test_meets_PositionEdgesAndFrames_posFaultClr :
    (fun (dt : Nat) (src : Src) (n : Fin 8) (s : State) =>
      let c := s.chip.after dt
      let p := pgPOS n
      ((c.serves src p 0x070 true ∧ c.flag p Reg.POS.POS_STAT_ENC_FAULT) : Prop)) 0 (.core .A 0) 7 (live [putFlag (pgPOS 7) Reg.POS.POS_STAT_ENC_FAULT true]) := by
  decide +kernel

/-- PositionEdgesAndFrames: zarm can complete as stated. -/
theorem test_meets_PositionEdgesAndFrames_zarm :
    (fun (dt : Nat) (src : Src) (n : Fin 8) (s : State) =>
      let c := s.chip.after dt
      ((c.serves src (pgPOS n) 0x070 true) : Prop)) 0 (.core .A 0) 7 (live []) := by
  decide +kernel

/-- PositionEdgesAndFrames: serialFrameDone can complete as stated, in each case. -/
theorem test_meets_PositionEdgesAndFrames_serialFrameDone :
    ((fun (dt : Nat) (n : Fin 8) (low : Bool) (bits : List Bool) (s : State) =>
      let c := s.chip.after dt
      let ws := ((c.pos n).req.map Prod.snd).getD []
      let f := readSerial ws (c.pos n).passed low bits
      (((c.pos n).req.isSome ∧ f.cause ≠ 0 ∧ low = true) : Prop)) 100000 7 true [] (live [modPos 7 fun s => { s with req := some (0, [0, 0, 0, 0, 0]) }])) ∧
    ((fun (dt : Nat) (n : Fin 8) (low : Bool) (bits : List Bool) (s : State) =>
      let c := s.chip.after dt
      let ws := ((c.pos n).req.map Prod.snd).getD []
      let f := readSerial ws (c.pos n).passed low bits
      (((c.pos n).req.isSome ∧ f.cause = 0) : Prop)) 100000 7 false [] (live [modPos 7 fun s => { s with req := some (0, [0, 0, 0, 0, 0]) }])) ∧
    ((fun (dt : Nat) (n : Fin 8) (low : Bool) (bits : List Bool) (s : State) =>
      let c := s.chip.after dt
      let ws := ((c.pos n).req.map Prod.snd).getD []
      let f := readSerial ws (c.pos n).passed low bits
      (((c.pos n).req.isSome ∧ f.cause ≠ 0 ∧ (f.cause ≠ 0 ∧ 2 ≤ (c.pos n).bad) ∧ low = true) : Prop)) 100000 7 true [] (live [modPos 7 fun s => { s with req := some (0, [0, 0, 0, 0, 0]), bad := 2 }])) :=
  ⟨by decide +kernel, by decide +kernel, by decide +kernel⟩

/-- PositionEdgesAndFrames: posWordsReady can complete as stated, in each case. -/
theorem test_meets_PositionEdgesAndFrames_posWordsReady :
    ((fun (dt : Nat) (n : Fin 8) (s : State) =>
      let c := s.chip.after dt
      (((c.pos n).out ≠ []) : Prop)) 40 7 (live [modPos 7 fun s => { s with out := [⟨0, 40, [(5, true), (6, true), (7, false), (8, true), (9, true)], none⟩] }])) ∧
    ((fun (dt : Nat) (n : Fin 8) (s : State) =>
      let c := s.chip.after dt
      (((c.pos n).out ≠ []) : Prop)) 40 7 (live [modPos 7 fun s => { s with out := [⟨0, 40, [(5, true), (6, true), (7, false), (8, true), (9, true)], none⟩] }, putFlag (pgPOS 7) Reg.HDR.PAGE_CTRL_EN true])) :=
  ⟨by decide +kernel, by decide +kernel⟩

/-- PositionEdgesAndFrames: emuCountStep can complete as stated. -/
theorem test_meets_PositionEdgesAndFrames_emuCountStep :
    (fun (dt : Nat) (j : Fin 4) (s : State) =>
      let c := s.chip.after dt
      let p := pgEMU j
      let e := c.emu j
      ((c.on p ∧ c.act p Reg.EMU.EMU_CFG_MODE = 1 ∧ e.t ≠ e.out ∧ c.act p Reg.EMU.LINES ≠ 0) : Prop)) 100 3 (live [putFlag (pgEMU 3) Reg.HDR.PAGE_STAT_ENABLED true, putActive (pgEMU 3) Reg.EMU.EMU_CFG_MODE 1, modEmu 3 fun e => { e with t := -4 }]) := by
  decide +kernel

/-- PositionEdgesAndFrames: emuPassFollow can complete as stated. -/
theorem test_meets_PositionEdgesAndFrames_emuPassFollow :
    (fun (dt : Nat) (j : Fin 4) (s : State) =>
      let c := s.chip.after dt
      let p := pgEMU j
      ((c.on p ∧ c.act p Reg.EMU.EMU_CFG_MODE = 2 ∧ (c.emu j).broken = false) : Prop)) 0 3 (live [putFlag (pgEMU 3) Reg.HDR.PAGE_STAT_ENABLED true, putActive (pgEMU 3) Reg.EMU.EMU_CFG_MODE 2]) := by
  decide +kernel

/-- BridgeCellsProtectThemselves: brgCarrierStart can complete as stated, in each case. -/
theorem test_meets_BridgeCellsProtectThemselves_brgCarrierStart :
    ((fun (dt : Nat) (n : Fin 16) (s : State) =>
      let c := s.chip.after dt
      let p := pgBRG n
      let pwm := c.act p Reg.BRG.BRG_CFG_MODE == 2 && c.act p Reg.BRG.DIRECT_DSTATE == 1
      ((c.on p ∧ (c.brg n).carrier.isSome ∧ pwm = false) : Prop)) 5 15 (live [putFlag (pgBRG 15) Reg.HDR.PAGE_STAT_ENABLED true, modBrg 15 fun b => { b with carrier := some 5 }])) ∧
    ((fun (dt : Nat) (n : Fin 16) (s : State) =>
      let c := s.chip.after dt
      let p := pgBRG n
      let pwm := c.act p Reg.BRG.BRG_CFG_MODE == 2 && c.act p Reg.BRG.DIRECT_DSTATE == 1
      let weak := c.bst n Reg.BRG.BRG_STAT_CP_FAULT
      ((c.on p ∧ (c.brg n).carrier.isSome ∧ pwm = true ∧ (pwm = true ∧ weak = true)) : Prop)) 5 15 (live [putFlag (pgBRG 15) Reg.HDR.PAGE_STAT_ENABLED true, putFlag (pgBRG 15) Reg.BRG.BRG_STAT_CP_FAULT true, putActive (pgBRG 15) Reg.BRG.BRG_CFG_MODE 2, putActive (pgBRG 15) Reg.BRG.DIRECT_DSTATE 1, modBrg 15 fun b => { b with carrier := some 5 }])) :=
  ⟨by decide +kernel, by decide +kernel⟩

/-- BridgeCellsProtectThemselves: bstMeasure can complete as stated, in each case. -/
theorem test_meets_BridgeCellsProtectThemselves_bstMeasure :
    ((fun (dt : Nat) (n : Fin 16) (dv : BitVec 8) (s : State) =>
      let c := s.chip.after dt
      let p := pgBRG n
      let uv := c.bst n Reg.BRG.BRG_STAT_BST_UV
      let hit := if uv then decide (c.act p Reg.BRG.BST_CFG_BST_UV + 5 < dv.toNat) else decide (dv.toNat < c.act p Reg.BRG.BST_CFG_BST_UV)
      ((c.domainOn 9 ∧ (hit = true ∧ 1 ≤ (c.brg n).bst)) : Prop)) 0 15 69 (live [putFlag (pgBRG 15) Reg.HDR.PAGE_STAT_ENABLED true, modBrg 15 fun b => { b with bst := 1 }])) ∧
    ((fun (dt : Nat) (n : Fin 16) (dv : BitVec 8) (s : State) =>
      let c := s.chip.after dt
      let p := pgBRG n
      let uv := c.bst n Reg.BRG.BRG_STAT_BST_UV
      let hit := if uv then decide (c.act p Reg.BRG.BST_CFG_BST_UV + 5 < dv.toNat) else decide (dv.toNat < c.act p Reg.BRG.BST_CFG_BST_UV)
      ((c.domainOn 9 ∧ (hit = false ∨ (c.brg n).bst = 0) ∧ hit = false) : Prop)) 0 15 255 (live [putFlag (pgBRG 15) Reg.HDR.PAGE_STAT_ENABLED true, modBrg 15 fun b => { b with bst := 1 }])) :=
  ⟨by decide +kernel, by decide +kernel⟩

/-- BridgeCellsProtectThemselves: cpFaultSet can complete as stated. -/
theorem test_meets_BridgeCellsProtectThemselves_cpFaultSet :
    (fun (dt : Nat) (n : Fin 16) (s : State) =>
      let c := s.chip.after dt
      ((c.en (pgBRG n) ∧ c.domainOn 9 ∧ c.bst n Reg.BRG.BRG_STAT_CP_FAULT = false) : Prop)) 0 15 (live [putFlag (pgBRG 15) Reg.HDR.PAGE_CTRL_EN true]) := by
  decide +kernel

/-- BridgeCellsProtectThemselves: vdsDetect can complete as stated, in each case. -/
theorem test_meets_BridgeCellsProtectThemselves_vdsDetect :
    ((fun (dt : Nat) (n : Fin 16) (high atBlank : Bool) (s : State) =>
      let c := s.chip.after dt
      let p := pgBRG n
      let gate := if high then Reg.BRG.BRG_STAT_GATE_H else Reg.BRG.BRG_STAT_GATE_L
      let latch := if high then Reg.BRG.BRG_STAT_VDS_H else Reg.BRG.BRG_STAT_VDS_L
      let blanked := (if high then (c.brg n).onH else (c.brg n).onL) + c.act p Reg.BRG.VDS_CFG_BLANK + vdsCount
      let at_ := if atBlank then blanked else c.t
      ((blanked ≤ at_ ∧ c.t ≤ at_ ∧ at_ < 2 ^ 64 ∧ ((c.brg n).plan.all fun e => decide (at_ < e.t)) ∧ c.bst n gate ∧ c.bst n latch = false) : Prop)) 500 15 true true (live [putFlag (pgBRG 15) Reg.BRG.BRG_STAT_GATE_H true])) ∧
    ((fun (dt : Nat) (n : Fin 16) (high atBlank : Bool) (s : State) =>
      let c := s.chip.after dt
      let p := pgBRG n
      let gate := if high then Reg.BRG.BRG_STAT_GATE_H else Reg.BRG.BRG_STAT_GATE_L
      let latch := if high then Reg.BRG.BRG_STAT_VDS_H else Reg.BRG.BRG_STAT_VDS_L
      let blanked := (if high then (c.brg n).onH else (c.brg n).onL) + c.act p Reg.BRG.VDS_CFG_BLANK + vdsCount
      let at_ := if atBlank then blanked else c.t
      ((blanked ≤ at_ ∧ c.t ≤ at_ ∧ at_ < 2 ^ 64 ∧ ((c.brg n).plan.all fun e => decide (at_ < e.t)) ∧ c.bst n gate ∧ c.bst n latch = false) : Prop)) 2000 15 true false (live [putFlag (pgBRG 15) Reg.BRG.BRG_STAT_GATE_H true])) ∧
    ((fun (dt : Nat) (n : Fin 16) (high atBlank : Bool) (s : State) =>
      let c := s.chip.after dt
      let p := pgBRG n
      let gate := if high then Reg.BRG.BRG_STAT_GATE_H else Reg.BRG.BRG_STAT_GATE_L
      let latch := if high then Reg.BRG.BRG_STAT_VDS_H else Reg.BRG.BRG_STAT_VDS_L
      let u := (c.unitOf n).getD 0
      let blanked := (if high then (c.brg n).onH else (c.brg n).onL) + c.act p Reg.BRG.VDS_CFG_BLANK + vdsCount
      let at_ := if atBlank then blanked else c.t
      ((blanked ≤ at_ ∧ c.t ≤ at_ ∧ at_ < 2 ^ 64 ∧ ((c.brg n).plan.all fun e => decide (at_ < e.t)) ∧ c.bst n gate ∧ c.bst n latch = false ∧ ((c.unitOf n).isSome ∧ c.sscState u ≠ ssFAULT)) : Prop)) 500 15 false true (live [putFlag (pgBRG 15) Reg.BRG.BRG_STAT_GATE_L true, putFlag (pgSSC 4) Reg.HDR.PAGE_CTRL_EN true, putActive (pgSSC 4) Reg.SSC.SSC_CFG_CELL_B 15])) :=
  ⟨by decide +kernel, by decide +kernel, by decide +kernel⟩

/-- BridgeCellsProtectThemselves: vdsClr can complete as stated, in each case. -/
theorem test_meets_BridgeCellsProtectThemselves_vdsClr :
    ((fun (dt : Nat) (src : Src) (n : Fin 16) (lowH lowL : Bool) (s : State) =>
      let c := s.chip.after dt
      let p := pgBRG n
      ((c.serves src p 0x058 true ∧ lowH = true ∧ lowL = false) : Prop)) 0 (.core .A 0) 15 true false (live [])) ∧
    ((fun (dt : Nat) (src : Src) (n : Fin 16) (lowH lowL : Bool) (s : State) =>
      let c := s.chip.after dt
      let p := pgBRG n
      ((c.serves src p 0x058 true ∧ lowH = false ∧ lowL = true) : Prop)) 0 (.core .A 0) 15 false true (live [])) ∧
    ((fun (dt : Nat) (src : Src) (n : Fin 16) (lowH lowL : Bool) (s : State) =>
      let c := s.chip.after dt
      let p := pgBRG n
      ((c.serves src p 0x058 true ∧ lowH = true ∧ lowL = true ∧ (lowH = true ∧ lowL = true)) : Prop)) 0 (.core .A 0) 0 true true (live [])) :=
  ⟨by decide +kernel, by decide +kernel, by decide +kernel⟩

/-- BridgeCellsProtectThemselves: brgRearm can complete as stated, in each case. -/
theorem test_meets_BridgeCellsProtectThemselves_brgRearm :
    ((fun (dt : Nat) (src : Src) (n : Fin 16) (s : State) =>
      let c := s.chip.after dt
      let p := pgBRG n
      let stop := c.bst n Reg.BRG.BRG_STAT_SHUTTER_CLOSED || c.bst n Reg.BRG.BRG_STAT_VDS_H || c.bst n Reg.BRG.BRG_STAT_VDS_L
      ((c.serves src p 0x058 true ∧ (stop = false ∧ c.act p Reg.BRG.BRG_CFG_MODE = 2 ∧ (c.brg (brgLead n)).supBad = false)) : Prop)) 0 (.core .A 0) 15 (live [putFlag (pgBRG 15) Reg.BRG.BRG_STAT_SHUTTER_CLOSED false, putActive (pgBRG 15) Reg.BRG.BRG_CFG_MODE 2])) ∧
    ((fun (dt : Nat) (src : Src) (n : Fin 16) (s : State) =>
      let c := s.chip.after dt
      let p := pgBRG n
      let stop := c.bst n Reg.BRG.BRG_STAT_SHUTTER_CLOSED || c.bst n Reg.BRG.BRG_STAT_VDS_H || c.bst n Reg.BRG.BRG_STAT_VDS_L
      ((c.serves src p 0x058 true ∧ stop = true) : Prop)) 0 (.core .A 0) 15 (live [putFlag (pgBRG 15) Reg.BRG.BRG_STAT_SHUTTER_CLOSED true, putFlag (pgBRG 15) Reg.BRG.BRG_STAT_VDS_L true])) :=
  ⟨by decide +kernel, by decide +kernel⟩

/-- BridgeCellsProtectThemselves: selftest can complete as stated, in each case. -/
theorem test_meets_BridgeCellsProtectThemselves_selftest :
    ((fun (dt : Nat) (src : Src) (n : Fin 16) (s : State) =>
      let c := s.chip.after dt
      let p := pgBRG n
      ((c.serves src p 0x058 true ∧ (¬ c.en p ∧ (c.brg n).selftest = none)) : Prop)) 0 (.core .A 0) 15 (live [])) ∧
    ((fun (dt : Nat) (src : Src) (n : Fin 16) (s : State) =>
      let c := s.chip.after dt
      let p := pgBRG n
      ((c.serves src p 0x058 true ∧ c.en p) : Prop)) 0 (.core .A 0) 15 (live [putFlag (pgBRG 15) Reg.HDR.PAGE_CTRL_EN true])) :=
  ⟨by decide +kernel, by decide +kernel⟩

/-- BridgeCellsProtectThemselves: selftestDone can complete as stated. -/
theorem test_meets_BridgeCellsProtectThemselves_selftestDone :
    (fun (dt : Nat) (n : Fin 16) (result : BitVec 10) (s : State) =>
      let c := s.chip.after dt
      (((c.brg n).selftest.isSome) : Prop)) 100000 15 1022 (live [modBrg 15 fun b => { b with selftest := some 100000 }]) := by
  decide +kernel

/-- BridgeCellsProtectThemselves: vbrMeasure can complete as stated, in each case. -/
theorem test_meets_BridgeCellsProtectThemselves_vbrMeasure :
    ((fun (dt : Nat) (b : Fin 4) (dv : BitVec 10) (s : State) =>
      let c := s.chip.after dt
      let n := 4 * b.val
      let p := pgBRG n
      let low := decide (dv.toNat < c.act p Reg.BRG.SUP_CFG_UV)
      let high := decide (c.act p Reg.BRG.SUP_CFG_OV < dv.toNat)
      let turn := (low || high) != (c.brg n).supBad
      ((c.domainOn 9 ∧ (turn = true ∧ 1 ≤ (c.brg n).sup) ∧ (turn = true ∧ 1 ≤ (c.brg n).sup ∧ (low || high) = true)) : Prop)) 0 3 1023 (live [modBrg 12 fun b => { b with sup := 1 }])) ∧
    ((fun (dt : Nat) (b : Fin 4) (dv : BitVec 10) (s : State) =>
      let c := s.chip.after dt
      let n := 4 * b.val
      let p := pgBRG n
      let low := decide (dv.toNat < c.act p Reg.BRG.SUP_CFG_UV)
      let high := decide (c.act p Reg.BRG.SUP_CFG_OV < dv.toNat)
      let turn := (low || high) != (c.brg n).supBad
      ((c.domainOn 9 ∧ (turn = false ∨ (c.brg n).sup = 0) ∧ ((c.brg n).supBad = true ∧ (low || high) = true)) : Prop)) 0 3 1023 (live [modBrg 12 fun b => { b with supBad := true }])) ∧
    ((fun (dt : Nat) (b : Fin 4) (dv : BitVec 10) (s : State) =>
      let c := s.chip.after dt
      let n := 4 * b.val
      let p := pgBRG n
      let low := decide (dv.toNat < c.act p Reg.BRG.SUP_CFG_UV)
      let high := decide (c.act p Reg.BRG.SUP_CFG_OV < dv.toNat)
      let turn := (low || high) != (c.brg n).supBad
      ((c.domainOn 9 ∧ (turn = false ∨ (c.brg n).sup = 0) ∧ ((c.brg n).supBad = false ∧ (turn = false ∨ (c.brg n).sup = 0))) : Prop)) 0 3 240 (live [putActive (pgBRG 12) Reg.BRG.SUP_CFG_UV 80, putActive (pgBRG 12) Reg.BRG.SUP_CFG_OV 300])) :=
  ⟨by decide +kernel, by decide +kernel, by decide +kernel⟩

/-- CommutationUnitsFollowTheirTable: sscStart can complete as stated, in each case. -/
theorem test_meets_CommutationUnitsFollowTheirTable_sscStart :
    ((fun (dt : Nat) (src : Src) (u : Fin 5) (s : State) =>
      let c := s.chip.after dt
      let p := pgSSC u
      let ok := c.sscState u == ssOFF && c.en p && c.sscClean u && (c.sscCells u).all (fun n => !c.bst n Reg.BRG.BRG_STAT_SHUTTER_CLOSED)
      ((c.serves src p 0x094 true ∧ ok = false) : Prop)) 0 (.core .A 0) 4 (live [])) ∧
    ((fun (dt : Nat) (src : Src) (u : Fin 5) (s : State) =>
      let c := s.chip.after dt
      let p := pgSSC u
      let ok := c.sscState u == ssOFF && c.en p && c.sscClean u && (c.sscCells u).all (fun n => !c.bst n Reg.BRG.BRG_STAT_SHUTTER_CLOSED)
      ((c.serves src p 0x094 true ∧ ok = false) : Prop)) 0 (.core .A 0) 4 (live [putFlag (pgSSC 4) Reg.HDR.PAGE_CTRL_EN true])) ∧
    ((fun (dt : Nat) (src : Src) (u : Fin 5) (s : State) =>
      let c := s.chip.after dt
      let p := pgSSC u
      let ok := c.sscState u == ssOFF && c.en p && c.sscClean u && (c.sscCells u).all (fun n => !c.bst n Reg.BRG.BRG_STAT_SHUTTER_CLOSED)
      ((c.serves src p 0x094 true ∧ ok = true) : Prop)) 0 (.core .A 0) 4 (live [putFlag (pgSSC 4) Reg.HDR.PAGE_CTRL_EN true, putActive (pgSSC 4) Reg.SSC.SSC_CFG_CELL_A 0, putActive (pgSSC 4) Reg.SSC.SSC_CFG_CELL_B 1, putActive (pgSSC 4) Reg.SSC.SSC_CFG_CELL_C 2, each [0, 1, 2] fun n => putFlag (pgBRG n) Reg.BRG.BRG_STAT_SHUTTER_CLOSED false])) :=
  ⟨by decide +kernel, by decide +kernel, by decide +kernel⟩

/-- CommutationUnitsFollowTheirTable: sscStop can complete as stated, in each case. -/
theorem test_meets_CommutationUnitsFollowTheirTable_sscStop :
    ((fun (dt : Nat) (src : Src) (u : Fin 5) (s : State) =>
      let c := s.chip.after dt
      let p := pgSSC u
      let ok := decide (ssLISTEN ≤ c.sscSees u rkSTOP) && decide (c.sscSees u rkSTOP ≤ ssRUN)
      ((c.serves src p 0x094 true ∧ ok = true) : Prop)) 0 (.core .A 0) 4 (live [put (pgSSC 4) Reg.SSC.SSC_STAT_STATE 6])) ∧
    ((fun (dt : Nat) (src : Src) (u : Fin 5) (s : State) =>
      let c := s.chip.after dt
      let p := pgSSC u
      let ok := decide (ssLISTEN ≤ c.sscSees u rkSTOP) && decide (c.sscSees u rkSTOP ≤ ssRUN)
      ((c.serves src p 0x094 true ∧ ok = false) : Prop)) 0 (.core .A 0) 4 (live [put (pgSSC 4) Reg.SSC.SSC_STAT_STATE 0])) :=
  ⟨by decide +kernel, by decide +kernel⟩

/-- CommutationUnitsFollowTheirTable: sscFaultClr can complete as stated, in each case. -/
theorem test_meets_CommutationUnitsFollowTheirTable_sscFaultClr :
    ((fun (dt : Nat) (src : Src) (u : Fin 5) (s : State) =>
      let c := s.chip.after dt
      let p := pgSSC u
      let ok := c.sscState u == ssFAULT && c.sscClean u
      ((c.serves src p 0x094 true ∧ ok = true) : Prop)) 0 (.core .A 0) 4 (live [put (pgSSC 4) Reg.SSC.SSC_STAT_STATE 8])) ∧
    ((fun (dt : Nat) (src : Src) (u : Fin 5) (s : State) =>
      let c := s.chip.after dt
      let p := pgSSC u
      let ok := c.sscState u == ssFAULT && c.sscClean u
      ((c.serves src p 0x094 true ∧ ok = false) : Prop)) 0 (.core .A 0) 4 (live [put (pgSSC 4) Reg.SSC.SSC_STAT_STATE 6])) :=
  ⟨by decide +kernel, by decide +kernel⟩

/-- CommutationUnitsFollowTheirTable: sscCarrierStart can complete as stated. -/
theorem test_meets_CommutationUnitsFollowTheirTable_sscCarrierStart :
    (fun (dt : Nat) (u : Fin 5) (s : State) =>
      let c := s.chip.after dt
      (((c.ssc u).carrier.isSome) : Prop)) 5 4 (live [modSsc 4 fun x => { x with carrier := some 5 }]) := by
  decide +kernel

/-- CommutationUnitsFollowTheirTable: listenEnd can complete as stated, in each case. -/
theorem test_meets_CommutationUnitsFollowTheirTable_listenEnd :
    ((fun (dt : Nat) (u : Fin 5) (s : State) =>
      let c := s.chip.after dt
      let p := pgSSC u
      let x := c.ssc u
      let dir := c.actFlag p Reg.SSC.SSC_CFG_DIR
      let fwd := listenValid dir x.cross
      let rev := listenValid (!dir) x.cross
      (((c.sscState u = ssLISTEN ∨ c.sscState u = ssWAIT) ∧ c.en p ∧ (fwd = none ∧ rev = none)) : Prop)) 50000000 4 (live [put (pgSSC 4) Reg.SSC.SSC_STAT_STATE 1, putFlag (pgSSC 4) Reg.HDR.PAGE_STAT_ENABLED true, putFlag (pgSSC 4) Reg.HDR.PAGE_CTRL_EN true, putActive (pgSSC 4) Reg.SSC.SSC_CFG_POLE_PAIRS 1])) ∧
    ((fun (dt : Nat) (u : Fin 5) (s : State) =>
      let c := s.chip.after dt
      let p := pgSSC u
      let x := c.ssc u
      let dir := c.actFlag p Reg.SSC.SSC_CFG_DIR
      let fwd := listenValid dir x.cross
      let rev := listenValid (!dir) x.cross
      let speed := c.sscSpeed u (fwd.getD (rev.getD 0))
      let det := c.act p Reg.SSC.START_A_DET_SPEED
      (((c.sscState u = ssLISTEN ∨ c.sscState u = ssWAIT) ∧ c.en p ∧ (fwd.isSome ∧ det ≤ speed)) : Prop)) 50000000 4 (live [put (pgSSC 4) Reg.SSC.SSC_STAT_STATE 1, putFlag (pgSSC 4) Reg.HDR.PAGE_STAT_ENABLED true, putFlag (pgSSC 4) Reg.HDR.PAGE_CTRL_EN true, putActive (pgSSC 4) Reg.SSC.SSC_CFG_POLE_PAIRS 1, modSsc 4 fun x => { x with cross := [(0, 2, false), (100000, 1, true), (200000, 0, false), (300000, 2, true)] }])) ∧
    ((fun (dt : Nat) (u : Fin 5) (s : State) =>
      let c := s.chip.after dt
      let p := pgSSC u
      let x := c.ssc u
      let dir := c.actFlag p Reg.SSC.SSC_CFG_DIR
      let fwd := listenValid dir x.cross
      let rev := listenValid (!dir) x.cross
      let speed := c.sscSpeed u (fwd.getD (rev.getD 0))
      let det := c.act p Reg.SSC.START_A_DET_SPEED
      (((c.sscState u = ssLISTEN ∨ c.sscState u = ssWAIT) ∧ c.en p ∧ (fwd.isSome ∧ speed < det)) : Prop)) 50000000 4 (live [put (pgSSC 4) Reg.SSC.SSC_STAT_STATE 1, putFlag (pgSSC 4) Reg.HDR.PAGE_STAT_ENABLED true, putFlag (pgSSC 4) Reg.HDR.PAGE_CTRL_EN true, putActive (pgSSC 4) Reg.SSC.SSC_CFG_POLE_PAIRS 1, putActive (pgSSC 4) Reg.SSC.START_A_DET_SPEED 4000, modSsc 4 fun x => { x with cross := [(0, 2, false), (10000000, 1, true), (20000000, 0, false), (30000000, 2, true)] }])) ∧
    ((fun (dt : Nat) (u : Fin 5) (s : State) =>
      let c := s.chip.after dt
      let p := pgSSC u
      let x := c.ssc u
      let dir := c.actFlag p Reg.SSC.SSC_CFG_DIR
      let fwd := listenValid dir x.cross
      let rev := listenValid (!dir) x.cross
      let reverse := fwd.isNone && rev.isSome
      let speed := c.sscSpeed u (fwd.getD (rev.getD 0))
      let last := decide (c.act p Reg.SSC.START_E_BRAKE_MAX ≤ x.windows)
      (((c.sscState u = ssLISTEN ∨ c.sscState u = ssWAIT) ∧ c.en p ∧ (reverse = true ∧ last = false ∧ c.act p Reg.SSC.START_A_REV_SC_MAX < speed)) : Prop)) 50000000 4 (live [put (pgSSC 4) Reg.SSC.SSC_STAT_STATE 1, putFlag (pgSSC 4) Reg.HDR.PAGE_STAT_ENABLED true, putFlag (pgSSC 4) Reg.HDR.PAGE_CTRL_EN true, putActive (pgSSC 4) Reg.SSC.SSC_CFG_POLE_PAIRS 1, putActive (pgSSC 4) Reg.SSC.START_E_BRAKE_MAX 3, putActive (pgSSC 4) Reg.SSC.START_A_REV_SC_MAX 1, modSsc 4 fun x => { x with cross := [(0, 2, true), (10000, 0, false), (20000, 1, true), (30000, 2, false)] }])) ∧
    ((fun (dt : Nat) (u : Fin 5) (s : State) =>
      let c := s.chip.after dt
      let p := pgSSC u
      let x := c.ssc u
      let dir := c.actFlag p Reg.SSC.SSC_CFG_DIR
      let fwd := listenValid dir x.cross
      let rev := listenValid (!dir) x.cross
      let reverse := fwd.isNone && rev.isSome
      let speed := c.sscSpeed u (fwd.getD (rev.getD 0))
      let det := c.act p Reg.SSC.START_A_DET_SPEED
      let last := decide (c.act p Reg.SSC.START_E_BRAKE_MAX ≤ x.windows)
      (((c.sscState u = ssLISTEN ∨ c.sscState u = ssWAIT) ∧ c.en p ∧ (reverse = true ∧ last = false ∧ det ≤ speed ∧ speed ≤ c.act p Reg.SSC.START_A_REV_SC_MAX)) : Prop)) 50000000 4 (live [put (pgSSC 4) Reg.SSC.SSC_STAT_STATE 1, putFlag (pgSSC 4) Reg.HDR.PAGE_STAT_ENABLED true, putFlag (pgSSC 4) Reg.HDR.PAGE_CTRL_EN true, putActive (pgSSC 4) Reg.SSC.SSC_CFG_POLE_PAIRS 1, putActive (pgSSC 4) Reg.SSC.START_A_DET_SPEED 1, putActive (pgSSC 4) Reg.SSC.START_E_BRAKE_MAX 3, putActive (pgSSC 4) Reg.SSC.START_A_REV_SC_MAX 4000, modSsc 4 fun x => { x with cross := [(0, 2, true), (10000000, 0, false), (20000000, 1, true), (30000000, 2, false)] }])) ∧
    ((fun (dt : Nat) (u : Fin 5) (s : State) =>
      let c := s.chip.after dt
      let p := pgSSC u
      let x := c.ssc u
      let dir := c.actFlag p Reg.SSC.SSC_CFG_DIR
      let fwd := listenValid dir x.cross
      let rev := listenValid (!dir) x.cross
      let reverse := fwd.isNone && rev.isSome
      let speed := c.sscSpeed u (fwd.getD (rev.getD 0))
      let det := c.act p Reg.SSC.START_A_DET_SPEED
      let last := decide (c.act p Reg.SSC.START_E_BRAKE_MAX ≤ x.windows)
      (((c.sscState u = ssLISTEN ∨ c.sscState u = ssWAIT) ∧ c.en p ∧ (reverse = true ∧ last = true ∧ det ≤ speed)) : Prop)) 50000000 4 (live [put (pgSSC 4) Reg.SSC.SSC_STAT_STATE 1, putFlag (pgSSC 4) Reg.HDR.PAGE_STAT_ENABLED true, putFlag (pgSSC 4) Reg.HDR.PAGE_CTRL_EN true, putActive (pgSSC 4) Reg.SSC.SSC_CFG_POLE_PAIRS 1, putActive (pgSSC 4) Reg.SSC.START_A_DET_SPEED 1, putActive (pgSSC 4) Reg.SSC.START_E_BRAKE_MAX 3, putActive (pgSSC 4) Reg.SSC.START_A_REV_SC_MAX 4000, modSsc 4 fun x => { x with windows := 3, cross := [(0, 2, true), (10000000, 0, false), (20000000, 1, true), (30000000, 2, false)] }])) :=
  ⟨by decide +kernel, by decide +kernel, by decide +kernel, by decide +kernel, by decide +kernel, by decide +kernel⟩

/-- CommutationUnitsFollowTheirTable: zeroCrossing can complete as stated, in each case. -/
theorem test_meets_CommutationUnitsFollowTheirTable_zeroCrossing :
    ((fun (dt : Nat) (u : Fin 5) (phase : Fin 3) (rising : Bool) (s : State) =>
      let c := s.chip.after dt
      ((((c.sscCells u).all fun n => (c.brg n).plan.all fun e => decide (c.t < e.t)) ∧ (c.sscState u = ssLISTEN ∨ c.sscState u = ssWAIT)) : Prop)) 500 4 2 true (live [put (pgSSC 4) Reg.SSC.SSC_STAT_STATE 1])) ∧
    ((fun (dt : Nat) (u : Fin 5) (phase : Fin 3) (rising : Bool) (s : State) =>
      let c := s.chip.after dt
      let p := pgSSC u
      let x := c.ssc u
      let row := stepRow (c.fld p Reg.SSC.SSC_STAT_STEP)
      let ok := row.2.2.1 == phase.val && (row.2.2.2 != c.actFlag p Reg.SSC.SSC_CFG_DIR) == rising && c.zcSampled u && x.soft.isNone && decide (x.commEnd + c.fld p Reg.SSC.STEP_TICKS * c.act p Reg.SSC.ZC_CFG_DEMAG / 256 ≤ c.t)
      ((((c.sscCells u).all fun n => (c.brg n).plan.all fun e => decide (c.t < e.t)) ∧ (c.sscState u = ssRUN ∧ ok = true)) : Prop)) 500 4 2 false (live [put (pgSSC 4) Reg.SSC.SSC_STAT_STATE 6, put (pgSSC 4) Reg.SSC.STEP_TICKS 100, putFlag (pgBRG 0) Reg.BRG.BRG_STAT_GATE_H true])) ∧
    ((fun (dt : Nat) (u : Fin 5) (phase : Fin 3) (rising : Bool) (s : State) =>
      let c := s.chip.after dt
      let p := pgSSC u
      let x := c.ssc u
      let row := stepRow (c.fld p Reg.SSC.SSC_STAT_STEP)
      let ok := row.2.2.1 == phase.val && (row.2.2.2 != c.actFlag p Reg.SSC.SSC_CFG_DIR) == rising && c.zcSampled u && x.soft.isNone && decide (x.commEnd + c.fld p Reg.SSC.STEP_TICKS * c.act p Reg.SSC.ZC_CFG_DEMAG / 256 ≤ c.t)
      ((((c.sscCells u).all fun n => (c.brg n).plan.all fun e => decide (c.t < e.t)) ∧ (c.sscState u = ssRUN ∧ ok = false)) : Prop)) 500 4 0 true (live [put (pgSSC 4) Reg.SSC.SSC_STAT_STATE 6])) :=
  ⟨by decide +kernel, by decide +kernel, by decide +kernel⟩

/-- CommutationUnitsFollowTheirTable: stepLost can complete as stated, in each case. -/
theorem test_meets_CommutationUnitsFollowTheirTable_stepLost :
    ((fun (dt : Nat) (u : Fin 5) (s : State) =>
      let c := s.chip.after dt
      let p := pgSSC u
      let x := c.ssc u
      ((c.sscState u = ssRUN ∧ c.en p ∧ c.act p Reg.SSC.START_D_LOST_STEPS ≤ x.lostRun + 1) : Prop)) 5 4 (live [put (pgSSC 4) Reg.SSC.SSC_STAT_STATE 6, putFlag (pgSSC 4) Reg.HDR.PAGE_STAT_ENABLED true, putFlag (pgSSC 4) Reg.HDR.PAGE_CTRL_EN true, modSsc 4 fun x => { x with lostRun := 5 }])) ∧
    ((fun (dt : Nat) (u : Fin 5) (s : State) =>
      let c := s.chip.after dt
      let p := pgSSC u
      let x := c.ssc u
      ((c.sscState u = ssRUN ∧ c.en p ∧ x.lostRun + 1 < c.act p Reg.SSC.START_D_LOST_STEPS) : Prop)) 5 4 (live [put (pgSSC 4) Reg.SSC.SSC_STAT_STATE 6, putActive (pgSSC 4) Reg.SSC.START_D_LOST_STEPS 6, putFlag (pgSSC 4) Reg.HDR.PAGE_STAT_ENABLED true, putFlag (pgSSC 4) Reg.HDR.PAGE_CTRL_EN true, modSsc 4 fun x => { x with lostRun := 4 }])) :=
  ⟨by decide +kernel, by decide +kernel⟩

/-- CommutationUnitsFollowTheirTable: commutation can complete as stated. -/
theorem test_meets_CommutationUnitsFollowTheirTable_commutation :
    (fun (dt : Nat) (u : Fin 5) (s : State) =>
      let c := s.chip.after dt
      ((c.sscState u = ssRUN ∧ (c.ssc u).comm.isSome) : Prop)) 5 4 (live [put (pgSSC 4) Reg.SSC.SSC_STAT_STATE 6, modSsc 4 fun x => { x with comm := some 5 }]) := by
  decide +kernel

/-- CommutationUnitsFollowTheirTable: keSample can complete as stated, in each case. -/
theorem test_meets_CommutationUnitsFollowTheirTable_keSample :
    ((fun (dt : Nat) (u : Fin 5) (v : BitVec 16) (s : State) =>
      let c := s.chip.after dt
      let p := pgSSC u
      let x := c.ssc u
      let z := (x.cross.getLastD (0, 0, false)).1
      let y := (x.cross.dropLast.getLastD (0, 0, false)).1
      let win := x.ke ++ [v.toNat * 1000 / c.sscSpeed u (z - y)]
      ((x.keOpen ∧ c.act p Reg.SSC.KE_CFG_KE_WIN ≠ 0 ∧ c.sscState u ≠ ssRUN ∧ 2 ≤ x.cross.length ∧ c.act p Reg.SSC.KE_CFG_KE_WIN ≤ win.length) : Prop)) 50 4 6000 (live [put (pgSSC 4) Reg.SSC.SSC_STAT_STATE 3, putActive (pgSSC 4) Reg.SSC.KE_CFG_KE_WIN 1, modSsc 4 fun x => { x with keOpen := true, cross := [(0, 0, true), (40, 2, false)] }])) ∧
    ((fun (dt : Nat) (u : Fin 5) (v : BitVec 16) (s : State) =>
      let c := s.chip.after dt
      let p := pgSSC u
      let x := c.ssc u
      let z := (x.cross.getLastD (0, 0, false)).1
      let y := (x.cross.dropLast.getLastD (0, 0, false)).1
      let win := x.ke ++ [v.toNat * 1000 / c.sscSpeed u (z - y)]
      ((x.keOpen ∧ c.act p Reg.SSC.KE_CFG_KE_WIN ≠ 0 ∧ c.sscState u ≠ ssRUN ∧ 2 ≤ x.cross.length ∧ win.length < c.act p Reg.SSC.KE_CFG_KE_WIN) : Prop)) 50 4 6000 (live [put (pgSSC 4) Reg.SSC.SSC_STAT_STATE 3, putActive (pgSSC 4) Reg.SSC.KE_CFG_KE_WIN 2, modSsc 4 fun x => { x with keOpen := true, cross := [(0, 0, true), (40, 2, false)] }])) :=
  ⟨by decide +kernel, by decide +kernel⟩

/-- CommutationUnitsFollowTheirTable: brakeEnd can complete as stated. -/
theorem test_meets_CommutationUnitsFollowTheirTable_brakeEnd :
    (fun (dt : Nat) (u : Fin 5) (s : State) =>
      let c := s.chip.after dt
      ((c.sscState u = ssBRAKE) : Prop)) 125000000 4 (live [put (pgSSC 4) Reg.SSC.SSC_STAT_STATE 2]) := by
  decide +kernel

/-- CommutationUnitsFollowTheirTable: alignEnd can complete as stated. -/
theorem test_meets_CommutationUnitsFollowTheirTable_alignEnd :
    (fun (dt : Nat) (u : Fin 5) (s : State) =>
      let c := s.chip.after dt
      ((c.sscState u = ssALIGN) : Prop)) 250000000 4 (live [put (pgSSC 4) Reg.SSC.SSC_STAT_STATE 4]) := by
  decide +kernel

/-- CommutationUnitsFollowTheirTable: forcedStep can complete as stated, in each case. -/
theorem test_meets_CommutationUnitsFollowTheirTable_forcedStep :
    ((fun (dt : Nat) (u : Fin 5) (s : State) =>
      let c := s.chip.after dt
      let p := pgSSC u
      let x := c.ssc u
      let locks := decide (c.act p Reg.SSC.START_D_LOCK_STEPS ≤ x.lockRun)
      let run := if x.checked && x.crossed then x.lockRun + 1 else if locks then x.lockRun else 0
      let fails := c.olReached u (x.stepAt + x.stepLen) (c.act p Reg.SSC.START_C_OL_MAX) && decide (run < c.act p Reg.SSC.START_D_LOCK_STEPS)
      ((c.sscState u = ssOPEN ∧ c.en p ∧ fails = false) : Prop)) 5 4 (live [put (pgSSC 4) Reg.SSC.SSC_STAT_STATE 5, putFlag (pgSSC 4) Reg.HDR.PAGE_STAT_ENABLED true, putFlag (pgSSC 4) Reg.HDR.PAGE_CTRL_EN true, putActive (pgSSC 4) Reg.SSC.START_C_OL_MAX 5000])) ∧
    ((fun (dt : Nat) (u : Fin 5) (s : State) =>
      let c := s.chip.after dt
      let p := pgSSC u
      let x := c.ssc u
      let locks := decide (c.act p Reg.SSC.START_D_LOCK_STEPS ≤ x.lockRun)
      let run := if x.checked && x.crossed then x.lockRun + 1 else if locks then x.lockRun else 0
      let fails := c.olReached u (x.stepAt + x.stepLen) (c.act p Reg.SSC.START_C_OL_MAX) && decide (run < c.act p Reg.SSC.START_D_LOCK_STEPS)
      ((c.sscState u = ssOPEN ∧ c.en p ∧ fails = true) : Prop)) 5 4 (live [put (pgSSC 4) Reg.SSC.SSC_STAT_STATE 5, putFlag (pgSSC 4) Reg.HDR.PAGE_STAT_ENABLED true, putFlag (pgSSC 4) Reg.HDR.PAGE_CTRL_EN true, putActive (pgSSC 4) Reg.SSC.START_C_OL_MAX 0, putActive (pgSSC 4) Reg.SSC.START_D_LOCK_STEPS 6])) :=
  ⟨by decide +kernel, by decide +kernel⟩

/-- CommutationUnitsFollowTheirTable: stoppingEnd can complete as stated. -/
theorem test_meets_CommutationUnitsFollowTheirTable_stoppingEnd :
    (fun (dt : Nat) (u : Fin 5) (s : State) =>
      let c := s.chip.after dt
      ((c.sscState u = ssSTOPPING) : Prop)) 125000000 4 (live [put (pgSSC 4) Reg.SSC.SSC_STAT_STATE 7]) := by
  decide +kernel

/-- MismatchesAndWatchdogsAreQuayFaults: lockstepMismatch can complete as stated, in each case. -/
theorem test_meets_MismatchesAndWatchdogsAreQuayFaults_lockstepMismatch :
    ((fun (dt : Nat) (u : LockstepUnit) (s : State) =>
      let c := s.chip.after dt
      let q := (match u with | .pair q _ => q | .safety => Quay.A)
      (((u = .safety ∨ c.pairRuns q) ∧ u ≠ .safety) : Prop)) 0 (.pair .B 1) (live [put (pgQCTL .B) Reg.QCTL.Q_STAT_QSTATE 3])) ∧
    ((fun (dt : Nat) (u : LockstepUnit) (s : State) =>
      let c := s.chip.after dt
      let q := (match u with | .pair q _ => q | .safety => Quay.A)
      (((u = .safety ∨ c.pairRuns q) ∧ u = .safety) : Prop)) 0 .safety (live [])) :=
  ⟨by decide +kernel, by decide +kernel⟩

/-- MismatchesAndWatchdogsAreQuayFaults: laneMismatch can complete as stated. -/
theorem test_meets_MismatchesAndWatchdogsAreQuayFaults_laneMismatch :
    (fun (dt : Nat) (q : Quay) (l : Fin 8) (s : State) =>
      let c := s.chip.after dt
      ((c.quayUp q) : Prop)) 0 .A 7 (live [put (pgQCTL .A) Reg.QCTL.Q_STAT_QSTATE 4]) := by
  decide +kernel

/-- MismatchesAndWatchdogsAreQuayFaults: compTest can complete as stated, in each case. -/
theorem test_meets_MismatchesAndWatchdogsAreQuayFaults_compTest :
    ((fun (dt : Nat) (q : Quay) (unit : Fin 10) (ok : Bool) (s : State) =>
      let c := s.chip.after dt
      ((c.quayUp q || c.qstate q == 1 ∧ (2 ≤ unit.val ∨ c.split = false) ∧ (ok = false ∧ c.quayUp q)) : Prop)) 0 .A 9 false (live [put (pgQCTL .A) Reg.QCTL.Q_STAT_QSTATE 4])) ∧
    ((fun (dt : Nat) (q : Quay) (unit : Fin 10) (ok : Bool) (s : State) =>
      let c := s.chip.after dt
      ((c.quayUp q || c.qstate q == 1 ∧ (2 ≤ unit.val ∨ c.split = false) ∧ (ok = false ∧ c.qstate q = 1 ∧ (c.quay q.idx).bist.isSome)) : Prop)) 0 .A 1 false (live [put (pgQCTL .A) Reg.QCTL.Q_STAT_QSTATE 1, modQuay 0 fun x => { x with bist := some 500 }])) ∧
    ((fun (dt : Nat) (q : Quay) (unit : Fin 10) (ok : Bool) (s : State) =>
      let c := s.chip.after dt
      ((c.quayUp q || c.qstate q == 1 ∧ (2 ≤ unit.val ∨ c.split = false) ∧ ok = true) : Prop)) 0 .A 9 true (live [put (pgQCTL .A) Reg.QCTL.Q_STAT_QSTATE 4])) :=
  ⟨by decide +kernel, by decide +kernel, by decide +kernel⟩

/-- MismatchesAndWatchdogsAreQuayFaults: coreScrub can complete as stated, in each case. -/
theorem test_meets_MismatchesAndWatchdogsAreQuayFaults_coreScrub :
    ((fun (dt : Nat) (q : Quay) (pair : Fin 2) (ok : Bool) (s : State) =>
      let c := s.chip.after dt
      ((c.pairRuns q ∧ ((c.quay q.idx).halted.all fun e => e.1 != pair.val) ∧ ok = true) : Prop)) 0 .A 1 true (live [put (pgQCTL .A) Reg.QCTL.Q_STAT_QSTATE 4])) ∧
    ((fun (dt : Nat) (q : Quay) (pair : Fin 2) (ok : Bool) (s : State) =>
      let c := s.chip.after dt
      ((c.pairRuns q ∧ ((c.quay q.idx).halted.all fun e => e.1 != pair.val) ∧ ok = false) : Prop)) 0 .A 1 false (live [put (pgQCTL .A) Reg.QCTL.Q_STAT_QSTATE 4])) :=
  ⟨by decide +kernel, by decide +kernel⟩

/-- MismatchesAndWatchdogsAreQuayFaults: laneScrub can complete as stated, in each case. -/
theorem test_meets_MismatchesAndWatchdogsAreQuayFaults_laneScrub :
    ((fun (dt : Nat) (q : Quay) (l : Fin 8) (ok : Bool) (s : State) =>
      let c := s.chip.after dt
      ((c.quayUp q ∧ (c.laneOf q l).run = none ∧ ok = false) : Prop)) 0 .A 7 false (live [put (pgQCTL .A) Reg.QCTL.Q_STAT_QSTATE 4])) ∧
    ((fun (dt : Nat) (q : Quay) (l : Fin 8) (ok : Bool) (s : State) =>
      let c := s.chip.after dt
      ((c.quayUp q ∧ (c.laneOf q l).run = none ∧ ok = true) : Prop)) 0 .A 7 true (live [put (pgQCTL .A) Reg.QCTL.Q_STAT_QSTATE 4])) :=
  ⟨by decide +kernel, by decide +kernel⟩

/-- MismatchesAndWatchdogsAreQuayFaults: lckForce can complete as stated, in each case. -/
theorem test_meets_MismatchesAndWatchdogsAreQuayFaults_lckForce :
    ((fun (dt : Nat) (src : Src) (q : Quay) (s : State) =>
      let c := s.chip.after dt
      ((c.serves src (pgLCK q) 0x058 true ∧ c.windowHeld (pgLCK q) src ∧ c.split = false) : Prop)) 0 (.core .A 0) .A (live [put (pgQCTL .A) Reg.QCTL.Q_STAT_QSTATE 4, modPst (pgLCK .A) fun x => { x with holder := some (0, 0) }])) ∧
    ((fun (dt : Nat) (src : Src) (q : Quay) (s : State) =>
      let c := s.chip.after dt
      ((c.serves src (pgLCK q) 0x058 true ∧ c.windowHeld (pgLCK q) src ∧ c.split = true) : Prop)) 0 (.core .A 0) .A (live [.prim (.strap 8), put pgPWR Reg.PWR.DOM_STAT 0x3FFF, modSeqS (fun s => { s with on := 0x3FFF, good := 0x3FFF }), put (pgQCTL .A) Reg.QCTL.Q_STAT_QSTATE 4, modPst (pgLCK .A) fun x => { x with holder := some (0, 0) }])) :=
  ⟨by decide +kernel, by decide +kernel⟩

/-- MismatchesAndWatchdogsAreQuayFaults: wdKick can complete as stated, in each case. -/
theorem test_meets_MismatchesAndWatchdogsAreQuayFaults_wdKick :
    ((fun (dt : Nat) (src : Src) (q : Quay) (w : Fin 4) (v : Word) (s : State) =>
      let c := s.chip.after dt
      let p := pgQCTL q
      let next := c.fld p Reg.QCTL.WD_STAT_NEXT w
      let late := decide (2500 * c.act p Reg.QCTL.WD_CFG_PERIOD w < c.now - (c.quay q.idx).wd.getD w 0)
      let wrong := v.bits 0 16 != 0xD000 + next || decide (c.now - (c.quay q.idx).wd.getD w 0 < 2500 * c.act p Reg.QCTL.WD_CFG_MIN w)
      ((c.serves src p (0x090 + 4 * w.val) true ∧ c.flag p Reg.QCTL.WD_STAT_RUNNING w ∧ c.flag p Reg.QCTL.WD_STAT_FROZEN w = false ∧ (late = false ∧ wrong = false) ∧ (late = false ∧ wrong = false ∧ (c.quay q.idx).wd.length = 4)) : Prop)) 0 (.core .A 2) .A 1 0xD001 (live [putFlag (pgQCTL .A) Reg.QCTL.WD_STAT_RUNNING true 1])) ∧
    ((fun (dt : Nat) (src : Src) (q : Quay) (w : Fin 4) (v : Word) (s : State) =>
      let c := s.chip.after dt
      let p := pgQCTL q
      let late := decide (2500 * c.act p Reg.QCTL.WD_CFG_PERIOD w < c.now - (c.quay q.idx).wd.getD w 0)
      ((c.serves src p (0x090 + 4 * w.val) true ∧ c.flag p Reg.QCTL.WD_STAT_RUNNING w ∧ c.flag p Reg.QCTL.WD_STAT_FROZEN w = false ∧ late = true) : Prop)) 2501 (.core .A 2) .A 1 0xD001 (live [putFlag (pgQCTL .A) Reg.QCTL.WD_STAT_RUNNING true 1, putActive (pgQCTL .A) Reg.QCTL.WD_CFG_PERIOD 1 1])) ∧
    ((fun (dt : Nat) (src : Src) (q : Quay) (w : Fin 4) (v : Word) (s : State) =>
      let c := s.chip.after dt
      let p := pgQCTL q
      let next := c.fld p Reg.QCTL.WD_STAT_NEXT w
      let late := decide (2500 * c.act p Reg.QCTL.WD_CFG_PERIOD w < c.now - (c.quay q.idx).wd.getD w 0)
      let wrong := v.bits 0 16 != 0xD000 + next || decide (c.now - (c.quay q.idx).wd.getD w 0 < 2500 * c.act p Reg.QCTL.WD_CFG_MIN w)
      ((c.serves src p (0x090 + 4 * w.val) true ∧ c.flag p Reg.QCTL.WD_STAT_RUNNING w ∧ c.flag p Reg.QCTL.WD_STAT_FROZEN w = false ∧ (late = false ∧ wrong = true)) : Prop)) 2500 (.core .A 2) .A 1 0xD0FF (live [putFlag (pgQCTL .A) Reg.QCTL.WD_STAT_RUNNING true 1, putActive (pgQCTL .A) Reg.QCTL.WD_CFG_PERIOD 1 1])) :=
  ⟨by decide +kernel, by decide +kernel, by decide +kernel⟩

/-- MismatchesAndWatchdogsAreQuayFaults: wdTimeout can complete as stated. -/
theorem test_meets_MismatchesAndWatchdogsAreQuayFaults_wdTimeout :
    (fun (dt : Nat) (q : Quay) (w : Fin 4) (s : State) =>
      let c := s.chip.after dt
      ((c.flag (pgQCTL q) Reg.QCTL.WD_STAT_RUNNING w ∧ c.flag (pgQCTL q) Reg.QCTL.WD_STAT_FROZEN w = false) : Prop)) 125000000 .B 3 (live [putFlag (pgQCTL .B) Reg.QCTL.WD_STAT_RUNNING true 3]) := by
  decide +kernel

/-- TheTokenPassesBetweenTheQuays: tokenRelease can complete as stated, in each case. -/
theorem test_meets_TheTokenPassesBetweenTheQuays_tokenRelease :
    ((fun (dt : Nat) (s : State) =>
      let c := s.chip.after dt
      let r : Option (Quay × Nat) := match c.redSt.pend, c.redSt.switchAt, c.owner with | some (q, k, _), _, _ => some (q, k) | none, some _, some q => some (q, 13) | _, _, _ => none
      let q := (r.map Prod.fst).getD .A
      let code := (r.map Prod.snd).getD 0
      ((r.isSome ∧ ((c.gwy q.other.idx).undo.all fun u => decide (u.1 < c.t)) ∧ (c.redSt.switchAt.all fun b => decide (b < 2 ^ 64)) ∧ code ≠ 13) : Prop)) 5 (live [put (pgQCTL .A) Reg.QCTL.Q_STAT_QSTATE 4, put (pgQCTL .B) Reg.QCTL.Q_STAT_QSTATE 3, modRedS fun r => { r with pend := some (.A, 1, 0) }])) ∧
    ((fun (dt : Nat) (s : State) =>
      let c := s.chip.after dt
      let r : Option (Quay × Nat) := match c.redSt.pend, c.redSt.switchAt, c.owner with | some (q, k, _), _, _ => some (q, k) | none, some _, some q => some (q, 13) | _, _, _ => none
      let q := (r.map Prod.fst).getD .A
      let code := (r.map Prod.snd).getD 0
      ((r.isSome ∧ ((c.gwy q.other.idx).undo.all fun u => decide (u.1 < c.t)) ∧ (c.redSt.switchAt.all fun b => decide (b < 2 ^ 64)) ∧ code = 13) : Prop)) 5 (live [put (pgQCTL .A) Reg.QCTL.Q_STAT_QSTATE 4, put (pgQCTL .B) Reg.QCTL.Q_STAT_QSTATE 3, modRedS fun r => { r with switchAt := some 500 }])) :=
  ⟨by decide +kernel, by decide +kernel⟩

/-- TheTokenPassesBetweenTheQuays: takeover can complete as stated, in each case. -/
theorem test_meets_TheTokenPassesBetweenTheQuays_takeover :
    ((fun (dt : Nat) (s : State) =>
      let c := s.chip.after dt
      ((c.redSt.rel.isSome ∧ c.rstate = 1) : Prop)) 5 (live [put (pgQCTL .A) Reg.QCTL.RED_STAT_RSTATE 1, modRedS fun r => { r with rel := some (.A, 1, 0, 5) }])) ∧
    ((fun (dt : Nat) (s : State) =>
      let c := s.chip.after dt
      let r := c.redSt.rel.getD (.A, 0, 0, 0)
      ((c.redSt.rel.isSome ∧ c.rstate = 1 ∧ c.qstate r.1 = 6) : Prop)) 5 (live [put (pgQCTL .A) Reg.QCTL.RED_STAT_RSTATE 1, put (pgQCTL .B) Reg.QCTL.Q_STAT_QSTATE 6, modRedS fun r => { r with rel := some (.B, 13, 0, 5) }])) :=
  ⟨by decide +kernel, by decide +kernel⟩

/-- TheTokenPassesBetweenTheQuays: switchReq can complete as stated, in each case. -/
theorem test_meets_TheTokenPassesBetweenTheQuays_switchReq :
    ((fun (dt : Nat) (src : Src) (q : Quay) (s : State) =>
      let c := s.chip.after dt
      let p := pgQCTL q
      let ok := c.rstate == 0 && c.owner == some q
      ((c.serves src p 0x048 true ∧ c.windowHeld p src ∧ (ok = true ∧ c.redSt.switchAt = none ∧ c.redSt.pend = none)) : Prop)) 0 (.core .A 0) .A (live [put (pgQCTL .A) Reg.QCTL.RED_STAT_RSTATE 0, modPst (pgQCTL .A) fun x => { x with holder := some (0, 0) }])) ∧
    ((fun (dt : Nat) (src : Src) (q : Quay) (s : State) =>
      let c := s.chip.after dt
      let p := pgQCTL q
      let ok := c.rstate == 0 && c.owner == some q
      ((c.serves src p 0x048 true ∧ c.windowHeld p src ∧ ok = false) : Prop)) 0 (.core .A 0) .A (live [put (pgQCTL .A) Reg.QCTL.RED_STAT_RSTATE 2, modPst (pgQCTL .A) fun x => { x with holder := some (0, 0) }])) :=
  ⟨by decide +kernel, by decide +kernel⟩

/-- TheTokenPassesBetweenTheQuays: startupTake can complete as stated. -/
theorem test_meets_TheTokenPassesBetweenTheQuays_startupTake :
    (fun (dt : Nat) (s : State) =>
      let c := s.chip.after dt
      ((c.startTaker.isSome ∧ c.rstate = 4) : Prop)) 5 (live [.prim (.owner none), modQuay 0 fun x => { x with bist := some 0 }]) := by
  decide +kernel

/-- TheTokenPassesBetweenTheQuays: singleExpire can complete as stated. -/
theorem test_meets_TheTokenPassesBetweenTheQuays_singleExpire :
    (fun (dt : Nat) (s : State) =>
      let c := s.chip.after dt
      ((c.rstate = 2 ∧ c.safSt.placed ∧ c.flag (pgQCTL .A) Reg.QCTL.RED_STAT_EXPIRED = false) : Prop)) 5 (live [put (pgQCTL .A) Reg.QCTL.RED_STAT_RSTATE 2, modSafS fun x => { x with placed := true }]) := by
  decide +kernel

/-- TheTokenPassesBetweenTheQuays: quayReset can complete as stated. -/
theorem test_meets_TheTokenPassesBetweenTheQuays_quayReset :
    (fun (dt : Nat) (q : Quay) (s : State) =>
      let c := s.chip.after dt
      ((c.tideOn ∧ c.qstate q = 0) : Prop)) 0 .B (live []) := by
  decide +kernel

/-- TheTokenPassesBetweenTheQuays: bistDone can complete as stated, in each case. -/
theorem test_meets_TheTokenPassesBetweenTheQuays_bistDone :
    ((fun (dt : Nat) (q : Quay) (pass : Bool) (s : State) =>
      let c := s.chip.after dt
      ((c.qstate q = 1 ∧ (c.quay q.idx).bist = none ∧ (pass = true ∧ c.rstate ≠ 4)) : Prop)) 0 .B true (live [put (pgQCTL .B) Reg.QCTL.Q_STAT_QSTATE 1, put (pgQCTL .A) Reg.QCTL.RED_STAT_RSTATE 2])) ∧
    ((fun (dt : Nat) (q : Quay) (pass : Bool) (s : State) =>
      let c := s.chip.after dt
      ((c.qstate q = 1 ∧ (c.quay q.idx).bist = none ∧ pass = false) : Prop)) 0 .B false (live [put (pgQCTL .B) Reg.QCTL.Q_STAT_QSTATE 1])) ∧
    ((fun (dt : Nat) (q : Quay) (pass : Bool) (s : State) =>
      let c := s.chip.after dt
      ((c.qstate q = 1 ∧ (c.quay q.idx).bist = none ∧ (pass = true ∧ c.rstate = 4)) : Prop)) 0 .B true (live [put (pgQCTL .B) Reg.QCTL.Q_STAT_QSTATE 1, put (pgQCTL .A) Reg.QCTL.RED_STAT_RSTATE 4])) :=
  ⟨by decide +kernel, by decide +kernel, by decide +kernel⟩

/-- SnapshotsMessagesAndDebug: snapshotMarker can complete as stated, in each case. -/
theorem test_meets_SnapshotsMessagesAndDebug_snapshotMarker :
    ((fun (dt : Nat) (chk : MarkerCheck) (s : State) =>
      let c := s.chip.after dt
      let q := c.sender.getD .A
      let o := q.other
      let g := c.gwy q.idx
      let m := (g.marks.find? fun m => !m.2.2).getD (0, 0, true)
      let b := m.2.1
      let ok := chk == .good && decide (g.bytes b ≤ 131072)
      let limit := (match c.qstate q, c.redSt.rel with | 6, some (_, _, _, bt) => bt - 250 | _, _ => b + c.fgPeriod 0)
      let e := g.blocks.headD (0, [], 0)
      ((c.sender.isSome ∧ ((g.marks.find? fun m => !m.2.2).isSome) ∧ (ok = true ∧ c.t < limit) ∧ (ok = true ∧ c.t < limit ∧ g.blocks.length = 1 ∧ e.2.2 < b ∧ e.1 % 8 = 0 ∧ e.1 + 4 * e.2.1.length ≤ 0x40000) ∧ (ok = true ∧ c.t < limit ∧ c.qstate o = 2 ∧ (c.gwy o.idx).copied)) : Prop)) 600 .good (live [put (pgQCTL .A) Reg.QCTL.Q_STAT_QSTATE 4, put (pgQCTL .B) Reg.QCTL.Q_STAT_QSTATE 2, modGwy 0 fun g => { g with marks := [(1, 500, false)], blocks := [(16400, [1, 2, 3], 100)] }, modGwy 1 fun g => { g with copied := true }])) ∧
    ((fun (dt : Nat) (chk : MarkerCheck) (s : State) =>
      let c := s.chip.after dt
      let q := c.sender.getD .A
      let g := c.gwy q.idx
      let m := (g.marks.find? fun m => !m.2.2).getD (0, 0, true)
      let b := m.2.1
      let ok := chk == .good && decide (g.bytes b ≤ 131072)
      ((c.sender.isSome ∧ ((g.marks.find? fun m => !m.2.2).isSome) ∧ ok = false) : Prop)) 600 .uncorr (live [put (pgQCTL .A) Reg.QCTL.Q_STAT_QSTATE 4, put (pgQCTL .B) Reg.QCTL.Q_STAT_QSTATE 2, modGwy 0 (fun g => { g with marks := [(1, 500, false)], blocks := [(16400, [1, 2, 3], 100)] }), modGwy 1 fun g => { g with copied := true }])) :=
  ⟨by decide +kernel, by decide +kernel⟩

/-- SnapshotsMessagesAndDebug: snapshotDeadline can complete as stated, in each case. -/
theorem test_meets_SnapshotsMessagesAndDebug_snapshotDeadline :
    ((fun (dt : Nat) (s : State) =>
      let c := s.chip.after dt
      let q := c.sender.getD .A
      let o := q.other
      let m := (c.gwy q.idx).marks.headD (0, 0, true)
      let n := (c.gwy o.idx).missed + 1
      ((c.sender.isSome ∧ (c.gwy q.idx).marks ≠ [] ∧ m.2.2 = false ∧ (c.qstate o = 3 ∧ 2 ≤ n)) : Prop)) 600 (live [put (pgQCTL .A) Reg.QCTL.Q_STAT_QSTATE 4, put (pgQCTL .B) Reg.QCTL.Q_STAT_QSTATE 3, modGwy 0 fun g => { g with marks := [(1, 500, false)] }, modGwy 1 fun g => { g with missed := 1 }])) ∧
    ((fun (dt : Nat) (s : State) =>
      let c := s.chip.after dt
      let q := c.sender.getD .A
      let o := q.other
      let m := (c.gwy q.idx).marks.headD (0, 0, true)
      let n := (c.gwy o.idx).missed + 1
      ((c.sender.isSome ∧ (c.gwy q.idx).marks ≠ [] ∧ m.2.2 = false ∧ (c.qstate o ≠ 3 ∨ n < 2)) : Prop)) 600 (live [put (pgQCTL .A) Reg.QCTL.Q_STAT_QSTATE 4, put (pgQCTL .B) Reg.QCTL.Q_STAT_QSTATE 3, modGwy 0 fun g => { g with marks := [(1, 500, false)] }])) :=
  ⟨by decide +kernel, by decide +kernel⟩

/-- SnapshotsMessagesAndDebug: bulkCopyDone can complete as stated. -/
theorem test_meets_SnapshotsMessagesAndDebug_bulkCopyDone :
    (fun (dt : Nat) (s : State) =>
      let c := s.chip.after dt
      let q := c.sender.getD .A
      let o := q.other
      ((c.sender.isSome ∧ c.qstate o = 2 ∧ (c.gwy o.idx).copied = false ∧ c.Inv) : Prop)) 0 (live [put (pgQCTL .A) Reg.QCTL.Q_STAT_QSTATE 4, put (pgQCTL .B) Reg.QCTL.Q_STAT_QSTATE 2, setWord (lawAddr .A 0) 7#32]) := by
  decide +kernel

/-- SnapshotsMessagesAndDebug: msgSend can complete as stated, in each case. -/
theorem test_meets_SnapshotsMessagesAndDebug_msgSend :
    ((fun (dt : Nat) (src : Src) (q : Quay) (s : State) =>
      let c := s.chip.after dt
      let full := decide (c.fld (pgGWY q) Reg.GWY.MSG_STAT_TX_FREE = 0)
      ((c.serves src (pgGWY q) 0x0A0 true ∧ full = false) : Prop)) 0 (.core .A 0) .A (live [])) ∧
    ((fun (dt : Nat) (src : Src) (q : Quay) (s : State) =>
      let c := s.chip.after dt
      let full := decide (c.fld (pgGWY q) Reg.GWY.MSG_STAT_TX_FREE = 0)
      ((c.serves src (pgGWY q) 0x0A0 true ∧ full = true) : Prop)) 0 (.core .A 0) .A (live [put (pgGWY .A) Reg.GWY.MSG_STAT_TX_FREE 0])) :=
  ⟨by decide +kernel, by decide +kernel⟩

/-- SnapshotsMessagesAndDebug: msgArrive can complete as stated. -/
theorem test_meets_SnapshotsMessagesAndDebug_msgArrive :
    (fun (dt : Nat) (q : Quay) (s : State) =>
      let c := s.chip.after dt
      let f := (c.gwy q.other.idx).flight
      ((f ≠ [] ∧ 0 < (c.gwy q.other.idx).granted ∧ c.quayUp q ∧ c.quayUp q.other) : Prop)) 0 .B (live [put (pgQCTL .A) Reg.QCTL.Q_STAT_QSTATE 4, put (pgQCTL .B) Reg.QCTL.Q_STAT_QSTATE 2, modGwy 0 fun g => { g with granted := 1, flight := [[1, 2, 3, 4, 5, 6, 7, 8]] }]) := by
  decide +kernel

/-- SnapshotsMessagesAndDebug: msgPop can complete as stated. -/
theorem test_meets_SnapshotsMessagesAndDebug_msgPop :
    (fun (dt : Nat) (src : Src) (q : Quay) (s : State) =>
      let c := s.chip.after dt
      ((c.serves src (pgGWY q) 0x0A0 true) : Prop)) 0 (.core .A 0) .A (live []) := by
  decide +kernel

/-- SnapshotsMessagesAndDebug: debugHalt can complete as stated. -/
theorem test_meets_SnapshotsMessagesAndDebug_debugHalt :
    (fun (dt : Nat) (s : State) =>
      let c := s.chip.after dt
      let q := c.debugged.1
      let u := c.debugged.2
      ((c.flag pgDBG Reg.DBG.DBG_STAT_PORT_OPEN ∧ ((c.quay q.idx).halted.all fun e => e.1 != u)) : Prop)) 0 (live [putFlag pgDBG Reg.DBG.DBG_STAT_PORT_OPEN true, put pgDBG Reg.DBG.DBG_ATTACH 6]) := by
  decide +kernel

/-- SnapshotsMessagesAndDebug: debugResume can complete as stated, in each case. -/
theorem test_meets_SnapshotsMessagesAndDebug_debugResume :
    ((fun (dt : Nat) (single : Bool) (s : State) =>
      let c := s.chip.after dt
      let q := c.debugged.1
      let u := c.debugged.2
      ((c.flag pgDBG Reg.DBG.DBG_STAT_PORT_OPEN ∧ ((c.quay q.idx).halted.any fun e => e.1 == u) ∧ single = false ∧ c.split = false) : Prop)) 0 false (live [putFlag pgDBG Reg.DBG.DBG_STAT_PORT_OPEN true, modQuay 0 fun x => { x with halted := [(0, 0)] }])) ∧
    ((fun (dt : Nat) (single : Bool) (s : State) =>
      let c := s.chip.after dt
      let q := c.debugged.1
      let u := c.debugged.2
      ((c.flag pgDBG Reg.DBG.DBG_STAT_PORT_OPEN ∧ ((c.quay q.idx).halted.any fun e => e.1 == u) ∧ single = true ∧ c.split = false) : Prop)) 0 true (live [putFlag pgDBG Reg.DBG.DBG_STAT_PORT_OPEN true, modQuay 0 fun x => { x with halted := [(0, 0)] }])) :=
  ⟨by decide +kernel, by decide +kernel⟩

/-- SnapshotsMessagesAndDebug: debugRegWrite can complete as stated, in each case. -/
theorem test_meets_SnapshotsMessagesAndDebug_debugRegWrite :
    ((fun (dt : Nat) (r : BitVec 8) (v : Word) (s : State) =>
      let c := s.chip.after dt
      let q := c.debugged.1
      let u := c.debugged.2
      let s0 := c.quay q.idx
      let s1 := if u = 0 then s0.replay0 else s0.replay1
      ((c.flag pgDBG Reg.DBG.DBG_STAT_PORT_OPEN ∧ (s0.halted.any fun e => e.1 == u) ∧ (c.split = true ∨ s1.length < 64) ∧ (c.split = false ∧ s1.length < 64)) : Prop)) 0 255 9#32 (live [putFlag pgDBG Reg.DBG.DBG_STAT_PORT_OPEN true, modQuay 0 fun x => { x with halted := [(0, 0)] }])) ∧
    ((fun (dt : Nat) (r : BitVec 8) (v : Word) (s : State) =>
      let c := s.chip.after dt
      let q := c.debugged.1
      let u := c.debugged.2
      let s0 := c.quay q.idx
      let s1 := if u = 0 then s0.replay0 else s0.replay1
      ((c.flag pgDBG Reg.DBG.DBG_STAT_PORT_OPEN ∧ (s0.halted.any fun e => e.1 == u) ∧ (c.split = false ∧ 64 ≤ s1.length)) : Prop)) 0 255 9#32 (live [putFlag pgDBG Reg.DBG.DBG_STAT_PORT_OPEN true, modQuay 0 fun x => { x with halted := [(0, 0)], replay0 := List.replicate 64 (0, 0) }])) :=
  ⟨by decide +kernel, by decide +kernel⟩

/-- FaultsDemandsAndTheKernel: faultAssert can complete as stated, in each case. -/
theorem test_meets_FaultsDemandsAndTheKernel_faultAssert :
    ((fun (dt : Nat) (id : BitVec 8) (s : State) =>
      let c := s.chip.after dt
      let n := id.toNat
      let cls := c.faultClass n
      ((n < 0xE6 ∧ (c.bitAt pgFLT8 Reg.FLT8.RAW n ∨ (c.fault n).pend) ∧ cls = 0) : Prop)) 0 0xD9 (live [raiseFault 0xD9])) ∧
    ((fun (dt : Nat) (id : BitVec 8) (s : State) =>
      let c := s.chip.after dt
      let n := id.toNat
      let cls := c.faultClass n
      ((n < 0xE6 ∧ (c.bitAt pgFLT8 Reg.FLT8.RAW n ∨ (c.fault n).pend) ∧ (c.fault n).pulse = true ∧ cls = 0) : Prop)) 0 0x00 (live [raiseFault 0x00, put pgSAF Reg.SAF.FUNC_STAT_STATE 0, modFault 0 fun x => { x with pulse := true, pend := true }])) ∧
    ((fun (dt : Nat) (id : BitVec 8) (s : State) =>
      let c := s.chip.after dt
      let n := id.toNat
      let cls := c.faultClass n
      ((n < 0xE6 ∧ (c.bitAt pgFLT8 Reg.FLT8.RAW n ∨ (c.fault n).pend) ∧ cls = 1) : Prop)) 0 0x5C (live [raiseFault 0x5C])) ∧
    ((fun (dt : Nat) (id : BitVec 8) (s : State) =>
      let c := s.chip.after dt
      let n := id.toNat
      let cls := c.faultClass n
      ((n < 0xE6 ∧ (c.bitAt pgFLT8 Reg.FLT8.RAW n ∨ (c.fault n).pend) ∧ 2 ≤ cls ∧ cls = 3) : Prop)) 0 0xD7 (live [raiseFault 0xD7])) ∧
    ((fun (dt : Nat) (id : BitVec 8) (s : State) =>
      let c := s.chip.after dt
      let n := id.toNat
      let cls := c.faultClass n
      ((n < 0xE6 ∧ (c.bitAt pgFLT8 Reg.FLT8.RAW n ∨ (c.fault n).pend) ∧ 2 ≤ cls) : Prop)) 0 0x9F (live [raiseFault 0x9F])) :=
  ⟨by decide +kernel, by decide +kernel, by decide +kernel, by decide +kernel, by decide +kernel⟩

/-- FaultsDemandsAndTheKernel: fltClr can complete as stated, in each case. -/
theorem test_meets_FaultsDemandsAndTheKernel_fltClr :
    ((fun (dt : Nat) (src : Src) (id : BitVec 8) (s : State) =>
      let c := s.chip.after dt
      let n := id.toNat
      let hi := decide (n < 0xE6) && c.bitAt pgFLT8 Reg.FLT8.RAW n
      let never := decide (0xE6 ≤ n) || !(faultRow n).clear
      let low := hi || !never && !c.faultActive n
      ((c.serves src pgFLT8 0x08C true ∧ c.windowHeld pgFLT8 src ∧ (low || never) = false) : Prop)) 0 (.core .A 0) 0xD9 (live [putBit pgFLT8 Reg.FLT8.ACTIVE 0xD9 true, modPst pgFLT8 fun x => { x with holder := some (0, 0) }])) ∧
    ((fun (dt : Nat) (src : Src) (id : BitVec 8) (s : State) =>
      let c := s.chip.after dt
      let n := id.toNat
      let hi := decide (n < 0xE6) && c.bitAt pgFLT8 Reg.FLT8.RAW n
      let never := decide (0xE6 ≤ n) || !(faultRow n).clear
      let low := hi || !never && !c.faultActive n
      ((c.serves src pgFLT8 0x08C true ∧ c.windowHeld pgFLT8 src ∧ low = true ∧ (low || never) = true) : Prop)) 0 (.core .A 0) 0xD9 (live [putBit pgFLT8 Reg.FLT8.ACTIVE 0xD9 true, putBit pgFLT8 Reg.FLT8.RAW 0xD9 true, modPst pgFLT8 fun x => { x with holder := some (0, 0) }])) ∧
    ((fun (dt : Nat) (src : Src) (id : BitVec 8) (s : State) =>
      let c := s.chip.after dt
      let n := id.toNat
      let hi := decide (n < 0xE6) && c.bitAt pgFLT8 Reg.FLT8.RAW n
      let never := decide (0xE6 ≤ n) || !(faultRow n).clear
      let low := hi || !never && !c.faultActive n
      ((c.serves src pgFLT8 0x08C true ∧ c.windowHeld pgFLT8 src ∧ (hi = false ∧ never = true) ∧ (low || never) = true) : Prop)) 0 (.core .A 0) 0xD7 (live [putBit pgFLT8 Reg.FLT8.ACTIVE 0xD7 true, modPst pgFLT8 fun x => { x with holder := some (0, 0) }])) ∧
    ((fun (dt : Nat) (src : Src) (id : BitVec 8) (s : State) =>
      let c := s.chip.after dt
      let n := id.toNat
      let hi := decide (n < 0xE6) && c.bitAt pgFLT8 Reg.FLT8.RAW n
      let never := decide (0xE6 ≤ n) || !(faultRow n).clear
      let low := hi || !never && !c.faultActive n
      ((c.serves src pgFLT8 0x08C true ∧ c.windowHeld pgFLT8 src ∧ low = true ∧ (low || never) = true) : Prop)) 0 (.core .A 0) 0xE5 (live [modPst pgFLT8 fun x => { x with holder := some (0, 0) }])) ∧
    ((fun (dt : Nat) (src : Src) (id : BitVec 8) (s : State) =>
      let c := s.chip.after dt
      let n := id.toNat
      let hi := decide (n < 0xE6) && c.bitAt pgFLT8 Reg.FLT8.RAW n
      let never := decide (0xE6 ≤ n) || !(faultRow n).clear
      let low := hi || !never && !c.faultActive n
      ((c.serves src pgFLT8 0x08C true ∧ c.windowHeld pgFLT8 src ∧ (hi = false ∧ never = true) ∧ (low || never) = true) : Prop)) 0 (.core .A 0) 0xE6 (live [modPst pgFLT8 fun x => { x with holder := some (0, 0) }])) :=
  ⟨by decide +kernel, by decide +kernel, by decide +kernel, by decide +kernel, by decide +kernel⟩

/-- FaultsDemandsAndTheKernel: stoReq can complete as stated. -/
theorem test_meets_FaultsDemandsAndTheKernel_stoReq :
    (fun (dt : Nat) (src : Src) (mask : BitVec 7) (s : State) =>
      let c := s.chip.after dt
      ((c.serves src pgSAF 0x054 true) : Prop)) 0 (.core .A 0) 0x7F (live []) := by
  decide +kernel

/-- FaultsDemandsAndTheKernel: ss1Req can complete as stated. -/
theorem test_meets_FaultsDemandsAndTheKernel_ss1Req :
    (fun (dt : Nat) (src : Src) (mask : BitVec 7) (s : State) =>
      let c := s.chip.after dt
      ((c.serves src pgSAF 0x054 true) : Prop)) 0 (.core .A 2) 0x41 (live []) := by
  decide +kernel

/-- FaultsDemandsAndTheKernel: ss1Expire can complete as stated. -/
theorem test_meets_FaultsDemandsAndTheKernel_ss1Expire :
    (fun (dt : Nat) (f : Fin 7) (s : State) =>
      let c := s.chip.after dt
      ((((c.safSt.ss1.find? fun e => e.1 == f.val).isSome) ∧ c.fstate f ≠ 2) : Prop)) 0 6 (live [modSafS fun x => { x with ss1 := [(6, 0)] }, put pgSAF Reg.SAF.FUNC_STAT_STATE 1 6]) := by
  decide +kernel

/-- FaultsDemandsAndTheKernel: safReset can complete as stated, in each case. -/
theorem test_meets_FaultsDemandsAndTheKernel_safReset :
    ((fun (dt : Nat) (src : Src) (s : State) =>
      let c := s.chip.after dt
      let no := c.safSt.placed && decide (c.resetSrc ≤ 15)
      ((c.serves src pgSAF 0x054 true ∧ no = false) : Prop)) 0 (.core .A 0) (live [])) ∧
    ((fun (dt : Nat) (src : Src) (s : State) =>
      let c := s.chip.after dt
      let no := c.safSt.placed && decide (c.resetSrc ≤ 15)
      ((c.serves src pgSAF 0x054 true ∧ no = true) : Prop)) 0 (.core .A 0) (live [modSafS fun x => { x with placed := true }])) :=
  ⟨by decide +kernel, by decide +kernel⟩

/-- FaultsDemandsAndTheKernel: kernelCycle can complete as stated, in each case. -/
theorem test_meets_FaultsDemandsAndTheKernel_kernelCycle :
    ((fun (dt : Nat) (us : BitVec 16) (s : State) =>
      let c := s.chip.after dt
      ((c.domainOn 1 ∧ c.safSt.reset = none) : Prop)) 0 500 (live [])) ∧
    ((fun (dt : Nat) (us : BitVec 16) (s : State) =>
      let c := s.chip.after dt
      ((c.domainOn 1 ∧ c.safSt.reset.isSome) : Prop)) 0 500 (live [modSafS fun x => { x with reset := some 0 }])) :=
  ⟨by decide +kernel, by decide +kernel⟩

/-- FaultsDemandsAndTheKernel: sfWatchdog can complete as stated, in each case. -/
theorem test_meets_FaultsDemandsAndTheKernel_sfWatchdog :
    ((fun (dt : Nat) (s : State) =>
      let c := s.chip.after dt
      ((c.tideOn ∧ c.domainOn 1) : Prop)) 2500000 (live [putFlag pgSAF Reg.SAF.SAF_STAT_KERNEL_OK true])) ∧
    ((fun (dt : Nat) (s : State) =>
      let c := s.chip.after dt
      ((c.tideOn ∧ c.domainOn 1) : Prop)) 2500000 (live [])) :=
  ⟨by decide +kernel, by decide +kernel⟩

/-- FaultsDemandsAndTheKernel: channelBEnableLapse can complete as stated. -/
theorem test_meets_FaultsDemandsAndTheKernel_channelBEnableLapse :
    (fun (dt : Nat) (s : State) =>
      let c := s.chip.after dt
      ((c.safSt.kernelAt + 625000 < c.t) : Prop)) 625001 (live [modSafS fun x => { x with chB := 0 }]) := by
  decide +kernel

/-- TheShutterClosesAndReports: shtRunReport can complete as stated, in each case. -/
theorem test_meets_TheShutterClosesAndReports_shtRunReport :
    ((fun (dt : Nat) (i : Fin 28) (s : State) =>
      let c := s.chip.after dt
      ((c.safSt.closed.testBit i = false ∧ c.domainOn 1 ∧ c.safSt.openAt.getD i 0 + 4 * c.safSt.half.getD i 40000 ≤ c.t ∧ i.val < 24) : Prop)) 160000 23 (live [modSafS fun x => { x with chA := 0, chB := 0 }])) ∧
    ((fun (dt : Nat) (i : Fin 28) (s : State) =>
      let c := s.chip.after dt
      ((c.safSt.closed.testBit i = false ∧ c.domainOn 1 ∧ c.safSt.openAt.getD i 0 + 4 * c.safSt.half.getD i 40000 ≤ c.t ∧ 24 ≤ i.val) : Prop)) 168000 24 (live [modSafS fun x => { x with chA := 0, chB := 0, half := x.half.set 24 42000 }])) ∧
    ((fun (dt : Nat) (i : Fin 28) (s : State) =>
      let c := s.chip.after dt
      ((c.safSt.closed.testBit i = false ∧ c.domainOn 1 ∧ c.safSt.openAt.getD i 0 + 4 * c.safSt.half.getD i 40000 ≤ c.t ∧ 24 ≤ i.val) : Prop)) 152000 27 (live [modSafS fun x => { x with chA := 0, chB := 0, half := x.half.set 27 38000 }])) :=
  ⟨by decide +kernel, by decide +kernel, by decide +kernel⟩

/-- TheShutterClosesAndReports: shtWireFault can complete as stated, in each case. -/
theorem test_meets_TheShutterClosesAndReports_shtWireFault :
    ((fun (dt : Nat) (i : Fin 28) (a b : Bool) (s : State) =>
      let c := s.chip.after dt
      let s0 := c.safSt
      let last := fun (w : Nat) => s0.edge.getD w 0
      let silent := fun (w : Nat) (v : Bool) => s0.runs w && !s0.moved w v && decide (Nat.max (s0.openAt.getD i 0) (s0.edgeSeen.getD w 0) + 50000 ≤ c.t)
      let stirs := fun (w : Nat) (v : Bool) => !s0.runs w && s0.moved w v && (s0.sampAt.getD i none).any fun p => decide (last w < p)
      let other := fun (w : Nat) (v : Bool) => !s0.runs w && decide (last w + 85000 ≤ c.t) && v != c.staticHigh i
      let both := s0.runs i && s0.runs (28 + i.val) && a == b && (s0.same.getD i none).any fun t => decide (t + 2500 < c.t)
      let bad := silent i a || stirs i a || other i a || silent (28 + i.val) b || stirs (28 + i.val) b || other (28 + i.val) b || both
      ((c.domainOn 1 ∧ c.wireFault i = false ∧ bad = true) : Prop)) 50000 27 true false (live [modSafS fun x => { x with chA := 0, chB := 0 }])) ∧
    ((fun (dt : Nat) (i : Fin 28) (a b : Bool) (s : State) =>
      let c := s.chip.after dt
      let s0 := c.safSt
      let last := fun (w : Nat) => s0.edge.getD w 0
      let silent := fun (w : Nat) (v : Bool) => s0.runs w && !s0.moved w v && decide (Nat.max (s0.openAt.getD i 0) (s0.edgeSeen.getD w 0) + 50000 ≤ c.t)
      let stirs := fun (w : Nat) (v : Bool) => !s0.runs w && s0.moved w v && (s0.sampAt.getD i none).any fun p => decide (last w < p)
      let other := fun (w : Nat) (v : Bool) => !s0.runs w && decide (last w + 85000 ≤ c.t) && v != c.staticHigh i
      let both := s0.runs i && s0.runs (28 + i.val) && a == b && (s0.same.getD i none).any fun t => decide (t + 2500 < c.t)
      let bad := silent i a || stirs i a || other i a || silent (28 + i.val) b || stirs (28 + i.val) b || other (28 + i.val) b || both
      ((c.domainOn 1 ∧ c.wireFault i = false ∧ bad = false) : Prop)) 49999 23 true false (live [modSafS fun x => { x with chA := 0, chB := 0 }])) ∧
    ((fun (dt : Nat) (i : Fin 28) (a b : Bool) (s : State) =>
      let c := s.chip.after dt
      let s0 := c.safSt
      let last := fun (w : Nat) => s0.edge.getD w 0
      let silent := fun (w : Nat) (v : Bool) => s0.runs w && !s0.moved w v && decide (Nat.max (s0.openAt.getD i 0) (s0.edgeSeen.getD w 0) + 50000 ≤ c.t)
      let stirs := fun (w : Nat) (v : Bool) => !s0.runs w && s0.moved w v && (s0.sampAt.getD i none).any fun p => decide (last w < p)
      let other := fun (w : Nat) (v : Bool) => !s0.runs w && decide (last w + 85000 ≤ c.t) && v != c.staticHigh i
      let both := s0.runs i && s0.runs (28 + i.val) && a == b && (s0.same.getD i none).any fun t => decide (t + 2500 < c.t)
      let bad := silent i a || stirs i a || other i a || silent (28 + i.val) b || stirs (28 + i.val) b || other (28 + i.val) b || both
      ((c.domainOn 1 ∧ c.wireFault i = false ∧ bad = true) : Prop)) 2501 23 true true (live [modSafS fun x => { x with chA := 0, chB := 0, same := x.same.set 23 (some 0) }])) ∧
    ((fun (dt : Nat) (i : Fin 28) (a b : Bool) (s : State) =>
      let c := s.chip.after dt
      let s0 := c.safSt
      let last := fun (w : Nat) => s0.edge.getD w 0
      let silent := fun (w : Nat) (v : Bool) => s0.runs w && !s0.moved w v && decide (Nat.max (s0.openAt.getD i 0) (s0.edgeSeen.getD w 0) + 50000 ≤ c.t)
      let stirs := fun (w : Nat) (v : Bool) => !s0.runs w && s0.moved w v && (s0.sampAt.getD i none).any fun p => decide (last w < p)
      let other := fun (w : Nat) (v : Bool) => !s0.runs w && decide (last w + 85000 ≤ c.t) && v != c.staticHigh i
      let both := s0.runs i && s0.runs (28 + i.val) && a == b && (s0.same.getD i none).any fun t => decide (t + 2500 < c.t)
      let bad := silent i a || stirs i a || other i a || silent (28 + i.val) b || stirs (28 + i.val) b || other (28 + i.val) b || both
      ((c.domainOn 1 ∧ c.wireFault i = false ∧ bad = true) : Prop)) 85000 0 true false (live [])) ∧
    ((fun (dt : Nat) (i : Fin 28) (a b : Bool) (s : State) =>
      let c := s.chip.after dt
      let s0 := c.safSt
      let last := fun (w : Nat) => s0.edge.getD w 0
      let silent := fun (w : Nat) (v : Bool) => s0.runs w && !s0.moved w v && decide (Nat.max (s0.openAt.getD i 0) (s0.edgeSeen.getD w 0) + 50000 ≤ c.t)
      let stirs := fun (w : Nat) (v : Bool) => !s0.runs w && s0.moved w v && (s0.sampAt.getD i none).any fun p => decide (last w < p)
      let other := fun (w : Nat) (v : Bool) => !s0.runs w && decide (last w + 85000 ≤ c.t) && v != c.staticHigh i
      let both := s0.runs i && s0.runs (28 + i.val) && a == b && (s0.same.getD i none).any fun t => decide (t + 2500 < c.t)
      let bad := silent i a || stirs i a || other i a || silent (28 + i.val) b || stirs (28 + i.val) b || other (28 + i.val) b || both
      ((c.domainOn 1 ∧ c.wireFault i = false ∧ bad = true) : Prop)) 100 26 false true (live [modSafS fun x => { x with sampAt := x.sampAt.set 26 (some 50) }])) :=
  ⟨by decide +kernel, by decide +kernel, by decide +kernel, by decide +kernel, by decide +kernel⟩

/-- SafeInputsAndOutputs: sinDiscrepant can complete as stated. -/
theorem test_meets_SafeInputsAndOutputs_sinDiscrepant :
    (fun (dt : Nat) (i : Fin 16) (s : State) =>
      let c := s.chip.after dt
      (((c.sin i).apart.isSome ∧ c.sinBit i 3 = false ∧ c.sinUse i ≠ 0) : Prop)) 100000000 15 (live [modSin 15 fun s => { s with apart := some 0 }, put pgSEAL Reg.SEAL.SCB 0x01000000 10]) := by
  decide +kernel

/-- SafeInputsAndOutputs: sinChanLost can complete as stated. -/
theorem test_meets_SafeInputsAndOutputs_sinChanLost :
    (fun (dt : Nat) (i : Fin 16) (chB : Bool) (s : State) =>
      let c := s.chip.after dt
      ((c.lossOf i chB ≠ 0 ∧ ((if chB then c.lostB i else c.lostA i) = false)) : Prop)) 0 15 false (live [put pgSEAL Reg.SEAL.SCB 0x81000000 10, modSin 15 fun s => { s with missA := 2 }]) := by
  decide +kernel

/-- SafeInputsAndOutputs: sinFaultClr can complete as stated. -/
theorem test_meets_SafeInputsAndOutputs_sinFaultClr :
    (fun (dt : Nat) (src : Src) (mask : BitVec 16) (s : State) =>
      let c := s.chip.after dt
      ((c.serves src pgSIO 0x054 true) : Prop)) 0 (.core .A 0) 0xFFFF (live [put pgSIO Reg.SIO.SIN_LOST_A 0x8001]) := by
  decide +kernel

/-- SafeInputsAndOutputs: degrExpire can complete as stated. -/
theorem test_meets_SafeInputsAndOutputs_degrExpire :
    (fun (dt : Nat) (i : Fin 16) (s : State) =>
      let c := s.chip.after dt
      (((c.sin i).since.isSome ∧ (c.sin i).left.isSome ∧ c.bitAt pgFLT8 Reg.FLT8.RAW (fSIN_EXPIRED i) = false) : Prop)) 5 15 (live [modSin 15 fun s => { s with since := some 0, left := some 5 }]) := by
  decide +kernel

/-- SafeInputsAndOutputs: soutCmd can complete as stated. -/
theorem test_meets_SafeInputsAndOutputs_soutCmd :
    (fun (dt : Nat) (src : Src) (on : BitVec 8) (s : State) =>
      let c := s.chip.after dt
      ((c.serves src pgSIO 0x058 true) : Prop)) 0 (.core .A 0) 0x81 (live []) := by
  decide +kernel

/-- SafeInputsAndOutputs: soutFaultClr can complete as stated, in each case. -/
theorem test_meets_SafeInputsAndOutputs_soutFaultClr :
    ((fun (dt : Nat) (src : Src) (mask high : BitVec 8) (s : State) =>
      let c := s.chip.after dt
      ((c.serves src pgSIO 0x060 true) : Prop)) 0 (.core .A 0) 0x80 0x00 (live [put pgSIO Reg.SIO.SOUT_STAT_FAULT 0x80])) ∧
    ((fun (dt : Nat) (src : Src) (mask high : BitVec 8) (s : State) =>
      let c := s.chip.after dt
      ((c.serves src pgSIO 0x060 true ∧ ((List.range 8).any fun j => mask.getLsbD j && (c.fld pgSIO Reg.SIO.SOUT_STAT_FAULT).testBit j && (high.getLsbD j || (c.fld pgSIO Reg.SIO.SOUT_CMD).testBit j))) : Prop)) 0 (.core .A 0) 0x80 0x80 (live [put pgSIO Reg.SIO.SOUT_STAT_FAULT 0x80])) :=
  ⟨by decide +kernel, by decide +kernel⟩

/-- TheBrakeAndTheSeal: sbcRelease can complete as stated, in each case. -/
theorem test_meets_TheBrakeAndTheSeal_sbcRelease :
    ((fun (dt : Nat) (src : Src) (s : State) =>
      let c := s.chip.after dt
      let st := c.fld pgSBC Reg.SBC.SBC_STAT_STATE
      let no := (c.sbcFuncs.any fun f => c.fstate f == 2) || st == 2 || st == 3 || c.faultActive fSBC_FAULT
      ((c.serves src pgSBC 0x040 true ∧ c.windowHeld pgSBC src ∧ no = true) : Prop)) 0 (.core .A 0) (live [modPst pgSBC fun x => { x with holder := some (0, 0) }])) ∧
    ((fun (dt : Nat) (src : Src) (s : State) =>
      let c := s.chip.after dt
      let st := c.fld pgSBC Reg.SBC.SBC_STAT_STATE
      let no := (c.sbcFuncs.any fun f => c.fstate f == 2) || st == 2 || st == 3 || c.faultActive fSBC_FAULT
      ((c.serves src pgSBC 0x040 true ∧ c.windowHeld pgSBC src ∧ (no = false ∧ st = 0)) : Prop)) 0 (.core .A 0) (live [modPst pgSBC (fun x => { x with holder := some (0, 0) }), each (List.range 7) fun f => put pgSAF Reg.SAF.FUNC_STAT_STATE 0 f])) :=
  ⟨by decide +kernel, by decide +kernel⟩

/-- TheBrakeAndTheSeal: sbcEngage can complete as stated. -/
theorem test_meets_TheBrakeAndTheSeal_sbcEngage :
    (fun (dt : Nat) (src : Src) (s : State) =>
      let c := s.chip.after dt
      ((c.serves src pgSBC 0x040 true ∧ c.fld pgSBC Reg.SBC.SBC_STAT_STATE = 2) : Prop)) 0 (.core .A 0) (live [put pgSBC Reg.SBC.SBC_STAT_STATE 2]) := by
  decide +kernel

/-- TheBrakeAndTheSeal: sbcDelayExpire can complete as stated. -/
theorem test_meets_TheBrakeAndTheSeal_sbcDelayExpire :
    (fun (dt : Nat) (s : State) =>
      let c := s.chip.after dt
      ((c.brakeSt.delay.isSome) : Prop)) 5 (live [modBrakeS fun x => { x with delay := some 5 }]) := by
  decide +kernel

/-- TheBrakeAndTheSeal: sbcTestPulse can complete as stated, in each case. -/
theorem test_meets_TheBrakeAndTheSeal_sbcTestPulse :
    ((fun (dt : Nat) (low pulse : Bool) (rb : BitVec 2) (s : State) =>
      let c := s.chip.after dt
      let on := c.fld pgSBC Reg.SBC.SBC_STAT_STATE == 1
      let h := on != (pulse && !low)
      let l := on != (pulse && low)
      let right := rb.getLsbD 0 == h && rb.getLsbD 1 == l
      ((right = true) : Prop)) 0 true true 1 (live [put pgSBC Reg.SBC.SBC_STAT_STATE 1])) ∧
    ((fun (dt : Nat) (low pulse : Bool) (rb : BitVec 2) (s : State) =>
      let c := s.chip.after dt
      let on := c.fld pgSBC Reg.SBC.SBC_STAT_STATE == 1
      let h := on != (pulse && !low)
      let l := on != (pulse && low)
      let right := rb.getLsbD 0 == h && rb.getLsbD 1 == l
      ((right = true) : Prop)) 0 false true 2 (live [put pgSBC Reg.SBC.SBC_STAT_STATE 1])) ∧
    ((fun (dt : Nat) (low pulse : Bool) (rb : BitVec 2) (s : State) =>
      let c := s.chip.after dt
      let on := c.fld pgSBC Reg.SBC.SBC_STAT_STATE == 1
      let h := on != (pulse && !low)
      let l := on != (pulse && low)
      let right := rb.getLsbD 0 == h && rb.getLsbD 1 == l
      ((right = false) : Prop)) 0 false true 0 (live [put pgSBC Reg.SBC.SBC_STAT_STATE 1])) :=
  ⟨by decide +kernel, by decide +kernel, by decide +kernel⟩

/-- TheBrakeAndTheSeal: btStart can complete as stated, in each case. -/
theorem test_meets_TheBrakeAndTheSeal_btStart :
    ((fun (dt : Nat) (src : Src) (s : State) =>
      let c := s.chip.after dt
      let no := c.fld pgSBC Reg.SBC.SBC_STAT_STATE != 1 || c.sbcFuncs.any (fun f => c.fstate f != 0 || decide (0 < c.demandOf f))
      ((c.serves src pgSBC 0x040 true ∧ c.windowHeld pgSBC src ∧ no = true) : Prop)) 0 (.core .A 0) (live [modPst pgSBC fun x => { x with holder := some (0, 0) }, put pgSBC Reg.SBC.SBC_STAT_STATE 1])) ∧
    ((fun (dt : Nat) (src : Src) (s : State) =>
      let c := s.chip.after dt
      let no := c.fld pgSBC Reg.SBC.SBC_STAT_STATE != 1 || c.sbcFuncs.any (fun f => c.fstate f != 0 || decide (0 < c.demandOf f))
      ((c.serves src pgSBC 0x040 true ∧ c.windowHeld pgSBC src ∧ no = false) : Prop)) 0 (.core .A 0) (live [modPst pgSBC (fun x => { x with holder := some (0, 0) }), each (List.range 7) (fun f => put pgSAF Reg.SAF.FUNC_STAT_STATE 0 f), modSafS (fun x => { x with swSto := 0, swSs1 := 0 }), put pgSBC Reg.SBC.SBC_STAT_STATE 1])) :=
  ⟨by decide +kernel, by decide +kernel⟩

/-- TheBrakeAndTheSeal: btSettleEnd can complete as stated. -/
theorem test_meets_TheBrakeAndTheSeal_btSettleEnd :
    (fun (dt : Nat) (s : State) =>
      let c := s.chip.after dt
      ((c.brakeSt.settle.isSome) : Prop)) 5 (live [modBrakeS fun x => { x with settle := some 5 }]) := by
  decide +kernel

/-- TheBrakeAndTheSeal: btWindowEnd can complete as stated, in each case. -/
theorem test_meets_TheBrakeAndTheSeal_btWindowEnd :
    ((fun (dt : Nat) (s : State) =>
      let c := s.chip.after dt
      let move := Nat.max c.brakeSt.move (signed 32 (c.btCount + 2 ^ 32 - c.brakeSt.start)).natAbs
      ((c.brakeSt.window.isSome ∧ c.btTol < move) : Prop)) 5 (live [modBrakeS fun x => { x with window := some 5, start := 7 }])) ∧
    ((fun (dt : Nat) (s : State) =>
      let c := s.chip.after dt
      let move := Nat.max c.brakeSt.move (signed 32 (c.btCount + 2 ^ 32 - c.brakeSt.start)).natAbs
      ((c.brakeSt.window.isSome ∧ move ≤ c.btTol) : Prop)) 5 (live [modBrakeS fun x => { x with window := some 5, start := 0 }])) :=
  ⟨by decide +kernel, by decide +kernel⟩

/-- TheBrakeAndTheSeal: btOverdue can complete as stated. -/
theorem test_meets_TheBrakeAndTheSeal_btOverdue :
    (fun (dt : Nat) (s : State) =>
      let c := s.chip.after dt
      ((c.btInterval ≠ 0 ∧ 9000000000000 * c.btInterval ≤ c.brakeSt.hours ∧ c.flag pgSBC Reg.SBC.SBC_STAT_BT_OVERDUE = false) : Prop)) 0 (live [put pgSEAL Reg.SEAL.SCB 1 6, modBrakeS fun x => { x with hours := 9000000000000 }]) := by
  decide +kernel

/-- TheBrakeAndTheSeal: sealProgram can complete as stated, in each case. -/
theorem test_meets_TheBrakeAndTheSeal_sealProgram :
    ((fun (dt : Nat) (src : Src) (s : State) =>
      let c := s.chip.after dt
      let a := c.fld pgSEAL Reg.SEAL.SW_READ_CODE_A
      let no := !c.allSto || a != c.fld pgSEAL Reg.SEAL.SW_READ_CODE_B || c.sealSt.prog.isSome || !scbValid (c.scbWords Reg.SEAL.SCB_STAGE)
      ((c.serves src pgSEAL 0x04C true ∧ c.windowHeld pgSEAL src ∧ no = true) : Prop)) 0 (.core .A 0) (live [modPst pgSEAL fun x => { x with holder := some (0, 0) }])) ∧
    ((fun (dt : Nat) (src : Src) (s : State) =>
      let c := s.chip.after dt
      let a := c.fld pgSEAL Reg.SEAL.SW_READ_CODE_A
      let no := !c.allSto || a != c.fld pgSEAL Reg.SEAL.SW_READ_CODE_B || c.sealSt.prog.isSome || !scbValid (c.scbWords Reg.SEAL.SCB_STAGE)
      ((c.serves src pgSEAL 0x04C true ∧ c.windowHeld pgSEAL src ∧ (no = false ∧ c.fuse.free ≠ 0)) : Prop)) 0 (.core .A 0) (live [modPst pgSEAL (fun x => { x with holder := some (0, 0) }), put pgSEAL Reg.SEAL.SCB_STAGE 0x15EA1 0, put pgSEAL Reg.SEAL.SCB_STAGE 1 4, put pgSEAL Reg.SEAL.SCB_STAGE 1 5, put pgSEAL Reg.SEAL.SCB_STAGE 0x10000 6, put pgSEAL Reg.SEAL.SCB_STAGE 1 11, each (List.range 64) fun i => put pgSEAL Reg.SEAL.SCB_STAGE 0x1F1F1F1F (64 + i)])) ∧
    ((fun (dt : Nat) (src : Src) (s : State) =>
      let c := s.chip.after dt
      let a := c.fld pgSEAL Reg.SEAL.SW_READ_CODE_A
      let no := !c.allSto || a != c.fld pgSEAL Reg.SEAL.SW_READ_CODE_B || c.sealSt.prog.isSome || !scbValid (c.scbWords Reg.SEAL.SCB_STAGE)
      ((c.serves src pgSEAL 0x04C true ∧ c.windowHeld pgSEAL src ∧ (no = false ∧ c.fuse.free = 0)) : Prop)) 0 (.core .A 0) (live [.dyn (fun c => .prim (.fuseS { c.fuse with slots := List.replicate 4 (some (0, [])) })), modPst pgSEAL (fun x => { x with holder := some (0, 0) }), put pgSEAL Reg.SEAL.SCB_STAGE 0x15EA1 0, put pgSEAL Reg.SEAL.SCB_STAGE 1 4, put pgSEAL Reg.SEAL.SCB_STAGE 1 5, put pgSEAL Reg.SEAL.SCB_STAGE 0x10000 6, put pgSEAL Reg.SEAL.SCB_STAGE 1 11, each (List.range 64) fun i => put pgSEAL Reg.SEAL.SCB_STAGE 0x1F1F1F1F (64 + i)])) :=
  ⟨by decide +kernel, by decide +kernel, by decide +kernel⟩

/-- TheBrakeAndTheSeal: sealProgDone can complete as stated, in each case. -/
theorem test_meets_TheBrakeAndTheSeal_sealProgDone :
    ((fun (dt : Nat) (a : BitVec 16) (s : State) =>
      let c := s.chip.after dt
      let code := (c.sealSt.prog.map Prod.fst).getD 0
      let i := (List.range 4).find? fun i => (c.fuse.slots.getD i none).isNone
      ((c.sealSt.prog.isSome ∧ (a.toNat = code ∧ i.isSome)) : Prop)) 0 0x1234 (live [modSealS fun x => { x with prog := some (0x1234, 0) }])) ∧
    ((fun (dt : Nat) (a : BitVec 16) (s : State) =>
      let c := s.chip.after dt
      let code := (c.sealSt.prog.map Prod.fst).getD 0
      let i := (List.range 4).find? fun i => (c.fuse.slots.getD i none).isNone
      ((c.sealSt.prog.isSome ∧ (a.toNat ≠ code ∨ i = none)) : Prop)) 0 0x9999 (live [modSealS fun x => { x with prog := some (0x1234, 0) }])) :=
  ⟨by decide +kernel, by decide +kernel⟩

/-- QueuesTakeAndGivePackets: pushOpen can complete as stated, in each case. -/
theorem test_meets_QueuesTakeAndGivePackets_pushOpen :
    ((fun (dt : Nat) (src : Src) (n : Fin 64) (corr : Nat) (s : State) =>
      let c := s.chip.after dt
      let q := c.que n
      let c1 := (reclaim n).run c
      let no := c.act (pgQUE n) Reg.QUE.QUE_CFG_PROD != 0 || (q.opened.any fun o => o.holder != some src)
      ((c.serves src (pgQUE n) 0x058 true ∧ (no = false ∧ q.opened = none ∧ c1.canOpen n)) : Prop)) 0 (.core .A 0) 20 1 (live [put (pgQUE 20) Reg.HDR.PAGE_CTRL_EN 1])) ∧
    ((fun (dt : Nat) (src : Src) (n : Fin 64) (corr : Nat) (s : State) =>
      let c := s.chip.after dt
      let q := c.que n
      let c1 := (reclaim n).run c
      let no := c.act (pgQUE n) Reg.QUE.QUE_CFG_PROD != 0 || (q.opened.any fun o => o.holder != some src)
      ((c.serves src (pgQUE n) 0x058 true ∧ (no = false ∧ q.opened = none ∧ c1.canOpen n)) : Prop)) 0 (.core .A 0) 20 0 (live [put (pgQUE 20) Reg.HDR.PAGE_CTRL_EN 1, put (pgQUE 21) Reg.HDR.PAGE_CTRL_EN 1, putActive (pgQUE 22) Reg.QUE.QUE_RSV 65535, undoable 21 (modQue 21 fun x => { x with opened := some ⟨[7], 0, false, some (.core .A 2), 0, false⟩ }) fun u => modStore 0 fun x => { x with take := some (u, .opens (.core .A 2)) }])) ∧
    ((fun (dt : Nat) (src : Src) (n : Fin 64) (corr : Nat) (s : State) =>
      let c := s.chip.after dt
      let q := c.que n
      let c1 := (reclaim n).run c
      let no := c.act (pgQUE n) Reg.QUE.QUE_CFG_PROD != 0 || (q.opened.any fun o => o.holder != some src)
      ((c.serves src (pgQUE n) 0x058 true ∧ (no = false ∧ q.opened = none ∧ c1.canOpen n = false)) : Prop)) 0 (.core .A 0) 20 1 (live [putActive (pgQUE 20) Reg.QUE.QUE_LIM 1, modQue 20 fun x => { x with done := [⟨[7], 3⟩] }])) ∧
    ((fun (dt : Nat) (src : Src) (n : Fin 64) (corr : Nat) (s : State) =>
      let c := s.chip.after dt
      let q := c.que n
      let no := c.act (pgQUE n) Reg.QUE.QUE_CFG_PROD != 0 || (q.opened.any fun o => o.holder != some src)
      ((c.serves src (pgQUE n) 0x058 true ∧ no = true) : Prop)) 0 (.core .A 0) 20 1 (live [modQue 20 fun x => { x with opened := some ⟨[7], 3, false, some (.core .A 2), 0, false⟩ }])) ∧
    ((fun (dt : Nat) (src : Src) (n : Fin 64) (corr : Nat) (s : State) =>
      let c := s.chip.after dt
      let q := c.que n
      let no := c.act (pgQUE n) Reg.QUE.QUE_CFG_PROD != 0 || (q.opened.any fun o => o.holder != some src)
      ((c.serves src (pgQUE n) 0x058 true ∧ (no = false ∧ q.opened.isSome)) : Prop)) 0 (.core .A 0) 20 1 (live [modQue 20 fun x => { x with opened := some ⟨[7], 3, false, some (.core .A 0), 0, false⟩ }])) ∧
    ((fun (dt : Nat) (src : Src) (n : Fin 64) (corr : Nat) (s : State) =>
      let c := s.chip.after dt
      ((src ≠ .debug ∧ c.portOpen src ∧ c.respond src ((pgQUE n).base + 0x058) 32 true = .ok ∧ (c.pst (pgQUE n)).srstDue = none ∧ c.heldBy n src) : Prop)) 5 (.core .A 0) 20 0 (live [putActive (pgQUE 20) Reg.QUE.QUE_LIM 1, modQue 20 fun x => { x with opened := some ⟨[7], 15, false, some (.core .A 0), 0, false⟩, held := some (5, 1) }])) :=
  ⟨by decide +kernel, by decide +kernel, by decide +kernel, by decide +kernel, by decide +kernel, by decide +kernel⟩

/-- QueuesTakeAndGivePackets: pushData can complete as stated, in each case. -/
theorem test_meets_QueuesTakeAndGivePackets_pushData :
    ((fun (dt : Nat) (src : Src) (n : Fin 64) (v : Word) (corr : Nat) (s : State) =>
      let c := s.chip.after dt
      let q := c.que n
      let o := q.opened.getD ⟨[], 0, false, none, 0, false⟩
      let no := c.act (pgQUE n) Reg.QUE.QUE_CFG_PROD != 0 || (q.opened.any fun o => o.holder != some src)
      let live := no = false ∧ q.opened.isSome ∧ o.discard = false ∧ o.len < 65535
      let stuck := o.needsCell && !((reclaim n).run c).canTake n
      ((c.serves src (pgQUE n) 0x05C true ∧ (live ∧ stuck = false)) : Prop)) 0 (.core .A 0) 20 0xABCD1234 0 (live [modQue 20 fun x => { x with opened := some ⟨[7], 3, false, some (.core .A 0), 0, false⟩ }])) ∧
    ((fun (dt : Nat) (src : Src) (n : Fin 64) (v : Word) (corr : Nat) (s : State) =>
      let c := s.chip.after dt
      let q := c.que n
      let o := q.opened.getD ⟨[], 0, false, none, 0, false⟩
      let no := c.act (pgQUE n) Reg.QUE.QUE_CFG_PROD != 0 || (q.opened.any fun o => o.holder != some src)
      let live := no = false ∧ q.opened.isSome ∧ o.discard = false ∧ o.len < 65535
      let stuck := o.needsCell && !((reclaim n).run c).canTake n
      ((c.serves src (pgQUE n) 0x05C true ∧ (live ∧ stuck = true)) : Prop)) 0 (.core .A 0) 20 0xABCD1234 0 (live [putActive (pgQUE 20) Reg.QUE.QUE_LIM 1, modQue 20 fun x => { x with opened := some ⟨[7], 15, false, some (.core .A 0), 0, false⟩ }])) ∧
    ((fun (dt : Nat) (src : Src) (n : Fin 64) (v : Word) (corr : Nat) (s : State) =>
      let c := s.chip.after dt
      let q := c.que n
      let o := q.opened.getD ⟨[], 0, false, none, 0, false⟩
      let no := c.act (pgQUE n) Reg.QUE.QUE_CFG_PROD != 0 || (q.opened.any fun o => o.holder != some src)
      ((c.serves src (pgQUE n) 0x05C true ∧ no = true) : Prop)) 0 (.core .A 0) 20 7 0 (live [putActive (pgQUE 20) Reg.QUE.QUE_CFG_PROD 1])) ∧
    ((fun (dt : Nat) (src : Src) (n : Fin 64) (v : Word) (corr : Nat) (s : State) =>
      let c := s.chip.after dt
      let q := c.que n
      let o := q.opened.getD ⟨[], 0, false, none, 0, false⟩
      let no := c.act (pgQUE n) Reg.QUE.QUE_CFG_PROD != 0 || (q.opened.any fun o => o.holder != some src)
      ((c.serves src (pgQUE n) 0x05C true ∧ (no = false ∧ q.opened = none)) : Prop)) 0 (.core .A 0) 20 7 0 (live [])) ∧
    ((fun (dt : Nat) (src : Src) (n : Fin 64) (v : Word) (corr : Nat) (s : State) =>
      let c := s.chip.after dt
      let q := c.que n
      let o := q.opened.getD ⟨[], 0, false, none, 0, false⟩
      let no := c.act (pgQUE n) Reg.QUE.QUE_CFG_PROD != 0 || (q.opened.any fun o => o.holder != some src)
      ((c.serves src (pgQUE n) 0x05C true ∧ (no = false ∧ q.opened.isSome ∧ (o.discard ∨ 65535 ≤ o.len))) : Prop)) 0 (.core .A 0) 20 7 0 (live [modQue 20 fun x => { x with opened := some ⟨[7], 3, false, some (.core .A 0), 0, true⟩ }])) ∧
    ((fun (dt : Nat) (src : Src) (n : Fin 64) (v : Word) (corr : Nat) (s : State) =>
      let c := s.chip.after dt
      ((src ≠ .debug ∧ c.portOpen src ∧ c.respond src ((pgQUE n).base + 0x05C) 32 true = .ok ∧ (c.pst (pgQUE n)).srstDue = none ∧ c.heldBy n src) : Prop)) 5 (.core .A 0) 20 9 0 (live [putActive (pgQUE 20) Reg.QUE.QUE_LIM 1, modQue 20 fun x => { x with opened := some ⟨[7], 15, false, some (.core .A 0), 0, false⟩, held := some (5, 1) }])) :=
  ⟨by decide +kernel, by decide +kernel, by decide +kernel, by decide +kernel, by decide +kernel, by decide +kernel⟩

/-- QueuesTakeAndGivePackets: pushHoldExpire can complete as stated, in each case. -/
theorem test_meets_QueuesTakeAndGivePackets_pushHoldExpire :
    ((fun (dt : Nat) (n : Fin 64) (s : State) =>
      let c := s.chip.after dt
      let q := c.que n
      let stuck := !c.canTake n
      ((q.held.isSome ∧ stuck = true ∧ (stuck = true ∧ q.waits = [])) : Prop)) 5 20 (live [putActive (pgQUE 20) Reg.QUE.QUE_LIM 1, modQue 20 fun x => { x with opened := some ⟨[7], 15, false, some (.core .A 0), 0, false⟩, held := some (5, 1) }])) ∧
    ((fun (dt : Nat) (n : Fin 64) (s : State) =>
      let c := s.chip.after dt
      let q := c.que n
      let stuck := !c.canTake n
      ((q.held.isSome ∧ stuck = true ∧ (stuck = true ∧ (q.opened.any fun o => o.holder.any fun h => q.waits == [(h, .close)]) ∧ c.act (pgQUE n) Reg.QUE.QUE_CFG_PROD = 0)) : Prop)) 5 20 (live [putActive (pgQUE 20) Reg.QUE.QUE_LIM 1, modQue 20 fun x => { x with opened := some ⟨[7], 15, false, some (.core .A 0), 0, false⟩, held := some (5, 1), waits := [(.core .A 0, .close)] }])) :=
  ⟨by decide +kernel, by decide +kernel⟩

/-- QueuesTakeAndGivePackets: pushClose can complete as stated, in each case. -/
theorem test_meets_QueuesTakeAndGivePackets_pushClose :
    ((fun (dt : Nat) (src : Src) (n : Fin 64) (corr : Nat) (s : State) =>
      let c := s.chip.after dt
      let q := c.que n
      let o := q.opened.getD ⟨[], 0, false, none, 0, false⟩
      let no := c.act (pgQUE n) Reg.QUE.QUE_CFG_PROD != 0 || (q.opened.any fun o => o.holder != some src)
      let idle := (List.range 64).all fun m => (c.que m).held.isNone
      ((c.serves src (pgQUE n) 0x058 true ∧ (no = false ∧ q.opened.isSome) ∧ (no = false ∧ q.opened.isSome ∧ q.flush = false) ∧ (no = false ∧ q.opened.isSome ∧ idle = true)) : Prop)) 0 (.core .A 0) 20 0 (live [modQue 20 fun x => { x with opened := some ⟨[7], 3, true, some (.core .A 0), 0, false⟩ }])) ∧
    ((fun (dt : Nat) (src : Src) (n : Fin 64) (corr : Nat) (s : State) =>
      let c := s.chip.after dt
      let q := c.que n
      let o := q.opened.getD ⟨[], 0, false, none, 0, false⟩
      let no := c.act (pgQUE n) Reg.QUE.QUE_CFG_PROD != 0 || (q.opened.any fun o => o.holder != some src)
      let idle := (List.range 64).all fun m => (c.que m).held.isNone
      ((c.serves src (pgQUE n) 0x058 true ∧ (no = false ∧ q.opened.isSome) ∧ (no = false ∧ q.opened.isSome ∧ q.flush) ∧ (no = false ∧ q.opened.isSome ∧ idle = true)) : Prop)) 0 (.core .A 0) 20 0 (live [modQue 20 fun x => { x with done := [⟨[9], 2⟩], opened := some ⟨[7], 3, false, some (.core .A 0), 0, false⟩, flush := true }])) ∧
    ((fun (dt : Nat) (src : Src) (n : Fin 64) (corr : Nat) (s : State) =>
      let c := s.chip.after dt
      let q := c.que n
      let o := q.opened.getD ⟨[], 0, false, none, 0, false⟩
      let no := c.act (pgQUE n) Reg.QUE.QUE_CFG_PROD != 0 || (q.opened.any fun o => o.holder != some src)
      ((c.serves src (pgQUE n) 0x058 true ∧ no = true) : Prop)) 0 (.core .A 0) 20 0 (live [putActive (pgQUE 20) Reg.QUE.QUE_CFG_PROD 1])) ∧
    ((fun (dt : Nat) (src : Src) (n : Fin 64) (corr : Nat) (s : State) =>
      let c := s.chip.after dt
      let q := c.que n
      let o := q.opened.getD ⟨[], 0, false, none, 0, false⟩
      let no := c.act (pgQUE n) Reg.QUE.QUE_CFG_PROD != 0 || (q.opened.any fun o => o.holder != some src)
      ((c.serves src (pgQUE n) 0x058 true ∧ (no = false ∧ q.opened = none)) : Prop)) 0 (.core .A 0) 20 0 (live [])) ∧
    ((fun (dt : Nat) (src : Src) (n : Fin 64) (corr : Nat) (s : State) =>
      let c := s.chip.after dt
      ((src ≠ .debug ∧ c.portOpen src ∧ c.respond src ((pgQUE n).base + 0x058) 32 true = .ok ∧ (c.pst (pgQUE n)).srstDue = none ∧ c.heldBy n src) : Prop)) 5 (.core .A 0) 20 0 (live [putActive (pgQUE 20) Reg.QUE.QUE_LIM 1, modQue 20 fun x => { x with opened := some ⟨[7], 15, false, some (.core .A 0), 0, false⟩, held := some (5, 1) }])) :=
  ⟨by decide +kernel, by decide +kernel, by decide +kernel, by decide +kernel, by decide +kernel⟩

/-- QueuesTakeAndGivePackets: popData can complete as stated, in each case. -/
theorem test_meets_QueuesTakeAndGivePackets_popData :
    ((fun (dt : Nat) (src : Src) (n : Fin 64) (ecc : Fin 3) (corr : Nat) (s : State) =>
      let c := s.chip.after dt
      let q := c.que n
      let hd := if q.resetting then none else q.done.head?
      let x := hd.getD ⟨[], 0⟩
      let i := q.read + 1
      ((c.serves src (pgQUE n) 0x064 false ∧ (c.consumes n src ∧ hd.isSome ∧ q.read < x.len ∧ ecc.val ≠ 2) ∧ (c.consumes n src ∧ hd.isSome ∧ i < x.len)) : Prop)) 0 (.core .A 0) 20 0 0 (live [modQue 20 fun x => { x with done := [⟨[7], 3⟩], read := 1 }, memWord (cellAddr 7 2) 0x12345678])) ∧
    ((fun (dt : Nat) (src : Src) (n : Fin 64) (ecc : Fin 3) (corr : Nat) (s : State) =>
      let c := s.chip.after dt
      let q := c.que n
      let hd := if q.resetting then none else q.done.head?
      let x := hd.getD ⟨[], 0⟩
      let i := q.read + 1
      ((c.serves src (pgQUE n) 0x064 false ∧ (c.consumes n src ∧ hd.isSome ∧ q.read < x.len ∧ ecc.val = 2) ∧ (c.consumes n src ∧ hd.isSome ∧ i = x.len)) : Prop)) 0 (.core .A 0) 20 2 0 (live [modQue 20 fun x => { x with done := [⟨[7], 3⟩, ⟨[8], 0⟩], read := 2 }])) ∧
    ((fun (dt : Nat) (src : Src) (n : Fin 64) (ecc : Fin 3) (corr : Nat) (s : State) =>
      let c := s.chip.after dt
      ((c.serves src (pgQUE n) 0x064 false ∧ c.consumes n src = false) : Prop)) 0 (.core .A 0) 20 0 0 (live [putActive (pgQUE 20) Reg.QUE.QUE_CFG_CONS 1])) ∧
    ((fun (dt : Nat) (src : Src) (n : Fin 64) (ecc : Fin 3) (corr : Nat) (s : State) =>
      let c := s.chip.after dt
      let q := c.que n
      let hd := if q.resetting then none else q.done.head?
      ((c.serves src (pgQUE n) 0x064 false ∧ (c.consumes n src ∧ hd = none ∧ (q.flushed.all fun e => e.1 != c.t))) : Prop)) 0 (.core .A 0) 20 0 0 (live [])) ∧
    ((fun (dt : Nat) (src : Src) (n : Fin 64) (ecc : Fin 3) (corr : Nat) (s : State) =>
      let c := s.chip.after dt
      let q := c.que n
      let hd := if q.resetting then none else q.done.head?
      let x := hd.getD ⟨[], 0⟩
      ((c.serves src (pgQUE n) 0x064 false ∧ (c.consumes n src ∧ hd.isSome ∧ x.len = 0)) : Prop)) 0 (.core .A 0) 20 0 0 (live [modQue 20 fun x => { x with done := [⟨[7], 0⟩] }])) :=
  ⟨by decide +kernel, by decide +kernel, by decide +kernel, by decide +kernel, by decide +kernel⟩

/-- QueuesTakeAndGivePackets: popSkip can complete as stated, in each case. -/
theorem test_meets_QueuesTakeAndGivePackets_popSkip :
    ((fun (dt : Nat) (src : Src) (n : Fin 64) (corr : Nat) (s : State) =>
      let c := s.chip.after dt
      let q := c.que n
      ((c.serves src (pgQUE n) 0x068 true ∧ (c.consumes n src ∧ q.resetting = false ∧ q.done ≠ [])) : Prop)) 0 (.core .A 0) 63 3 (live [modQue 63 fun x => { x with done := [⟨[7], 3⟩, ⟨[8], 0⟩], read := 2 }])) ∧
    ((fun (dt : Nat) (src : Src) (n : Fin 64) (corr : Nat) (s : State) =>
      let c := s.chip.after dt
      ((c.serves src (pgQUE n) 0x068 true ∧ c.consumes n src = false) : Prop)) 0 (.core .A 0) 63 3 (live [putActive (pgQUE 63) Reg.QUE.QUE_CFG_CONS 1])) ∧
    ((fun (dt : Nat) (src : Src) (n : Fin 64) (corr : Nat) (s : State) =>
      let c := s.chip.after dt
      let q := c.que n
      ((c.serves src (pgQUE n) 0x068 true ∧ (c.consumes n src ∧ (q.resetting ∨ q.done = []))) : Prop)) 0 (.core .A 0) 63 3 (live [])) :=
  ⟨by decide +kernel, by decide +kernel, by decide +kernel⟩

/-- QueuesDrainFlushResetAndSweep: evsFifoDrain can complete as stated, in each case. -/
theorem test_meets_QueuesDrainFlushResetAndSweep_evsFifoDrain :
    ((fun (dt : Nat) (src : BitVec 20) (corr : Nat) (s : State) =>
      let c := s.chip.after dt
      let st := c.stream src.toNat
      let r := st.fifo.head?.getD ⟨[], 0⟩
      let records := c.act (pgQUE r.queue) Reg.QUE.QUE_CFG_PROD = 1
      let c1 := if records then (recordAsks r.queue (fun k => match k with | .stream i _ => i == src.toNat | _ => false)).run c else c
      let opens := (c1.que r.queue).opened.isNone && c1.canOpen r.queue
      let at_ := sourceCell src.toNat
      let turn := c1.turnOf (blockKey at_.1) (c1.drainCells at_.1) at_.2
      ((st.fifo ≠ [] ∧ r.queue < 64 ∧ (records ∧ opens = true ∧ c.ripe r ∧ turn) ∧ (records ∧ opens = true ∧ c.ripe r ∧ turn ∧ (c.que r.queue).flush = false ∧ r.words.length ≤ 65535)) : Prop)) 9 0x30105 0 (live [modStream 0x30105 fun x => { x with fifo := [⟨[1, 2, 0, 0x00040000, 5, 6], 20⟩] }, putActive (pgQUE 20) Reg.QUE.QUE_CFG_PROD 1, put (pgQUE 20) Reg.HDR.PAGE_CTRL_EN 1])) ∧
    ((fun (dt : Nat) (src : BitVec 20) (corr : Nat) (s : State) =>
      let c := s.chip.after dt
      let st := c.stream src.toNat
      let r := st.fifo.head?.getD ⟨[], 0⟩
      let records := c.act (pgQUE r.queue) Reg.QUE.QUE_CFG_PROD = 1
      let c1 := if records then (recordAsks r.queue (fun k => match k with | .stream i _ => i == src.toNat | _ => false)).run c else c
      let at_ := sourceCell src.toNat
      let turn := c1.turnOf (blockKey at_.1) (c1.drainCells at_.1) at_.2
      ((st.fifo ≠ [] ∧ r.queue < 64 ∧ (¬ records ∧ c.ripe r ∧ turn)) : Prop)) 9 0x30105 0 (live [modStream 0x30105 fun x => { x with fifo := [⟨[1, 2, 0, 0x00040000, 5, 6], 20⟩], lost := 7 }])) ∧
    ((fun (dt : Nat) (src : BitVec 20) (corr : Nat) (s : State) =>
      let c := s.chip.after dt
      let st := c.stream src.toNat
      let r := st.fifo.head?.getD ⟨[], 0⟩
      let records := c.act (pgQUE r.queue) Reg.QUE.QUE_CFG_PROD = 1
      let c1 := if records then (recordAsks r.queue (fun k => match k with | .stream i _ => i == src.toNat | _ => false)).run c else c
      let opens := (c1.que r.queue).opened.isNone && c1.canOpen r.queue
      let at_ := sourceCell src.toNat
      let turn := c1.turnOf (blockKey at_.1) (c1.drainCells at_.1) at_.2
      ((st.fifo ≠ [] ∧ r.queue < 64 ∧ (c.ripe r = false ∨ (turn = false ∧ ¬ (records ∧ opens = false)))) : Prop)) 0 0x30105 0 (live [modStream 0x30105 fun x => { x with fifo := [⟨[1, 2, 0, 0x00040000, 5, 6], 20⟩] }])) ∧
    ((fun (dt : Nat) (src : BitVec 20) (corr : Nat) (s : State) =>
      let c := s.chip.after dt
      let st := c.stream src.toNat
      let r := st.fifo.head?.getD ⟨[], 0⟩
      let records := c.act (pgQUE r.queue) Reg.QUE.QUE_CFG_PROD = 1
      let c1 := if records then (recordAsks r.queue (fun k => match k with | .stream i _ => i == src.toNat | _ => false)).run c else c
      let opens := (c1.que r.queue).opened.isNone && c1.canOpen r.queue
      ((st.fifo ≠ [] ∧ r.queue < 64 ∧ (records ∧ opens = false)) : Prop)) 9 0x30105 0 (live [modStream 0x30105 (fun x => { x with fifo := [⟨[1, 2, 0, 0x00040000, 5, 6], 20⟩] }), putActive (pgQUE 20) Reg.QUE.QUE_CFG_PROD 1])) :=
  ⟨by decide +kernel, by decide +kernel, by decide +kernel, by decide +kernel⟩

/-- QueuesDrainFlushResetAndSweep: tapFifoDrain can complete as stated, in each case. -/
theorem test_meets_QueuesDrainFlushResetAndSweep_tapFifoDrain :
    ((fun (dt : Nat) (q : Quay) (tap : Fin 16) (corr : Nat) (s : State) =>
      let c := s.chip.after dt
      let st := c.tap (16 * q.idx + tap.val)
      let r := st.fifo.head?.getD ⟨[], 0⟩
      let records := c.act (pgQUE r.queue) Reg.QUE.QUE_CFG_PROD = 1
      let c1 := if records then (recordAsks r.queue (fun k => match k with | .tap i _ => i == 16 * q.idx + tap.val | _ => false)).run c else c
      let opens := (c1.que r.queue).opened.isNone && c1.canOpen r.queue
      let turn := c1.turnOf (tapKey q.idx) ((List.range 16).filter fun i => c1.drains (c1.tap (16 * q.idx + i)).fifo) tap
      ((st.fifo ≠ [] ∧ r.queue < 64 ∧ (records ∧ opens = true ∧ turn) ∧ (records ∧ opens = true ∧ turn ∧ (c.que r.queue).flush = false ∧ r.words.length ≤ 65535)) : Prop)) 0 .B 15 0 (live [modTap 31 fun x => { x with fifo := [⟨[1, 2, 3, 4], 21⟩] }, putActive (pgQUE 21) Reg.QUE.QUE_CFG_PROD 1, put (pgQUE 21) Reg.HDR.PAGE_CTRL_EN 1])) ∧
    ((fun (dt : Nat) (q : Quay) (tap : Fin 16) (corr : Nat) (s : State) =>
      let c := s.chip.after dt
      let st := c.tap (16 * q.idx + tap.val)
      let r := st.fifo.head?.getD ⟨[], 0⟩
      let records := c.act (pgQUE r.queue) Reg.QUE.QUE_CFG_PROD = 1
      let c1 := if records then (recordAsks r.queue (fun k => match k with | .tap i _ => i == 16 * q.idx + tap.val | _ => false)).run c else c
      let turn := c1.turnOf (tapKey q.idx) ((List.range 16).filter fun i => c1.drains (c1.tap (16 * q.idx + i)).fifo) tap
      ((st.fifo ≠ [] ∧ r.queue < 64 ∧ (¬ records ∧ turn)) : Prop)) 0 .A 0 0 (live [modTap 0 fun x => { x with fifo := [⟨[1, 2, 3, 4], 21⟩] }])) ∧
    ((fun (dt : Nat) (q : Quay) (tap : Fin 16) (corr : Nat) (s : State) =>
      let c := s.chip.after dt
      let st := c.tap (16 * q.idx + tap.val)
      let r := st.fifo.head?.getD ⟨[], 0⟩
      let records := c.act (pgQUE r.queue) Reg.QUE.QUE_CFG_PROD = 1
      let c1 := if records then (recordAsks r.queue (fun k => match k with | .tap i _ => i == 16 * q.idx + tap.val | _ => false)).run c else c
      let opens := (c1.que r.queue).opened.isNone && c1.canOpen r.queue
      let turn := c1.turnOf (tapKey q.idx) ((List.range 16).filter fun i => c1.drains (c1.tap (16 * q.idx + i)).fifo) tap
      ((st.fifo ≠ [] ∧ r.queue < 64 ∧ (turn = false ∧ ¬ (records ∧ opens = false))) : Prop)) 0 .A 1 0 (live [modTap 0 (fun x => { x with fifo := [⟨[1, 2, 3, 4], 21⟩] }), modTap 1 fun x => { x with fifo := [⟨[1, 2, 3, 4], 21⟩] }])) ∧
    ((fun (dt : Nat) (q : Quay) (tap : Fin 16) (corr : Nat) (s : State) =>
      let c := s.chip.after dt
      let st := c.tap (16 * q.idx + tap.val)
      let r := st.fifo.head?.getD ⟨[], 0⟩
      let records := c.act (pgQUE r.queue) Reg.QUE.QUE_CFG_PROD = 1
      let c1 := if records then (recordAsks r.queue (fun k => match k with | .tap i _ => i == 16 * q.idx + tap.val | _ => false)).run c else c
      let opens := (c1.que r.queue).opened.isNone && c1.canOpen r.queue
      ((st.fifo ≠ [] ∧ r.queue < 64 ∧ (records ∧ opens = false)) : Prop)) 0 .B 15 0 (live [modTap 31 (fun x => { x with fifo := [⟨[1, 2, 3, 4], 21⟩] }), putActive (pgQUE 21) Reg.QUE.QUE_CFG_PROD 1])) :=
  ⟨by decide +kernel, by decide +kernel, by decide +kernel, by decide +kernel⟩

/-- QueuesDrainFlushResetAndSweep: portWordWrite can complete as stated, in each case. -/
theorem test_meets_QueuesDrainFlushResetAndSweep_portWordWrite :
    ((fun (dt : Nat) (i : Fin 8) (corr : Nat) (s : State) =>
      let c := s.chip.after dt
      let code := portCode i
      let m := (c.portQueue code).getD 0
      let x := c.port code
      let f := x.frames.head?.getD []
      let last := x.pos + 1 == f.length
      let o := (c.que m).opened.getD ⟨[], 0, false, none, code, false⟩
      let mine := o.holder.isNone && o.prod == code
      let grows := o.needsCell && decide (o.len < 65535)
      let asks := !x.discard && (if (c.que m).opened.isNone then c.en (pgQUE m) else mine && grows)
      let c1 := if asks then (reclaim m).run c else c
      let goes := if (c.que m).opened.isNone then c1.canOpen m else mine && !(grows && !c1.canTake m)
      let turn := c1.turnOf (blockKey (portCell i).1) (c1.drainCells (portCell i).1) (portCell i).2
      (((c.portQueue code).isSome ∧ x.frames ≠ [] ∧ (c.que m).held = none ∧ (x.discard = false ∧ goes ∧ turn ∧ last = false) ∧ (x.discard = false ∧ goes ∧ turn ∧ last = false ∧ (c.que m).opened = none)) : Prop)) 0 0 0 (live [modPort 0x20 fun x => { x with frames := [[1, 2]] }, putActive (pgQUE 5) Reg.QUE.QUE_CFG_PROD 0x20, put (pgQUE 5) Reg.HDR.PAGE_CTRL_EN 1])) ∧
    ((fun (dt : Nat) (i : Fin 8) (corr : Nat) (s : State) =>
      let c := s.chip.after dt
      let code := portCode i
      let m := (c.portQueue code).getD 0
      let x := c.port code
      let o := (c.que m).opened.getD ⟨[], 0, false, none, code, false⟩
      let mine := o.holder.isNone && o.prod == code
      let grows := o.needsCell && decide (o.len < 65535)
      let asks := !x.discard && (if (c.que m).opened.isNone then c.en (pgQUE m) else mine && grows)
      let c1 := if asks then (reclaim m).run c else c
      let goes := if (c.que m).opened.isNone then c1.canOpen m else mine && !(grows && !c1.canTake m)
      let turn := c1.turnOf (blockKey (portCell i).1) (c1.drainCells (portCell i).1) (portCell i).2
      (((c.portQueue code).isSome ∧ x.frames ≠ [] ∧ (c.que m).held = none ∧ (turn = false ∧ (x.discard ∨ goes))) : Prop)) 0 1 0 (live [modPort 0x20 (fun x => { x with frames := [[1, 2]] }), putActive (pgQUE 5) Reg.QUE.QUE_CFG_PROD 0x20, put (pgQUE 5) Reg.HDR.PAGE_CTRL_EN 1, modPort 0x21 (fun x => { x with frames := [[1, 2]] }), putActive (pgQUE 6) Reg.QUE.QUE_CFG_PROD 0x21, put (pgQUE 6) Reg.HDR.PAGE_CTRL_EN 1])) ∧
    ((fun (dt : Nat) (i : Fin 8) (corr : Nat) (s : State) =>
      let c := s.chip.after dt
      let code := portCode i
      let m := (c.portQueue code).getD 0
      let x := c.port code
      let f := x.frames.head?.getD []
      let last := x.pos + 1 == f.length
      let o := (c.que m).opened.getD ⟨[], 0, false, none, code, false⟩
      let mine := o.holder.isNone && o.prod == code
      let grows := o.needsCell && decide (o.len < 65535)
      let asks := !x.discard && (if (c.que m).opened.isNone then c.en (pgQUE m) else mine && grows)
      let c1 := if asks then (reclaim m).run c else c
      let goes := if (c.que m).opened.isNone then c1.canOpen m else mine && !(grows && !c1.canTake m)
      let turn := c1.turnOf (blockKey (portCell i).1) (c1.drainCells (portCell i).1) (portCell i).2
      (((c.portQueue code).isSome ∧ x.frames ≠ [] ∧ (c.que m).held = none ∧ (x.discard = false ∧ goes ∧ turn ∧ last)) : Prop)) 0 7 0 (live [modPort 0x29 fun x => { x with frames := [[1, 2]], pos := 1 }, putActive (pgQUE 5) Reg.QUE.QUE_CFG_PROD 0x29, modQue 5 fun x => { x with opened := some ⟨[9], 1, false, none, 0x29, false⟩ }])) ∧
    ((fun (dt : Nat) (i : Fin 8) (corr : Nat) (s : State) =>
      let c := s.chip.after dt
      let code := portCode i
      let m := (c.portQueue code).getD 0
      let x := c.port code
      let o := (c.que m).opened.getD ⟨[], 0, false, none, code, false⟩
      let mine := o.holder.isNone && o.prod == code
      let grows := o.needsCell && decide (o.len < 65535)
      let asks := !x.discard && (if (c.que m).opened.isNone then c.en (pgQUE m) else mine && grows)
      let c1 := if asks then (reclaim m).run c else c
      let goes := if (c.que m).opened.isNone then c1.canOpen m else mine && !(grows && !c1.canTake m)
      (((c.portQueue code).isSome ∧ x.frames ≠ [] ∧ (c.que m).held = none ∧ (x.discard = false ∧ goes = false)) : Prop)) 0 0 0 (live [modPort 0x20 (fun x => { x with frames := [[1, 2]] }), putActive (pgQUE 5) Reg.QUE.QUE_CFG_PROD 0x20, put (pgQUE 5) Reg.HDR.PAGE_CTRL_EN 1, modQue 5 fun x => { x with opened := some ⟨[9], 1, false, some (.core .A 0), 0, false⟩ }])) ∧
    ((fun (dt : Nat) (i : Fin 8) (corr : Nat) (s : State) =>
      let c := s.chip.after dt
      let code := portCode i
      let m := (c.portQueue code).getD 0
      let x := c.port code
      let f := x.frames.head?.getD []
      let last := x.pos + 1 == f.length
      let o := (c.que m).opened.getD ⟨[], 0, false, none, code, false⟩
      let mine := o.holder.isNone && o.prod == code
      let grows := o.needsCell && decide (o.len < 65535)
      let asks := !x.discard && (if (c.que m).opened.isNone then c.en (pgQUE m) else mine && grows)
      let c1 := if asks then (reclaim m).run c else c
      let turn := c1.turnOf (blockKey (portCell i).1) (c1.drainCells (portCell i).1) (portCell i).2
      (((c.portQueue code).isSome ∧ x.frames ≠ [] ∧ (c.que m).held = none ∧ (turn ∧ x.discard ∧ last = false)) : Prop)) 0 0 0 (live [modPort 0x20 (fun x => { x with frames := [[1, 2]], discard := true }), putActive (pgQUE 5) Reg.QUE.QUE_CFG_PROD 0x20])) ∧
    ((fun (dt : Nat) (i : Fin 8) (corr : Nat) (s : State) =>
      let c := s.chip.after dt
      let code := portCode i
      let m := (c.portQueue code).getD 0
      let x := c.port code
      let f := x.frames.head?.getD []
      let last := x.pos + 1 == f.length
      let o := (c.que m).opened.getD ⟨[], 0, false, none, code, false⟩
      let mine := o.holder.isNone && o.prod == code
      let grows := o.needsCell && decide (o.len < 65535)
      let asks := !x.discard && (if (c.que m).opened.isNone then c.en (pgQUE m) else mine && grows)
      let c1 := if asks then (reclaim m).run c else c
      let turn := c1.turnOf (blockKey (portCell i).1) (c1.drainCells (portCell i).1) (portCell i).2
      (((c.portQueue code).isSome ∧ x.frames ≠ [] ∧ (c.que m).held = none ∧ (turn ∧ x.discard ∧ last)) : Prop)) 0 0 0 (live [modPort 0x20 (fun x => { x with frames := [[1, 2]], pos := 1, discard := true }), putActive (pgQUE 5) Reg.QUE.QUE_CFG_PROD 0x20])) ∧
    ((fun (dt : Nat) (i : Fin 8) (corr : Nat) (s : State) =>
      let c := s.chip.after dt
      let code := portCode i
      let m := (c.portQueue code).getD 0
      let x := c.port code
      let o := (c.que m).opened.getD ⟨[], 0, false, none, code, false⟩
      let mine := o.holder.isNone && o.prod == code
      let grows := o.needsCell && decide (o.len < 65535)
      let asks := !x.discard && (if (c.que m).opened.isNone then c.en (pgQUE m) else mine && grows)
      let c1 := if asks then (reclaim m).run c else c
      let goes := if (c.que m).opened.isNone then c1.canOpen m else mine && !(grows && !c1.canTake m)
      (((c.portQueue code).isSome ∧ x.frames ≠ [] ∧ (c.que m).held = none ∧ (x.discard = false ∧ goes = false)) : Prop)) 0 0 0 (live [modPort 0x20 (fun x => { x with frames := [[1, 2]] }), putActive (pgQUE 5) Reg.QUE.QUE_CFG_PROD 0x20])) :=
  ⟨by decide +kernel, by decide +kernel, by decide +kernel, by decide +kernel, by decide +kernel, by decide +kernel, by decide +kernel⟩

/-- QueuesDrainFlushResetAndSweep: queFlush can complete as stated, in each case. -/
theorem test_meets_QueuesDrainFlushResetAndSweep_queFlush :
    ((fun (dt : Nat) (src : Src) (n : Fin 64) (corr : Nat) (s : State) =>
      let c := s.chip.after dt
      let q := c.que n
      ((c.serves src (pgQUE n) 0x06C true ∧ (q.flush = false ∧ q.opened = none ∧ q.resetting = false)) : Prop)) 0 (.core .A 0) 0 2 (live [modQue 0 fun x => { x with done := [⟨[7], 3⟩, ⟨[8], 0⟩], read := 2 }])) ∧
    ((fun (dt : Nat) (src : Src) (n : Fin 64) (corr : Nat) (s : State) =>
      let c := s.chip.after dt
      let q := c.que n
      ((c.serves src (pgQUE n) 0x06C true ∧ (q.flush = false ∧ (q.opened.isSome ∨ q.resetting))) : Prop)) 0 (.core .A 0) 0 2 (live [modQue 0 fun x => { x with done := [⟨[7], 3⟩], opened := some ⟨[9], 1, false, none, 0x29, false⟩ }])) ∧
    ((fun (dt : Nat) (src : Src) (n : Fin 64) (corr : Nat) (s : State) =>
      let c := s.chip.after dt
      let q := c.que n
      ((c.serves src (pgQUE n) 0x06C true ∧ q.flush = true) : Prop)) 0 (.core .A 0) 0 2 (live [modQue 0 fun x => { x with done := [⟨[7], 3⟩], opened := some ⟨[9], 1, false, none, 0x29, false⟩, flush := true }])) :=
  ⟨by decide +kernel, by decide +kernel, by decide +kernel⟩

/-- QueuesDrainFlushResetAndSweep: queReset can complete as stated. -/
theorem test_meets_QueuesDrainFlushResetAndSweep_queReset :
    (fun (dt : Nat) (n : Fin 64) (uncorr : Nat) (s : State) =>
      let c := s.chip.after dt
      ((True) : Prop)) 0 40 2 (live [modQue 40 fun x => { x with done := [⟨[7], 3⟩], opened := some ⟨[9], 1, false, none, 0x29, false⟩ }]) := by
  decide +kernel

/-- QueuesDrainFlushResetAndSweep: sweepDone can complete as stated. -/
theorem test_meets_QueuesDrainFlushResetAndSweep_sweepDone :
    (fun (dt : Nat) (st : Fin 2) (bad : List Nat) (corr : List (Option (Fin 64))) (uncorr : Nat) (s : State) =>
      let c := s.chip.after dt
      let served := (List.range 64).filter fun m => (c.que m).swept && (c.que m).deadStore == st.val
      (((c.store st).sweep.isSome ∧ ((List.range 64).all fun m => !(c.que m).resetting || (c.que m).deadStore != st.val || served.contains m)) : Prop)) 5 0 [3, 70000] [some 5, none] 1 (live [modQue 40 fun x => { x with dead := [7], resetting := true, swept := true, flush := true }, modStore 0 fun x => { x with sweep := some 1 }]) := by
  decide +kernel

/-- QueuesDrainFlushResetAndSweep: freelistRebuild can complete as stated. -/
theorem test_meets_QueuesDrainFlushResetAndSweep_freelistRebuild :
    (fun (dt : Nat) (st : Fin 2) (s : State) =>
      let c := s.chip.after dt
      ((True) : Prop)) 0 1 (live [modQue 40 fun x => { x with done := [⟨[7], 3⟩] }]) := by
  decide +kernel

/-- QueuesDrainFlushResetAndSweep: rebuildDone can complete as stated. -/
theorem test_meets_QueuesDrainFlushResetAndSweep_rebuildDone :
    (fun (dt : Nat) (st : Fin 2) (bad : List Nat) (corr : List (Option (Fin 64))) (uncorr : Nat) (s : State) =>
      let c := s.chip.after dt
      (((c.store st).rebuild.isSome) : Prop)) 5 1 [70000] [none] 1 (live [modStore 1 fun x => { x with rebuild := some 2 }, modQue 40 fun x => { x with done := [⟨[7], 3⟩] }]) := by
  decide +kernel

/-- MessageObjectsReceiveAndSend: canRxFrame can complete as stated, in each case. -/
theorem test_meets_MessageObjectsReceiveAndSend_canRxFrame :
    ((fun (dt : Nat) (n : Fin 6) (f : CanFrame) (s : State) =>
      let c := s.chip.after dt
      let p := pgCAN n
      let refuse := f.fdf && !c.actFlag p Reg.CAN.CAN_CFG_FD_EN
      let m := c.objMatch n f
      let o := pgOBJ n (m.getD 0)
      let toObj := !refuse && m.isSome && !c.flag o Reg.OBJ.OBJ_CFG_TO_QUEUE
      let locked := c.flag o Reg.OBJ.OBJ_STAT_LOCKED
      let ovw := c.flag o Reg.OBJ.OBJ_CFG_OVERWRITE
      let new := c.flag o Reg.OBJ.OBJ_STAT_NEW
      ((c.canLive n ∧ c.canSynced n f.stamp ∧ refuse = false ∧ (toObj = true ∧ locked = false ∧ (new = false ∨ ovw))) : Prop)) 0 2 ⟨false, 0x123, false, false, false, false, 8, [1, 2], 77⟩ (live [put (pgCAN 2) Reg.HDR.PAGE_STAT_ENABLED 1, putFlag (pgOBJ 2 9) Reg.OBJ.OBJ_CFG_EN true])) ∧
    ((fun (dt : Nat) (n : Fin 6) (f : CanFrame) (s : State) =>
      let c := s.chip.after dt
      let p := pgCAN n
      let refuse := f.fdf && !c.actFlag p Reg.CAN.CAN_CFG_FD_EN
      let m := c.objMatch n f
      let o := pgOBJ n (m.getD 0)
      let port := c.port (0x20 + n)
      let toPort := !refuse && (if m.isSome then c.flag o Reg.OBJ.OBJ_CFG_TO_QUEUE else c.actFlag p Reg.CAN.CAN_CFG_NOMATCH_EN)
      let room := (c.queueOfProd (0x20 + n)).isSome && decide (port.frames.length < 4)
      ((c.canLive n ∧ c.canSynced n f.stamp ∧ refuse = false ∧ (refuse = false ∧ m = none) ∧ (toPort = true ∧ room = true)) : Prop)) 0 2 ⟨true, 0x123, false, false, false, false, 8, [1, 2], 77⟩ (live [put (pgCAN 2) Reg.HDR.PAGE_STAT_ENABLED 1, putActive (pgCAN 2) Reg.CAN.CAN_CFG_NOMATCH_EN 1, putActive (pgQUE 63) Reg.QUE.QUE_CFG_PROD 0x22])) ∧
    ((fun (dt : Nat) (n : Fin 6) (f : CanFrame) (s : State) =>
      let c := s.chip.after dt
      let p := pgCAN n
      let refuse := f.fdf && !c.actFlag p Reg.CAN.CAN_CFG_FD_EN
      ((c.canLive n ∧ c.canSynced n f.stamp ∧ refuse = true ∧ (refuse = true ∧ c.actFlag p Reg.CAN.CAN_CFG_PXHD = false)) : Prop)) 0 2 ⟨false, 0x123, true, false, false, false, 8, [1, 2], 77⟩ (live [put (pgCAN 2) Reg.HDR.PAGE_STAT_ENABLED 1, putActive (pgCAN 2) Reg.CAN.CAN_CFG_FD_EN 0, putActive (pgCAN 2) Reg.CAN.CAN_CFG_PXHD 0])) ∧
    ((fun (dt : Nat) (n : Fin 6) (f : CanFrame) (s : State) =>
      let c := s.chip.after dt
      let p := pgCAN n
      let refuse := f.fdf && !c.actFlag p Reg.CAN.CAN_CFG_FD_EN
      ((c.canLive n ∧ c.canSynced n f.stamp ∧ refuse = true ∧ (refuse = true ∧ c.actFlag p Reg.CAN.CAN_CFG_PXHD)) : Prop)) 0 2 ⟨false, 0x123, true, false, false, false, 8, [1, 2], 77⟩ (live [put (pgCAN 2) Reg.HDR.PAGE_STAT_ENABLED 1, putActive (pgCAN 2) Reg.CAN.CAN_CFG_FD_EN 0, putActive (pgCAN 2) Reg.CAN.CAN_CFG_PXHD 1])) ∧
    ((fun (dt : Nat) (n : Fin 6) (f : CanFrame) (s : State) =>
      let c := s.chip.after dt
      let p := pgCAN n
      let refuse := f.fdf && !c.actFlag p Reg.CAN.CAN_CFG_FD_EN
      let m := c.objMatch n f
      let o := pgOBJ n (m.getD 0)
      let toObj := !refuse && m.isSome && !c.flag o Reg.OBJ.OBJ_CFG_TO_QUEUE
      let locked := c.flag o Reg.OBJ.OBJ_STAT_LOCKED
      ((c.canLive n ∧ c.canSynced n f.stamp ∧ refuse = false ∧ (toObj = true ∧ locked)) : Prop)) 0 2 ⟨false, 0x123, false, false, false, false, 8, [1, 2], 77⟩ (live [put (pgCAN 2) Reg.HDR.PAGE_STAT_ENABLED 1, putFlag (pgOBJ 2 9) Reg.OBJ.OBJ_CFG_EN true, putFlag (pgOBJ 2 9) Reg.OBJ.OBJ_STAT_LOCKED true])) ∧
    ((fun (dt : Nat) (n : Fin 6) (f : CanFrame) (s : State) =>
      let c := s.chip.after dt
      let p := pgCAN n
      let refuse := f.fdf && !c.actFlag p Reg.CAN.CAN_CFG_FD_EN
      let m := c.objMatch n f
      let o := pgOBJ n (m.getD 0)
      let toObj := !refuse && m.isSome && !c.flag o Reg.OBJ.OBJ_CFG_TO_QUEUE
      let locked := c.flag o Reg.OBJ.OBJ_STAT_LOCKED
      let sh := (c.objOf n (m.getD 0)).shadow
      let ovw := c.flag o Reg.OBJ.OBJ_CFG_OVERWRITE
      let new := c.flag o Reg.OBJ.OBJ_STAT_NEW
      ((c.canLive n ∧ c.canSynced n f.stamp ∧ refuse = false ∧ (toObj = true ∧ locked = false ∧ new ∧ ovw = false) ∧ (toObj = true ∧ (if locked then sh.isSome = true else new))) : Prop)) 0 2 ⟨false, 0x123, false, false, false, false, 8, [1, 2], 77⟩ (live [put (pgCAN 2) Reg.HDR.PAGE_STAT_ENABLED 1, putFlag (pgOBJ 2 9) Reg.OBJ.OBJ_CFG_EN true, putFlag (pgOBJ 2 9) Reg.OBJ.OBJ_STAT_NEW true])) ∧
    ((fun (dt : Nat) (n : Fin 6) (f : CanFrame) (s : State) =>
      let c := s.chip.after dt
      let p := pgCAN n
      let refuse := f.fdf && !c.actFlag p Reg.CAN.CAN_CFG_FD_EN
      let m := c.objMatch n f
      let o := pgOBJ n (m.getD 0)
      let port := c.port (0x20 + n)
      let toPort := !refuse && (if m.isSome then c.flag o Reg.OBJ.OBJ_CFG_TO_QUEUE else c.actFlag p Reg.CAN.CAN_CFG_NOMATCH_EN)
      let room := (c.queueOfProd (0x20 + n)).isSome && decide (port.frames.length < 4)
      ((c.canLive n ∧ c.canSynced n f.stamp ∧ refuse = false ∧ (refuse = false ∧ m = none) ∧ (toPort = true ∧ room = false)) : Prop)) 0 2 ⟨false, 0x123, false, false, false, false, 8, [1, 2], 77⟩ (live [put (pgCAN 2) Reg.HDR.PAGE_STAT_ENABLED 1, putActive (pgCAN 2) Reg.CAN.CAN_CFG_NOMATCH_EN 1])) :=
  ⟨by decide +kernel, by decide +kernel, by decide +kernel, by decide +kernel, by decide +kernel, by decide +kernel, by decide +kernel⟩

/-- MessageObjectsReceiveAndSend: canSend can complete as stated, in each case. -/
theorem test_meets_MessageObjectsReceiveAndSend_canSend :
    ((fun (dt : Nat) (src : Src) (n : Fin 6) (s : State) =>
      let c := s.chip.after dt
      let j := c.objSel src n
      let p := pgOBJ n j
      let sends := c.flag p Reg.OBJ.OBJ_CFG_EN && c.flag p Reg.OBJ.OBJ_CFG_DIR
      let time := c.flag p Reg.OBJ.OBJ_CFG_TIME
      ((c.serves src (pgCAN n) 0x120 true ∧ (sends = true ∧ time = false) ∧ (sends = true ∧ time = false ∧ c.flag p Reg.OBJ.OBJ_STAT_PENDING = false)) : Prop)) 0 (.core .A 0) 2 (live [putFlag (pgOBJ 2 0) Reg.OBJ.OBJ_CFG_EN true, putFlag (pgOBJ 2 0) Reg.OBJ.OBJ_CFG_DIR true])) ∧
    ((fun (dt : Nat) (src : Src) (n : Fin 6) (s : State) =>
      let c := s.chip.after dt
      let j := c.objSel src n
      let p := pgOBJ n j
      let sends := c.flag p Reg.OBJ.OBJ_CFG_EN && c.flag p Reg.OBJ.OBJ_CFG_DIR
      let time := c.flag p Reg.OBJ.OBJ_CFG_TIME
      ((c.serves src (pgCAN n) 0x120 true ∧ (sends = true ∧ time)) : Prop)) 0 (.core .A 2) 5 (live [putFlag (pgOBJ 5 3) Reg.OBJ.OBJ_CFG_EN true, putFlag (pgOBJ 5 3) Reg.OBJ.OBJ_CFG_DIR true, putFlag (pgOBJ 5 3) Reg.OBJ.OBJ_CFG_TIME true, setObjSel (.core .A 2) 5 3])) ∧
    ((fun (dt : Nat) (src : Src) (n : Fin 6) (s : State) =>
      let c := s.chip.after dt
      let j := c.objSel src n
      let p := pgOBJ n j
      let sends := c.flag p Reg.OBJ.OBJ_CFG_EN && c.flag p Reg.OBJ.OBJ_CFG_DIR
      ((c.serves src (pgCAN n) 0x120 true ∧ sends = false) : Prop)) 0 (.core .A 0) 2 (live [])) :=
  ⟨by decide +kernel, by decide +kernel, by decide +kernel⟩

/-- MessageObjectsReceiveAndSend: canAbort can complete as stated, in each case. -/
theorem test_meets_MessageObjectsReceiveAndSend_canAbort :
    ((fun (dt : Nat) (src : Src) (n : Fin 6) (bus : Bool) (s : State) =>
      let c := s.chip.after dt
      let j := c.objSel src n
      let p := pgOBJ n j
      let pend := c.flag p Reg.OBJ.OBJ_STAT_PENDING
      ((c.serves src (pgCAN n) 0x120 true ∧ (pend ∧ bus = false)) : Prop)) 0 (.core .A 0) 2 false (live [putFlag (pgOBJ 2 0) Reg.OBJ.OBJ_STAT_PENDING true])) ∧
    ((fun (dt : Nat) (src : Src) (n : Fin 6) (bus : Bool) (s : State) =>
      let c := s.chip.after dt
      let j := c.objSel src n
      let p := pgOBJ n j
      let pend := c.flag p Reg.OBJ.OBJ_STAT_PENDING
      ((c.serves src (pgCAN n) 0x120 true ∧ (pend ∧ bus)) : Prop)) 0 (.core .A 0) 2 true (live [putFlag (pgOBJ 2 0) Reg.OBJ.OBJ_STAT_PENDING true])) ∧
    ((fun (dt : Nat) (src : Src) (n : Fin 6) (bus : Bool) (s : State) =>
      let c := s.chip.after dt
      let j := c.objSel src n
      let p := pgOBJ n j
      let pend := c.flag p Reg.OBJ.OBJ_STAT_PENDING
      ((c.serves src (pgCAN n) 0x120 true ∧ pend = false) : Prop)) 0 (.core .A 0) 2 false (live [])) :=
  ⟨by decide +kernel, by decide +kernel, by decide +kernel⟩

/-- MessageObjectsReceiveAndSend: canTxDone can complete as stated, in each case. -/
theorem test_meets_MessageObjectsReceiveAndSend_canTxDone :
    ((fun (dt : Nat) (n : Fin 6) (sof delay : Nat) (s : State) =>
      let c := s.chip.after dt
      let p := pgCAN n
      let j := (c.offered n sof).getD 0
      let ref := c.refOffered n sof
      let tdc := ref.isNone && (c.sendFrame n j).fdf && c.actFlag p Reg.CAN.CAN_CFG_TDC_EN
      let late := tdc && decide (125 < delay)
      ((c.canSends n ∧ c.canSynced n sof ∧ (ref.isSome ∨ (c.offered n sof).isSome) ∧ c.act p Reg.CAN.CAN_CFG_MODE = 0 ∧ late = false ∧ (ref = none ∧ late = false)) : Prop)) 0 2 100 0 (live [put (pgCAN 2) Reg.HDR.PAGE_STAT_ENABLED 1, putFlag (pgOBJ 2 7) Reg.OBJ.OBJ_STAT_PENDING true])) ∧
    ((fun (dt : Nat) (n : Fin 6) (sof delay : Nat) (s : State) =>
      let c := s.chip.after dt
      let p := pgCAN n
      let j := (c.offered n sof).getD 0
      let ref := c.refOffered n sof
      let tdc := ref.isNone && (c.sendFrame n j).fdf && c.actFlag p Reg.CAN.CAN_CFG_TDC_EN
      let late := tdc && decide (125 < delay)
      ((c.canSends n ∧ c.canSynced n sof ∧ (ref.isSome ∨ (c.offered n sof).isSome) ∧ c.act p Reg.CAN.CAN_CFG_MODE = 0 ∧ late = true ∧ tdc = true) : Prop)) 0 2 100 126 (live [put (pgCAN 2) Reg.HDR.PAGE_STAT_ENABLED 1, putActive (pgCAN 2) Reg.CAN.CAN_CFG_FD_EN 1, putActive (pgCAN 2) Reg.CAN.CAN_CFG_TDC_EN 1, putFlag (pgOBJ 2 7) Reg.OBJ.OBJ_CFG_FDF true, putFlag (pgOBJ 2 7) Reg.OBJ.OBJ_STAT_PENDING true])) ∧
    ((fun (dt : Nat) (n : Fin 6) (sof delay : Nat) (s : State) =>
      let c := s.chip.after dt
      let p := pgCAN n
      let j := (c.offered n sof).getD 0
      let ref := c.refOffered n sof
      let tdc := ref.isNone && (c.sendFrame n j).fdf && c.actFlag p Reg.CAN.CAN_CFG_TDC_EN
      let late := tdc && decide (125 < delay)
      ((c.canSends n ∧ c.canSynced n sof ∧ (ref.isSome ∨ (c.offered n sof).isSome) ∧ c.act p Reg.CAN.CAN_CFG_MODE = 0 ∧ late = false ∧ ref.isSome) : Prop)) 0 2 100 0 (live [put (pgCAN 2) Reg.HDR.PAGE_STAT_ENABLED 1, putActive (pgCAN 2) Reg.CAN.TT_CFG_TM_EN 1, modCan 2 fun x => { x with refOffer := some (50, 60) }])) :=
  ⟨by decide +kernel, by decide +kernel, by decide +kernel⟩

/-- MessageObjectsReceiveAndSend: canAttemptFail can complete as stated, in each case. -/
theorem test_meets_MessageObjectsReceiveAndSend_canAttemptFail :
    ((fun (dt : Nat) (n : Fin 6) (sof : Nat) (lost : Bool) (s : State) =>
      let c := s.chip.after dt
      let j := (c.offered n sof).getD 0
      let p := pgOBJ n j
      let o := c.objOf n j
      let max := c.act (pgCAN n) Reg.CAN.CAN_CFG_RETRY_MAX
      let fails := if lost then o.fails else o.fails + 1
      let ends := c.flag p Reg.OBJ.OBJ_CFG_SINGLE_SHOT || (!lost && max != 0 && decide (max ≤ fails))
      ((c.canSends n ∧ c.canSynced n sof ∧ c.refOffered n sof = none ∧ (c.offered n sof).isSome ∧ (o.abort_ = false ∧ o.last = false ∧ ends = false)) : Prop)) 0 2 100 false (live [put (pgCAN 2) Reg.HDR.PAGE_STAT_ENABLED 1, putFlag (pgOBJ 2 7) Reg.OBJ.OBJ_STAT_PENDING true])) ∧
    ((fun (dt : Nat) (n : Fin 6) (sof : Nat) (lost : Bool) (s : State) =>
      let c := s.chip.after dt
      let j := (c.offered n sof).getD 0
      let p := pgOBJ n j
      let o := c.objOf n j
      let max := c.act (pgCAN n) Reg.CAN.CAN_CFG_RETRY_MAX
      let fails := if lost then o.fails else o.fails + 1
      let ends := c.flag p Reg.OBJ.OBJ_CFG_SINGLE_SHOT || (!lost && max != 0 && decide (max ≤ fails))
      ((c.canSends n ∧ c.canSynced n sof ∧ c.refOffered n sof = none ∧ (c.offered n sof).isSome ∧ (o.abort_ = false ∧ o.last = false ∧ ends = true)) : Prop)) 0 2 100 false (live [put (pgCAN 2) Reg.HDR.PAGE_STAT_ENABLED 1, putFlag (pgOBJ 2 7) Reg.OBJ.OBJ_STAT_PENDING true, putActive (pgCAN 2) Reg.CAN.CAN_CFG_RETRY_MAX 1])) ∧
    ((fun (dt : Nat) (n : Fin 6) (sof : Nat) (lost : Bool) (s : State) =>
      let c := s.chip.after dt
      let j := (c.offered n sof).getD 0
      let o := c.objOf n j
      ((c.canSends n ∧ c.canSynced n sof ∧ c.refOffered n sof = none ∧ (c.offered n sof).isSome ∧ o.abort_) : Prop)) 0 2 100 false (live [put (pgCAN 2) Reg.HDR.PAGE_STAT_ENABLED 1, putFlag (pgOBJ 2 7) Reg.OBJ.OBJ_STAT_PENDING true, modObjOf 2 7 fun x => { x with abort_ := true }])) ∧
    ((fun (dt : Nat) (n : Fin 6) (sof : Nat) (lost : Bool) (s : State) =>
      let c := s.chip.after dt
      let j := (c.offered n sof).getD 0
      let o := c.objOf n j
      ((c.canSends n ∧ c.canSynced n sof ∧ c.refOffered n sof = none ∧ (c.offered n sof).isSome ∧ (o.abort_ = false ∧ o.last)) : Prop)) 0 2 100 true (live [put (pgCAN 2) Reg.HDR.PAGE_STAT_ENABLED 1, putFlag (pgOBJ 2 7) Reg.OBJ.OBJ_STAT_PENDING true, modObjOf 2 7 fun x => { x with last := true }])) :=
  ⟨by decide +kernel, by decide +kernel, by decide +kernel, by decide +kernel⟩

/-- MessageObjectsReceiveAndSend: objCfgWrite can complete as stated, in each case. -/
theorem test_meets_MessageObjectsReceiveAndSend_objCfgWrite :
    ((fun (dt : Nat) (src : Src) (n : Fin 6) (v : Word) (bus : Bool) (s : State) =>
      let c := s.chip.after dt
      let j := c.objSel src n
      let p := pgOBJ n j
      let was := c.flag p Reg.OBJ.OBJ_CFG_EN
      let en := v.getLsbD 0
      let second := v.getLsbD 1 && v.getLsbD 6 && (List.range 128).any fun i => i != j && c.flag (pgOBJ n i) Reg.OBJ.OBJ_CFG_DIR && c.flag (pgOBJ n i) Reg.OBJ.OBJ_CFG_TO_QUEUE
      let timed := en && v.getLsbD 8
      let far := decide (2 ^ c.fld p Reg.OBJ.OBJ_CYCLE_REP ≤ c.fld p Reg.OBJ.OBJ_CYCLE_BASE)
      let short := c.fld p Reg.OBJ.OBJ_WIN == 0
      ((c.serves src (pgCAN n) 0x104 true ∧ (was = false ∧ second = false ∧ timed ∧ far = false ∧ short)) : Prop)) 0 (.core .A 0) 2 0x143 false (live [putFlag (pgOBJ 2 7) Reg.OBJ.OBJ_CFG_DIR true])) ∧
    ((fun (dt : Nat) (src : Src) (n : Fin 6) (v : Word) (bus : Bool) (s : State) =>
      let c := s.chip.after dt
      let j := c.objSel src n
      let p := pgOBJ n j
      let was := c.flag p Reg.OBJ.OBJ_CFG_EN
      let en := v.getLsbD 0
      let second := v.getLsbD 1 && v.getLsbD 6 && (List.range 128).any fun i => i != j && c.flag (pgOBJ n i) Reg.OBJ.OBJ_CFG_DIR && c.flag (pgOBJ n i) Reg.OBJ.OBJ_CFG_TO_QUEUE
      let timed := en && v.getLsbD 8
      let far := decide (2 ^ c.fld p Reg.OBJ.OBJ_CYCLE_REP ≤ c.fld p Reg.OBJ.OBJ_CYCLE_BASE)
      let short := c.fld p Reg.OBJ.OBJ_WIN == 0
      let waits := !en && bus && c.flag p Reg.OBJ.OBJ_STAT_PENDING
      ((c.serves src (pgCAN n) 0x104 true ∧ ((was && en) = false ∧ second = false ∧ waits = false ∧ (timed && (far || short)) = false)) : Prop)) 0 (.core .A 0) 2 0x103 false (live [put (pgOBJ 2 0) Reg.OBJ.OBJ_WIN 5])) ∧
    ((fun (dt : Nat) (src : Src) (n : Fin 6) (v : Word) (bus : Bool) (s : State) =>
      let c := s.chip.after dt
      let j := c.objSel src n
      let p := pgOBJ n j
      let was := c.flag p Reg.OBJ.OBJ_CFG_EN
      let en := v.getLsbD 0
      let second := v.getLsbD 1 && v.getLsbD 6 && (List.range 128).any fun i => i != j && c.flag (pgOBJ n i) Reg.OBJ.OBJ_CFG_DIR && c.flag (pgOBJ n i) Reg.OBJ.OBJ_CFG_TO_QUEUE
      let timed := en && v.getLsbD 8
      let far := decide (2 ^ c.fld p Reg.OBJ.OBJ_CYCLE_REP ≤ c.fld p Reg.OBJ.OBJ_CYCLE_BASE)
      let short := c.fld p Reg.OBJ.OBJ_WIN == 0
      let waits := !en && bus && c.flag p Reg.OBJ.OBJ_STAT_PENDING
      ((c.serves src (pgCAN n) 0x104 true ∧ ((was && en) = false ∧ second = false ∧ waits = false ∧ (timed && (far || short)) = false) ∧ (en = false ∧ second = false) ∧ (en = false ∧ second = false ∧ c.flag p Reg.OBJ.OBJ_STAT_PENDING ∧ bus = false)) : Prop)) 0 (.core .A 0) 2 2 false (live [putFlag (pgOBJ 2 0) Reg.OBJ.OBJ_CFG_EN true, putFlag (pgOBJ 2 0) Reg.OBJ.OBJ_STAT_PENDING true])) ∧
    ((fun (dt : Nat) (src : Src) (n : Fin 6) (v : Word) (bus : Bool) (s : State) =>
      let c := s.chip.after dt
      let j := c.objSel src n
      let p := pgOBJ n j
      let old := (c.word (p.base + 0x104)).bits 0 10
      let new := v.bits 0 10
      let was := c.flag p Reg.OBJ.OBJ_CFG_EN
      let en := v.getLsbD 0
      ((c.serves src (pgCAN n) 0x104 true ∧ (was ∧ en) ∧ (was ∧ en ∧ new ≠ old)) : Prop)) 0 (.core .A 0) 2 0x3 false (live [putFlag (pgOBJ 2 0) Reg.OBJ.OBJ_CFG_EN true])) ∧
    ((fun (dt : Nat) (src : Src) (n : Fin 6) (v : Word) (bus : Bool) (s : State) =>
      let c := s.chip.after dt
      let j := c.objSel src n
      let p := pgOBJ n j
      let was := c.flag p Reg.OBJ.OBJ_CFG_EN
      let en := v.getLsbD 0
      let second := v.getLsbD 1 && v.getLsbD 6 && (List.range 128).any fun i => i != j && c.flag (pgOBJ n i) Reg.OBJ.OBJ_CFG_DIR && c.flag (pgOBJ n i) Reg.OBJ.OBJ_CFG_TO_QUEUE
      ((c.serves src (pgCAN n) 0x104 true ∧ ((was && en) = false ∧ second)) : Prop)) 0 (.core .A 0) 2 0x43 false (live [putFlag (pgOBJ 2 7) Reg.OBJ.OBJ_CFG_DIR true, putFlag (pgOBJ 2 7) Reg.OBJ.OBJ_CFG_TO_QUEUE true])) ∧
    ((fun (dt : Nat) (src : Src) (n : Fin 6) (v : Word) (bus : Bool) (s : State) =>
      let c := s.chip.after dt
      let j := c.objSel src n
      let p := pgOBJ n j
      let was := c.flag p Reg.OBJ.OBJ_CFG_EN
      let en := v.getLsbD 0
      let second := v.getLsbD 1 && v.getLsbD 6 && (List.range 128).any fun i => i != j && c.flag (pgOBJ n i) Reg.OBJ.OBJ_CFG_DIR && c.flag (pgOBJ n i) Reg.OBJ.OBJ_CFG_TO_QUEUE
      let timed := en && v.getLsbD 8
      let far := decide (2 ^ c.fld p Reg.OBJ.OBJ_CYCLE_REP ≤ c.fld p Reg.OBJ.OBJ_CYCLE_BASE)
      ((c.serves src (pgCAN n) 0x104 true ∧ (was = false ∧ second = false ∧ timed ∧ far)) : Prop)) 0 (.core .A 0) 2 0x103 false (live [put (pgOBJ 2 0) Reg.OBJ.OBJ_CYCLE_BASE 1])) ∧
    ((fun (dt : Nat) (src : Src) (n : Fin 6) (v : Word) (bus : Bool) (s : State) =>
      let c := s.chip.after dt
      let j := c.objSel src n
      let p := pgOBJ n j
      let en := v.getLsbD 0
      let second := v.getLsbD 1 && v.getLsbD 6 && (List.range 128).any fun i => i != j && c.flag (pgOBJ n i) Reg.OBJ.OBJ_CFG_DIR && c.flag (pgOBJ n i) Reg.OBJ.OBJ_CFG_TO_QUEUE
      let waits := !en && bus && c.flag p Reg.OBJ.OBJ_STAT_PENDING
      ((c.serves src (pgCAN n) 0x104 true ∧ waits = true ∧ (en = false ∧ second = false)) : Prop)) 0 (.core .A 0) 2 2 true (live [putFlag (pgOBJ 2 0) Reg.OBJ.OBJ_CFG_EN true, putFlag (pgOBJ 2 0) Reg.OBJ.OBJ_STAT_PENDING true])) :=
  ⟨by decide +kernel, by decide +kernel, by decide +kernel, by decide +kernel, by decide +kernel, by decide +kernel, by decide +kernel⟩

/-- MessageObjectsReceiveAndSend: objHeadRead can complete as stated, in each case. -/
theorem test_meets_MessageObjectsReceiveAndSend_objHeadRead :
    ((fun (dt : Nat) (src : Src) (n : Fin 6) (s : State) =>
      let c := s.chip.after dt
      let j := c.objSel src n
      let p := pgOBJ n j
      let other := c.flag p Reg.OBJ.OBJ_STAT_LOCKED && c.fld p Reg.OBJ.OBJ_STAT_LOCK_OWNER != src.code
      let takes := c.flag p Reg.OBJ.OBJ_CFG_EN && !c.flag p Reg.OBJ.OBJ_CFG_DIR
      ((c.serves src (pgCAN n) 0x124 false ∧ other = false ∧ (other = false ∧ takes = true)) : Prop)) 0 (.core .A 0) 2 (live [putFlag (pgOBJ 2 0) Reg.OBJ.OBJ_CFG_EN true, put (pgOBJ 2 0) Reg.OBJ.OBJ_HEAD_ID 99])) ∧
    ((fun (dt : Nat) (src : Src) (n : Fin 6) (s : State) =>
      let c := s.chip.after dt
      let j := c.objSel src n
      let p := pgOBJ n j
      let other := c.flag p Reg.OBJ.OBJ_STAT_LOCKED && c.fld p Reg.OBJ.OBJ_STAT_LOCK_OWNER != src.code
      ((c.serves src (pgCAN n) 0x124 false ∧ other = true) : Prop)) 0 (.core .A 0) 2 (live [putFlag (pgOBJ 2 0) Reg.OBJ.OBJ_STAT_LOCKED true, put (pgOBJ 2 0) Reg.OBJ.OBJ_STAT_LOCK_OWNER 3])) ∧
    ((fun (dt : Nat) (src : Src) (n : Fin 6) (s : State) =>
      let c := s.chip.after dt
      let j := c.objSel src n
      let p := pgOBJ n j
      let other := c.flag p Reg.OBJ.OBJ_STAT_LOCKED && c.fld p Reg.OBJ.OBJ_STAT_LOCK_OWNER != src.code
      let takes := c.flag p Reg.OBJ.OBJ_CFG_EN && !c.flag p Reg.OBJ.OBJ_CFG_DIR
      ((c.serves src (pgCAN n) 0x124 false ∧ other = false ∧ (other = false ∧ takes = false)) : Prop)) 0 (.core .A 0) 2 (live [])) :=
  ⟨by decide +kernel, by decide +kernel, by decide +kernel⟩

/-- MessageObjectsReceiveAndSend: objLastRead can complete as stated, in each case. -/
theorem test_meets_MessageObjectsReceiveAndSend_objLastRead :
    ((fun (dt : Nat) (src : Src) (n : Fin 6) (s : State) =>
      let c := s.chip.after dt
      let j := c.objSel src n
      let p := pgOBJ n j
      let off := c.lastWord n j
      let lock := c.flag p Reg.OBJ.OBJ_STAT_LOCKED
      let other := lock && c.fld p Reg.OBJ.OBJ_STAT_LOCK_OWNER != src.code
      ((c.serves src (pgCAN n) off false ∧ other = false ∧ (other = false ∧ lock)) : Prop)) 0 (.core .A 0) 2 (live [putFlag (pgOBJ 2 0) Reg.OBJ.OBJ_STAT_LOCKED true, putFlag (pgOBJ 2 0) Reg.OBJ.OBJ_STAT_NEW true, put (pgOBJ 2 0) Reg.OBJ.OBJ_INFO_DLC 8])) ∧
    ((fun (dt : Nat) (src : Src) (n : Fin 6) (s : State) =>
      let c := s.chip.after dt
      let j := c.objSel src n
      let p := pgOBJ n j
      let off := c.lastWord n j
      let lock := c.flag p Reg.OBJ.OBJ_STAT_LOCKED
      let other := lock && c.fld p Reg.OBJ.OBJ_STAT_LOCK_OWNER != src.code
      let sh := (c.objOf n j).shadow
      ((c.serves src (pgCAN n) off false ∧ other = false ∧ (other = false ∧ lock) ∧ (other = false ∧ lock ∧ sh.isSome)) : Prop)) 0 (.core .A 0) 2 (live [putFlag (pgOBJ 2 0) Reg.OBJ.OBJ_STAT_LOCKED true, modObj 256 fun x => { x with shadow := some ⟨false, 0x123, false, false, false, false, 8, [1, 2], 77⟩ }])) ∧
    ((fun (dt : Nat) (src : Src) (n : Fin 6) (s : State) =>
      let c := s.chip.after dt
      let j := c.objSel src n
      let p := pgOBJ n j
      let off := c.lastWord n j
      let lock := c.flag p Reg.OBJ.OBJ_STAT_LOCKED
      let other := lock && c.fld p Reg.OBJ.OBJ_STAT_LOCK_OWNER != src.code
      ((c.serves src (pgCAN n) off false ∧ other = true) : Prop)) 0 (.core .A 0) 2 (live [putFlag (pgOBJ 2 0) Reg.OBJ.OBJ_STAT_LOCKED true, put (pgOBJ 2 0) Reg.OBJ.OBJ_STAT_LOCK_OWNER 3])) ∧
    ((fun (dt : Nat) (src : Src) (n : Fin 6) (s : State) =>
      let c := s.chip.after dt
      let j := c.objSel src n
      let p := pgOBJ n j
      let off := c.lastWord n j
      let lock := c.flag p Reg.OBJ.OBJ_STAT_LOCKED
      let other := lock && c.fld p Reg.OBJ.OBJ_STAT_LOCK_OWNER != src.code
      ((c.serves src (pgCAN n) off false ∧ other = false ∧ lock = false) : Prop)) 0 (.core .A 0) 2 (live [])) :=
  ⟨by decide +kernel, by decide +kernel, by decide +kernel, by decide +kernel⟩

/-- MessageObjectsReceiveAndSend: objRelease can complete as stated, in each case. -/
theorem test_meets_MessageObjectsReceiveAndSend_objRelease :
    ((fun (dt : Nat) (src : Src) (n : Fin 6) (s : State) =>
      let c := s.chip.after dt
      let j := c.objSel src n
      let p := pgOBJ n j
      let mine := c.flag p Reg.OBJ.OBJ_STAT_LOCKED && c.fld p Reg.OBJ.OBJ_STAT_LOCK_OWNER == src.code
      let sh := (c.objOf n j).shadow
      ((c.serves src (pgCAN n) 0x120 true ∧ mine = true ∧ (mine = true ∧ sh = none)) : Prop)) 0 (.core .A 0) 2 (live [putFlag (pgOBJ 2 0) Reg.OBJ.OBJ_STAT_LOCKED true, putFlag (pgOBJ 2 0) Reg.OBJ.OBJ_STAT_NEW true])) ∧
    ((fun (dt : Nat) (src : Src) (n : Fin 6) (s : State) =>
      let c := s.chip.after dt
      let j := c.objSel src n
      let p := pgOBJ n j
      let mine := c.flag p Reg.OBJ.OBJ_STAT_LOCKED && c.fld p Reg.OBJ.OBJ_STAT_LOCK_OWNER == src.code
      ((c.serves src (pgCAN n) 0x120 true ∧ mine = false) : Prop)) 0 (.core .A 0) 2 (live [])) ∧
    ((fun (dt : Nat) (src : Src) (n : Fin 6) (s : State) =>
      let c := s.chip.after dt
      let j := c.objSel src n
      let p := pgOBJ n j
      let mine := c.flag p Reg.OBJ.OBJ_STAT_LOCKED && c.fld p Reg.OBJ.OBJ_STAT_LOCK_OWNER == src.code
      let sh := (c.objOf n j).shadow
      ((c.serves src (pgCAN n) 0x120 true ∧ mine = true ∧ (mine = true ∧ sh.isSome)) : Prop)) 0 (.core .A 0) 2 (live [putFlag (pgOBJ 2 0) Reg.OBJ.OBJ_STAT_LOCKED true, modObj 256 fun x => { x with shadow := some ⟨false, 0x123, false, false, false, false, 8, [1, 2], 77⟩ }])) :=
  ⟨by decide +kernel, by decide +kernel, by decide +kernel⟩

/-- MessageObjectsReceiveAndSend: canTxqTake can complete as stated, in each case. -/
theorem test_meets_MessageObjectsReceiveAndSend_canTxqTake :
    ((fun (dt : Nat) (n : Fin 6) (corr bad : Nat) (s : State) =>
      let c := s.chip.after dt
      let j := (c.txqObj n).getD 0
      let m := (c.queueOfCons (0x30 + n)).getD 0
      let ws := (c.headWords m).getD []
      let p := pgOBJ n j
      (((c.txqObj n).isSome ∧ (c.queueOfCons (0x30 + n)).isSome ∧ (c.headWords m).isSome ∧ c.canLive n ∧ c.flag p Reg.OBJ.OBJ_STAT_PENDING = false ∧ (c.can n).txq = none ∧ (c.can n).txqStop = false ∧ ((txqFrame ws).isSome ∧ bad = 0)) : Prop)) 0 2 0 0 (live [put (pgCAN 2) Reg.HDR.PAGE_STAT_ENABLED 1, putFlag (pgOBJ 2 7) Reg.OBJ.OBJ_CFG_EN true, putFlag (pgOBJ 2 7) Reg.OBJ.OBJ_CFG_DIR true, putFlag (pgOBJ 2 7) Reg.OBJ.OBJ_CFG_TO_QUEUE true, putActive (pgQUE 9) Reg.QUE.QUE_CFG_CONS 0x32, modQue 9 fun x => { x with done := [⟨[3], 3⟩] }, memWord (cellAddr 3 1) 4])) ∧
    ((fun (dt : Nat) (n : Fin 6) (corr bad : Nat) (s : State) =>
      let c := s.chip.after dt
      let j := (c.txqObj n).getD 0
      let m := (c.queueOfCons (0x30 + n)).getD 0
      let p := pgOBJ n j
      (((c.txqObj n).isSome ∧ (c.queueOfCons (0x30 + n)).isSome ∧ (c.headWords m).isSome ∧ c.canLive n ∧ c.flag p Reg.OBJ.OBJ_STAT_PENDING = false ∧ (c.can n).txq = none ∧ (c.can n).txqStop = false ∧ bad ≠ 0) : Prop)) 0 2 3 1 (live [put (pgCAN 2) Reg.HDR.PAGE_STAT_ENABLED 1, putFlag (pgOBJ 2 7) Reg.OBJ.OBJ_CFG_EN true, putFlag (pgOBJ 2 7) Reg.OBJ.OBJ_CFG_DIR true, putFlag (pgOBJ 2 7) Reg.OBJ.OBJ_CFG_TO_QUEUE true, putActive (pgQUE 9) Reg.QUE.QUE_CFG_CONS 0x32, modQue 9 fun x => { x with done := [⟨[3], 3⟩] }, memWord (cellAddr 3 1) 4])) ∧
    ((fun (dt : Nat) (n : Fin 6) (corr bad : Nat) (s : State) =>
      let c := s.chip.after dt
      let j := (c.txqObj n).getD 0
      let m := (c.queueOfCons (0x30 + n)).getD 0
      let ws := (c.headWords m).getD []
      let p := pgOBJ n j
      (((c.txqObj n).isSome ∧ (c.queueOfCons (0x30 + n)).isSome ∧ (c.headWords m).isSome ∧ c.canLive n ∧ c.flag p Reg.OBJ.OBJ_STAT_PENDING = false ∧ (c.can n).txq = none ∧ (c.can n).txqStop = false ∧ txqFrame ws = none) : Prop)) 0 2 0 0 (live [put (pgCAN 2) Reg.HDR.PAGE_STAT_ENABLED 1, putFlag (pgOBJ 2 7) Reg.OBJ.OBJ_CFG_EN true, putFlag (pgOBJ 2 7) Reg.OBJ.OBJ_CFG_DIR true, putFlag (pgOBJ 2 7) Reg.OBJ.OBJ_CFG_TO_QUEUE true, putActive (pgQUE 9) Reg.QUE.QUE_CFG_CONS 0x32, modQue 9 fun x => { x with done := [⟨[3], 3⟩] }, memWord (cellAddr 3 1) 0x104])) :=
  ⟨by decide +kernel, by decide +kernel, by decide +kernel⟩

/-- BusErrorsRecoveryAndTimeMastering: canBusError can complete as stated, in each case. -/
theorem test_meets_BusErrorsRecoveryAndTimeMastering_canBusError :
    ((fun (dt : Nat) (n : Fin 6) (lec : Fin 8) (kind : CanErrorKind) (s : State) =>
      let c := s.chip.after dt
      let p := pgCAN n
      let passive := c.fld p Reg.CAN.ERR_STAT_STATE == 1
      let up := (match kind with | .receiver => (0, 1) | .receiverDominant => (0, 8) | .transmitter => (8, 0) | .ackAlone => (if passive then 0 else 8, 0) | .stuffArbitration => (0, 0) | .flagBit tx => (if tx then 8 else 0, if tx then 0 else 8) | .dominantRun tx => (if tx then 8 else 0, if tx then 0 else 8))
      let tec2 := c.fld p Reg.CAN.ERR_STAT_TEC + up.1
      ((c.canLive n ∧ c.canSynced n c.t ∧ 255 < tec2) : Prop)) 0 3 4 .transmitter (live [put (pgCAN 3) Reg.HDR.PAGE_STAT_ENABLED 1, put (pgCAN 3) Reg.CAN.ERR_STAT_TEC 250, putFlag (pgOBJ 3 7) Reg.OBJ.OBJ_STAT_PENDING true])) ∧
    ((fun (dt : Nat) (n : Fin 6) (lec : Fin 8) (kind : CanErrorKind) (s : State) =>
      let c := s.chip.after dt
      let p := pgCAN n
      let passive := c.fld p Reg.CAN.ERR_STAT_STATE == 1
      ((c.canLive n ∧ c.canSynced n c.t ∧ (kind = .ackAlone ∧ passive = true)) : Prop)) 0 3 4 .ackAlone (live [put (pgCAN 3) Reg.HDR.PAGE_STAT_ENABLED 1, put (pgCAN 3) Reg.CAN.ERR_STAT_STATE 1, put (pgCAN 3) Reg.CAN.ERR_STAT_TEC 252])) ∧
    ((fun (dt : Nat) (n : Fin 6) (lec : Fin 8) (kind : CanErrorKind) (s : State) =>
      let c := s.chip.after dt
      ((c.canLive n ∧ c.canSynced n c.t) : Prop)) 0 3 4 (.flagBit true) (live [put (pgCAN 3) Reg.HDR.PAGE_STAT_ENABLED 1, put (pgCAN 3) Reg.CAN.ERR_STAT_TEC 120])) :=
  ⟨by decide +kernel, by decide +kernel, by decide +kernel⟩

/-- BusErrorsRecoveryAndTimeMastering: canRecover can complete as stated, in each case. -/
theorem test_meets_BusErrorsRecoveryAndTimeMastering_canRecover :
    ((fun (dt : Nat) (src : Src) (n : Fin 6) (s : State) =>
      let c := s.chip.after dt
      let p := pgCAN n
      ((c.serves src p 0x050 true ∧ (c.fld p Reg.CAN.ERR_STAT_STATE = 2 ∧ (c.can n).stopAt ≠ some c.t)) : Prop)) 0 (.core .A 0) 4 (live [put (pgCAN 4) Reg.CAN.ERR_STAT_STATE 2])) ∧
    ((fun (dt : Nat) (src : Src) (n : Fin 6) (s : State) =>
      let c := s.chip.after dt
      let p := pgCAN n
      ((c.serves src p 0x050 true ∧ c.fld p Reg.CAN.ERR_STAT_STATE ≠ 2) : Prop)) 0 (.core .A 0) 4 (live [put (pgCAN 4) Reg.CAN.ERR_STAT_STATE 3])) ∧
    ((fun (dt : Nat) (src : Src) (n : Fin 6) (s : State) =>
      let c := s.chip.after dt
      let p := pgCAN n
      ((c.serves src p 0x050 true ∧ (c.fld p Reg.CAN.ERR_STAT_STATE = 2 ∧ (c.can n).stopAt = some c.t)) : Prop)) 0 (.core .A 0) 4 (live [put (pgCAN 4) Reg.CAN.ERR_STAT_STATE 2, modCan 4 fun x => { x with stopAt := some 0 }])) :=
  ⟨by decide +kernel, by decide +kernel, by decide +kernel⟩

/-- BusErrorsRecoveryAndTimeMastering: canRecovered can complete as stated. -/
theorem test_meets_BusErrorsRecoveryAndTimeMastering_canRecovered :
    (fun (dt : Nat) (n : Fin 6) (s : State) =>
      let c := s.chip.after dt
      let p := pgCAN n
      ((c.fld p Reg.CAN.ERR_STAT_STATE = 3 ∧ c.on p ∧ c.domainOn 10) : Prop)) 0 4 (live [put (pgCAN 4) Reg.CAN.ERR_STAT_STATE 3, put (pgCAN 4) Reg.CAN.ERR_STAT_TEC 255, put (pgCAN 4) Reg.HDR.PAGE_STAT_ENABLED 1]) := by
  decide +kernel

/-- BusErrorsRecoveryAndTimeMastering: refMsgDue can complete as stated, in each case. -/
theorem test_meets_BusErrorsRecoveryAndTimeMastering_refMsgDue :
    ((fun (dt : Nat) (n : Fin 6) (s : State) =>
      let c := s.chip.after dt
      let k := (c.can n).refNext.getD 0
      (((c.can n).refNext.isSome ∧ (c.can n).yield ≠ some k) : Prop)) 5 1 (live [modCan 1 fun x => { x with refNext := some 1000 }])) ∧
    ((fun (dt : Nat) (n : Fin 6) (s : State) =>
      let c := s.chip.after dt
      let k := (c.can n).refNext.getD 0
      (((c.can n).refNext.isSome ∧ (c.can n).yield = some k) : Prop)) 5 1 (live [modCan 1 fun x => { x with refNext := some 1000, yield := some 1000, refOffer := some (7, 7) }])) :=
  ⟨by decide +kernel, by decide +kernel⟩

/-- BusErrorsRecoveryAndTimeMastering: refMsgDrop can complete as stated. -/
theorem test_meets_BusErrorsRecoveryAndTimeMastering_refMsgDrop :
    (fun (dt : Nat) (n : Fin 6) (s : State) =>
      let c := s.chip.after dt
      (((c.can n).refOffer.isSome) : Prop)) 5 1 (live [modCan 1 fun x => { x with refOffer := some (7, 7) }]) := by
  decide +kernel

/-- BusErrorsRecoveryAndTimeMastering: ttWindowOpen can complete as stated. -/
theorem test_meets_BusErrorsRecoveryAndTimeMastering_ttWindowOpen :
    (fun (dt : Nat) (n : Fin 6) (j : Fin 128) (s : State) =>
      let c := s.chip.after dt
      let p := pgOBJ n j
      let ref := c.lastRef n
      let o := c.objOf n j
      ((c.canSends n ∧ o.armed ∧ ref ≠ 0 ∧ o.win ≠ some ref ∧ c.fld (pgCAN n) Reg.CAN.TT_STAT_CYCLE % 2 ^ c.fld p Reg.OBJ.OBJ_CYCLE_REP = c.fld p Reg.OBJ.OBJ_CYCLE_BASE) : Prop)) 5 1 127 (live [put (pgCAN 1) Reg.HDR.PAGE_STAT_ENABLED 1, putWide (pgCAN 1) Reg.CAN.LAST_REF_LO Reg.CAN.LAST_REF_HI 100, modObjOf 1 127 fun x => { x with armed := true }]) := by
  decide +kernel

/-- BusErrorsRecoveryAndTimeMastering: ttWindowEnd can complete as stated, in each case. -/
theorem test_meets_BusErrorsRecoveryAndTimeMastering_ttWindowEnd :
    ((fun (dt : Nat) (n : Fin 6) (j : Fin 128) (started : Bool) (s : State) =>
      let c := s.chip.after dt
      let p := pgOBJ n j
      let o := c.objOf n j
      let pend := c.flag p Reg.OBJ.OBJ_STAT_PENDING
      ((o.win.isSome ∧ o.winOpen ∧ (pend ∧ started = false)) : Prop)) 5 1 127 false (live [modObjOf 1 127 fun x => { x with win := some 3, winOpen := true }, putFlag (pgOBJ 1 127) Reg.OBJ.OBJ_STAT_PENDING true])) ∧
    ((fun (dt : Nat) (n : Fin 6) (j : Fin 128) (started : Bool) (s : State) =>
      let c := s.chip.after dt
      let p := pgOBJ n j
      let o := c.objOf n j
      let pend := c.flag p Reg.OBJ.OBJ_STAT_PENDING
      ((o.win.isSome ∧ o.winOpen ∧ (pend ∧ started)) : Prop)) 5 1 127 true (live [modObjOf 1 127 fun x => { x with win := some 3, winOpen := true }, putFlag (pgOBJ 1 127) Reg.OBJ.OBJ_STAT_PENDING true])) ∧
    ((fun (dt : Nat) (n : Fin 6) (j : Fin 128) (started : Bool) (s : State) =>
      let c := s.chip.after dt
      let p := pgOBJ n j
      let o := c.objOf n j
      let pend := c.flag p Reg.OBJ.OBJ_STAT_PENDING
      ((o.win.isSome ∧ o.winOpen ∧ pend = false) : Prop)) 5 1 127 true (live [modObjOf 1 127 fun x => { x with win := some 3, winOpen := true }])) :=
  ⟨by decide +kernel, by decide +kernel, by decide +kernel⟩

/-- EthernetCarriesFramesAndTime: ethRxFrame can complete as stated, in each case. -/
theorem test_meets_EthernetCarriesFramesAndTime_ethRxFrame :
    ((fun (dt : Nat) (n : Fin 2) (stamp : Nat) (good : Bool) (bs : List Byte) (s : State) =>
      let c := s.chip.after dt
      let code := 0x28 + n.val
      let bad := !good || decide (bs.length < 60) || decide (1518 < bs.length)
      let drop := etherType bs == 0x8808 || !c.etherDest n bs
      let x := c.port code
      let room := (c.queueOfProd code).isSome && decide (x.frames.length < 8)
      ((c.etherLive n ∧ c.etherBoots n = false ∧ (bad = false ∧ drop = false) ∧ (bad = false ∧ drop = false ∧ room = true)) : Prop)) 0 1 500 true (List.replicate 60 255) (live [put (pgETH 1) Reg.HDR.PAGE_STAT_ENABLED 1, putActive (pgQUE 3) Reg.QUE.QUE_CFG_PROD 0x29])) ∧
    ((fun (dt : Nat) (n : Fin 2) (stamp : Nat) (good : Bool) (bs : List Byte) (s : State) =>
      let c := s.chip.after dt
      let code := 0x28 + n.val
      let bad := !good || decide (bs.length < 60) || decide (1518 < bs.length)
      let drop := etherType bs == 0x8808 || !c.etherDest n bs
      let x := c.port code
      let room := (c.queueOfProd code).isSome && decide (x.frames.length < 8)
      ((c.etherLive n ∧ c.etherBoots n = false ∧ (bad = false ∧ drop = false) ∧ (bad = false ∧ drop = false ∧ room = false)) : Prop)) 0 1 500 true (List.replicate 60 255) (live [put (pgETH 1) Reg.HDR.PAGE_STAT_ENABLED 1])) ∧
    ((fun (dt : Nat) (n : Fin 2) (stamp : Nat) (good : Bool) (bs : List Byte) (s : State) =>
      let c := s.chip.after dt
      let bad := !good || decide (bs.length < 60) || decide (1518 < bs.length)
      let drop := etherType bs == 0x8808 || !c.etherDest n bs
      ((c.etherLive n ∧ c.etherBoots n = false ∧ (bad = false ∧ drop = true)) : Prop)) 0 1 500 true (List.replicate 60 7) (live [put (pgETH 1) Reg.HDR.PAGE_STAT_ENABLED 1])) ∧
    ((fun (dt : Nat) (n : Fin 2) (stamp : Nat) (good : Bool) (bs : List Byte) (s : State) =>
      let c := s.chip.after dt
      let bad := !good || decide (bs.length < 60) || decide (1518 < bs.length)
      ((c.etherLive n ∧ c.etherBoots n = false ∧ bad = true) : Prop)) 0 0 500 true [] (live [put (pgETH 0) Reg.HDR.PAGE_STAT_ENABLED 1])) :=
  ⟨by decide +kernel, by decide +kernel, by decide +kernel, by decide +kernel⟩

/-- EthernetCarriesFramesAndTime: ethTxFrame can complete as stated, in each case. -/
theorem test_meets_EthernetCarriesFramesAndTime_ethTxFrame :
    ((fun (dt : Nat) (n : Fin 2) (stamp : Nat) (fine : Fin 8) (corr bad : Nat) (s : State) =>
      let c := s.chip.after dt
      let m := (c.queueOfCons (0x38 + n.val)).getD 0
      let ws := (c.headWords m).getD []
      (((c.queueOfCons (0x38 + n.val)).isSome ∧ (c.headWords m).isSome ∧ c.etherLive n ∧ txValid ws = false) : Prop)) 0 1 500 0 0 0 (live [put (pgETH 1) Reg.HDR.PAGE_STAT_ENABLED 1, putActive (pgQUE 3) Reg.QUE.QUE_CFG_CONS 0x39, modQue 3 fun x => { x with done := [⟨[7], 5⟩] }, memWord (cellAddr 7 1) 0x1810])) ∧
    ((fun (dt : Nat) (n : Fin 2) (stamp : Nat) (fine : Fin 8) (corr bad : Nat) (s : State) =>
      let c := s.chip.after dt
      let m := (c.queueOfCons (0x38 + n.val)).getD 0
      let ws := (c.headWords m).getD []
      (((c.queueOfCons (0x38 + n.val)).isSome ∧ (c.headWords m).isSome ∧ c.etherLive n ∧ txValid ws = false ∧ bad ≠ 0) : Prop)) 0 1 500 0 1 2 (live [put (pgETH 1) Reg.HDR.PAGE_STAT_ENABLED 1, putActive (pgQUE 3) Reg.QUE.QUE_CFG_CONS 0x39, modQue 3 fun x => { x with done := [⟨[7], 5⟩] }, memWord (cellAddr 7 1) 0x1810])) ∧
    ((fun (dt : Nat) (n : Fin 2) (stamp : Nat) (fine : Fin 8) (corr bad : Nat) (s : State) =>
      let c := s.chip.after dt
      let m := (c.queueOfCons (0x38 + n.val)).getD 0
      let ws := (c.headWords m).getD []
      let w := ws.getD 0 0
      (((c.queueOfCons (0x38 + n.val)).isSome ∧ (c.headWords m).isSome ∧ c.etherLive n ∧ (txValid ws = true ∧ bad = 0) ∧ (txValid ws = true ∧ bad = 0 ∧ w.getLsbD 11)) : Prop)) 0 1 500 0 0 0 (live [put (pgETH 1) Reg.HDR.PAGE_STAT_ENABLED 1, putActive (pgQUE 3) Reg.QUE.QUE_CFG_CONS 0x39, modQue 3 fun x => { x with done := [⟨[7], 5⟩] }, memWord (cellAddr 7 1) 0x0810])) ∧
    ((fun (dt : Nat) (n : Fin 2) (stamp : Nat) (fine : Fin 8) (corr bad : Nat) (s : State) =>
      let c := s.chip.after dt
      let m := (c.queueOfCons (0x38 + n.val)).getD 0
      let ws := (c.headWords m).getD []
      (((c.queueOfCons (0x38 + n.val)).isSome ∧ (c.headWords m).isSome ∧ c.etherLive n ∧ txValid ws = false) : Prop)) 0 1 500 0 0 0 (live [put (pgETH 1) Reg.HDR.PAGE_STAT_ENABLED 1, putActive (pgQUE 3) Reg.QUE.QUE_CFG_CONS 0x39, modQue 3 fun x => { x with done := [⟨[7], 5⟩] }])) :=
  ⟨by decide +kernel, by decide +kernel, by decide +kernel, by decide +kernel⟩

/-- EthernetCarriesFramesAndTime: ethLinkChange can complete as stated. -/
theorem test_meets_EthernetCarriesFramesAndTime_ethLinkChange :
    (fun (dt : Nat) (n : Fin 2) (up : Bool) (s : State) =>
      let c := s.chip.after dt
      let p := pgETH n
      let was := c.flag p Reg.ETH.ETH_STAT_LINK
      ((was ≠ up ∧ (was = false ∧ up)) : Prop)) 0 0 true (live []) := by
  decide +kernel

/-- EthernetCarriesFramesAndTime: syncApply can complete as stated, in each case. -/
theorem test_meets_EthernetCarriesFramesAndTime_syncApply :
    ((fun (dt : Nat) (src : Src) (n : Fin 2) (s : State) =>
      let c := s.chip.after dt
      let p := pgETH n
      let tide := c.wide p Reg.ETH.SYNC_TIDE_LO Reg.ETH.SYNC_TIDE_HI
      let owns := (match src with | .core q _ => c.owner == some q | _ => false)
      let stale := (c.eth n).sync.any fun x => decide (tide ≤ x)
      let here := decide (c.act pgTIDE Reg.TIDE.REF_CTRL_GPTP_PORT = n.val)
      ((c.serves src p 0x070 true ∧ (owns = true ∧ stale = false) ∧ (owns = true ∧ stale = false ∧ here = true)) : Prop)) 0 (.core .A 2) 0 (live [put (pgETH 0) Reg.ETH.SYNC_TIDE_LO 5000])) ∧
    ((fun (dt : Nat) (src : Src) (n : Fin 2) (s : State) =>
      let c := s.chip.after dt
      let p := pgETH n
      let tide := c.wide p Reg.ETH.SYNC_TIDE_LO Reg.ETH.SYNC_TIDE_HI
      let owns := (match src with | .core q _ => c.owner == some q | _ => false)
      let stale := (c.eth n).sync.any fun x => decide (tide ≤ x)
      let here := decide (c.act pgTIDE Reg.TIDE.REF_CTRL_GPTP_PORT = n.val)
      ((c.serves src p 0x070 true ∧ (owns = true ∧ stale = true) ∧ (¬ (owns = true ∧ stale = false ∧ here = true))) : Prop)) 0 (.core .A 2) 1 (live [put (pgETH 1) Reg.ETH.SYNC_TIDE_LO 5000, modEth 1 fun x => { x with sync := some 5000 }])) ∧
    ((fun (dt : Nat) (src : Src) (n : Fin 2) (s : State) =>
      let c := s.chip.after dt
      let p := pgETH n
      let tide := c.wide p Reg.ETH.SYNC_TIDE_LO Reg.ETH.SYNC_TIDE_HI
      let owns := (match src with | .core q _ => c.owner == some q | _ => false)
      let stale := (c.eth n).sync.any fun x => decide (tide ≤ x)
      let here := decide (c.act pgTIDE Reg.TIDE.REF_CTRL_GPTP_PORT = n.val)
      ((c.serves src p 0x070 true ∧ owns = false ∧ (¬ (owns = true ∧ stale = false ∧ here = true))) : Prop)) 0 (.core .B 2) 0 (live [put (pgETH 0) Reg.ETH.SYNC_TIDE_LO 5000])) :=
  ⟨by decide +kernel, by decide +kernel, by decide +kernel⟩

/-- TheBootVerifiesLoadsAndReleases: bootStart can complete as stated, in each case. -/
theorem test_meets_TheBootVerifiesLoadsAndReleases_bootStart :
    ((fun (dt : Nat) (img : BootImage) (s : State) =>
      let c := s.chip.after dt
      let eth := c.bootSrc == 2
      let h := if eth then headerOf c.bootSt.image else img.header
      let off := ((sectOf h 1).map fun s => sectField h s 1).getD 0
      let scb := if eth then leWords (bytesAt c.bootSt.image off 512) else img.scb
      let copy := if eth then 2 else c.bootSt.copy
      let r := c.headerResult img h
      let pass := decide (r = 0) && decide (scb.length = 128) && decide (sha256 (leBytes scb) = ((sectOf h 1).map fun s => sectDigest h s).getD [])
      ((c.tideOn ∧ c.bootSrc ≠ 3 ∧ (c.bootSt.phase = .idle ∨ c.bootSt.phase = .copyB) ∧ (eth = true → (528 ≤ c.bootSt.image.length ∧ off + 512 ≤ c.bootSt.image.length)) ∧ pass = false ∧ (pass = false ∧ copy = 0)) : Prop)) 0 ⟨true, [0x6410B001], []⟩ (live [])) ∧
    ((fun (dt : Nat) (img : BootImage) (s : State) =>
      let c := s.chip.after dt
      let eth := c.bootSrc == 2
      let h := if eth then headerOf c.bootSt.image else img.header
      let off := ((sectOf h 1).map fun s => sectField h s 1).getD 0
      let scb := if eth then leWords (bytesAt c.bootSt.image off 512) else img.scb
      let r := c.headerResult img h
      let pass := decide (r = 0) && decide (scb.length = 128) && decide (sha256 (leBytes scb) = ((sectOf h 1).map fun s => sectDigest h s).getD [])
      ((c.tideOn ∧ c.bootSrc ≠ 3 ∧ (c.bootSt.phase = .idle ∨ c.bootSt.phase = .copyB) ∧ (eth = true → (528 ≤ c.bootSt.image.length ∧ off + 512 ≤ c.bootSt.image.length)) ∧ pass = true) : Prop)) 0 ⟨true, bootWords, List.replicate 128 0⟩ (live [])) :=
  ⟨by decide +kernel, by decide +kernel⟩

/-- TheBootVerifiesLoadsAndReleases: bootLoad can complete as stated, in each case. -/
theorem test_meets_TheBootVerifiesLoadsAndReleases_bootLoad :
    ((fun (dt : Nat) (readOk : Bool) (bytes : List Byte) (s : State) =>
      let c := s.chip.after dt
      let b := c.bootSt
      let h := b.header
      let bs := if b.copy = 2 then ((sectOf h 2).map fun s => bytesAt b.image (sectField h s 1) (sectField h s 2)).getD [] else bytes
      let readable := readOk && !c.regionDown 5
      let pass := quaySectionOk h readable bs
      ((b.phase = .header ∧ c.leftBist .A ∧ c.leftBist .B ∧ (b.copy = 2 → imageLength h ≤ b.image.length) ∧ pass = false) : Prop)) 0 true [1, 2, 3] (live [modBootS (fun x => { x with phase := .header, header := List.replicate 132 0 }), put (pgQCTL .A) Reg.QCTL.Q_STAT_QSTATE 4, put (pgQCTL .B) Reg.QCTL.Q_STAT_QSTATE 5])) ∧
    ((fun (dt : Nat) (readOk : Bool) (bytes : List Byte) (s : State) =>
      let c := s.chip.after dt
      let b := c.bootSt
      let h := b.header
      let bs := if b.copy = 2 then ((sectOf h 2).map fun s => bytesAt b.image (sectField h s 1) (sectField h s 2)).getD [] else bytes
      let readable := readOk && !c.regionDown 5
      let pass := quaySectionOk h readable bs
      ((b.phase = .header ∧ c.leftBist .A ∧ c.leftBist .B ∧ (b.copy = 2 → imageLength h ≤ b.image.length) ∧ pass = true ∧ (pass = true ∧ quayLoad h + bs.length ≤ 0x00800000) ∧ (pass = true ∧ b.copy ≠ 2)) : Prop)) 0 true [] (live [modBootS (fun x => { x with phase := .header, header := ((List.replicate 132 0).set 3 1).set 20 2 }), put (pgQCTL .A) Reg.QCTL.Q_STAT_QSTATE 4, put (pgQCTL .B) Reg.QCTL.Q_STAT_QSTATE 5, modBootS (fun x => { x with header := x.header.take 24 ++ [0x42c4b0e3, 0x141cfc98, 0xc8f4fb9a, 0x24b96f99, 0xe441ae27, 0x4c939b64, 0x1b9995a4, 0x55b85278] ++ x.header.drop 32 })])) :=
  ⟨by decide +kernel, by decide +kernel⟩

/-- TheBootVerifiesLoadsAndReleases: bootFail can complete as stated. -/
theorem test_meets_TheBootVerifiesLoadsAndReleases_bootFail :
    (fun (dt : Nat) (s : State) =>
      let c := s.chip.after dt
      (((c.bootSt.phase = .failed ∨ (c.tideOn ∧ c.bootSt.phase = .idle ∧ c.bootSrc = 3))) : Prop)) 0 (live [modBootS fun x => { x with phase := .failed, released := [0] }]) := by
  decide +kernel

/-- TheBootVerifiesLoadsAndReleases: bootEthFrame can complete as stated, in each case. -/
theorem test_meets_TheBootVerifiesLoadsAndReleases_bootEthFrame :
    ((fun (dt : Nat) (dest : BitVec 48) (etype : BitVec 16) (off : Word) (bs : List Byte) (s : State) =>
      let c := s.chip.after dt
      let b := c.bootSt
      let open_ := c.tideOn && c.bootSrc == 2 && (b.phase == .idle || b.phase == .header)
      let fits := dest == 0x020064100000#48 && etype == 0x88B5#16 && decide (1 ≤ bs.length) && decide (bs.length ≤ 1024) && off.toNat == b.image.length
      (((open_ = true ∧ fits = true)) : Prop)) 0 0x020064100000 0x88B5 3 [9] (live [.prim (.strap 2), modBootS fun x => { x with image := [1, 2, 3] }])) ∧
    ((fun (dt : Nat) (dest : BitVec 48) (etype : BitVec 16) (off : Word) (bs : List Byte) (s : State) =>
      let c := s.chip.after dt
      let b := c.bootSt
      let open_ := c.tideOn && c.bootSrc == 2 && (b.phase == .idle || b.phase == .header)
      let fits := dest == 0x020064100000#48 && etype == 0x88B5#16 && decide (1 ≤ bs.length) && decide (bs.length ≤ 1024) && off.toNat == b.image.length
      (((¬ (open_ = true ∧ fits = true))) : Prop)) 0 0x020064100000 0x88B5 4 [9] (live [.prim (.strap 2), modBootS fun x => { x with image := [1, 2, 3] }])) :=
  ⟨by decide +kernel, by decide +kernel⟩

/-- TheBootVerifiesLoadsAndReleases: bootEthTimeout can complete as stated. -/
theorem test_meets_TheBootVerifiesLoadsAndReleases_bootEthTimeout :
    (fun (dt : Nat) (s : State) =>
      let c := s.chip.after dt
      let h := headerOf c.bootSt.image
      ((c.bootSt.ethAt.isSome ∧ (c.bootSt.phase = .idle ∨ c.bootSt.phase = .header) ∧ (h.length ≠ 132 ∨ c.bootSt.image.length < imageLength h)) : Prop)) 5 (live [modBootS fun x => { x with ethAt := some 7 }]) := by
  decide +kernel

/-- TheBootVerifiesLoadsAndReleases: quayReload can complete as stated. -/
theorem test_meets_TheBootVerifiesLoadsAndReleases_quayReload :
    (fun (dt : Nat) (q : Quay) (s : State) =>
      let c := s.chip.after dt
      let b := c.bootSt
      ((b.phase = .done ∧ b.due.contains q.idx ∧ c.leftBist q ∧ c.qstate q ≠ 5) : Prop)) 0 .B (live [modBootS (fun x => { x with phase := .done, released := [0], due := [1] }), put (pgQCTL .B) Reg.QCTL.Q_STAT_QSTATE 2]) := by
  decide +kernel

/-- TheBootVerifiesLoadsAndReleases: quayReloadDone can complete as stated, in each case. -/
theorem test_meets_TheBootVerifiesLoadsAndReleases_quayReloadDone :
    ((fun (dt : Nat) (img : BootImage) (bs : List Byte) (s : State) =>
      let c := s.chip.after dt
      let b := c.bootSt
      let i := b.reloads.head?.getD 0
      let h := b.header
      let pass := c.headerResult img img.header == 0 && img.header == h && quaySectionOk h img.readOk bs && !c.regionDown i
      ((b.reloads ≠ [] ∧ b.cmd = false ∧ pass = false) : Prop)) 0 ⟨true, [0x6410B001], []⟩ [1, 2] (live [modBootS fun x => { x with phase := .done, released := [1], reloads := [0, 1] }])) ∧
    ((fun (dt : Nat) (img : BootImage) (bs : List Byte) (s : State) =>
      let c := s.chip.after dt
      let b := c.bootSt
      let i := b.reloads.head?.getD 0
      let h := b.header
      let pass := c.headerResult img img.header == 0 && img.header == h && quaySectionOk h img.readOk bs && !c.regionDown i
      ((b.reloads ≠ [] ∧ b.cmd = false ∧ pass = true) : Prop)) 0 ⟨true, bootWords, []⟩ [] (live [modBootS (fun x => { x with phase := .done, released := [1], reloads := [0] }), modBootS fun x => { x with header := bootWords }])) :=
  ⟨by decide +kernel, by decide +kernel⟩

/-- FusesFlashAndDebugAreGuarded: rollbackBurn can complete as stated, in each case. -/
theorem test_meets_FusesFlashAndDebugAreGuarded_rollbackBurn :
    ((fun (dt : Nat) (src : Src) (s : State) =>
      let c := s.chip.after dt
      ((c.serves src pgXSP 0x048 true ∧ c.windowHeld pgXSP src ∧ c.allSto = true) : Prop)) 0 (.core .A 0) (live [modPst pgXSP fun x => { x with holder := some (0, 0) }, put pgXSP Reg.XSP.BOOT_STAT_ROLLBACK 5])) ∧
    ((fun (dt : Nat) (src : Src) (s : State) =>
      let c := s.chip.after dt
      ((c.serves src pgXSP 0x048 true ∧ c.windowHeld pgXSP src ∧ c.allSto = false) : Prop)) 0 (.core .A 0) (live [modPst pgXSP (fun x => { x with holder := some (0, 0) }), put pgSAF Reg.SAF.FUNC_STAT_STATE 0 3])) :=
  ⟨by decide +kernel, by decide +kernel⟩

/-- FusesFlashAndDebugAreGuarded: revoke can complete as stated, in each case. -/
theorem test_meets_FusesFlashAndDebugAreGuarded_revoke :
    ((fun (dt : Nat) (src : Src) (mask : BitVec 4) (s : State) =>
      let c := s.chip.after dt
      let own := decide (c.bootSt.phase = .done) && mask.getLsbD c.bootSt.slot
      ((c.serves src pgXSP 0x048 true ∧ c.windowHeld pgXSP src ∧ (c.allSto = true ∧ own = false)) : Prop)) 0 (.core .A 0) 6 (live [modPst pgXSP fun x => { x with holder := some (0, 0) }])) ∧
    ((fun (dt : Nat) (src : Src) (mask : BitVec 4) (s : State) =>
      let c := s.chip.after dt
      let own := decide (c.bootSt.phase = .done) && mask.getLsbD c.bootSt.slot
      ((c.serves src pgXSP 0x048 true ∧ c.windowHeld pgXSP src ∧ (c.allSto = false ∨ own = true)) : Prop)) 0 (.core .A 0) 6 (live [modPst pgXSP fun x => { x with holder := some (0, 0) }, modBootS fun x => { x with phase := .done, slot := 2 }])) :=
  ⟨by decide +kernel, by decide +kernel⟩

/-- FusesFlashAndDebugAreGuarded: xspGo can complete as stated, in each case. -/
theorem test_meets_FusesFlashAndDebugAreGuarded_xspGo :
    ((fun (dt : Nat) (src : Src) (s : State) =>
      let c := s.chip.after dt
      let b := c.bootSt
      ((c.serves src pgXSP 0x054 true ∧ (b.cmd = false ∧ b.cmdWait = false ∧ c.xspProtected = false)) : Prop)) 0 (.core .A 0) (live [modBootS fun x => { x with reloads := [1] }])) ∧
    ((fun (dt : Nat) (src : Src) (s : State) =>
      let c := s.chip.after dt
      let b := c.bootSt
      ((c.serves src pgXSP 0x054 true ∧ (b.cmd = false ∧ b.cmdWait = false ∧ c.xspProtected)) : Prop)) 0 (.core .A 0) (live [put pgXSP Reg.XSP.XSP_CMD_HAS_ADDR 1, modBootS fun x => { x with phase := .done, header := (List.replicate 132 0).set 1 64 }])) ∧
    ((fun (dt : Nat) (src : Src) (s : State) =>
      let c := s.chip.after dt
      let b := c.bootSt
      ((c.serves src pgXSP 0x054 true ∧ (b.cmd ∨ b.cmdWait)) : Prop)) 0 (.core .A 0) (live [modBootS fun x => { x with cmd := true }])) :=
  ⟨by decide +kernel, by decide +kernel, by decide +kernel⟩

/-- FusesFlashAndDebugAreGuarded: xspCmdDone can complete as stated, in each case. -/
theorem test_meets_FusesFlashAndDebugAreGuarded_xspCmdDone :
    ((fun (dt : Nat) (data : List Byte) (s : State) =>
      let c := s.chip.after dt
      let n := Nat.min (c.bootSt.issued.1.bits 24 7) 64
      let wr := c.bootSt.issued.1.getLsbD 23
      ((c.bootSt.cmd ∧ (wr = false ∧ n ≤ data.length)) : Prop)) 0 [1, 2, 3, 4, 5] (live [modBootS fun x => { x with cmd := true, issued := (0x05000000, 0, []) }])) ∧
    ((fun (dt : Nat) (data : List Byte) (s : State) =>
      let c := s.chip.after dt
      let wr := c.bootSt.issued.1.getLsbD 23
      ((c.bootSt.cmd ∧ wr = true) : Prop)) 0 [1, 2, 3, 4, 5] (live [modBootS fun x => { x with cmd := true, issued := (0x05800000, 0, []) }])) :=
  ⟨by decide +kernel, by decide +kernel⟩

/-- FusesFlashAndDebugAreGuarded: debugPortOpen can complete as stated. -/
theorem test_meets_FusesFlashAndDebugAreGuarded_debugPortOpen :
    (fun (dt : Nat) (s : State) =>
      let c := s.chip.after dt
      let open_ := c.strap.getLsbD 11 && c.sealOk && c.domainOn 13
      (((open_ = true ∧ c.flag pgDBG Reg.DBG.DBG_STAT_PORT_OPEN = false)) : Prop)) 0 (live [.prim (.strap 0x800), modBootS fun x => { x with phase := .hold }, put pgDBG Reg.DBG.DBG_ATTACH 4]) := by
  decide +kernel

/-- FusesFlashAndDebugAreGuarded: dbgAttach can complete as stated, in each case. -/
theorem test_meets_FusesFlashAndDebugAreGuarded_dbgAttach :
    ((fun (dt : Nat) (src : Src) (core : Fin 8) (s : State) =>
      let c := s.chip.after dt
      let no := src != .debug || (!c.split && core.val % 2 == 1)
      ((c.serves src pgDBG 0x04C true ∧ no = false ∧ (no = false ∧ c.fld pgDBG Reg.DBG.DBG_ATTACH ≠ core.val)) : Prop)) 0 .debug 6 (live [.prim (.strap 0x800), put pgPWR Reg.PWR.DOM_STAT 0x3FFF, modSeqS (fun s => { s with on := 0x3FFF, good := 0x3FFF }), putFlag pgDBG Reg.DBG.DBG_STAT_PORT_OPEN true])) ∧
    ((fun (dt : Nat) (src : Src) (core : Fin 8) (s : State) =>
      let c := s.chip.after dt
      let no := src != .debug || (!c.split && core.val % 2 == 1)
      ((c.serves src pgDBG 0x04C true ∧ no = true) : Prop)) 0 .debug 5 (live [.prim (.strap 0x800), put pgPWR Reg.PWR.DOM_STAT 0x3FFF, modSeqS (fun s => { s with on := 0x3FFF, good := 0x3FFF }), putFlag pgDBG Reg.DBG.DBG_STAT_PORT_OPEN true])) :=
  ⟨by decide +kernel, by decide +kernel⟩

/-- FusesFlashAndDebugAreGuarded: scanInstruction can complete as stated. -/
theorem test_meets_FusesFlashAndDebugAreGuarded_scanInstruction :
    (fun (dt : Nat) (ins : Fin 3) (s : State) =>
      let c := s.chip.after dt
      ((True) : Prop)) 0 2 (live [putFlag pgDBG Reg.DBG.DBG_STAT_PORT_OPEN true]) := by
  decide +kernel

/-- FusesFlashAndDebugAreGuarded: tapReset can complete as stated. -/
theorem test_meets_FusesFlashAndDebugAreGuarded_tapReset :
    (fun (dt : Nat) (s : State) =>
      let c := s.chip.after dt
      ((True) : Prop)) 0 (live [.prim (.dbgS ⟨3⟩)]) := by
  decide +kernel

/-- PowerOnResetStrapsAndSequencer: porAssert can complete as stated, in each case. -/
theorem test_meets_PowerOnResetStrapsAndSequencer_porAssert :
    ((fun (dt : Nat) (k : Fin 5) (s : State) =>
      let c := s.chip.after dt
      ((k.val ≠ 0) : Prop)) 0 4 (live [put pgRST Reg.RST.RST_CAUSE_COLD 1])) ∧
    ((fun (dt : Nat) (k : Fin 5) (s : State) =>
      let c := s.chip.after dt
      ((k.val = 0) : Prop)) 0 0 (live [put pgRST Reg.RST.POR_CNT 7])) :=
  ⟨by decide +kernel, by decide +kernel⟩

/-- PowerOnResetStrapsAndSequencer: strapLatch can complete as stated, in each case. -/
theorem test_meets_PowerOnResetStrapsAndSequencer_strapLatch :
    ((fun (dt : Nat) (last unstable : BitVec 16) (s : State) =>
      let c := s.chip.after dt
      let n := c.seqSt.tries
      ((c.seqSt.released = none ∧ c.seqSt.latched = false ∧ (unstable = 0 ∨ 3 ≤ n)) : Prop)) 0 0x0304 0 (live [modSeqS fun s => { s with tries := 2 }])) ∧
    ((fun (dt : Nat) (last unstable : BitVec 16) (s : State) =>
      let c := s.chip.after dt
      let n := c.seqSt.tries
      ((c.seqSt.released = none ∧ c.seqSt.latched = false ∧ (unstable ≠ 0 ∧ n < 3)) : Prop)) 0 0x0304 8 (live [modSeqS fun s => { s with tries := 2 }])) ∧
    ((fun (dt : Nat) (last unstable : BitVec 16) (s : State) =>
      let c := s.chip.after dt
      let n := c.seqSt.tries
      ((c.seqSt.released = none ∧ c.seqSt.latched = false ∧ (unstable = 0 ∨ 3 ≤ n)) : Prop)) 0 0x0304 8 (live [modSeqS fun s => { s with tries := 3 }])) :=
  ⟨by decide +kernel, by decide +kernel, by decide +kernel⟩

/-- PowerOnResetStrapsAndSequencer: strapChanged can complete as stated. -/
theorem test_meets_PowerOnResetStrapsAndSequencer_strapChanged :
    (fun (dt : Nat) (live : BitVec 16) (s : State) =>
      let c := s.chip.after dt
      ((live ≠ c.strap) : Prop)) 0 5 (live []) := by
  decide +kernel

/-- PowerOnResetStrapsAndSequencer: porRelease can complete as stated. -/
theorem test_meets_PowerOnResetStrapsAndSequencer_porRelease :
    (fun (dt : Nat) (s : State) =>
      let c := s.chip.after dt
      ((c.seqSt.released = none ∧ c.seqSt.latched) : Prop)) 5000000 (live [modSeqS fun s => { s with latched := true }]) := by
  decide +kernel

/-- PowerOnResetStrapsAndSequencer: seqDomainOn can complete as stated, in each case. -/
theorem test_meets_PowerOnResetStrapsAndSequencer_seqDomainOn :
    ((fun (dt : Nat) (good : Bool) (us : Fin 101) (s : State) =>
      let c := s.chip.after dt
      let k := c.seqSt.order.head?.getD 14
      let waits := decide (k = 5) && !c.flag pgCLK Reg.CLK.CLK_STAT_XTAL_OK
      let met := c.needsMet k
      ((k < 14 ∧ (waits = false ∧ met ∧ good)) : Prop)) 0 true 20 (live [domsOn 3, domsGood 3, put pgCLK Reg.CLK.CLK_STAT_XTAL_OK 1, modSeqS fun s => { s with order := [5, 10] }])) ∧
    ((fun (dt : Nat) (good : Bool) (us : Fin 101) (s : State) =>
      let c := s.chip.after dt
      let k := c.seqSt.order.head?.getD 14
      let waits := decide (k = 5) && !c.flag pgCLK Reg.CLK.CLK_STAT_XTAL_OK
      let met := c.needsMet k
      ((k < 14 ∧ (waits = false ∧ met ∧ good = false ∧ k ≠ 1 ∧ k ≠ 5)) : Prop)) 0 false 20 (live [domsOn 0x23, domsGood 0x23, modSeqS fun s => { s with order := [10, 11] }])) ∧
    ((fun (dt : Nat) (good : Bool) (us : Fin 101) (s : State) =>
      let c := s.chip.after dt
      let k := c.seqSt.order.head?.getD 14
      let waits := decide (k = 5) && !c.flag pgCLK Reg.CLK.CLK_STAT_XTAL_OK
      ((k < 14 ∧ waits = true) : Prop)) 0 true 20 (live [domsOn 3, domsGood 3, put pgCLK Reg.CLK.CLK_STAT_XTAL_OK 0, modSeqS fun s => { s with order := [5, 10] }])) ∧
    ((fun (dt : Nat) (good : Bool) (us : Fin 101) (s : State) =>
      let c := s.chip.after dt
      let k := c.seqSt.order.head?.getD 14
      let waits := decide (k = 5) && !c.flag pgCLK Reg.CLK.CLK_STAT_XTAL_OK
      let met := c.needsMet k
      ((k < 14 ∧ (waits = false ∧ met = false)) : Prop)) 0 true 20 (live [domsOn 3, domsGood 3, modSeqS fun s => { s with order := [10, 11] }])) ∧
    ((fun (dt : Nat) (good : Bool) (us : Fin 101) (s : State) =>
      let c := s.chip.after dt
      let k := c.seqSt.order.head?.getD 14
      let waits := decide (k = 5) && !c.flag pgCLK Reg.CLK.CLK_STAT_XTAL_OK
      let met := c.needsMet k
      ((k < 14 ∧ (waits = false ∧ met ∧ good = false ∧ (k = 1 ∨ k = 5))) : Prop)) 0 false 20 (live [domsOn 3, domsGood 3, put pgCLK Reg.CLK.CLK_STAT_XTAL_OK 1, modSeqS fun s => { s with order := [5, 10] }])) :=
  ⟨by decide +kernel, by decide +kernel, by decide +kernel, by decide +kernel, by decide +kernel⟩

/-- PowerOnResetStrapsAndSequencer: seqRetry can complete as stated. -/
theorem test_meets_PowerOnResetStrapsAndSequencer_seqRetry :
    (fun (dt : Nat) (s : State) =>
      let c := s.chip.after dt
      (((c.seqSt.order.head? = some 1 ∨ c.seqSt.order.head? = some 5)) : Prop)) 0 (live [modSeqS fun s => { s with order := [5, 10] }]) := by
  decide +kernel

/-- PowerOnResetStrapsAndSequencer: tideStart can complete as stated. -/
theorem test_meets_PowerOnResetStrapsAndSequencer_tideStart :
    (fun (dt : Nat) (s : State) =>
      let c := s.chip.after dt
      ((c.seqSt.released.isSome ∧ c.tideOn = false ∧ c.seqSt.order = []) : Prop)) 0 (live [.prim (.tideRun false), domsGood 0x3FF7, put pgPWR Reg.PWR.DOM_FAULT 8, modSeqS fun s => { s with released := some 0 }]) := by
  decide +kernel

/-- PowerOnResetStrapsAndSequencer: sysReset can complete as stated, in each case. -/
theorem test_meets_PowerOnResetStrapsAndSequencer_sysReset :
    ((fun (dt : Nat) (src : Src) (s : State) =>
      let c := s.chip.after dt
      let ok := c.windowHeld pgRST src && c.allSto
      ((c.serves src pgRST 0x048 true ∧ (ok = true ∧ c.seqSt.sysReset = none)) : Prop)) 0 (.core .A 0) (live [modPst pgRST fun x => { x with holder := some (0, 0) }])) ∧
    ((fun (dt : Nat) (src : Src) (s : State) =>
      let c := s.chip.after dt
      let ok := c.windowHeld pgRST src && c.allSto
      ((c.serves src pgRST 0x048 true ∧ ok = false) : Prop)) 0 (.core .A 0) (live [])) ∧
    ((fun (dt : Nat) (src : Src) (s : State) =>
      let c := s.chip.after dt
      let ok := c.windowHeld pgRST src && c.allSto
      ((c.serves src pgRST 0x048 true ∧ (ok = true ∧ c.seqSt.sysReset.isSome)) : Prop)) 0 (.core .A 0) (live [modPst pgRST (fun x => { x with holder := some (0, 0) }), modSeqS fun s => { s with sysReset := some 99 }])) :=
  ⟨by decide +kernel, by decide +kernel, by decide +kernel⟩

/-- PowerOnResetStrapsAndSequencer: sysResetFire can complete as stated. -/
theorem test_meets_PowerOnResetStrapsAndSequencer_sysResetFire :
    (fun (dt : Nat) (s : State) =>
      let c := s.chip.after dt
      ((c.seqSt.sysReset.isSome) : Prop)) 5 (live [modSeqS fun s => { s with sysReset := some 99 }]) := by
  decide +kernel

/-- DomainsSuppliesAndClocksAreWatched: domOnReq can complete as stated, in each case. -/
theorem test_meets_DomainsSuppliesAndClocksAreWatched_domOnReq :
    ((fun (dt : Nat) (src : Src) (on off : BitVec 14) (s : State) =>
      let c := s.chip.after dt
      let k := ((List.range 14).find? fun i => on.getLsbD i || off.getLsbD i).getD 14
      let up := on.getLsbD k && !off.getLsbD k
      ((c.serves src pgPWR 0x04C true ∧ c.windowHeld pgPWR src ∧ (k < 14 ∧ up = true ∧ domFixed k = false ∧ c.needsMet k)) : Prop)) 0 (.core .A 0) 0x1000 0 (live [modPst pgPWR fun x => { x with holder := some (0, 0) }, domsOn 0x2FFF, domsGood 0x2FFF])) ∧
    ((fun (dt : Nat) (src : Src) (on off : BitVec 14) (s : State) =>
      let c := s.chip.after dt
      let k := ((List.range 14).find? fun i => on.getLsbD i || off.getLsbD i).getD 14
      let up := on.getLsbD k && !off.getLsbD k
      ((c.serves src pgPWR 0x04C true ∧ c.windowHeld pgPWR src ∧ (k < 14 ∧ up = true ∧ domFixed k = false ∧ c.needsMet k)) : Prop)) 0 (.core .A 0) 0x0010 0x1000 (live [modPst pgPWR fun x => { x with holder := some (0, 0) }, domsGood 0x3FFF])) ∧
    ((fun (dt : Nat) (src : Src) (on off : BitVec 14) (s : State) =>
      let c := s.chip.after dt
      let k := ((List.range 14).find? fun i => on.getLsbD i || off.getLsbD i).getD 14
      let one := (List.range 14).all fun i => i == k || !(on.getLsbD i || off.getLsbD i)
      let up := on.getLsbD k && !off.getLsbD k
      let down := !on.getLsbD k && off.getLsbD k
      ((c.serves src pgPWR 0x04C true ∧ c.windowHeld pgPWR src ∧ (k < 14 ∧ up = true ∧ (domFixed k ∨ c.needsMet k = false)) ∧ (k < 14 ∧ one = true ∧ (up || down) = true ∧ domFixed k)) : Prop)) 0 (.core .A 0) 0x20 0 (live [modPst pgPWR fun x => { x with holder := some (0, 0) }])) ∧
    ((fun (dt : Nat) (src : Src) (on off : BitVec 14) (s : State) =>
      let c := s.chip.after dt
      let k := ((List.range 14).find? fun i => on.getLsbD i || off.getLsbD i).getD 14
      let one := (List.range 14).all fun i => i == k || !(on.getLsbD i || off.getLsbD i)
      let up := on.getLsbD k && !off.getLsbD k
      let down := !on.getLsbD k && off.getLsbD k
      let dep := (List.range 14).any fun e => (needs e).contains k && c.domainOn e
      ((c.serves src pgPWR 0x04C true ∧ c.windowHeld pgPWR src ∧ (k < 14 ∧ up = true ∧ (domFixed k ∨ c.needsMet k = false)) ∧ (k < 14 ∧ one = true ∧ domFixed k = false ∧ ((up = true ∧ c.needsMet k = false) ∨ (down = true ∧ dep = true)))) : Prop)) 0 (.core .A 0) 0x200 0 (live [modPst pgPWR (fun x => { x with holder := some (0, 0) }), domsGood 0])) ∧
    ((fun (dt : Nat) (src : Src) (on off : BitVec 14) (s : State) =>
      let c := s.chip.after dt
      let k := ((List.range 14).find? fun i => on.getLsbD i || off.getLsbD i).getD 14
      let one := (List.range 14).all fun i => i == k || !(on.getLsbD i || off.getLsbD i)
      let up := on.getLsbD k && !off.getLsbD k
      let down := !on.getLsbD k && off.getLsbD k
      let dep := (List.range 14).any fun e => (needs e).contains k && c.domainOn e
      ((c.serves src pgPWR 0x04C true ∧ c.windowHeld pgPWR src ∧ (k < 14 ∧ down = true ∧ (domFixed k ∨ dep = true ∨ c.domIdle k = false)) ∧ (k < 14 ∧ one = true ∧ (up || down) = true ∧ domFixed k)) : Prop)) 0 (.core .A 0) 0 0x20 (live [modPst pgPWR fun x => { x with holder := some (0, 0) }])) ∧
    ((fun (dt : Nat) (src : Src) (on off : BitVec 14) (s : State) =>
      let c := s.chip.after dt
      let k := ((List.range 14).find? fun i => on.getLsbD i || off.getLsbD i).getD 14
      let down := !on.getLsbD k && off.getLsbD k
      let dep := (List.range 14).any fun e => (needs e).contains k && c.domainOn e
      ((c.serves src pgPWR 0x04C true ∧ c.windowHeld pgPWR src ∧ (k < 14 ∧ down = true ∧ domFixed k = false ∧ dep = false ∧ c.domIdle k)) : Prop)) 0 (.core .A 0) 0 0x1000 (live [modPst pgPWR fun x => { x with holder := some (0, 0) }])) ∧
    ((fun (dt : Nat) (src : Src) (on off : BitVec 14) (s : State) =>
      let c := s.chip.after dt
      let k := ((List.range 14).find? fun i => on.getLsbD i || off.getLsbD i).getD 14
      let one := (List.range 14).all fun i => i == k || !(on.getLsbD i || off.getLsbD i)
      ((c.serves src pgPWR 0x04C true ∧ c.windowHeld pgPWR src ∧ (k < 14 ∧ one = true ∧ on.getLsbD k ∧ off.getLsbD k)) : Prop)) 0 (.core .A 0) 0x200 0x200 (live [modPst pgPWR fun x => { x with holder := some (0, 0) }])) ∧
    ((fun (dt : Nat) (src : Src) (on off : BitVec 14) (s : State) =>
      let c := s.chip.after dt
      let k := ((List.range 14).find? fun i => on.getLsbD i || off.getLsbD i).getD 14
      let one := (List.range 14).all fun i => i == k || !(on.getLsbD i || off.getLsbD i)
      let down := !on.getLsbD k && off.getLsbD k
      let dep := (List.range 14).any fun e => (needs e).contains k && c.domainOn e
      ((c.serves src pgPWR 0x04C true ∧ c.windowHeld pgPWR src ∧ (k < 14 ∧ down = true ∧ (domFixed k ∨ dep = true ∨ c.domIdle k = false)) ∧ (k < 14 ∧ one = true ∧ down = true ∧ domFixed k = false ∧ dep = false ∧ c.domIdle k = false)) : Prop)) 0 (.core .A 0) 0 0x1000 (live [modPst pgPWR (fun x => { x with holder := some (0, 0) }), putActive (pgQUE 7) Reg.QUE.QUE_CFG_STORE 1, put (pgQUE 7) Reg.HDR.PAGE_CTRL_EN 1])) :=
  ⟨by decide +kernel, by decide +kernel, by decide +kernel, by decide +kernel, by decide +kernel, by decide +kernel, by decide +kernel, by decide +kernel⟩

/-- DomainsSuppliesAndClocksAreWatched: domOffReq can complete as stated, in each case. -/
theorem test_meets_DomainsSuppliesAndClocksAreWatched_domOffReq :
    ((fun (dt : Nat) (src : Src) (off : BitVec 14) (s : State) =>
      let c := s.chip.after dt
      let k := ((List.range 14).find? fun i => off.getLsbD i).getD 14
      let dep := (List.range 14).any fun e => (needs e).contains k && c.domainOn e
      ((c.serves src pgPWR 0x04C true ∧ c.windowHeld pgPWR src ∧ (k < 14 ∧ domFixed k = false ∧ dep = false ∧ c.domIdle k)) : Prop)) 0 (.core .A 0) 0x0200 (live [modPst pgPWR fun x => { x with holder := some (0, 0) }])) ∧
    ((fun (dt : Nat) (src : Src) (off : BitVec 14) (s : State) =>
      let c := s.chip.after dt
      let k := ((List.range 14).find? fun i => off.getLsbD i).getD 14
      let one := (List.range 14).all fun i => i == k || !off.getLsbD i
      let dep := (List.range 14).any fun e => (needs e).contains k && c.domainOn e
      ((c.serves src pgPWR 0x04C true ∧ c.windowHeld pgPWR src ∧ (k < 14 ∧ (domFixed k ∨ dep = true ∨ c.domIdle k = false)) ∧ (k < 14 ∧ one = true ∧ domFixed k = false ∧ dep = true)) : Prop)) 0 (.core .A 0) 0x0010 (live [modPst pgPWR fun x => { x with holder := some (0, 0) }])) ∧
    ((fun (dt : Nat) (src : Src) (off : BitVec 14) (s : State) =>
      let c := s.chip.after dt
      let k := ((List.range 14).find? fun i => off.getLsbD i).getD 14
      let one := (List.range 14).all fun i => i == k || !off.getLsbD i
      let dep := (List.range 14).any fun e => (needs e).contains k && c.domainOn e
      ((c.serves src pgPWR 0x04C true ∧ c.windowHeld pgPWR src ∧ (k < 14 ∧ (domFixed k ∨ dep = true ∨ c.domIdle k = false)) ∧ (k < 14 ∧ one = true ∧ domFixed k)) : Prop)) 0 (.core .A 0) 0x2000 (live [modPst pgPWR fun x => { x with holder := some (0, 0) }])) ∧
    ((fun (dt : Nat) (src : Src) (off : BitVec 14) (s : State) =>
      let c := s.chip.after dt
      let k := ((List.range 14).find? fun i => off.getLsbD i).getD 14
      let one := (List.range 14).all fun i => i == k || !off.getLsbD i
      let dep := (List.range 14).any fun e => (needs e).contains k && c.domainOn e
      ((c.serves src pgPWR 0x04C true ∧ c.windowHeld pgPWR src ∧ (k < 14 ∧ (domFixed k ∨ dep = true ∨ c.domIdle k = false)) ∧ (k < 14 ∧ one = true ∧ domFixed k = false ∧ dep = false ∧ c.domIdle k = false)) : Prop)) 0 (.core .A 0) 0x1000 (live [modPst pgPWR (fun x => { x with holder := some (0, 0) }), putActive (pgQUE 7) Reg.QUE.QUE_CFG_STORE 1, put (pgQUE 7) Reg.HDR.PAGE_CTRL_EN 1])) :=
  ⟨by decide +kernel, by decide +kernel, by decide +kernel, by decide +kernel⟩

/-- DomainsSuppliesAndClocksAreWatched: domGood can complete as stated. -/
theorem test_meets_DomainsSuppliesAndClocksAreWatched_domGood :
    (fun (dt : Nat) (dom : Fin 14) (us : Fin 101) (s : State) =>
      let c := s.chip.after dt
      ((c.seqSt.ramp.contains dom.val ∧ c.needsMet dom) : Prop)) 0 9 40 (live [modSeqS fun s => { s with ramp := [12, 9] }, put pgPWR Reg.PWR.DOM_FAULT 0x200]) := by
  decide +kernel

/-- DomainsSuppliesAndClocksAreWatched: domRampTimeout can complete as stated. -/
theorem test_meets_DomainsSuppliesAndClocksAreWatched_domRampTimeout :
    (fun (dt : Nat) (dom : Fin 14) (s : State) =>
      let c := s.chip.after dt
      ((c.seqSt.ramp.contains dom.val) : Prop)) 0 9 (live [modSeqS fun s => { s with ramp := [12, 9] }]) := by
  decide +kernel

/-- DomainsSuppliesAndClocksAreWatched: domOutOfRange can complete as stated, in each case. -/
theorem test_meets_DomainsSuppliesAndClocksAreWatched_domOutOfRange :
    ((fun (dt : Nat) (dom : Fin 14) (s : State) =>
      let c := s.chip.after dt
      let r := logicOf dom.val
      ((c.domainIsGood dom ∧ (r.isSome ∧ r ≠ some 7)) : Prop)) 0 9 (live [])) ∧
    ((fun (dt : Nat) (dom : Fin 14) (s : State) =>
      let c := s.chip.after dt
      let r := logicOf dom.val
      ((c.domainIsGood dom ∧ r = some 7) : Prop)) 0 1 (live [])) ∧
    ((fun (dt : Nat) (dom : Fin 14) (s : State) =>
      let c := s.chip.after dt
      ((c.domainIsGood dom) : Prop)) 0 12 (live [])) :=
  ⟨by decide +kernel, by decide +kernel, by decide +kernel⟩

/-- DomainsSuppliesAndClocksAreWatched: supWarn can complete as stated, in each case. -/
theorem test_meets_DomainsSuppliesAndClocksAreWatched_supWarn :
    ((fun (dt : Nat) (rail : Fin 4) (mv : BitVec 13) (s : State) =>
      let c := s.chip.after dt
      let v := mv.toNat
      let warn := decide (v < (supWindow rail).1) || decide ((supWindow rail).2 < v)
      let fail := decide (rail.val = 3) && decide (v < 4500)
      ((rail.val = 3 ∧ warn = true ∧ (fail = true ∧ c.domainIsGood 8)) : Prop)) 0 3 4400 (live [])) ∧
    ((fun (dt : Nat) (rail : Fin 4) (mv : BitVec 13) (s : State) =>
      let c := s.chip.after dt
      let v := mv.toNat
      let warn := decide (v < (supWindow rail).1) || decide ((supWindow rail).2 < v)
      let fail := decide (rail.val = 3) && decide (v < 4500)
      ((rail.val = 0 ∧ warn = true ∧ (fail = false ∨ c.domainIsGood 8 = false)) : Prop)) 0 0 759 (live [])) ∧
    ((fun (dt : Nat) (rail : Fin 4) (mv : BitVec 13) (s : State) =>
      let c := s.chip.after dt
      let v := mv.toNat
      let warn := decide (v < (supWindow rail).1) || decide ((supWindow rail).2 < v)
      let fail := decide (rail.val = 3) && decide (v < 4500)
      ((rail.val = 1 ∧ warn = true ∧ (fail = false ∨ c.domainIsGood 8 = false)) : Prop)) 0 1 1709 (live [])) ∧
    ((fun (dt : Nat) (rail : Fin 4) (mv : BitVec 13) (s : State) =>
      let c := s.chip.after dt
      let v := mv.toNat
      let warn := decide (v < (supWindow rail).1) || decide ((supWindow rail).2 < v)
      let fail := decide (rail.val = 3) && decide (v < 4500)
      ((rail.val = 2 ∧ warn = true ∧ (fail = false ∨ c.domainIsGood 8 = false)) : Prop)) 0 2 3466 (live [])) :=
  ⟨by decide +kernel, by decide +kernel, by decide +kernel, by decide +kernel⟩

/-- DomainsSuppliesAndClocksAreWatched: pllFail can complete as stated, in each case. -/
theorem test_meets_DomainsSuppliesAndClocksAreWatched_pllFail :
    ((fun (dt : Nat) (i : Fin 6) (lost : Bool) (khz : BitVec 22) (s : State) =>
      let c := s.chip.after dt
      let f := c.fld pgCLK Reg.CLK.CLK_STAT_FAULT
      let first := !f.testBit i && c.domainIsGood (pllDomain i)
      (((first = true ∧ lost) ∧ (first = true ∧ i.val = 1)) : Prop)) 0 1 true 900 (live [])) ∧
    ((fun (dt : Nat) (i : Fin 6) (lost : Bool) (khz : BitVec 22) (s : State) =>
      let c := s.chip.after dt
      let f := c.fld pgCLK Reg.CLK.CLK_STAT_FAULT
      let first := !f.testBit i && c.domainIsGood (pllDomain i)
      (((first = true ∧ i.val = 4)) : Prop)) 0 4 false 900 (live [put (pgQCTL .B) Reg.QCTL.Q_STAT_QSTATE 3])) ∧
    ((fun (dt : Nat) (i : Fin 6) (lost : Bool) (khz : BitVec 22) (s : State) =>
      let c := s.chip.after dt
      let f := c.fld pgCLK Reg.CLK.CLK_STAT_FAULT
      let first := !f.testBit i && c.domainIsGood (pllDomain i)
      (((first = true ∧ lost) ∧ (first = true ∧ i.val = 0)) : Prop)) 0 0 true 900 (live [])) ∧
    ((fun (dt : Nat) (i : Fin 6) (lost : Bool) (khz : BitVec 22) (s : State) =>
      let c := s.chip.after dt
      let f := c.fld pgCLK Reg.CLK.CLK_STAT_FAULT
      let first := !f.testBit i && c.domainIsGood (pllDomain i)
      (((first = true ∧ lost) ∧ (first = true ∧ (i.val = 2 ∨ i.val = 5))) : Prop)) 0 2 true 900 (live [])) ∧
    ((fun (dt : Nat) (i : Fin 6) (lost : Bool) (khz : BitVec 22) (s : State) =>
      let c := s.chip.after dt
      let f := c.fld pgCLK Reg.CLK.CLK_STAT_FAULT
      let first := !f.testBit i && c.domainIsGood (pllDomain i)
      (((first = true ∧ (i.val = 2 ∨ i.val = 5))) : Prop)) 0 5 false 900 (live [])) ∧
    ((fun (dt : Nat) (i : Fin 6) (lost : Bool) (khz : BitVec 22) (s : State) =>
      let c := s.chip.after dt
      let f := c.fld pgCLK Reg.CLK.CLK_STAT_FAULT
      let first := !f.testBit i && c.domainIsGood (pllDomain i)
      (((first = true ∧ lost) ∧ (first = true ∧ i.val = 3)) : Prop)) 0 3 true 900 (live [put (pgQCTL .A) Reg.QCTL.Q_STAT_QSTATE 4])) :=
  ⟨by decide +kernel, by decide +kernel, by decide +kernel, by decide +kernel, by decide +kernel, by decide +kernel⟩

/-- DomainsSuppliesAndClocksAreWatched: safeOscMismatch can complete as stated, in each case. -/
theorem test_meets_DomainsSuppliesAndClocksAreWatched_safeOscMismatch :
    ((fun (dt : Nat) (khz : BitVec 18) (s : State) =>
      let c := s.chip.after dt
      let xtal := c.flag pgCLK Reg.CLK.CLK_STAT_XTAL_OK
      ((xtal = true) : Prop)) 0 90000 (live [put pgCLK Reg.CLK.CLK_STAT_XTAL_OK 1])) ∧
    ((fun (dt : Nat) (khz : BitVec 18) (s : State) =>
      let c := s.chip.after dt
      let xtal := c.flag pgCLK Reg.CLK.CLK_STAT_XTAL_OK
      ((xtal = false) : Prop)) 0 90000 (live [put pgCLK Reg.CLK.CLK_STAT_XTAL_OK 0])) :=
  ⟨by decide +kernel, by decide +kernel⟩

/-- StepRunsFrontCommand: its hypotheses can be met. -/
theorem test_meets_StepRunsFrontCommand : ({ live [] with pending := [.porRelease 0, .seqRetry 5] } : State).pending = .porRelease 0 :: [.seqRetry 5] := rfl

/-- EmptyQueueIdles: its hypotheses can be met. -/
theorem test_meets_EmptyQueueIdles : (live []).pending = [] := rfl

/-- StepKeepsTheInvariant: its hypotheses can be met. -/
theorem test_meets_StepKeepsTheInvariant : (live [put (pgFG 1) Reg.HDR.ERR_CNT 5]).chip.Inv ∧ step (live [put (pgFG 1) Reg.HDR.ERR_CNT 5]) = .next (live [put (pgFG 1) Reg.HDR.ERR_CNT 5]) := ⟨by decide +kernel, rfl⟩

/-- ReservedBitsAndPageIdentityNeverChange: its hypotheses can be met. -/
theorem test_meets_ReservedBitsAndPageIdentityNeverChange : (live []).chip.Inv ∧ step (live []) = .next (live []) ∧ 63 < 64 := ⟨by decide +kernel, rfl, by decide⟩

/-- NoCellCommandsBothGates: its hypotheses can be met. -/
theorem test_meets_NoCellCommandsBothGates : (live [put (pgLEG 95) Reg.LEG.LEG_STAT_GATE_H 1, put (pgBRG 15) Reg.BRG.BRG_STAT_GATE_L 1]).chip.Inv ∧ step (live [put (pgLEG 95) Reg.LEG.LEG_STAT_GATE_H 1, put (pgBRG 15) Reg.BRG.BRG_STAT_GATE_L 1]) = .next (live [put (pgLEG 95) Reg.LEG.LEG_STAT_GATE_H 1, put (pgBRG 15) Reg.BRG.BRG_STAT_GATE_L 1]) := ⟨by decide +kernel, rfl⟩

/-- StoresChangeOnlyTheirBytes: regWrite can complete as stated, in each case. -/
theorem test_meets_StoresChangeOnlyTheirBytes_regWrite :
    ((fun (dt : Nat) (src : Src) (a : BitVec 32) (size : Fin 3) (v : Word) (s : State) =>
      let c := s.chip.after dt
      let n := 2 ^ size.val
      (((a.toNat < 0x00800000 ∨ (0x60000000 ≤ a.toNat ∧ a.toNat < 0x60400000) ∨ (0x68000000 ≤ a.toNat ∧ a.toNat < 0x68200000)) ∧ c.respond src a.toNat (8 * n) true = .ok ∧ c.portOpen src ∧ src ≠ .debug) : Prop)) 0 (.core .B 2) 0x007FFFFC 2 0x12345678 (live [])) ∧
    ((fun (dt : Nat) (src : Src) (a : BitVec 32) (size : Fin 3) (v : Word) (s : State) =>
      let c := s.chip.after dt
      let n := 2 ^ size.val
      (((a.toNat < 0x00800000 ∨ (0x60000000 ≤ a.toNat ∧ a.toNat < 0x60400000) ∨ (0x68000000 ≤ a.toNat ∧ a.toNat < 0x68200000)) ∧ c.respond src a.toNat (8 * n) true = .ok ∧ c.portOpen src ∧ src ≠ .debug) : Prop)) 0 (.core .A 2) 0x603FFFFF 0 0x12345678 (live [])) ∧
    ((fun (dt : Nat) (src : Src) (a : BitVec 32) (size : Fin 3) (v : Word) (s : State) =>
      let c := s.chip.after dt
      let n := 2 ^ size.val
      (((a.toNat < 0x00800000 ∨ (0x60000000 ≤ a.toNat ∧ a.toNat < 0x60400000) ∨ (0x68000000 ≤ a.toNat ∧ a.toNat < 0x68200000)) ∧ c.respond src a.toNat (8 * n) true = .ok ∧ c.portOpen src ∧ src ≠ .debug) : Prop)) 0 (.core .A 2) 0x68000002 1 0x12345678 (live [])) :=
  ⟨by decide +kernel, by decide +kernel, by decide +kernel⟩

/-- StoresChangeOnlyTheirBytes: pushData can complete as stated, in each case. -/
theorem test_meets_StoresChangeOnlyTheirBytes_pushData :
    ((fun (dt : Nat) (src : Src) (n : Fin 64) (v : Word) (corr : Nat) (s : State) =>
      let c := s.chip.after dt
      let o := (c.que n).opened.getD ⟨[], 0, false, none, 0, false⟩
      ((c.serves src (pgQUE n) 0x05C true ∧ c.act (pgQUE n) Reg.QUE.QUE_CFG_PROD = 0 ∧ (c.que n).opened.isSome ∧ o.holder = some src ∧ o.discard = false ∧ o.len < 65535 ∧ (o.needsCell = false ∨ c.canTake n)) : Prop)) 0 (.core .A 0) 63 0xABCD1234 0 (live [modQue 63 fun x => { x with opened := some ⟨[7], 15, false, some (.core .A 0), 0, false⟩ }, put (pgQUE 63) Reg.HDR.PAGE_STAT_ENABLED 1])) ∧
    ((fun (dt : Nat) (src : Src) (n : Fin 64) (v : Word) (corr : Nat) (s : State) =>
      let c := s.chip.after dt
      let o := (c.que n).opened.getD ⟨[], 0, false, none, 0, false⟩
      ((c.serves src (pgQUE n) 0x05C true ∧ c.act (pgQUE n) Reg.QUE.QUE_CFG_PROD = 0 ∧ (c.que n).opened.isSome ∧ o.holder = some src ∧ o.discard = false ∧ o.len < 65535 ∧ (o.needsCell = false ∨ c.canTake n)) : Prop)) 0 (.core .A 0) 0 0xABCD1234 0 (live [modQue 0 fun x => { x with opened := some ⟨[7], 3, true, some (.core .A 0), 0, false⟩ }])) :=
  ⟨by decide +kernel, by decide +kernel⟩

/-! Terms that a check of WellFormed refuses. -/

theorem test_wf_page : (Instr.errClr 0 (.core .A 0) (pgLEG 96)).wf = false := by decide

theorem test_wf_no_object_page : (Instr.srstComplete 0 ⟨.obj, 0⟩).wf = false := by decide

theorem test_wf_ports_named_once : (Instr.arbDecision 0 (.chip 5) [(3, .tap), (3, .core)]).wf = false := by decide

theorem test_wf_trim_target : (Instr.trimSlewStep 0 1000000001).wf = false := by decide

theorem test_wf_cells : (Instr.sweepDone 0 0 [5, 5] [] 0).wf = false ∧ (Instr.rebuildDone 0 0 [98304] [] 0).wf = false := by decide

theorem test_wf_can_frame : (Instr.canRxFrame 0 0 ⟨false, 0, false, true, false, false, 0, [], 0⟩).wf = false := by decide

theorem test_wf_eth_frame : (Instr.ethRxFrame 0 0 0 true (List.replicate 9001 0)).wf = false := by decide +kernel

theorem test_wf_header : (Instr.bootStart 0 ⟨true, [], []⟩).wf = false := by decide

theorem test_wf_boot_frame : (Instr.bootEthFrame 0 0 0 0 (List.replicate 1497 0)).wf = false := by decide +kernel

theorem test_wf_flash_data : (Instr.xspCmdDone 0 (List.replicate 65 0)).wf = false := by decide +kernel

/-! Values that the spec works out. -/

/-- Chapter 5: the first frame of the burst. -/
theorem test_frame_of_the_burst : frameCrc 0x1C 0x300130E8#32 = 0x14 := by decide +kernel

/-- Table 7-7, the rows of MULC. -/
theorem test_mulc_rows :
    mulRead 0x40000000#32 0x60000000#32 31 0 = (0x30000000#32, false) ∧
    [0, 1, 2, 3].map (fun m => (mulRead 3#32 3#32 1 m).1.toInt) = [4, 5, 4, 4] ∧
    [0, 1, 2, 3].map (fun m => (mulRead (0xFFFFFFFD#32) 3#32 1 m).1.toInt) = [-4, -4, -5, -4] ∧
    [0, 1, 2, 3].map (fun m => (mulRead 5#32 3#32 1 m).1.toInt) = [8, 8, 7, 7] ∧
    [0, 1, 2, 3].map (fun m => (mulRead (0xFFFFFFF9#32) 3#32 2 m).1.toInt) = [-5, -5, -6, -5] ∧
    mulRead 0x80000000#32 0x80000000#32 31 0 = (0x7FFFFFFF#32, true) ∧
    mulRead 0x80000000#32 0x80000000#32 32 0 = (0x40000000#32, false) ∧
    mulRead 0x7FFFFFFF#32 0x7FFFFFFF#32 30 0 = (0x7FFFFFFF#32, true) := by decide +kernel

/-- Table 7-7: two MACC and their readout, and a product below one unit. -/
theorem test_macc_rows :
    roundShift 0 (macc (macc 0 3#32 3#32 1).1 (0xFFFFFFFD#32) 1#32 2).1 32 = 4 ∧ macc 7 1#32 255#32 40 = (7, false) := by decide

/-- The SHA-256 of no bytes (FIPS 180-4). -/
theorem test_sha_of_nothing : (sha256 []).take 2 = [0xe3b0c442, 0x98fc1c14] := by decide +kernel

end

end Sys2Proof.Tests
end

section
/-! The footprint of an effect: the register words and the parts of the chip that it can write, and what it leaves unchanged. -/

namespace Sys2Proof.Machine.Footprint

open Sys2Proof Sys2Proof.Machine

/-- The primitive write changes no register word outside `A` and no part of the chip outside `xs`. -/
def Within (A : Nat → Prop) (xs : List Part) : Prim → Prop
  | .elapse _ | .until_ _ | .answer _ _ => True
  | .reg a _ => A a
  | .regsReset lo hi => ∀ a, lo ≤ a → a < hi → A a
  | .strap _ | .por => False
  | .tideRun _ => .tideOn ∈ xs
  | .owner _ => .owner ∈ xs
  | .freeNext => .free ∈ xs
  | .byte _ _ | .memReset _ _ => .mem ∈ xs
  | .page _ _ => .pages ∈ xs
  | .arb _ _ => .arbs ∈ xs
  | .stream _ _ => .streams ∈ xs
  | .leg _ _ => .legs ∈ xs
  | .blk _ _ => .blks ∈ xs
  | .link _ _ => .links ∈ xs
  | .fault _ _ => .faults ∈ xs
  | .adc _ _ => .adcs ∈ xs
  | .dsf _ _ => .dsfs ∈ xs
  | .tsn _ _ => .tsns ∈ xs
  | .temp _ _ => .temps ∈ xs
  | .lane _ _ => .lanes ∈ xs
  | .slot _ _ => .slots ∈ xs
  | .tap _ _ => .taps ∈ xs
  | .eng _ _ => .engs ∈ xs
  | .gwy _ _ => .gwys ∈ xs
  | .trac _ _ => .tracs ∈ xs
  | .conv _ _ => .convs ∈ xs
  | .chg _ _ => .chgs ∈ xs
  | .pos _ _ => .poss ∈ xs
  | .emu _ _ => .emus ∈ xs
  | .brg _ _ => .brgs ∈ xs
  | .ssc _ _ => .sscs ∈ xs
  | .que _ _ => .ques ∈ xs
  | .store _ _ => .stores ∈ xs
  | .port _ _ => .ports ∈ xs
  | .can _ _ => .cans ∈ xs
  | .obj _ _ => .objs ∈ xs
  | .eth _ _ => .eths ∈ xs
  | .sin _ _ => .sins ∈ xs
  | .quay _ _ => .quays ∈ xs
  | .tideS _ => .tideS ∈ xs
  | .cplS _ => .cplS ∈ xs
  | .deliveries _ => .deliveries ∈ xs
  | .outbox _ => .outbox ∈ xs
  | .vcmds _ => .vcmds ∈ xs
  | .capWins _ => .capWins ∈ xs
  | .cnvS _ => .cnvS ∈ xs
  | .bootS _ => .bootS ∈ xs
  | .fuseS _ => .fuse ∈ xs
  | .dbgS _ => .dbgS ∈ xs
  | .safS _ => .safS ∈ xs
  | .brakeS _ => .brakeS ∈ xs
  | .sealS _ => .sealS ∈ xs
  | .seqS _ => .seqS ∈ xs
  | .redS _ => .redS ∈ xs

/-- Every register word. -/
def anyWord : Nat → Prop := fun _ => True

@[simp] theorem anyWord_all (a : Nat) : anyWord a := trivial

theorem within_mono {A B : Nat → Prop} {xs ys : List Part} (hA : ∀ a, A a → B a) (hx : xs ⊆ ys) (p : Prim) (h : Within A xs p) :
    Within B ys p := by
  cases p
  case elapse | until_ | answer | strap | por => exact h
  case reg => exact hA _ h
  case regsReset => exact fun a h1 h2 => hA a (h a h1 h2)
  all_goals exact hx h

/-! ### What a footprint leaves unchanged -/

/-- A part that lies outside the footprint is as before. -/
theorem samePart_of_within {A : Nat → Prop} {xs : List Part} {p : Prim} (c : Chip) (h : Within A xs p) {x : Part} (hx : x ∉ xs) :
    c.samePart (p.run c) x = true := by
  cases x <;> simp only [Chip.samePart, beq_iff_eq, Prim.run_tideOn, Prim.run_strap, Prim.run_owner, Prim.run_free, Prim.run_mem, Prim.run_pages, Prim.run_arbs,
    Prim.run_streams, Prim.run_legs, Prim.run_blks, Prim.run_links, Prim.run_faults, Prim.run_adcs, Prim.run_dsfs, Prim.run_tsns,
    Prim.run_temps, Prim.run_lanes, Prim.run_slotMem, Prim.run_taps, Prim.run_engs, Prim.run_gwys, Prim.run_tracs, Prim.run_convs,
    Prim.run_chgs, Prim.run_poss, Prim.run_emus, Prim.run_brgs, Prim.run_sscs, Prim.run_ques, Prim.run_stores, Prim.run_ports,
    Prim.run_cans, Prim.run_objs, Prim.run_eths, Prim.run_sins, Prim.run_quays, Prim.run_tideSt, Prim.run_cplSt, Prim.run_deliveries,
    Prim.run_outbox, Prim.run_vcmds, Prim.run_capWins, Prim.run_cnvSt, Prim.run_bootSt, Prim.run_fuse, Prim.run_dbgSt, Prim.run_safSt,
    Prim.run_brakeSt, Prim.run_sealSt, Prim.run_seqSt, Prim.run_redSt]
  all_goals
    split
    all_goals simp_all only [Within]

/-- A register word that lies outside the footprint reads as before. -/
theorem word_of_within {A : Nat → Prop} {xs : List Part} {p : Prim} (c : Chip) (h : Within A xs p) {a : Nat} (ha : ¬ A a) :
    (p.run c).word a = c.word a := by
  rw [Prim.run_word]
  split
  case h_1 b v => exact if_neg fun e : a = b => ha (by rw [e]; exact h)
  case h_2 lo hi => exact if_neg fun e => ha (h a e.1 e.2)
  case h_3 | h_4 => exact h.elim
  case h_5 => rfl

theorem samePart_refl (c : Chip) (x : Part) : c.samePart c x = true := by
  cases x <;> exact beq_self_eq_true _

theorem samePart_trans {a b c : Chip} {x : Part} (h : a.samePart b x = true) (g : b.samePart c x = true) : a.samePart c x = true := by
  cases x <;> simp only [Chip.samePart, beq_iff_eq] at h g ⊢ <;> exact g.trans h

/-- The effect changes no register word outside `A` and no part of the chip outside `xs`. -/
abbrev WritesIn (A : Nat → Prop) (xs : List Part) (a : Act) : Prop := a.Only (Within A xs)

theorem WritesIn.mono {A B : Nat → Prop} {xs ys : List Part} {a : Act} (h : WritesIn A xs a) (hA : ∀ x, A x → B x) (hx : xs ⊆ ys) :
    WritesIn B ys a :=
  Act.only_mono (within_mono hA hx) a h

/-- An effect leaves the parts outside its footprint as they are. -/
theorem WritesIn.samePart {A : Nat → Prop} {xs : List Part} {a : Act} (h : WritesIn A xs a) (c : Chip) {x : Part} (hx : x ∉ xs) :
    c.samePart (a.run c) x = true :=
  Act.run_rel (R := fun c d => c.samePart d x = true) (fun c => samePart_refl c x) (fun _ _ _ => samePart_trans)
    (fun _ c hp => samePart_of_within c hp hx) a h c

/-- An effect leaves the register words outside its footprint as they are. -/
theorem WritesIn.word {A : Nat → Prop} {xs : List Part} {a : Act} (h : WritesIn A xs a) (c : Chip) {b : Nat} (hb : ¬ A b) :
    (a.run c).word b = c.word b :=
  Act.run_rel (R := fun c d => d.word b = c.word b) (fun _ => rfl) (fun _ _ _ h g => g.trans h)
    (fun _ c hp => word_of_within c hp hb) a h c

/-- An effect leaves a field whose word lies outside its footprint as it is. -/
theorem WritesIn.fld {A : Nat → Prop} {xs : List Part} {a : Act} (h : WritesIn A xs a) (c : Chip) {p : Page} {f : Field} {k : Nat}
    (hb : ¬ A (p.base + f.word k)) : (a.run c).fld p f k = c.fld p f k := by
  rw [Chip.fld, Chip.fld, h.word c hb]

/-! ### Commands -/

/-- What the model says of a command's completion is what its effect leaves once its time has passed. -/
theorem completes_iff {i : Instr} {s : State} {dt : Nat} {a : Act} (e : exec i s = s.act dt a) (P : Chip → Prop) :
    Completes i s P ↔ P (a.run (s.chip.after dt)) := by
  constructor
  · rintro ⟨t, ht, -, hP⟩
    rw [e, State.act_next] at ht
    cases ht
    exact hP
  · exact fun hP => ⟨_, e.trans (State.act_next s dt a), rfl, hP⟩

/-- The passing of time changes no register word and no part of the chip. -/
theorem samePart_after (c : Chip) (dt : Nat) (x : Part) : c.samePart (c.after dt) x = true := by
  cases x <;> exact beq_self_eq_true _

@[simp] theorem word_after (c : Chip) (dt a : Nat) : (c.after dt).word a = c.word a := rfl

theorem framedParts_of_writesIn {i : Instr} {s : State} {dt : Nat} {a : Act} {xs : List Part} (e : exec i s = s.act dt a)
    (h : WritesIn anyWord xs a) : FramedParts i s xs :=
  (completes_iff e _).mpr fun x hx => samePart_trans (samePart_after s.chip dt x) (h.samePart _ hx)

theorem framed_of_writesIn {i : Instr} {s : State} {dt : Nat} {a : Act} {ks : List Blk} {xs : List Part} (e : exec i s = s.act dt a)
    (h : WritesIn (onPages ks) xs a) : Framed i s ks [] xs :=
  (completes_iff e _).mpr ⟨fun b hb _ => (h.word _ hb).trans (word_after s.chip dt b),
    fun x hx => samePart_trans (samePart_after s.chip dt x) (h.samePart _ hx)⟩

/-- Every word of a page lies on the pages of its kind. -/
theorem onPages_word {ks : List Blk} (p : Page) (hp : p.valid = true) (hk : p.blk ∈ ks) (o : Nat) (ho : o < 0x1000) :
    onPages ks (p.base + o) :=
  ⟨p.blk, hk, p.idx, by simpa [Page.valid] using hp, Nat.le_add_right _ _, Nat.add_lt_add_left ho _⟩

/-- Every word of the page lies in `A`. -/
def Covers (A : Nat → Prop) (p : Page) : Prop := ∀ o, o < 0x1000 → A (p.base + o)

@[simp] theorem covers_anyWord (p : Page) : Covers anyWord p := fun _ _ => trivial

theorem covers_onPages {ks : List Blk} {p : Page} (hp : p.valid = true) (hk : p.blk ∈ ks) : Covers (onPages ks) p :=
  onPages_word p hp hk

end Sys2Proof.Machine.Footprint
end

section
/-! Footprints of the combinations and of the operations that write one register word or one part. -/

namespace Sys2Proof.Machine.Footprint

open Sys2Proof Sys2Proof.Machine

/-! ### Combinations -/

section
variable {P : Prim → Prop}

@[simp] theorem only_ite_iff {b : Prop} [Decidable b] {x y : Act} : (if b then x else y).Only P ↔ (b → x.Only P) ∧ (¬ b → y.Only P) := by
  split <;> simp_all

@[simp] theorem only_when_iff {b : Bool} {a : Act} : (when b a).Only P ↔ (b = true → a.Only P) := by
  cases b <;> simp

@[simp] theorem only_whenC_iff {b : Chip → Bool} {a : Act} : (whenC b a).Only P ↔ ∀ c, b c = true → a.Only P := by
  simp [whenC]

@[simp] theorem only_each_iff {α : Type} {l : List α} {f : α → Act} : (each l f).Only P ↔ ∀ x ∈ l, (f x).Only P := by
  induction l <;> simp_all

end

/-- What does not depend on the chip holds for every chip once it holds. -/
@[simp] theorem forall_chip_iff {q : Prop} : (∀ _ : Chip, q) ↔ q := ⟨fun h => h {}, fun h _ => h⟩

/-! ### Single writes -/

variable {A : Nat → Prop} {xs : List Part}

@[simp] theorem within_freeNext : Within A xs .freeNext ↔ .free ∈ xs := Iff.rfl
@[simp] theorem within_byte {a : Nat} {v : Byte} : Within A xs (.byte a v) ↔ .mem ∈ xs := Iff.rfl
@[simp] theorem within_regsReset {lo hi : Nat} : Within A xs (.regsReset lo hi) ↔ ∀ a, lo ≤ a → a < hi → A a := Iff.rfl
@[simp] theorem within_stream {k : Nat} {v : StreamSt} : Within A xs (.stream k v) ↔ .streams ∈ xs := Iff.rfl
@[simp] theorem within_slot {k : Nat} {v : SlotSt} : Within A xs (.slot k v) ↔ .slots ∈ xs := Iff.rfl
@[simp] theorem within_que {k : Nat} {v : QueSt} : Within A xs (.que k v) ↔ .ques ∈ xs := Iff.rfl
@[simp] theorem within_tap {k : Nat} {v : TapSt} : Within A xs (.tap k v) ↔ .taps ∈ xs := Iff.rfl
@[simp] theorem within_port {k : Nat} {v : PortSt} : Within A xs (.port k v) ↔ .ports ∈ xs := Iff.rfl

@[simp] theorem writesIn_setWord {a : Nat} {v : Word} : WritesIn A xs (setWord a v) ↔ A a := Iff.rfl

@[simp] theorem writesIn_atTick {t : Nat} : WritesIn A xs (atTick t) := trivial

section
variable {p : Page} {f g : Field} {v k : Nat} {b : Bool}

@[simp] theorem writesIn_put : WritesIn A xs (put p f v k) ↔ A (p.base + f.word k) := ⟨fun h => h {}, fun h _ => h⟩

@[simp] theorem writesIn_putFlag : WritesIn A xs (putFlag p f b k) ↔ A (p.base + f.word k) := writesIn_put

@[simp] theorem writesIn_bump {n : Nat} : WritesIn A xs (bump p f n k) ↔ A (p.base + f.word k) := ⟨fun h => h {} {}, fun h _ _ => h⟩

@[simp] theorem writesIn_bumpWrap : WritesIn A xs (bumpWrap p f k) ↔ A (p.base + f.word k) := ⟨fun h => h {} {}, fun h _ _ => h⟩

@[simp] theorem writesIn_putMax : WritesIn A xs (putMax p f v k) ↔ A (p.base + f.word k) := ⟨fun h => h {} {}, fun h _ _ => h⟩

@[simp] theorem writesIn_putWide : WritesIn A xs (putWide p f g v k) ↔ A (p.base + f.word k) ∧ A (p.base + g.word k) :=
  and_congr writesIn_put writesIn_put

@[simp] theorem writesIn_putBit : WritesIn A xs (putBit p f v b) ↔ A (p.base + f.word (v / 32)) := ⟨fun h => h {} {}, fun h _ _ => h⟩

@[simp] theorem writesIn_evt : WritesIn A xs (evt p v) ↔ A (p.base + Reg.HDR.EVT_RAW.word 0) := ⟨fun h => h {} {}, fun h _ _ => h⟩

@[simp] theorem writesIn_raiseLevels {l : Chip → Nat} : WritesIn A xs (raiseLevels p l) ↔ A (p.base + Reg.HDR.EVT_RAW.word 0) :=
  ⟨fun h => h {} {}, fun h _ _ => h⟩

@[simp] theorem writesIn_modPst {h : PageSt → PageSt} : WritesIn A xs (modPst p h) ↔ .pages ∈ xs := ⟨fun h => h {}, fun h _ => h⟩

end

@[simp] theorem writesIn_modStream {k : Nat} {f : StreamSt → StreamSt} : WritesIn A xs (modStream k f) ↔ .streams ∈ xs := ⟨fun h => h {}, fun h _ => h⟩

@[simp] theorem writesIn_modLeg {k : Nat} {f : LegSt → LegSt} : WritesIn A xs (modLeg k f) ↔ .legs ∈ xs := ⟨fun h => h {}, fun h _ => h⟩

@[simp] theorem writesIn_modLink {k : Nat} {f : LinkSt → LinkSt} : WritesIn A xs (modLink k f) ↔ .links ∈ xs := ⟨fun h => h {}, fun h _ => h⟩

@[simp] theorem writesIn_modFault {k : Nat} {f : FaultSt → FaultSt} : WritesIn A xs (modFault k f) ↔ .faults ∈ xs := ⟨fun h => h {}, fun h _ => h⟩

@[simp] theorem writesIn_modAdc {k : Nat} {f : AdcSt → AdcSt} : WritesIn A xs (modAdc k f) ↔ .adcs ∈ xs := ⟨fun h => h {}, fun h _ => h⟩

@[simp] theorem writesIn_modDsf {k : Nat} {f : DsfSt → DsfSt} : WritesIn A xs (modDsf k f) ↔ .dsfs ∈ xs := ⟨fun h => h {}, fun h _ => h⟩

@[simp] theorem writesIn_modTsn {k : Nat} {f : TsnSt → TsnSt} : WritesIn A xs (modTsn k f) ↔ .tsns ∈ xs := ⟨fun h => h {}, fun h _ => h⟩

@[simp] theorem writesIn_modTemp {k : Nat} {f : TempSt → TempSt} : WritesIn A xs (modTemp k f) ↔ .temps ∈ xs := ⟨fun h => h {}, fun h _ => h⟩

@[simp] theorem writesIn_modLane {k : Nat} {f : LaneSt → LaneSt} : WritesIn A xs (modLane k f) ↔ .lanes ∈ xs := ⟨fun h => h {}, fun h _ => h⟩

@[simp] theorem writesIn_modEng {k : Nat} {f : EngSt → EngSt} : WritesIn A xs (modEng k f) ↔ .engs ∈ xs := ⟨fun h => h {}, fun h _ => h⟩

@[simp] theorem writesIn_modGwy {k : Nat} {f : GwySt → GwySt} : WritesIn A xs (modGwy k f) ↔ .gwys ∈ xs := ⟨fun h => h {}, fun h _ => h⟩

@[simp] theorem writesIn_modPos {k : Nat} {f : PosSt → PosSt} : WritesIn A xs (modPos k f) ↔ .poss ∈ xs := ⟨fun h => h {}, fun h _ => h⟩

@[simp] theorem writesIn_modEmu {k : Nat} {f : EmuSt → EmuSt} : WritesIn A xs (modEmu k f) ↔ .emus ∈ xs := ⟨fun h => h {}, fun h _ => h⟩

@[simp] theorem writesIn_modBrg {k : Nat} {f : BrgSt → BrgSt} : WritesIn A xs (modBrg k f) ↔ .brgs ∈ xs := ⟨fun h => h {}, fun h _ => h⟩

@[simp] theorem writesIn_modSsc {k : Nat} {f : SscSt → SscSt} : WritesIn A xs (modSsc k f) ↔ .sscs ∈ xs := ⟨fun h => h {}, fun h _ => h⟩

@[simp] theorem writesIn_modQue {k : Nat} {f : QueSt → QueSt} : WritesIn A xs (modQue k f) ↔ .ques ∈ xs := ⟨fun h => h {}, fun h _ => h⟩

@[simp] theorem writesIn_modStore {k : Nat} {f : StoreSt → StoreSt} : WritesIn A xs (modStore k f) ↔ .stores ∈ xs := ⟨fun h => h {}, fun h _ => h⟩

@[simp] theorem writesIn_modCan {k : Nat} {f : CanSt → CanSt} : WritesIn A xs (modCan k f) ↔ .cans ∈ xs := ⟨fun h => h {}, fun h _ => h⟩

@[simp] theorem writesIn_modObj {k : Nat} {f : ObjSt → ObjSt} : WritesIn A xs (modObj k f) ↔ .objs ∈ xs := ⟨fun h => h {}, fun h _ => h⟩

@[simp] theorem writesIn_modQuay {k : Nat} {f : QuaySt → QuaySt} : WritesIn A xs (modQuay k f) ↔ .quays ∈ xs := ⟨fun h => h {}, fun h _ => h⟩

@[simp] theorem writesIn_modTideS {f : TideSt → TideSt} : WritesIn A xs (modTideS f) ↔ .tideS ∈ xs := ⟨fun h => h {}, fun h _ => h⟩

@[simp] theorem writesIn_modCplS {f : CplSt → CplSt} : WritesIn A xs (modCplS f) ↔ .cplS ∈ xs := ⟨fun h => h {}, fun h _ => h⟩

@[simp] theorem writesIn_modDeliveries {f : List Sample → List Sample} : WritesIn A xs (modDeliveries f) ↔ .deliveries ∈ xs := ⟨fun h => h {}, fun h _ => h⟩

@[simp] theorem writesIn_modVcmds {f : List (Quay × Nat × Word × Nat) → List (Quay × Nat × Word × Nat)} : WritesIn A xs (modVcmds f) ↔ .vcmds ∈ xs := ⟨fun h => h {}, fun h _ => h⟩

@[simp] theorem writesIn_modCapWins {f : List (Nat × Nat × Nat) → List (Nat × Nat × Nat)} : WritesIn A xs (modCapWins f) ↔ .capWins ∈ xs := ⟨fun h => h {}, fun h _ => h⟩

@[simp] theorem writesIn_modCnvS {f : CnvSt → CnvSt} : WritesIn A xs (modCnvS f) ↔ .cnvS ∈ xs := ⟨fun h => h {}, fun h _ => h⟩

@[simp] theorem writesIn_modRedS {f : RedSt → RedSt} : WritesIn A xs (modRedS f) ↔ .redS ∈ xs := ⟨fun h => h {}, fun h _ => h⟩

/-! ### Records and fault lines -/

/-- A record writes the stream of its source and words of EVS. -/
@[simp] theorem writesIn_record {p : Page} {chan code stamp d0 d1 fine : Nat} (hs : .streams ∈ xs) (he : Covers A pgEVS) :
    WritesIn A xs (record p chan code stamp d0 d1 fine) :=
  only_record p chan code stamp d0 d1 fine (fun _ => hs) (fun _ => he _ (by decide)) fun o _ ho => he o (by omega)

/-- An error writes header words of its page. -/
@[simp] theorem writesIn_err {p : Page} {code src : Nat} (hp : .pages ∈ xs) (hc : Covers A p) : WritesIn A xs (err p code src) :=
  only_err p code src (fun o _ ho => hc o (by omega)) fun _ => hp

@[simp] theorem writesIn_raiseFault {id cause : Nat} {pulse : Bool} (hf : .faults ∈ xs) :
    WritesIn A xs (raiseFault id cause pulse) ↔ A (pgFLT8.base + Reg.FLT8.RAW.word (id / 32)) := by
  simp [raiseFault, hf]

@[simp] theorem writesIn_dropFault {id : Nat} : WritesIn A xs (dropFault id) ↔ A (pgFLT8.base + Reg.FLT8.RAW.word (id / 32)) :=
  writesIn_putBit

end Sys2Proof.Machine.Footprint
end

section
/-! Footprints of the operations of the blocks that commits, boundaries and actions reach: the parts they write. -/

namespace Sys2Proof.Machine.Footprint

open Sys2Proof Sys2Proof.Machine

variable {xs : List Part}

/-! ### Legs and links -/

@[simp] theorem writesIn_setSource {n rank stamp : Nat} (hs : .streams ∈ xs) : WritesIn anyWord xs (setSource n rank stamp) := by
  simp [setSource, hs]

@[simp] theorem writesIn_dropEdges {n : Nat} (hl : .legs ∈ xs) (hk : .links ∈ xs) : WritesIn anyWord xs (dropEdges n) := by
  simp [dropEdges, hl, hk]

@[simp] theorem writesIn_setGates {n : Nat} {h l : Bool} : WritesIn anyWord xs (setGates n h l) := by
  simp [setGates]

@[simp] theorem writesIn_interlocked {n stamp : Nat} {l : List (Bool × Nat × Option Nat)} (hs : .streams ∈ xs) :
    WritesIn anyWord xs (interlocked n stamp l) := by
  simp [interlocked, hs]

@[simp] theorem writesIn_immediate {n : Nat} {t : LegState} (hs : .streams ∈ xs) (hl : .legs ∈ xs) (hk : .links ∈ xs) :
    WritesIn anyWord xs (immediate n t) := by
  cases t <;> simp [immediate, hs, hl, hk]

@[simp] theorem writesIn_seize {n rank : Nat} {t : LegState} (hs : .streams ∈ xs) (hl : .legs ∈ xs) (hk : .links ∈ xs) :
    WritesIn anyWord xs (seize n rank t) := by
  simp [seize, hs, hl, hk]

@[simp] theorem writesIn_sendFrame {k kchar payload from8 : Nat} (hk : .links ∈ xs) : WritesIn anyWord xs (sendFrame k kchar payload from8) := by
  simp [sendFrame, hk]

@[simp] theorem writesIn_sendComma {k from8 : Nat} (hk : .links ∈ xs) : WritesIn anyWord xs (sendComma k from8) := by
  simp [sendComma, sendSync, hk]

@[simp] theorem writesIn_immSend {k : Nat} {legs : List (Nat × LegState)} (hk : .links ∈ xs) : WritesIn anyWord xs (immSend k legs) := by
  simp [immSend, hk]

@[simp] theorem writesIn_blkLevels {k : Nat} : WritesIn anyWord xs (blkLevels k) := by
  simp [blkLevels]

@[simp] theorem writesIn_refreshBlk {k : Nat} (hs : .streams ∈ xs) (hl : .legs ∈ xs) (hk : .links ∈ xs) :
    WritesIn anyWord xs (refreshBlk k) := by
  simp [refreshBlk, hs, hl, hk]

@[simp] theorem writesIn_redrive {k : Nat} (hs : .streams ∈ xs) (hl : .legs ∈ xs) (hk : .links ∈ xs) : WritesIn anyWord xs (redrive k) := by
  simp [redrive, hs, hl, hk]

@[simp] theorem writesIn_cfgWrite {k addr data : Nat} (hk : .links ∈ xs) : WritesIn anyWord xs (cfgWrite k addr data) := by
  simp [cfgWrite, hk]

@[simp] theorem writesIn_ntcInvalid {k i stamp : Nat} (hs : .streams ∈ xs) : WritesIn anyWord xs (ntcInvalid k i stamp) := by
  simp [ntcInvalid, hs]

@[simp] theorem writesIn_deliver {A : Nat → Prop} {x : Sample} (hd : .deliveries ∈ xs) : WritesIn A xs (deliver x) := by
  simp [deliver, hd]

theorem writesIn_telLatch {k t : Nat} (hs : .streams ∈ xs) (hd : .deliveries ∈ xs) : WritesIn anyWord xs (telLatch k t) := by
  refine fun c => ⟨?_, by simp [hd]⟩
  simp only [only_when_iff, only_each_iff]
  intro _ i _
  simp only [seqs_cons, seqs_nil, Act.only_seq, only_each_iff]
  refine ⟨?_, fun side _ => ⟨?_, ?_, trivial⟩, trivial⟩ <;> split <;> simp [hs]

/-! ### Sensing -/

@[simp] theorem writesIn_dsfInvalid {n : Nat} : WritesIn anyWord xs (dsfInvalid n) := by
  simp [dsfInvalid]

@[simp] theorem writesIn_dsfRestart {n : Nat} (hd : .dsfs ∈ xs) : WritesIn anyWord xs (dsfRestart n) := by
  simp [dsfRestart, dsfSettle, hd]

@[simp] theorem writesIn_dsfSpan {n t : Nat} (hs : .streams ∈ xs) : WritesIn anyWord xs (dsfSpan n t) := by
  simp [dsfSpan, hs]

@[simp] theorem writesIn_restartTemp {c : Chip} {i : Nat} (ht : .temps ∈ xs) : WritesIn anyWord xs (restartTemp c i) := by
  simp [restartTemp, tempRestart, ht]

@[simp] theorem writesIn_putBand {i b : Nat} : WritesIn anyWord xs (putBand i b) := by
  simp [putBand]

@[simp] theorem writesIn_tempEvent {i : Nat} : WritesIn anyWord xs (tempEvent i) := by
  simp [tempEvent]

@[simp] theorem writesIn_putTempFlag {i : Nat} {f g : Field} {b : Bool} : WritesIn anyWord xs (putTempFlag i f g b) := by
  simp [putTempFlag]

@[simp] theorem writesIn_tempRecord {i m n t : Nat} {b : Bool} {v : Int} (hs : .streams ∈ xs) : WritesIn anyWord xs (tempRecord i m n t b v) := by
  simp [tempRecord, hs]

@[simp] theorem writesIn_tempEval {i t : Nat} {v : Int} {b : Bool} (hs : .streams ∈ xs) (hf : .faults ∈ xs) (ht : .temps ∈ xs) :
    WritesIn anyWord xs (tempEval i v b t) := by
  simp [tempEval, hs, hf, ht]

@[simp] theorem writesIn_regionEval {r t : Nat} (hs : .streams ∈ xs) (hf : .faults ∈ xs) (ht : .temps ∈ xs) (hn : .tsns ∈ xs) :
    WritesIn anyWord xs (regionEval r t) := by
  simp [regionEval, hs, hf, ht, hn]

@[simp] theorem writesIn_tempBoundary {g t : Nat} (hs : .streams ∈ xs) (hf : .faults ∈ xs) (ht : .temps ∈ xs) (hn : .tsns ∈ xs) :
    WritesIn anyWord xs (tempBoundary g t) := by
  simp [tempBoundary, hs, hf, ht, hn]

@[simp] theorem writesIn_recordPend {A : Nat → Prop} {p : Page} {chan t : Nat} (hs : .streams ∈ xs) : WritesIn A xs (recordPend p chan t) := by
  simp [recordPend, hs]

@[simp] theorem writesIn_recordInOrder {p : Page} {chan code stamp d0 d1 : Nat} (hs : .streams ∈ xs) :
    WritesIn anyWord xs (recordInOrder p chan code stamp d0 d1) := by
  simp [recordInOrder, hs]

@[simp] theorem writesIn_adcStrobe {n ch t entry : Nat} (hs : .streams ∈ xs) (ha : .adcs ∈ xs) : WritesIn anyWord xs (adcStrobe n ch t entry) := by
  intro c
  simp only
  split <;> simp [adcStrobe.go, hs, ha]

/-! ### Position -/

@[simp] theorem writesIn_posStill {n : Nat} (hs : .streams ∈ xs) : WritesIn anyWord xs (posStill n) := by
  intro c
  simp only
  split <;> simp [hs]

@[simp] theorem writesIn_posStrobe {n t entry : Nat} (hs : .streams ∈ xs) (hp : .poss ∈ xs) : WritesIn anyWord xs (posStrobe n t entry) := by
  simp [posStrobe, posStillNow, hs, hp]

@[simp] theorem writesIn_posWire {n : Nat} (hf : .faults ∈ xs) : WritesIn anyWord xs (posWire n) := by
  simp [posWire, hf]

@[simp] theorem writesIn_emuLag {j : Nat} (hs : .streams ∈ xs) : WritesIn anyWord xs (emuLag j) := by
  simp [emuLag, hs]

@[simp] theorem writesIn_emuRefresh {j : Nat} (hs : .streams ∈ xs) (he : .emus ∈ xs) : WritesIn anyWord xs (emuRefresh j) := by
  simp [emuRefresh, hs, he]

@[simp] theorem writesIn_putEmuPins {j : Nat} {a b z : Bool} : WritesIn anyWord xs (putEmuPins j a b z) := by
  simp [putEmuPins]

@[simp] theorem writesIn_emuShow {j : Nat} : WritesIn anyWord xs (emuShow j) := by
  intro c
  simp only
  split <;> simp [emuPins]

@[simp] theorem writesIn_emuStart {j : Nat} (hs : .streams ∈ xs) (he : .emus ∈ xs) : WritesIn anyWord xs (emuStart j) := by
  simp [emuStart, hs, he]

/-! ### Bridge cells and commutation units -/

@[simp] theorem writesIn_brgSettle {n : Nat} (hb : .brgs ∈ xs) : WritesIn anyWord xs (brgSettle n) := by
  simp [brgSettle, hb]

@[simp] theorem writesIn_brgPlan {n : Nat} {raw : List GateEdge} (hb : .brgs ∈ xs) : WritesIn anyWord xs (brgPlan n raw) := by
  simp [brgPlan, hb]

@[simp] theorem writesIn_brgCommand {n : Nat} {raw : List GateEdge} (hb : .brgs ∈ xs) : WritesIn anyWord xs (brgCommand n raw) := by
  simp [brgCommand, hb]

@[simp] theorem writesIn_putSource {n : Nat} : WritesIn anyWord xs (putSource n) := by
  simp [putSource]

@[simp] theorem writesIn_brgUpdate {n : Nat} (hb : .brgs ∈ xs) : WritesIn anyWord xs (brgUpdate n) := by
  refine ⟨writesIn_brgSettle hb, fun c => ⟨?_, writesIn_putSource⟩⟩
  split
  · simp [hb]
  · split
    · simp [hb]
    · dsimp only
      split
      · split <;> simp [hb]
      · simp [hb]
    · simp [hb]

@[simp] theorem writesIn_sscAll {u : Nat} {cmd : CellCmd} (hb : .brgs ∈ xs) : WritesIn anyWord xs (sscAll u cmd) := by
  simp [sscAll, hb]

@[simp] theorem writesIn_sscTo {u st cause r : Nat} (hs : .streams ∈ xs) (hb : .brgs ∈ xs) (hu : .sscs ∈ xs) :
    WritesIn anyWord xs (sscTo u st cause r) := by
  simp [sscTo, hs, hb, hu]

@[simp] theorem writesIn_sscCommitted {u : Nat} (hs : .streams ∈ xs) (hb : .brgs ∈ xs) (hu : .sscs ∈ xs) :
    WritesIn anyWord xs (sscCommitted u) := by
  simp [sscCommitted, hs, hb, hu]

@[simp] theorem writesIn_sscBoundary {u b : Nat} (hs : .streams ∈ xs) (hb : .brgs ∈ xs) (hu : .sscs ∈ xs) :
    WritesIn anyWord xs (sscBoundary u b) := by
  intro c
  simp only
  split <;> simp [hs, hb, hu]

@[simp] theorem writesIn_canTimeMaster {n : Nat} {fresh : Bool} (hc : .cans ∈ xs) : WritesIn anyWord xs (canTimeMaster n fresh) := by
  simp [canTimeMaster, hc]

end Sys2Proof.Machine.Footprint
end

section
/-! Footprints of the Basin's settling (Chapter 14), by the parts it writes. -/

namespace Sys2Proof.Machine.Footprint

open Sys2Proof Sys2Proof.Machine

variable {xs : List Part}

/-- The parts that the queues write as they settle. -/
def basinParts : List Part := [.free, .mem, .pages, .streams, .taps, .ques, .stores, .ports]

theorem basinParts_subset_iff : basinParts ⊆ xs ↔
    .free ∈ xs ∧ .mem ∈ xs ∧ .pages ∈ xs ∧ .streams ∈ xs ∧ .taps ∈ xs ∧ .ques ∈ xs ∧ .stores ∈ xs ∧ .ports ∈ xs := by
  simp [basinParts]

@[simp] theorem writesIn_pktWord {cells : List Nat} {i : Nat} {v : Word} (hm : .mem ∈ xs) : WritesIn anyWord xs (pktWord cells i v) := by
  simp [pktWord, memWord, hm]

@[simp] theorem writesIn_pktOpen {n prod : Nat} {holder : Option Src} (hf : .free ∈ xs) (hq : .ques ∈ xs) :
    WritesIn anyWord xs (pktOpen n prod holder) := by
  simp [pktOpen, hf, hq]

@[simp] theorem writesIn_pktAppend {n : Nat} {v : Word} (hf : .free ∈ xs) (hm : .mem ∈ xs) (hq : .ques ∈ xs) :
    WritesIn anyWord xs (pktAppend n v) := by
  intro c
  simp only
  split <;> simp [hf, hm, hq]

@[simp] theorem writesIn_flushPoint {n : Nat} (hq : .ques ∈ xs) : WritesIn anyWord xs (flushPoint n) :=
  fun _ => ⟨writesIn_bump.mpr trivial, only_when _ _ fun _ => writesIn_put.mpr trivial, only_when _ _ fun _ => writesIn_put.mpr trivial,
    writesIn_modQue.mpr hq, writesIn_evt.mpr trivial, trivial⟩

@[simp] theorem writesIn_pktClose {n : Nat} (hm : .mem ∈ xs) (hq : .ques ∈ xs) : WritesIn anyWord xs (pktClose n) := by
  intro c
  simp only
  split <;> simp [hm, hq]

@[simp] theorem writesIn_withhold {n : Nat} (hq : .ques ∈ xs) : WritesIn anyWord xs (withhold n) := by
  simp [withhold, hq]

@[simp] theorem writesIn_openRefused {n : Nat} {src : Src} (hp : .pages ∈ xs) : WritesIn anyWord xs (openRefused n src) := by
  simp [openRefused, hp]

@[simp] theorem writesIn_undoQue {u : QueUndo} (hq : .ques ∈ xs) : WritesIn anyWord xs (undoQue u) := by
  simp [undoQue, hq]

@[simp] theorem writesIn_giveBack {u : QueUndo} {k : Taker} (h : basinParts ⊆ xs) : WritesIn anyWord xs (giveBack u k) := by
  rw [basinParts_subset_iff] at h
  refine ⟨by simp [h], ?_⟩
  cases k <;> simp [h]

@[simp] theorem writesIn_reclaim {n : Nat} (h : basinParts ⊆ xs) : WritesIn anyWord xs (reclaim n) := by
  have hst : .stores ∈ xs := h (by decide)
  intro c
  simp only
  split <;> simp [h, hst]

theorem writesIn_undoable {n : Nat} {k : Act} {keep : QueUndo → Act} (hk : WritesIn anyWord xs k) (hu : ∀ u, WritesIn anyWord xs (keep u)) :
    WritesIn anyWord xs (undoable n k keep) :=
  fun _ => ⟨hk, fun _ => hu _⟩

@[simp] theorem writesIn_takeCell {n : Nat} {by_ : Taker} {yes no : Act} (h : basinParts ⊆ xs) (hy : WritesIn anyWord xs yes)
    (hn : WritesIn anyWord xs no) : WritesIn anyWord xs (takeCell n by_ yes no) := by
  have hst : .stores ∈ xs := h (by decide)
  refine ⟨writesIn_reclaim h, fun c => ?_⟩
  simp only [only_ite_iff]
  exact ⟨fun _ => hn, fun _ => ⟨fun _ => writesIn_undoable hy (by simp [hst]), fun _ => hy⟩⟩

@[simp] theorem writesIn_pushOp {n : Nat} {src : Src} {op : PushOp} (h : basinParts ⊆ xs) : WritesIn anyWord xs (pushOp n src op) := by
  have h' := basinParts_subset_iff.mp h
  intro c
  simp only [only_ite_iff, Act.only_dyn]
  refine ⟨fun _ => by simp [h'], fun _ c => ?_⟩
  split <;> simp [h, h']

@[simp] theorem writesIn_serveWaits {n k : Nat} (h : basinParts ⊆ xs) : WritesIn anyWord xs (serveWaits n k) := by
  have hq : .ques ∈ xs := h (by decide)
  induction k with
  | zero => exact trivial
  | succ k ih =>
    intro c
    simp only
    split <;> simp [h, hq, ih]

@[simp] theorem writesIn_serveAllWaits {n : Nat} (h : basinParts ⊆ xs) : WritesIn anyWord xs (serveAllWaits n) :=
  fun _ => writesIn_serveWaits h

@[simp] theorem writesIn_unGiveUp {st : Nat} (hq : .ques ∈ xs) : WritesIn anyWord xs (unGiveUp st) := by
  simp [unGiveUp, hq]

@[simp] theorem writesIn_settleHeld {k : Nat} (h : basinParts ⊆ xs) : WritesIn anyWord xs (settleHeld k) := by
  have h' := basinParts_subset_iff.mp h
  induction k with
  | zero => exact trivial
  | succ k ih =>
    intro c
    simp only
    split
    · exact trivial
    · split <;> simp [h, h', ih]

@[simp] theorem writesIn_queRefresh {n : Nat} : WritesIn anyWord xs (queRefresh n) := by
  simp [queRefresh]

@[simp] theorem writesIn_basinRefresh : WritesIn anyWord xs basinRefresh := by
  simp [basinRefresh]

@[simp] theorem writesIn_basinSettle (h : basinParts ⊆ xs) : WritesIn anyWord xs basinSettle := by
  have hq : .ques ∈ xs := h (by decide)
  simp [basinSettle, h, hq]

end Sys2Proof.Machine.Footprint
end

section
/-! Footprints of the Tide's reference, the VCL and CNV, commits, frame boundaries and actions. -/

namespace Sys2Proof.Machine.Footprint

open Sys2Proof Sys2Proof.Machine

variable {A : Nat → Prop} {xs : List Part}

/-! ### The reference of the Tide -/

@[simp] theorem writesIn_refRefresh (ht : Covers A pgTIDE) : WritesIn A xs refRefresh := by
  simp only [refRefresh, Act.only_seq, Act.only_dyn, writesIn_put, writesIn_raiseLevels]
  exact ⟨fun _ => ht _ (by decide), ht _ (by decide)⟩

@[simp] theorem writesIn_servoTarget {v : Int} (hd : .tideS ∈ xs) (hs : .streams ∈ xs) (ht : Covers A pgTIDE) (he : Covers A pgEVS) :
    WritesIn A xs (servoTarget v) := by
  simp only [servoTarget, Act.only_dyn, Act.only_seq, only_when_iff, writesIn_modTideS, writesIn_evt, writesIn_record hs he]
  exact fun _ => ⟨hd, fun _ => ⟨ht _ (by decide), trivial⟩⟩

@[simp] theorem writesIn_refModeChange {old : Nat} (hd : .tideS ∈ xs) (hs : .streams ∈ xs) (ht : Covers A pgTIDE) (he : Covers A pgEVS) :
    WritesIn A xs (refModeChange old) := by
  simp [refModeChange, hd, hs, ht, he]

@[simp] theorem writesIn_refValid {phase : Nat} (hd : .tideS ∈ xs) (hs : .streams ∈ xs) (ht : Covers A pgTIDE) (he : Covers A pgEVS) :
    WritesIn A xs (refValid phase) := by
  intro c
  refine ⟨writesIn_putFlag.mpr ?_, writesIn_modTideS.mpr hd, only_when _ _ fun _ => writesIn_put.mpr (ht _ (by decide)), writesIn_refRefresh ht,
    only_when _ _ fun _ => ⟨writesIn_evt.mpr (ht _ (by decide)), writesIn_record hs he⟩, trivial⟩
  split <;> exact ht _ (by decide)

@[simp] theorem writesIn_refLoss (hd : .tideS ∈ xs) (hs : .streams ∈ xs) (ht : Covers A pgTIDE) (he : Covers A pgEVS) : WritesIn A xs refLoss :=
  fun _ => only_when _ _ fun _ => ⟨writesIn_modTideS.mpr hd, writesIn_refRefresh ht, writesIn_evt.mpr (ht _ (by decide)),
    fun _ => writesIn_record hs he, trivial⟩

/-! ### The voltage command line -/

@[simp] theorem writesIn_ack {word : Word} {src code reason stamp : Nat} (hc : .cnvS ∈ xs) (hs : .streams ∈ xs) (hv : Covers A pgVCL)
    (he : Covers A pgEVS) : WritesIn A xs (ack word src code reason stamp) :=
  fun _ => ⟨writesIn_put.mpr (hv _ (by decide)), writesIn_put.mpr (hv _ (by decide)), writesIn_evt.mpr (hv _ (by decide)),
    only_when _ _ fun _ => writesIn_bumpWrap.mpr (hv _ (by decide)),
    only_when _ _ fun _ => ⟨writesIn_bump.mpr (hv _ (by decide)), writesIn_evt.mpr (hv _ (by decide))⟩,
    only_when _ _ fun _ => writesIn_evt.mpr (hv _ (by decide)), writesIn_record hs he, only_when _ _ fun _ => writesIn_modCnvS.mpr hc, trivial⟩

@[simp] theorem writesIn_acceptSet {word : Word} {src b stamp : Nat} {late : Bool} (hc : .cnvS ∈ xs) (hs : .streams ∈ xs)
    (hv : Covers A pgVCL) (he : Covers A pgEVS) : WritesIn A xs (acceptSet word src b late stamp) :=
  fun _ => only_ite _ _ _ (fun _ => ⟨writesIn_modCnvS.mpr hc, writesIn_ack hc hs hv he⟩) fun _ => writesIn_ack hc hs hv he

@[simp] theorem writesIn_extLostRecord {n : Nat} (hc : .cnvS ∈ xs) : WritesIn A xs (extLostRecord n) :=
  writesIn_modCnvS.mpr hc

@[simp] theorem writesIn_vstep {arg due : Nat} (hc : .cnvS ∈ xs) (hs : .streams ∈ xs) : WritesIn anyWord xs (vstep arg due) := by
  simp [vstep, hc, hs]

@[simp] theorem writesIn_endActive {code reason stamp : Nat} (hc : .cnvS ∈ xs) (hs : .streams ∈ xs) :
    WritesIn anyWord xs (endActive code reason stamp) := by
  intro c
  simp only
  split <;> simp [hc, hs]

/-! ### The converter at a boundary -/

@[simp] theorem writesIn_putRamp {mv : Nat} : WritesIn anyWord xs (putRamp mv) := by
  simp [putRamp]

@[simp] theorem writesIn_cnvTo {st stamp : Nat} (hs : .streams ∈ xs) : WritesIn anyWord xs (cnvTo st stamp) := by
  simp [cnvTo, hs]

@[simp] theorem writesIn_putPhases {n m : Nat} : WritesIn anyWord xs (putPhases n m) := by
  simp [putPhases]

@[simp] theorem writesIn_cnvFault {cause stamp : Nat} (hc : .cnvS ∈ xs) (hs : .streams ∈ xs) (hf : .faults ∈ xs) :
    WritesIn anyWord xs (cnvFault cause stamp) := by
  simp [cnvFault, hc, hs, hf]

@[simp] theorem writesIn_cnvWatch {b : Nat} {rep : Option Word} (hc : .cnvS ∈ xs) (hs : .streams ∈ xs) (hf : .faults ∈ xs) :
    WritesIn anyWord xs (cnvWatch b rep) := by
  simp [cnvWatch, cnvShutdown, hc, hs, hf]

@[simp] theorem writesIn_takeReport {b : Nat} (hc : .cnvS ∈ xs) : WritesIn anyWord xs (takeReport b) := by
  refine fun c => ⟨writesIn_modCnvS.mpr hc, ?_⟩
  split <;> simp

@[simp] theorem writesIn_applyCtrl {b : Nat} (hc : .cnvS ∈ xs) (hs : .streams ∈ xs) : WritesIn anyWord xs (applyCtrl b) := by
  simp only [applyCtrl, Act.only_dyn, Act.only_seq, only_each_iff, only_when_iff]
  refine fun _ => ⟨writesIn_modCnvS.mpr hc, fun e _ c _ => ?_⟩
  split <;> simp [hc, hs]

@[simp] theorem writesIn_restorePhases {b active cause : Nat} {r : Bool} (hc : .cnvS ∈ xs) (hs : .streams ∈ xs) :
    WritesIn anyWord xs (restorePhases b active cause r) := by
  simp [restorePhases, hc, hs]

@[simp] theorem writesIn_takeSet {b : Nat} (hc : .cnvS ∈ xs) (hs : .streams ∈ xs) : WritesIn anyWord xs (takeSet b) := by
  simp only [takeSet, Act.only_dyn, Act.only_seq, only_ite_iff]
  refine fun c => ⟨writesIn_modCnvS.mpr hc, by simp [hc, hs], fun _ => ⟨by simp [hc, hs], fun _ => ?_⟩⟩
  split <;> simp [hc, hs]

@[simp] theorem writesIn_shedEval {b : Nat} {rep : Option Word} (hc : .cnvS ∈ xs) (hs : .streams ∈ xs) :
    WritesIn anyWord xs (shedEval b rep) := by
  simp [shedEval, hc, hs]

@[simp] theorem writesIn_latchWords {b : Nat} (hd : .deliveries ∈ xs) : WritesIn anyWord xs (latchWords b) := by
  simp [latchWords, hd]

@[simp] theorem writesIn_extAbort {b : Nat} (hc : .cnvS ∈ xs) (hs : .streams ∈ xs) : WritesIn anyWord xs (extAbort b) := by
  simp [extAbort, hc, hs]

@[simp] theorem writesIn_cnvBoundary {b : Nat} (hc : .cnvS ∈ xs) (hs : .streams ∈ xs) (hf : .faults ∈ xs) (hd : .deliveries ∈ xs) :
    WritesIn anyWord xs (cnvBoundary b) := by
  simp [cnvBoundary, cnvTemps, trackDone, rampBoundary, reachEval, hc, hs, hf, hd]

/-! ### The action table -/

@[simp] theorem writesIn_actRecord {code i stamp arg : Nat} (hs : .streams ∈ xs) : WritesIn anyWord xs (actRecord code i stamp arg) := by
  simp [actRecord, hs]

@[simp] theorem writesIn_retire {i : Nat} : WritesIn anyWord xs (retire i) := by
  simp [retire, absPend]

@[simp] theorem writesIn_skipEntries {g b : Nat} (hs : .streams ∈ xs) : WritesIn anyWord xs (skipEntries g b) := by
  simp [skipEntries, hs]

@[simp] theorem writesIn_lateRetire {t : Nat} (hs : .streams ∈ xs) : WritesIn anyWord xs (lateRetire t) := by
  simp [lateRetire, hs]

/-! ### Commits -/

@[simp] theorem writesIn_pendRefresh {p : Page} : WritesIn anyWord xs (pendRefresh p) := by
  simp [pendRefresh]

@[simp] theorem writesIn_putCopyBusy {p : Page} {b : Bool} : WritesIn anyWord xs (putCopyBusy p b) := by
  simp [putCopyBusy]

@[simp] theorem writesIn_startCopy {p : Page} {t : Nat} (hp : .pages ∈ xs) : WritesIn anyWord xs (startCopy p t) := by
  simp [startCopy, hp]

@[simp] theorem writesIn_exchangeBanks {p : Page} {x : Snap} {t : Nat} (hp : .pages ∈ xs) (hs : .streams ∈ xs) (ht : .tideS ∈ xs)
    (he : .engs ∈ xs) : WritesIn anyWord xs (exchangeBanks p x t) := by
  unfold exchangeBanks
  split <;> simp [absPend, hp, hs, ht, he]

@[simp] theorem writesIn_applySnap {p : Page} {x : Snap} (hp : .pages ∈ xs) (hs : .streams ∈ xs) (ht : .tideS ∈ xs) (he : .engs ∈ xs) :
    WritesIn anyWord xs (applySnap p x) := by
  simp [applySnap, hp, hs, ht, he]

/-- The parts that follow a page's new active set. -/
def commitParts : List Part :=
  [.free, .mem, .pages, .streams, .legs, .links, .faults, .dsfs, .temps, .slots, .taps, .emus, .brgs, .sscs, .ques, .stores, .ports, .cans,
    .tideS, .cnvS]

@[simp] theorem writesIn_commitHook {c0 : Chip} {p : Page} {t : Nat} : WritesIn anyWord commitParts (commitHook c0 p t) := by
  unfold commitHook
  split
  all_goals simp [commitParts, basinParts_subset_iff]

/-- The parts that a commit writes. -/
def applyParts : List Part := .engs :: commitParts

theorem writesIn_applyDue {p : Page} : WritesIn anyWord applyParts (applyDue p) := by
  have hp : .pages ∈ applyParts := by decide
  have hs : .streams ∈ applyParts := by decide
  have ht : .tideS ∈ applyParts := by decide
  have he : .engs ∈ applyParts := by decide
  have hc : ∀ c q t, WritesIn anyWord applyParts (commitHook c q t) := fun _ _ _ => writesIn_commitHook.mono (fun _ h => h) (by decide)
  simp [applyDue, hp, hs, ht, he, hc]

/-! ### Frame boundaries -/

@[simp] theorem writesIn_snapMark {b count : Nat} (hg : .gwys ∈ xs) : WritesIn A xs (snapMark b count) := by
  intro c
  simp only
  split <;> simp [hg]

@[simp] theorem writesIn_boundaryDue {g b : Nat} (hp : .pages ∈ xs) : WritesIn anyWord xs (boundaryDue g b) := by
  simp [boundaryDue, hp]

/-- The parts that the blocks following a generator write at its boundary. -/
def boundaryParts : List Part := [.streams, .faults, .temps, .tsns, .deliveries, .cnvS, .brgs, .sscs]

theorem writesIn_boundaryBlocks {g b : Nat} : WritesIn anyWord boundaryParts (boundaryBlocks g b) := by
  have ht : ∀ k, WritesIn anyWord boundaryParts (telLatch k b) := fun _ => writesIn_telLatch (by decide) (by decide)
  simp only [boundaryParts] at ht
  simp [boundaryBlocks, ht, boundaryParts]

/-! ### Actions -/

@[simp] theorem writesIn_dropLaunch {q : Quay} {l law tL cause : Nat} (hs : .streams ∈ xs) : WritesIn anyWord xs (dropLaunch q l law tL cause) := by
  simp [dropLaunch, hs]

@[simp] theorem writesIn_launch {q : Quay} {l law tL : Nat} (hs : .streams ∈ xs) (hl : .lanes ∈ xs) : WritesIn anyWord xs (launch q l law tL) := by
  simp [launch, modLaneOf, putQueued, hs, hl]

@[simp] theorem writesIn_openWindow {tap t arg : Nat} (hw : .capWins ∈ xs) : WritesIn anyWord xs (openWindow tap t arg) := by
  simp [openWindow, hw]

/-- The parts that an action writes as it is judged. -/
def actionParts : List Part := [.streams, .adcs, .dsfs, .tsns, .lanes, .poss, .tideS, .cplS, .capWins, .cnvS]

@[simp] theorem writesIn_sampleTarget {e : ActionEntry} {i t : Nat} : WritesIn anyWord actionParts (sampleTarget e i t) := by
  simp [sampleTarget, actionParts]

@[simp] theorem writesIn_actionEffect {e : ActionEntry} {i t : Nat} : WritesIn anyWord actionParts (actionEffect e i t) := by
  simp only [actionEffect, Act.only_dyn, only_ite_iff]
  refine fun c => ⟨fun _ => writesIn_sampleTarget, fun _ => ⟨fun _ => ?_, ?_⟩⟩
  · split <;> simp [actionParts]
  · simp [actionParts]

theorem writesIn_actionOf {kind i : Nat} : WritesIn anyWord actionParts (actionOf kind i) := by
  intro c
  dsimp only
  split
  · have ht : .tideS ∈ actionParts := by decide
    have hs : .streams ∈ actionParts := by decide
    simp [judge, ht, hs]
  · exact trivial

/-! ### Quay faults -/

@[simp] theorem writesIn_putBoth {f : Field} {v : Nat} : WritesIn anyWord xs (putBoth f v) := by
  simp [putBoth]

@[simp] theorem writesIn_gwyRefresh : WritesIn anyWord xs gwyRefresh := by
  simp [gwyRefresh]

@[simp] theorem writesIn_quayTo {q : Quay} {st : Nat} : WritesIn anyWord xs (quayTo q st) := by
  simp [quayTo]

@[simp] theorem writesIn_redTo {st : Nat} (hf : .faults ∈ xs) (hr : .redS ∈ xs) : WritesIn anyWord xs (redTo st) := by
  simp only [redTo, Act.only_dyn, only_when_iff, seqs_cons, seqs_nil, Act.only_seq]
  refine fun c _ => ⟨writesIn_putBoth, writesIn_putBoth, by simp [hr], by simp [hf], fun _ => ?_, by simp [qctlLevels], by simp [qctlLevels], trivial⟩
  split <;> simp

@[simp] theorem writesIn_forgetSent {q : Quay} (hg : .gwys ∈ xs) : WritesIn A xs (forgetSent q) := by
  simp [forgetSent, hg]

@[simp] theorem writesIn_putNew {n j : Nat} {b : Bool} : WritesIn anyWord xs (putNew n j b) := by
  simp [putNew]

@[simp] theorem writesIn_unlock {n j : Nat} {read : Bool} (ho : .objs ∈ xs) : WritesIn anyWord xs (unlock n j read) := by
  simp only [unlock, Act.only_dyn, seqs_cons, seqs_nil, Act.only_seq]
  refine fun c => ⟨by simp, by simp, by simp, ?_, trivial⟩
  split <;> simp [modObjOf, storeFrame, ho]

@[simp] theorem writesIn_canLocksOf {q : Quay} (ho : .objs ∈ xs) : WritesIn anyWord xs (canLocksOf q) := by
  simp [canLocksOf, ho]

@[simp] theorem writesIn_quayDown {q : Quay} {code : Nat} (ho : .objs ∈ xs) : WritesIn anyWord xs (quayDown q code) := by
  simp [quayDown, ho]

@[simp] theorem writesIn_reportFault {q : Quay} {code : Nat} (hf : .faults ∈ xs) : WritesIn anyWord xs (reportFault q code) := by
  simp [reportFault, hf]

@[simp] theorem writesIn_bistFails {q : Quay} (hf : .faults ∈ xs) (hr : .redS ∈ xs) (hq : .quays ∈ xs) : WritesIn anyWord xs (bistFails q) := by
  simp [bistFails, modQuayOf, hf, hr, hq]

@[simp] theorem writesIn_standbyLost {q : Quay} {code : Nat} (hs : .streams ∈ xs) (hf : .faults ∈ xs) (hg : .gwys ∈ xs) (hr : .redS ∈ xs) :
    WritesIn anyWord xs (standbyLost q code) := by
  simp [standbyLost, hs, hf, hg, hr]

@[simp] theorem writesIn_quayFault {q : Quay} {code : Nat} (hs : .streams ∈ xs) (hf : .faults ∈ xs) (hg : .gwys ∈ xs) (hr : .redS ∈ xs)
    (hq : .quays ∈ xs) (ho : .objs ∈ xs) : WritesIn anyWord xs (quayFault q code) := by
  refine ⟨writesIn_reportFault hf, fun c => ?_⟩
  dsimp only
  split <;> simp [modQuayOf, hs, hf, hg, hr, hq, ho]

end Sys2Proof.Machine.Footprint
end

section
/-! Footprints of the Tide's, VCL's and CNV's own commands, and the statement of what each of them leaves unchanged. -/

namespace Sys2Proof.Machine.Footprint

open Sys2Proof Sys2Proof.Machine

variable {A : Nat → Prop} {xs : List Part}

/-! ### The PLLs -/

@[simp] theorem writesIn_tideUnlock {lost : Bool} (hs : .streams ∈ xs) (hf : .faults ∈ xs) : WritesIn anyWord xs (tideUnlock lost) := by
  simp [tideUnlock, hs, hf]

theorem writesIn_pllFails {i : Nat} {lost : Bool} (hs : .streams ∈ xs) (hf : .faults ∈ xs) (hg : .gwys ∈ xs) (ho : .objs ∈ xs)
    (hq : .quays ∈ xs) (hr : .redS ∈ xs) : WritesIn anyWord xs (pllFails i lost) := by
  refine fun c => only_when _ _ fun _ => ⟨by simp, by simp, by simp, by simp [hs], by simp, ?_, trivial⟩
  split <;> simp [hs, hf, hg, ho, hq, hr]

/-! ### The frame boundary -/

/-- The parts that a frame boundary writes. -/
def frameParts : List Part :=
  [.free, .mem, .pages, .streams, .legs, .links, .faults, .dsfs, .tsns, .temps, .slots, .taps, .engs, .gwys, .emus, .brgs, .sscs, .ques,
    .stores, .ports, .cans, .tideS, .deliveries, .cnvS]

/-- What a frame boundary of a running generator does. -/
def frameBoundaryAct (g : Fin 8) : Act :=
  whenC (fun c => c.tideOn && c.fgOn g) (.dyn fun c =>
    seqs [atTick (c.fgNext g), when (g.val = 0) (snapMark (c.fgNext g) (c.fgCount g)),
      if c.tideSt.firsts.contains g.val then modTideS fun s => { s with firsts := s.firsts.filter fun x => x != g.val }
      else bumpWrap (pgFG g) Reg.FG.COUNT,
      putWide (pgFG g) Reg.FG.NEXT_LO Reg.FG.NEXT_HI (c.fgNext g + c.fgPeriod g), evt (pgFG g) 0, boundaryDue g (c.fgNext g),
      .dyn fun c => each (c.waiting.filter fun p => c.fgOf p == g.val && leadOf p == p) applyDue,
      boundaryBlocks g (c.fgNext g), whenC (fun c => c.on pgACT) (skipEntries g (c.fgNext g))])

theorem exec_frameBoundary (dt : Nat) (g : Fin 8) (s : State) : exec (.frameBoundary dt g) s = s.act dt (frameBoundaryAct g) := rfl

theorem writesIn_frameBoundaryAct {g : Fin 8} : WritesIn anyWord frameParts (frameBoundaryAct g) := by
  have ha : ∀ p, WritesIn anyWord frameParts (applyDue p) := fun _ => writesIn_applyDue.mono (fun _ h => h) (by decide)
  have hb : ∀ b, WritesIn anyWord frameParts (boundaryBlocks g b) := fun _ => writesIn_boundaryBlocks.mono (fun _ h => h) (by decide)
  have hs : .streams ∈ frameParts := by decide
  have hp : .pages ∈ frameParts := by decide
  have hw : .gwys ∈ frameParts := by decide
  have ht : .tideS ∈ frameParts := by decide
  simp [frameBoundaryAct, ha, hb, hs, hp, hw, ht]

/-! ### CNV -/

theorem writesIn_cnvControl {src : Src} {kind : Nat} (hp : .pages ∈ xs) (hc : .cnvS ∈ xs) : WritesIn anyWord xs (cnvControl src kind) := by
  refine only_onPage _ _ _ _ _ (fun c => ?_) (fun _ _ => trivial) (fun _ _ _ _ _ => trivial) (fun _ _ _ => trivial)
    (fun h => absurd h (by decide)) (fun _ => hp) fun _ _ _ => trivial
  simp [hc, hp]

end Sys2Proof.Machine.Footprint
end

section
/-! O55: what the Tide, frame, action and event-stream commands leave unchanged. -/

namespace Sys2Proof.Machine.Tide

open Sys2Proof Sys2Proof.Machine Sys2Proof.Machine.Footprint

theorem covers_tide {ks : List Blk} (h : .tide ∈ ks) : Covers (onPages ks) pgTIDE := covers_onPages (by decide) h
theorem covers_evs {ks : List Blk} (h : .evs ∈ ks) : Covers (onPages ks) pgEVS := covers_onPages (by decide) h
theorem covers_vcl {ks : List Blk} (h : .vcl ∈ ks) : Covers (onPages ks) pgVCL := covers_onPages (by decide) h
theorem covers_clk {ks : List Blk} (h : .clk ∈ ks) : Covers (onPages ks) pgCLK := covers_onPages (by decide) h
theorem covers_rst {ks : List Blk} (h : .rst ∈ ks) : Covers (onPages ks) pgRST := covers_onPages (by decide) h
theorem covers_flt8 {ks : List Blk} (h : .flt8 ∈ ks) : Covers (onPages ks) pgFLT8 := covers_onPages (by decide) h

/-! ### The reference and the crystal -/

theorem framed_refLost (dt : Nat) (ext : Bool) (s : State) : Framed (.refLost dt ext) s [.evs, .tide] [] [.streams, .tideS] := by
  have ht : Covers (onPages [.evs, .tide]) pgTIDE := covers_tide (by decide)
  have he : Covers (onPages [.evs, .tide]) pgEVS := covers_evs (by decide)
  have hl : WritesIn (onPages [.evs, .tide]) [.streams, .tideS] refLoss := writesIn_refLoss (by decide) (by decide) ht he
  refine framed_of_writesIn rfl (only_ite _ _ _ (fun _ => ⟨writesIn_putFlag.mpr (ht _ (by decide)), only_whenC _ _ hl⟩) fun _ => ?_)
  exact only_whenC _ _ fun _ => ⟨trivial, writesIn_putFlag.mpr (ht _ (by decide)), only_whenC _ _ hl, trivial⟩

theorem framed_refRegained (dt : Nat) (phase : Fin 250) (s : State) :
    Framed (.refRegained dt phase) s [.evs, .tide] [] [.streams, .tideS] := by
  have ht : Covers (onPages [.evs, .tide]) pgTIDE := covers_tide (by decide)
  exact framed_of_writesIn rfl fun _ => only_ite _ _ _ (fun _ => writesIn_refValid (by decide) (by decide) ht (covers_evs (by decide)))
    fun _ => writesIn_putFlag.mpr (ht _ (by decide))

theorem framed_trimSlewStep (dt : Nat) (ext : Int) (s : State) : Framed (.trimSlewStep dt ext) s [.evs, .tide] [] [.streams, .tideS] := by
  have ht : Covers (onPages [.evs, .tide]) pgTIDE := covers_tide (by decide)
  have hs : WritesIn (onPages [.evs, .tide]) [.streams, .tideS] (servoTarget ext) :=
    writesIn_servoTarget (by decide) (by decide) ht (covers_evs (by decide))
  have hp : ∀ v, WritesIn (onPages [.evs, .tide]) [.streams, .tideS] (put pgTIDE Reg.TIDE.TRIM_APPLIED v) :=
    fun _ => writesIn_put.mpr (ht _ (by decide))
  have hm : ∀ t, WritesIn (onPages [.evs, .tide]) [.streams, .tideS] (modTideS fun s => { s with slewAt := t }) :=
    fun _ => writesIn_modTideS.mpr (by decide)
  refine framed_of_writesIn rfl ?_
  simp only [Act.only_seq, Act.only_dyn]
  exact ⟨only_whenC _ _ hs, fun c => only_when _ _ fun _ => ⟨hm _, hp _⟩⟩

theorem framed_xtalLoss (dt : Nat) (s : State) : Framed (.xtalLoss dt) s [.clk, .evs, .flt8, .tide] [] [.streams, .faults, .tideS] := by
  have ht : Covers (onPages [.clk, .evs, .flt8, .tide]) pgTIDE := covers_tide (by decide)
  have hc : Covers (onPages [.clk, .evs, .flt8, .tide]) pgCLK := covers_clk (by decide)
  have he : Covers (onPages [.clk, .evs, .flt8, .tide]) pgEVS := covers_evs (by decide)
  have hf : Covers (onPages [.clk, .evs, .flt8, .tide]) pgFLT8 := covers_flt8 (by decide)
  exact framed_of_writesIn rfl (only_whenC _ _ <|
    ⟨writesIn_putFlag.mpr (hc _ (by decide)), writesIn_putFlag.mpr (ht _ (by decide)), writesIn_putFlag.mpr (hc _ (by decide)),
      writesIn_bump.mpr (hc _ (by decide)), writesIn_modTideS.mpr (by decide), writesIn_refRefresh ht,
      writesIn_raiseLevels.mpr (hc _ (by decide)),
      fun _ => ⟨writesIn_record (by decide) he, writesIn_record (by decide) he⟩,
      (writesIn_raiseFault (by decide)).mpr (hf _ (by decide)), trivial⟩)

theorem framed_xtalRegained (dt : Nat) (s : State) : Framed (.xtalRegained dt) s [.clk, .evs, .flt8, .rst, .tide] [] [.streams, .tideS] := by
  have ht : Covers (onPages [.clk, .evs, .flt8, .rst, .tide]) pgTIDE := covers_tide (by decide)
  have hc : Covers (onPages [.clk, .evs, .flt8, .rst, .tide]) pgCLK := covers_clk (by decide)
  have he : Covers (onPages [.clk, .evs, .flt8, .rst, .tide]) pgEVS := covers_evs (by decide)
  have hf : Covers (onPages [.clk, .evs, .flt8, .rst, .tide]) pgFLT8 := covers_flt8 (by decide)
  have hr : Covers (onPages [.clk, .evs, .flt8, .rst, .tide]) pgRST := covers_rst (by decide)
  exact framed_of_writesIn rfl (only_whenC _ _ <|
    ⟨writesIn_putFlag.mpr (hc _ (by decide)), writesIn_putFlag.mpr (ht _ (by decide)), writesIn_putFlag.mpr (hc _ (by decide)),
      fun _ => only_when _ _ fun _ => ⟨writesIn_modTideS.mpr (by decide), writesIn_record (by decide) he,
        writesIn_dropFault.mpr (hf _ (by decide)), trivial⟩,
      fun _ => only_when _ _ fun _ => writesIn_putFlag.mpr (hr _ (by decide)), writesIn_refRefresh ht, trivial⟩)

theorem framedParts_tideUnlock (dt : Nat) (s : State) : FramedParts (.tideUnlock dt) s [.streams, .faults, .gwys, .objs, .quays, .redS] :=
  framedParts_of_writesIn rfl (writesIn_pllFails (by decide) (by decide) (by decide) (by decide) (by decide) (by decide))

/-! ### Actions -/

theorem framed_actionDispatch (dt : Nat) (i : Fin 256) (s : State) : Framed (.actionDispatch dt i) s [] [] [.tideS] := by
  refine framed_of_writesIn rfl fun c => ?_
  dsimp only
  split
  case h_1 => exact only_when _ _ fun _ => ⟨writesIn_atTick, writesIn_modTideS.mpr (by decide)⟩
  case h_2 => exact trivial

/-! ### The voltage command line -/

theorem framed_vclCmdAccept (dt : Nat) (s : State) : Framed (.vclCmdAccept dt) s [.evs, .vcl] [] [.streams, .vcmds, .cnvS] := by
  have hv : Covers (onPages [.evs, .vcl]) pgVCL := covers_vcl (by decide)
  have he : Covers (onPages [.evs, .vcl]) pgEVS := covers_evs (by decide)
  have hr : WritesIn (onPages [.evs, .vcl]) [.streams, .vcmds, .cnvS] (bump pgVCL Reg.VCL.REFUSED_CNT) := writesIn_bump.mpr (hv _ (by decide))
  refine framed_of_writesIn rfl fun c => ?_
  dsimp only
  split
  case h_1 => exact trivial
  case h_2 =>
    refine ⟨writesIn_modVcmds.mpr (by decide), only_when _ _ fun _ => only_ite _ _ _ (fun _ => hr) fun _ => ?_⟩
    split
    case h_1 => exact trivial
    case h_2 =>
      exact only_ite _ _ _ (fun _ => writesIn_ack (by decide) (by decide) hv he) fun _ => writesIn_acceptSet (by decide) (by decide) hv he
    case h_3 =>
      exact only_ite _ _ _ (fun _ => hr) fun _ =>
        only_ite _ _ _ (fun _ => ⟨writesIn_bump.mpr (hv _ (by decide)), writesIn_evt.mpr (hv _ (by decide))⟩) fun _ =>
          only_ite _ _ _ (fun _ => writesIn_modCnvS.mpr (by decide)) fun _ => writesIn_modCnvS.mpr (by decide)

theorem framed_vclExtFrame (dt : Nat) (w : Word) (crc : BitVec 8) (s : State) :
    Framed (.vclExtFrame dt w crc) s [.evs, .vcl] [] [.streams, .cnvS] := by
  have hv : Covers (onPages [.evs, .vcl]) pgVCL := covers_vcl (by decide)
  have he : Covers (onPages [.evs, .vcl]) pgEVS := covers_evs (by decide)
  refine framed_of_writesIn rfl fun c => only_when _ _ fun _ => only_ite _ _ _ (fun _ => writesIn_bump.mpr (hv _ (by decide))) fun _ =>
    ⟨writesIn_modCnvS.mpr (by decide), writesIn_putFlag.mpr (hv _ (by decide)),
      only_when _ _ fun _ => ⟨writesIn_putFlag.mpr (hv _ (by decide)), writesIn_extLostRecord (by decide)⟩, ?_, trivial⟩
  split
  case h_1 => exact trivial
  case h_2 => exact writesIn_acceptSet (by decide) (by decide) hv he
  case h_3 => exact writesIn_bump.mpr (hv _ (by decide))

theorem framed_vclExtTimeout (dt : Nat) (s : State) : Framed (.vclExtTimeout dt) s [.vcl] [] [.cnvS] := by
  have hv : Covers (onPages [.vcl]) pgVCL := covers_vcl (by decide)
  exact framed_of_writesIn rfl fun _ => only_when _ _ fun _ =>
    ⟨writesIn_atTick, writesIn_modCnvS.mpr (by decide), writesIn_putFlag.mpr (hv _ (by decide)), writesIn_putFlag.mpr (hv _ (by decide)),
      writesIn_extLostRecord (by decide), writesIn_raiseLevels.mpr (hv _ (by decide)), trivial⟩

theorem framed_extFrameInvalid (dt : Nat) (s : State) : Framed (.extFrameInvalid dt) s [.vcl] [] [] :=
  framed_of_writesIn rfl (only_whenC _ _ <| writesIn_bump.mpr (covers_vcl (by decide) _ (by decide)))

theorem framedParts_cnvControl {i : Instr} {src : Src} {kind dt : Nat} {s : State} (e : exec i s = s.act dt (cnvControl src kind)) :
    FramedParts i s [.free, .mem, .pages, .streams, .taps, .ques, .stores, .ports, .cnvS] :=
  framedParts_of_writesIn e (writesIn_cnvControl (by decide) (by decide))

/-! ### The statement -/

/-- Settles O55, by the footprint of each command's effect: the words and the parts that its writes can reach. -/
theorem framesOfTideAndActions : Obligations.FramesOfTideAndActions :=
  ⟨framed_refLost, framed_refRegained, framed_trimSlewStep, framed_xtalLoss, framed_xtalRegained, framedParts_tideUnlock,
    fun dt g s => framedParts_of_writesIn (exec_frameBoundary dt g s) writesIn_frameBoundaryAct, framed_actionDispatch,
    fun _ _ _ => framedParts_of_writesIn rfl writesIn_actionOf, fun _ _ _ => framedParts_of_writesIn rfl writesIn_actionOf,
    fun _ _ _ => framedParts_of_writesIn rfl writesIn_actionOf, fun _ _ _ => framedParts_of_writesIn rfl writesIn_actionOf,
    fun _ _ _ => framedParts_of_writesIn rfl writesIn_actionOf, framed_vclCmdAccept, framed_vclExtFrame, framed_vclExtTimeout,
    fun _ _ => framed_of_writesIn rfl (writesIn_modCnvS.mpr (by decide)), fun _ _ _ => framedParts_cnvControl rfl,
    fun _ _ _ => framedParts_cnvControl rfl, fun _ _ _ => framedParts_cnvControl rfl,
    fun _ _ => framed_of_writesIn rfl (writesIn_modTideS.mpr (by decide)), framed_extFrameInvalid⟩

end Sys2Proof.Machine.Tide
end

section
/-! What an effect does to one field: it keeps it, or it leaves a known value in it. -/

namespace Sys2Proof.Machine.Footprint

open Sys2Proof Sys2Proof.Machine

variable {p : Page} {f g : Field} {k j v : Nat} {a b : Act}

/-- The effect leaves the field as it was. -/
def KeepsFld (p : Page) (f : Field) (k : Nat) (a : Act) : Prop := ∀ c, (a.run c).fld p f k = c.fld p f k

/-- The effect leaves the value in the field. -/
def GivesFld (p : Page) (f : Field) (k v : Nat) (a : Act) : Prop := ∀ c, (a.run c).fld p f k = v

/-- The field element belongs to the page and holds what is written to it. -/
def heldBy (p : Page) (f : Field) (k : Nat) : Bool := p.valid && p.fields.contains f && decide (k < f.count) && !boundWord p (f.word k)

/-- The second field lies in the same word as the first and shares no bit with it. -/
def beside (f : Field) (k : Nat) (g : Field) (j : Nat) : Bool :=
  f.word k == g.word j && (decide (g.bit j + g.width ≤ f.bit k) || decide (f.bit k + f.width ≤ g.bit j))

/-- Every address but the field's word. -/
abbrev Elsewhere (p : Page) (f : Field) (k : Nat) : Nat → Prop := fun a => a ≠ p.base + f.word k

theorem heldBy_iff : heldBy p f k = true ↔ p.valid = true ∧ f ∈ p.fields ∧ k < f.count ∧ boundWord p (f.word k) = false := by
  simp [heldBy, and_assoc]

theorem beside_iff : beside f k g j = true ↔ f.word k = g.word j ∧ (g.bit j + g.width ≤ f.bit k ∨ f.bit k + f.width ≤ g.bit j) := by
  simp [beside]

/-! ### Keeping a field -/

theorem keepsFld_of_elsewhere {xs : List Part} (h : WritesIn (Elsewhere p f k) xs a) : KeepsFld p f k a := fun c => h.fld c fun e => e rfl

theorem keepsFld_seq (ha : KeepsFld p f k a) (hb : KeepsFld p f k b) : KeepsFld p f k (.seq a b) := fun c => (hb _).trans (ha c)

theorem keepsFld_dyn {h : Chip → Act} (hk : ∀ c, KeepsFld p f k (h c)) : KeepsFld p f k (.dyn h) := fun c => hk c c

/-- A write beside a field keeps it. -/
theorem keepsFld_put (hg : heldBy p g j = true) (hb : beside f k g j = true) : KeepsFld p g j (put p f v k) := by
  obtain ⟨hp, hm, hj, hw⟩ := heldBy_iff.mp hg
  obtain ⟨he, hd⟩ := beside_iff.mp hb
  exact fun c => c.fld_put_bits p f g v k j hp hm hj he hd hw

/-! ### Leaving a value in a field -/

theorem givesFld_put (h : heldBy p f k = true) (hv : v < 2 ^ f.width) : GivesFld p f k v (put p f v k) := by
  obtain ⟨hp, hm, hk, hw⟩ := heldBy_iff.mp h
  exact fun c => (c.fld_put_same p f v k hp hm hk hw).trans (Nat.mod_eq_of_lt hv)

/-- A stored word gives its bits to the field elements that it holds. -/
theorem givesFld_setWord {w : Word} (h : heldBy p f k = true) :
    GivesFld p f k (w.bits (f.bit k) f.width) (.seq (setWord (p.base + f.word k) w) .skip) := by
  obtain ⟨hp, hm, hk, hw⟩ := heldBy_iff.mp h
  have hfit := p.fits_of_mem f hm
  have hlt := f.word_lt k hfit hk
  intro c
  simp only [setWord, Act.run_seq, Act.run_prim, Act.run_skip, Chip.fld, Chip.word_reg, if_true]
  exact Word.bits_ext _ _ _ _ fun i hi => regNorm_bit p _ _ _ _ hp (by omega) hw (implMask_bit p f k i hp hm hk hi (boundWord_ge hw))

theorem givesFld_dyn {h : Chip → Act} (hv : ∀ c, GivesFld p f k v (h c)) : GivesFld p f k v (.dyn h) := fun c => hv c c

theorem givesFld_then (ha : GivesFld p f k v a) (hb : KeepsFld p f k b) : GivesFld p f k v (.seq a b) := fun c => (hb _).trans (ha c)

theorem givesFld_after (hb : GivesFld p f k v b) : GivesFld p f k v (.seq a b) := fun c => hb (a.run c)

/-! ### Bits of a field -/

/-- A bit that was set reads as set. -/
theorem bitAt_putBit (c : Chip) (i : Nat) (h : heldBy p f (i / 32) = true) (hw : f.width = 32) :
    ((putBit p f i true).run c).bitAt p f i = true := by
  obtain ⟨hp, hm, hk, hb⟩ := heldBy_iff.mp h
  simp only [putBit, Chip.bitAt, Act.run_dyn, if_true, Chip.fld_put_same _ _ _ _ _ hp hm hk hb, hw]
  rw [Nat.testBit_mod_two_pow]
  simp [Nat.testBit_or, Nat.mod_lt]

/-- A fault line that was raised reads as active in FLT8.RAW. -/
theorem bitAt_raiseFault (c : Chip) (id cause : Nat) (pulse : Bool) (h : heldBy pgFLT8 Reg.FLT8.RAW (id / 32) = true) :
    ((raiseFault id cause pulse).run c).bitAt pgFLT8 Reg.FLT8.RAW id = true :=
  bitAt_putBit c id h rfl

/-! ### Outside a footprint -/

/-- The Tide's state outside the effect's footprint is as before. -/
theorem tideSt_of_writesIn {A : Nat → Prop} {xs : List Part} {a : Act} (h : WritesIn A xs a) (hx : .tideS ∉ xs) (c : Chip) :
    (a.run c).tideSt = c.tideSt := by
  simpa [Chip.samePart] using h.samePart c hx

/-- An address of a page is not an address of another. -/
theorem covers_elsewhere {q : Page} (hp : p.valid = true) (hq : q.valid = true) (hne : p ≠ q) (hw : g.word j < 4096) :
    Covers (Elsewhere q g j) p := fun o ho => Page.addr_ne p q o _ hp hq ho hw (.inl hne)

end Sys2Proof.Machine.Footprint
end

section
/-! O7: crystal loss, its return and an unlocked TIDE PLL (R69, R74, R460). -/

namespace Sys2Proof.Machine.Tide

open Sys2Proof Sys2Proof.Machine Sys2Proof.Machine.Footprint

/-! ### Words of other pages -/

theorem covers_evs_elsewhere_clk {f : Field} (hf : f.word 0 < 4096) : Covers (Elsewhere pgCLK f 0) pgEVS :=
  covers_elsewhere (by decide) (by decide) (by decide) hf

theorem covers_evs_elsewhere_tide {f : Field} (hf : f.word 0 < 4096) : Covers (Elsewhere pgTIDE f 0) pgEVS :=
  covers_elsewhere (by decide) (by decide) (by decide) hf

theorem covers_tide_elsewhere_clk {f : Field} (hf : f.word 0 < 4096) : Covers (Elsewhere pgCLK f 0) pgTIDE :=
  covers_elsewhere (by decide) (by decide) (by decide) hf

/-- The state of the reference is refreshed beside the other fields of its status word. -/
theorem keepsFld_refRefresh {f : Field} (hf : heldBy pgTIDE f 0 = true) (hb : beside Reg.TIDE.REF_STAT_STATE 0 f 0 = true)
    (he : Reg.HDR.EVT_RAW.word 0 ≠ f.word 0) : KeepsFld pgTIDE f 0 refRefresh :=
  keepsFld_seq (keepsFld_dyn fun _ => keepsFld_put hf hb)
    (keepsFld_of_elsewhere (xs := []) (writesIn_raiseLevels.mpr fun e => he (Nat.add_left_cancel e)))

/-! ### The crystal is lost -/

/-- What the loss of the crystal does once its two status bits are cleared and HOLDOVER is set. -/
def xtalLossReports : Act :=
  seqs [bump pgCLK Reg.CLK.FAULT_CNT, modTideS fun s => { s with xtalLost := true }, refRefresh, raiseLevels pgCLK Chip.clkLevels,
    .dyn fun c => .seq (record pgCLK 0 0x02 c.t 1 0) (record pgTIDE 0 0x13 c.t 0 c.trim), raiseFault fXTAL_LOSS]

/-- What the loss of a crystal that was OK does. -/
def xtalLossAct : Act :=
  .seq (putFlag pgCLK Reg.CLK.CLK_STAT_XTAL_OK false) (.seq (putFlag pgTIDE Reg.TIDE.REF_STAT_XTAL_OK false)
    (.seq (putFlag pgCLK Reg.CLK.CLK_STAT_HOLDOVER true) xtalLossReports))

theorem exec_xtalLoss (dt : Nat) (s : State) :
    exec (.xtalLoss dt) s = s.act dt (whenC (fun c => c.flag pgCLK Reg.CLK.CLK_STAT_XTAL_OK) xtalLossAct) := rfl

/-- The parts that the report of a lost crystal writes. -/
def xtalParts : List Part := [.streams, .faults, .tideS]

theorem xtalLossReports_clkStat : WritesIn (Elsewhere pgCLK Reg.CLK.CLK_STAT_XTAL_OK 0) xtalParts xtalLossReports := by
  have he := covers_evs_elsewhere_clk (f := Reg.CLK.CLK_STAT_XTAL_OK) (by decide)
  exact ⟨writesIn_bump.mpr (by decide), writesIn_modTideS.mpr (by decide), writesIn_refRefresh (covers_tide_elsewhere_clk (by decide)),
    writesIn_raiseLevels.mpr (by decide), fun _ => ⟨writesIn_record (by decide) he, writesIn_record (by decide) he⟩,
    (writesIn_raiseFault (by decide)).mpr (by decide), trivial⟩

theorem keepsFld_xtalLossReports_refStat : KeepsFld pgTIDE Reg.TIDE.REF_STAT_XTAL_OK 0 xtalLossReports := by
  have he := covers_evs_elsewhere_tide (f := Reg.TIDE.REF_STAT_XTAL_OK) (by decide)
  refine keepsFld_seq (keepsFld_of_elsewhere (xs := xtalParts) (writesIn_bump.mpr (by decide)))
    (keepsFld_seq (keepsFld_of_elsewhere (xs := xtalParts) (writesIn_modTideS.mpr (by decide)))
      (keepsFld_seq (keepsFld_refRefresh (by decide) (by decide) (by decide)) (keepsFld_of_elsewhere (xs := xtalParts) ?_)))
  exact ⟨writesIn_raiseLevels.mpr (by decide), fun _ => ⟨writesIn_record (by decide) he, writesIn_record (by decide) he⟩,
    (writesIn_raiseFault (by decide)).mpr (by decide), trivial⟩

theorem xtalLoss_clears_clkXtalOk : GivesFld pgCLK Reg.CLK.CLK_STAT_XTAL_OK 0 0 xtalLossAct :=
  givesFld_then (givesFld_put (by decide) (by decide)) (keepsFld_seq (keepsFld_of_elsewhere (xs := []) (writesIn_putFlag.mpr (by decide)))
    (keepsFld_seq (keepsFld_put (by decide) (by decide)) (keepsFld_of_elsewhere xtalLossReports_clkStat)))

theorem xtalLoss_clears_refXtalOk : GivesFld pgTIDE Reg.TIDE.REF_STAT_XTAL_OK 0 0 xtalLossAct :=
  givesFld_after (givesFld_then (givesFld_put (by decide) (by decide))
    (keepsFld_seq (keepsFld_of_elsewhere (xs := []) (writesIn_putFlag.mpr (by decide))) keepsFld_xtalLossReports_refStat))

theorem xtalLoss_sets_holdover : GivesFld pgCLK Reg.CLK.CLK_STAT_HOLDOVER 0 1 xtalLossAct :=
  givesFld_after (givesFld_after (givesFld_then (givesFld_put (by decide) (by decide)) (keepsFld_of_elsewhere xtalLossReports_clkStat)))

theorem xtalLoss_notes_loss (c : Chip) : (xtalLossAct.run c).tideSt.xtalLost = true := by
  have h : WritesIn anyWord [.streams, .faults] (seqs [refRefresh, raiseLevels pgCLK Chip.clkLevels,
      .dyn fun c => .seq (record pgCLK 0 0x02 c.t 1 0) (record pgTIDE 0 0x13 c.t 0 c.trim), raiseFault fXTAL_LOSS]) := by simp
  exact congrArg TideSt.xtalLost (tideSt_of_writesIn h (by decide) _)

theorem xtalLoss_raises (c : Chip) : (xtalLossAct.run c).bitAt pgFLT8 Reg.FLT8.RAW fXTAL_LOSS = true :=
  bitAt_raiseFault _ _ _ _ (by decide)

/-! ### The crystal is back -/

/-- What the return of the crystal does once its status bits are set and HOLDOVER is cleared. -/
def xtalBackReports : Act :=
  seqs [.dyn fun c => when c.tideSt.xtalLost
      (seqs [modTideS fun s => { s with xtalLost := false }, record pgCLK 0 0x02 c.t 0 0, dropFault fXTAL_LOSS]),
    .dyn fun c => when (c.seqSt.released.isSome && !c.tideOn && decide (c.seqSt.released.getD 0 + 50000000 < c.now))
      (putFlag pgRST Reg.RST.RST_CAUSE_XTAL_WAIT true),
    refRefresh]

/-- What the return of a crystal that was not OK does. -/
def xtalBackAct : Act :=
  .seq (putFlag pgCLK Reg.CLK.CLK_STAT_XTAL_OK true) (.seq (putFlag pgTIDE Reg.TIDE.REF_STAT_XTAL_OK true)
    (.seq (putFlag pgCLK Reg.CLK.CLK_STAT_HOLDOVER false) xtalBackReports))

theorem exec_xtalRegained (dt : Nat) (s : State) :
    exec (.xtalRegained dt) s = s.act dt (whenC (fun c => !c.flag pgCLK Reg.CLK.CLK_STAT_XTAL_OK) xtalBackAct) := rfl

theorem xtalBackReports_clkStat : WritesIn (Elsewhere pgCLK Reg.CLK.CLK_STAT_XTAL_OK 0) xtalParts xtalBackReports :=
  ⟨fun _ => only_when _ _ fun _ => ⟨writesIn_modTideS.mpr (by decide), writesIn_record (by decide) (covers_evs_elsewhere_clk (by decide)),
      writesIn_dropFault.mpr (by decide), trivial⟩,
    fun _ => only_when _ _ fun _ => writesIn_putFlag.mpr (by decide), writesIn_refRefresh (covers_tide_elsewhere_clk (by decide)), trivial⟩

theorem keepsFld_xtalBackReports_refStat : KeepsFld pgTIDE Reg.TIDE.REF_STAT_XTAL_OK 0 xtalBackReports := by
  refine keepsFld_seq (keepsFld_of_elsewhere (xs := xtalParts) fun _ => only_when _ _ fun _ => ?_)
    (keepsFld_seq (keepsFld_of_elsewhere (xs := xtalParts) fun _ => only_when _ _ fun _ => writesIn_putFlag.mpr (by decide))
      (keepsFld_seq (keepsFld_refRefresh (by decide) (by decide) (by decide)) fun _ => rfl))
  exact ⟨writesIn_modTideS.mpr (by decide), writesIn_record (by decide) (covers_evs_elsewhere_tide (by decide)),
    writesIn_dropFault.mpr (by decide), trivial⟩

theorem xtalBack_sets_clkXtalOk : GivesFld pgCLK Reg.CLK.CLK_STAT_XTAL_OK 0 1 xtalBackAct :=
  givesFld_then (givesFld_put (by decide) (by decide)) (keepsFld_seq (keepsFld_of_elsewhere (xs := []) (writesIn_putFlag.mpr (by decide)))
    (keepsFld_seq (keepsFld_put (by decide) (by decide)) (keepsFld_of_elsewhere xtalBackReports_clkStat)))

theorem xtalBack_sets_refXtalOk : GivesFld pgTIDE Reg.TIDE.REF_STAT_XTAL_OK 0 1 xtalBackAct :=
  givesFld_after (givesFld_then (givesFld_put (by decide) (by decide))
    (keepsFld_seq (keepsFld_of_elsewhere (xs := []) (writesIn_putFlag.mpr (by decide))) keepsFld_xtalBackReports_refStat))

theorem xtalBack_clears_holdover : GivesFld pgCLK Reg.CLK.CLK_STAT_HOLDOVER 0 0 xtalBackAct :=
  givesFld_after (givesFld_after (givesFld_then (givesFld_put (by decide) (by decide)) (keepsFld_of_elsewhere xtalBackReports_clkStat)))

/-- A lost crystal that is back is noted as not lost; one that was not lost stays so. -/
theorem xtalBackReports_ends_loss (c : Chip) : (xtalBackReports.run c).tideSt.xtalLost = false := by
  have h : WritesIn anyWord [] (seqs [.dyn fun c => when (c.seqSt.released.isSome && !c.tideOn &&
      decide (c.seqSt.released.getD 0 + 50000000 < c.now)) (putFlag pgRST Reg.RST.RST_CAUSE_XTAL_WAIT true), refRefresh]) := by
    simp
  refine (congrArg TideSt.xtalLost (tideSt_of_writesIn h (by decide) _)).trans ?_
  simp only [Act.run_dyn]
  cases hx : c.tideSt.xtalLost
  case false => simpa [when] using hx
  case true =>
    have hr : WritesIn anyWord [.streams] (seqs [record pgCLK 0 0x02 c.t 0 0, dropFault fXTAL_LOSS]) := by simp
    exact congrArg TideSt.xtalLost (tideSt_of_writesIn hr (by decide) _)

/-! ### The TIDE PLL -/

/-- What the failure of the TIDE PLL does, with the values of the fields FAULT and LOCK of CLK_STAT before it. -/
def tidePllAct (fault lock t : Nat) : Act :=
  .seq (put pgCLK Reg.CLK.CLK_STAT_FAULT (fault + 2 ^ 1)) (.seq (put pgCLK Reg.CLK.CLK_STAT_LOCK (withBit lock 1 false))
    (seqs [bump pgCLK Reg.CLK.FAULT_CNT, record pgCLK 0 0x01 t 1 1, raiseLevels pgCLK Chip.clkLevels, tideUnlock true]))

theorem exec_tideUnlock (dt : Nat) (s : State) : exec (.tideUnlock dt) s = s.act dt (.dyn fun c =>
    when (!(c.fld pgCLK Reg.CLK.CLK_STAT_FAULT).testBit 1 && c.domainIsGood 5)
      (tidePllAct (c.fld pgCLK Reg.CLK.CLK_STAT_FAULT) (c.fld pgCLK Reg.CLK.CLK_STAT_LOCK) c.t)) := rfl

theorem tideUnlock_sets_suspect : GivesFld pgTIDE Reg.TIDE.REF_STAT_SUSPECT 0 1 (tideUnlock true) := by
  refine givesFld_then (givesFld_put (by decide) (by decide)) (keepsFld_seq (keepsFld_put (by decide) (by decide))
    (keepsFld_seq (keepsFld_refRefresh (by decide) (by decide) (by decide)) (keepsFld_of_elsewhere (xs := xtalParts) ?_)))
  exact ⟨fun _ => writesIn_record (by decide) (covers_evs_elsewhere_tide (by decide)), (writesIn_raiseFault (by decide)).mpr (by decide), trivial⟩

theorem tideUnlock_clears_pllLock : GivesFld pgTIDE Reg.TIDE.REF_STAT_PLL_LOCK 0 0 (tideUnlock true) := by
  refine givesFld_after (givesFld_then (givesFld_put (by decide) (by decide))
    (keepsFld_seq (keepsFld_refRefresh (by decide) (by decide) (by decide)) (keepsFld_of_elsewhere (xs := xtalParts) ?_)))
  exact ⟨fun _ => writesIn_record (by decide) (covers_evs_elsewhere_tide (by decide)), (writesIn_raiseFault (by decide)).mpr (by decide), trivial⟩

theorem tideUnlock_clkStat : WritesIn (Elsewhere pgCLK Reg.CLK.CLK_STAT_FAULT 0) xtalParts (tideUnlock true) :=
  ⟨writesIn_putFlag.mpr (by decide), writesIn_putFlag.mpr (by decide), writesIn_refRefresh (covers_tide_elsewhere_clk (by decide)),
    fun _ => writesIn_record (by decide) (covers_evs_elsewhere_clk (by decide)), (writesIn_raiseFault (by decide)).mpr (by decide), trivial⟩

/-- The FAULT bit of the PLL is set by the first write and kept by the others. -/
theorem tidePll_sets_fault (c : Chip) (fault lock t : Nat) (h : fault.testBit 1 = false) :
    (((tidePllAct fault lock t).run c).fld pgCLK Reg.CLK.CLK_STAT_FAULT).testBit 1 = true := by
  have hk : KeepsFld pgCLK Reg.CLK.CLK_STAT_FAULT 0 (.seq (put pgCLK Reg.CLK.CLK_STAT_LOCK (withBit lock 1 false))
      (seqs [bump pgCLK Reg.CLK.FAULT_CNT, record pgCLK 0 0x01 t 1 1, raiseLevels pgCLK Chip.clkLevels, tideUnlock true])) :=
    keepsFld_seq (keepsFld_put (by decide) (by decide)) (keepsFld_of_elsewhere (xs := xtalParts)
      ⟨writesIn_bump.mpr (by decide), writesIn_record (by decide) (covers_evs_elsewhere_clk (by decide)),
        writesIn_raiseLevels.mpr (by decide), tideUnlock_clkStat, trivial⟩)
  rw [tidePllAct, Act.run_seq, hk, Chip.fld_put_same _ _ _ _ _ (by decide) (by decide) (by decide) (by decide), Nat.testBit_mod_two_pow,
    Nat.add_comm, Nat.testBit_two_pow_add_eq, h]
  decide

theorem tidePll_sets_suspect (fault lock t : Nat) : GivesFld pgTIDE Reg.TIDE.REF_STAT_SUSPECT 0 1 (tidePllAct fault lock t) :=
  fun _ => tideUnlock_sets_suspect _

theorem tidePll_clears_pllLock (fault lock t : Nat) : GivesFld pgTIDE Reg.TIDE.REF_STAT_PLL_LOCK 0 0 (tidePllAct fault lock t) :=
  fun _ => tideUnlock_clears_pllLock _

theorem tidePll_raises (c : Chip) (fault lock t : Nat) :
    ((tidePllAct fault lock t).run c).bitAt pgFLT8 Reg.FLT8.RAW fTIDE_UNLOCK = true :=
  bitAt_raiseFault _ _ _ _ (by decide)

/-! ### The statement -/

/-- Settles O7: each status field is written once, and the writes that follow keep it. -/
theorem crystalAndTidePllFaults : Obligations.CrystalAndTidePllFaults := by
  refine ⟨fun dt s hx => ?_, fun dt s hx => ?_, fun dt s hg hf => ?_, fun dt s => ?_⟩
  · rw [completes_iff (exec_xtalLoss dt s), whenC, Act.run_dyn, hx]
    exact ⟨xtalLoss_clears_clkXtalOk _, xtalLoss_clears_refXtalOk _, xtalLoss_sets_holdover _, xtalLoss_notes_loss _, xtalLoss_raises _⟩
  · rw [completes_iff (exec_xtalRegained dt s), whenC, Act.run_dyn, hx]
    exact ⟨xtalBack_sets_clkXtalOk _, xtalBack_sets_refXtalOk _, xtalBack_clears_holdover _, xtalBackReports_ends_loss _⟩
  · rw [completes_iff (exec_tideUnlock dt s), Act.run_dyn, hf, hg]
    exact ⟨tidePll_sets_suspect _ _ _ _, tidePll_clears_pllLock _ _ _ _, tidePll_sets_fault _ _ _ _ hf, tidePll_raises _ _ _ _⟩
  · exact (completes_iff (a := modTideS fun s => { s with calib := s.calib + 1 }) rfl _).mpr ⟨rfl, rfl, rfl⟩

end Sys2Proof.Machine.Tide
end

section
/-! O6: the statement also says that a reference that is valid again sets the tick of the last sync. -/

namespace Sys2Proof.Machine.Tide

open Sys2Proof Sys2Proof.Machine Sys2Proof.Machine.Footprint

/-- A reference that is valid leaves the tick of the last sync of gPTP as it is. -/
theorem refValid_syncAt (phase : Nat) (c : Chip) : ((refValid phase).run c).tideSt.syncAt = c.tideSt.syncAt := by
  have h : WritesIn anyWord [.streams] (seqs [when (c.refSrc == 1) (put pgTIDE Reg.TIDE.REF_STAT_EXT_PHASE phase), refRefresh,
      when c.tideSt.refLost
        (.seq (evt pgTIDE 1) (record pgTIDE 0 0x11 c.t c.refSrc (if c.refSrc = 1 then phase else 0)))]) := by simp
  exact (congrArg TideSt.syncAt (tideSt_of_writesIn h (by decide) _)).trans rfl

/-- A chip at tick 0 with EXT10M as its selected reference, whose last sync of gPTP is noted at tick 1. -/
def ext10mChip : Chip := { (putActive pgTIDE Reg.TIDE.REF_CTRL_SRC 1).run {} with tideSt := { syncAt := 1 } }

theorem ext10mChip_refSrc : (ext10mChip.after 0).refSrc = 1 := by decide +kernel

/-- Refutes O6: its third clause claims that a valid EXT10M reference sets the tick of the last sync, which is gPTP's; on a chip at tick 0
whose last sync is noted at tick 1 it stays 1. -/
theorem not_trimSlewsWithinItsLimits : ¬ Obligations.TrimSlewsWithinItsLimits := by
  intro ⟨_, _, h⟩
  have hc := (completes_iff rfl _).mp (h 0 0 { chip := ext10mChip, pending := [] } ext10mChip_refSrc)
  obtain ⟨_, _, hs, _⟩ := hc
  rw [Act.run_dyn, if_pos ext10mChip_refSrc, refValid_syncAt] at hs
  exact absurd hs (by decide)

end Sys2Proof.Machine.Tide
end

section
/-! O8: a due snapshot whose bank holds a word outside the bank overwrites the count of the generator at its boundary. -/

namespace Sys2Proof.Machine.Tide

open Sys2Proof Sys2Proof.Machine Sys2Proof.Machine.Footprint

/-! ### The two halves of a frame boundary -/

/-- What a frame boundary does before the due snapshots apply. -/
def frameHead (g : Fin 8) (c : Chip) : Act :=
  seqs [atTick (c.fgNext g), when (g.val = 0) (snapMark (c.fgNext g) (c.fgCount g)),
    if c.tideSt.firsts.contains g.val then modTideS fun s => { s with firsts := s.firsts.filter fun x => x != g.val }
    else bumpWrap (pgFG g) Reg.FG.COUNT,
    putWide (pgFG g) Reg.FG.NEXT_LO Reg.FG.NEXT_HI (c.fgNext g + c.fgPeriod g), evt (pgFG g) 0, boundaryDue g (c.fgNext g)]

/-- The due snapshots apply. -/
def frameApply (g : Nat) : Act := .dyn fun c => each (c.waiting.filter fun p => c.fgOf p == g && leadOf p == p) applyDue

/-- The blocks of the generator follow, and entries past the frame are skipped. -/
def frameFollow (g b : Nat) : Act := .seq (boundaryBlocks g b) (whenC (fun c => c.on pgACT) (skipEntries g b))

theorem frameBoundaryAct_run {g : Fin 8} {c : Chip} (ht : c.tideOn = true) (hg : c.fgOn g = true) :
    (frameBoundaryAct g).run c = (frameFollow g (c.fgNext g)).run ((frameApply g).run ((frameHead g c).run c)) := by
  rw [frameBoundaryAct, whenC, Act.run_dyn, ht, hg]
  rfl

/-! ### The blocks that follow a generator -/

/-- No block follows the generator and ACT is off: a boundary of it asks nothing of a block or of an action. -/
def noFollower (g : Nat) (c : Chip) : Bool :=
  (List.range 24).all (fun k => c.fgOf (pgLLP k) != g) && c.fgOf (pgTSN 0) != g && c.fgOf pgCNV != g && c.fgOf (pgSSC 0) != g && !c.on pgACT

theorem noFollower_iff {g : Nat} {c : Chip} : noFollower g c = true ↔
    (∀ k < 24, c.fgOf (pgLLP k) ≠ g) ∧ c.fgOf (pgTSN 0) ≠ g ∧ c.fgOf pgCNV ≠ g ∧ c.fgOf (pgSSC 0) ≠ g ∧ c.on pgACT = false := by
  simp [noFollower, and_assoc]

theorem frameFollow_of_noFollower {g b : Nat} {c : Chip} (h : noFollower g c = true) : (frameFollow g b).run c = c := by
  obtain ⟨hl, ht, hc, hs, ha⟩ := noFollower_iff.mp h
  have hf : (List.range 24).filter (fun k => c.fgOf (pgLLP k) == g) = [] :=
    List.filter_eq_nil_iff.mpr fun k hk => by simpa using hl k (List.mem_range.mp hk)
  have hb : (boundaryBlocks g b).run c = c := by
    simp [boundaryBlocks, tempBoundary, hf, ht, hc, hs, when, each]
  rw [frameFollow, Act.run_seq, hb, whenC, Act.run_dyn, ha]
  rfl

/-- What a boundary of the generator asks of its followers depends on the powered domains and on words of the Harbor other than its count. -/
theorem noFollower_congr {g : Nat} {c d : Chip} (hs : d.seqSt = c.seqSt)
    (hw : ∀ a, 0x42000000 ≤ a → a ≠ (pgFG 0).base + Reg.FG.COUNT.word 0 → d.word a = c.word a) (h : noFollower g c = true) :
    noFollower g d = true := by
  have hword : ∀ f : Field, ∀ k, f.word k < 0x800 → d.word (pgTIDE.base + f.word k + 0x800) = c.word (pgTIDE.base + f.word k + 0x800) :=
    fun f k hk => by
      have hb : pgTIDE.base = 0x42010000 := by decide
      have hc : (pgFG 0).base + Reg.FG.COUNT.word 0 = 0x4201104C := by decide
      exact hw _ (by omega) (by omega)
  have hmap : ∀ k < 24, Reg.TIDE.FRAME_MAP.word k < 0x800 := by decide
  have hl : ∀ k < 24, d.fgOf (pgLLP k) = c.fgOf (pgLLP k) := fun k hk => congrArg (fun w : Word => w.bits _ _) (hword _ k (hmap k hk))
  have ht : d.fgOf (pgTSN 0) = c.fgOf (pgTSN 0) := congrArg (fun w : Word => w.bits _ _) (hword Reg.TIDE.FRAME_MAP3_SN 0 (by decide))
  have hc : d.fgOf pgCNV = c.fgOf pgCNV := congrArg (fun w : Word => w.bits _ _) (hword Reg.TIDE.FRAME_MAP3_CNV_VCL 0 (by decide))
  have hu : d.fgOf (pgSSC 0) = c.fgOf (pgSSC 0) := congrArg (fun w : Word => w.bits _ _) (hword Reg.TIDE.FRAME_MAP3_AC 0 (by decide))
  have ho : d.on pgACT = c.on pgACT := by
    simp only [Chip.on, Chip.flag, Chip.fld, Chip.domainOn, hs, hw _ (by decide : 0x42000000 ≤ pgACT.base + Reg.HDR.PAGE_STAT_ENABLED.word 0) (by decide)]
  rw [noFollower_iff] at h ⊢
  rw [ht, hc, hu, ho]
  exact ⟨fun k hk => hl k hk ▸ h.1 k hk, h.2⟩

/-! ### One due snapshot -/

/-- The application of the one snapshot that is due on a page outside the commit groups. -/
def applyOne (p : Page) (x : Snap) : Act := .dyn fun c => .seq (applySnap p x) (.seq (commitHook c p x.at_) (pendRefresh p))

/-- The due snapshots leave a page's queue. -/
def dropDue (p : Page) : Act := modPst p fun s => { s with snaps := s.snaps.filter fun x => !x.due }

theorem applyDue_single {p : Page} {x : Snap} {c : Chip} (hl : leadOf p = p) (hg : p.group = [p])
    (h : (c.pst p).snaps.filter Snap.due = [x]) : (applyDue p).run c = (applyOne p x).run ((dropDue p).run c) := by
  simp [applyDue, applyOne, dropDue, hl, hg, h, each]

/-! ### A snapshot of ENG page A -/

/-- The addresses of the two Quays. -/
abbrev InQuays : Nat → Prop := fun a => a < 0x42000000

/-- The words that a stray copy of the bank writes: those of the Quays and the count of generator 0. -/
abbrev InQuaysOrCount : Nat → Prop := fun a => a < 0x42000000 ∨ a = (pgFG 0).base + Reg.FG.COUNT.word 0

/-- A snapshot of ENG page A that is due, whose bank holds the value 7 at the offset of generator 0's count instead of one inside the bank. -/
def straySnap : Snap :=
  { words := [], bank := [((pgFG 0).base + Reg.FG.COUNT.word 0 - 0x40C08000, 7#32)], wait := 0, at_ := 0, src := 0, en := false, ok := some true }

/-- What follows the copy of a snapshot's bank at tick 0: the copy to the staging bank starts, BANK toggles and the signature is taken. -/
def bankStats (b : Bool) : Act :=
  seqs [startCopy (pgENG .A) 0, .seq (putFlag (pgENG .A) Reg.ENG.ENG_STAT_BANK b)
    (.dyn fun c => put (pgENG .A) Reg.ENG.COEF_SIG (crc32 (c.bytesOf 0x40C08000 8192)))]

/-- The bank exchange of the stray snapshot: the old bank is kept for the launches under way, and one word is written. -/
def strayExchange (c : Chip) : Act :=
  .seq (modEng 0 fun e => { e with banks := (e.banks.filter fun b => c.launchTicks.any fun t => decide (t < b.1)) ++
      [(0, c.wordsIn 0x40C08000 0x8000)] })
    (.seq (.prim (.regsReset 0x40C08000 (0x40C08000 + 0x8000)))
      (.seq (.seq (setWord ((pgFG 0).base + Reg.FG.COUNT.word 0) 7#32) .skip) (bankStats (!c.flag (pgENG .A) Reg.ENG.ENG_STAT_BANK))))

theorem exchangeBanks_straySnap : exchangeBanks (pgENG .A) straySnap straySnap.at_ = .dyn strayExchange := rfl

/-- What a commit notes of itself in the header of its page. -/
def commitNotes (x : Snap) : Act :=
  seqs [putWide (pgENG .A) Reg.HDR.LAST_COMMIT_TIDE_LO Reg.HDR.LAST_COMMIT_TIDE_HI x.at_, bumpWrap (pgENG .A) Reg.HDR.COMMIT_SEQ,
    put (pgENG .A) Reg.HDR.COMMIT_SRC x.src, evt (pgENG .A) evDONE]

theorem applySnap_straySnap : applySnap (pgENG .A) straySnap = .dyn fun c =>
    .seq (each (stWords (pgENG .A)) fun o => setWord ((pgENG .A).base + 0x800 + o) (straySnap.word c.strap (pgENG .A) o))
      (.seq (.dyn strayExchange) (commitNotes straySnap)) := by
  simp only [applySnap, commitNotes, seqs_cons, exchangeBanks_straySnap]

section
variable {A : Nat → Prop} {xs : List Part}

theorem covers_engA (hA : ∀ a, InQuays a → A a) : Covers A (pgENG .A) := fun o ho => hA _ (by
  have : (pgENG .A).base = 0x40020000 := by decide
  omega)

theorem writesIn_each_setWord {l : List Nat} {a : Nat → Nat} {v : Nat → Word} (h : ∀ o ∈ l, A (a o)) :
    WritesIn A xs (each l fun o => setWord (a o) (v o)) :=
  only_each _ _ fun o ho => h o ho

/-- What follows the copy of the bank writes within the Quays. -/
theorem writesIn_bankStats (hA : ∀ a, InQuays a → A a) (hp : .pages ∈ xs) {b : Bool} : WritesIn A xs (bankStats b) := by
  have hc := covers_engA hA
  exact ⟨⟨writesIn_putFlag.mpr (hc _ (by decide)), writesIn_modPst.mpr hp⟩,
    ⟨writesIn_putFlag.mpr (hc _ (by decide)), fun _ => writesIn_put.mpr (hc _ (by decide))⟩, trivial⟩

theorem writesIn_commitNotes (hA : ∀ a, InQuays a → A a) {x : Snap} : WritesIn A xs (commitNotes x) := by
  have hc := covers_engA hA
  exact ⟨writesIn_putWide.mpr ⟨hc _ (by decide), hc _ (by decide)⟩, writesIn_bumpWrap.mpr (hc _ (by decide)),
    writesIn_put.mpr (hc _ (by decide)), writesIn_evt.mpr (hc _ (by decide)), trivial⟩

theorem writesIn_commitHook_engA {c : Chip} {t : Nat} (hs : .slots ∈ xs) : WritesIn A xs (commitHook c (pgENG .A) t) :=
  fun _ => only_each _ _ fun _ _ => hs

theorem writesIn_pendRefresh_engA (hA : ∀ a, InQuays a → A a) : WritesIn A xs (pendRefresh (pgENG .A)) :=
  fun _ => ⟨writesIn_putFlag.mpr (covers_engA hA _ (by decide)), writesIn_putFlag.mpr (covers_engA hA _ (by decide))⟩

/-- The stray snapshot writes words of the Quays and the count. -/
theorem writesIn_applyOne_straySnap : WritesIn InQuaysOrCount [.engs, .pages, .slots] (applyOne (pgENG .A) straySnap) := by
  have hA : ∀ a, InQuays a → InQuaysOrCount a := fun _ => .inl
  have hb : (pgENG .A).base = 0x40020000 := by decide
  refine fun _ => ⟨?_, writesIn_commitHook_engA (by decide), writesIn_pendRefresh_engA hA⟩
  rw [applySnap_straySnap]
  have hst : ∀ o ∈ stWords (pgENG .A), InQuaysOrCount ((pgENG .A).base + 0x800 + o) := fun o ho => by
    obtain ⟨i, hi, rfl⟩ := List.mem_map.mp (List.mem_filter.mp ho).1
    have := List.mem_range.mp hi
    exact Or.inl (by rw [hb]; omega)
  have hr : ∀ a, 0x40C08000 ≤ a → a < 0x40C08000 + 0x8000 → InQuaysOrCount a := fun a _ h => Or.inl (Nat.lt_of_lt_of_le h (by decide))
  generalize stWords (pgENG .A) = l at hst ⊢
  exact fun c => ⟨writesIn_each_setWord hst, fun _ => ⟨writesIn_modEng.mpr (by decide), hr,
    ⟨writesIn_setWord.mpr (.inr rfl), trivial⟩, writesIn_bankStats hA (by decide)⟩, writesIn_commitNotes hA⟩

/-- The stray snapshot leaves 7 in the count: its bank's word is written there, and what follows writes within the Quays. -/
theorem applyOne_straySnap_count : GivesFld (pgFG 0) Reg.FG.COUNT 0 7 (applyOne (pgENG .A) straySnap) := by
  have hA : ∀ a, InQuays a → Elsewhere (pgFG 0) Reg.FG.COUNT 0 a := fun a h e => by
    have hc : (pgFG 0).base + Reg.FG.COUNT.word 0 = 0x4201104C := by decide
    omega
  refine givesFld_dyn fun _ => givesFld_then ?_ (keepsFld_of_elsewhere (xs := [.slots]) ⟨writesIn_commitHook_engA (by decide), writesIn_pendRefresh_engA hA⟩)
  rw [applySnap_straySnap]
  refine givesFld_dyn fun _ => givesFld_after (givesFld_then (givesFld_dyn fun _ => givesFld_after (givesFld_after (givesFld_then ?_
    (keepsFld_of_elsewhere (xs := [.pages]) (writesIn_bankStats hA (by decide)))))) (keepsFld_of_elsewhere (xs := []) (writesIn_commitNotes hA)))
  exact givesFld_setWord (by decide)

end

/-! ### The chip -/

/-- A state whose generator 0 runs with no block to follow it and with the stray snapshot waiting on ENG page A. -/
def strayState : State where
  chip := (seqs [.prim (.tideRun true), modSeqS fun s => { s with on := 0x3FFF, good := 0x3FFF }, putFlag (pgFG 0) Reg.HDR.PAGE_STAT_ENABLED true,
    each (List.range 24) fun k => putActive pgTIDE Reg.TIDE.FRAME_MAP 1 k, putActive pgTIDE Reg.TIDE.FRAME_MAP3_CNV_VCL 1,
    putActive pgTIDE Reg.TIDE.FRAME_MAP3_AC 1, putActive pgTIDE Reg.TIDE.FRAME_MAP3_SN 1,
    modPst (pgENG .A) fun s => { s with snaps := [straySnap] }]).run {}
  pending := []

/-- The chip of that state as the command takes effect. -/
def strayChip : Chip := strayState.chip.after 0

/-- The chip as its due snapshots are about to apply. -/
def strayDue : Chip := (frameHead 0 strayChip).run strayChip

theorem strayState_after : strayState.chip.after 0 = strayChip := rfl

theorem strayChip_runs : strayChip.tideOn = true ∧ strayChip.fgOn 0 = true ∧ strayChip.tideSt.firsts.contains 0 = false ∧ strayChip.fgCount 0 = 0 := by
  decide +kernel

theorem strayDue_waiting : (strayDue.waiting.filter fun p => strayDue.fgOf p == 0 && leadOf p == p) = [pgENG .A] := by
  decide +kernel

theorem strayDue_snaps : (strayDue.pst (pgENG .A)).snaps.filter Snap.due = [straySnap] := by
  decide +kernel

theorem strayDue_noFollower : noFollower 0 strayDue = true := by
  decide +kernel

/-- The chip once the stray snapshot has applied. -/
theorem strayDue_apply : (frameApply 0).run strayDue = (applyOne (pgENG .A) straySnap).run ((dropDue (pgENG .A)).run strayDue) := by
  rw [frameApply, Act.run_dyn, strayDue_waiting, each, List.map_singleton, seqs_cons, seqs_nil, Act.run_seq, Act.run_skip]
  exact applyDue_single (by decide) (by decide) strayDue_snaps

/-- The stray snapshot leaves no follower to generator 0. -/
theorem strayDue_apply_noFollower : noFollower 0 ((frameApply 0).run strayDue) = true := by
  rw [strayDue_apply]
  have hd : WritesIn InQuaysOrCount [.pages] (dropDue (pgENG .A)) := writesIn_modPst.mpr (by decide)
  refine noFollower_congr ?_ (fun a ha hc => ?_) strayDue_noFollower
  · have h1 := writesIn_applyOne_straySnap.samePart ((dropDue (pgENG .A)).run strayDue) (x := .seqS) (by decide)
    simpa [Chip.samePart] using samePart_trans (hd.samePart strayDue (by decide)) h1
  · have hn : ¬ InQuaysOrCount a := fun h => h.elim (fun h => absurd ha (Nat.not_le.mpr h)) hc
    rw [writesIn_applyOne_straySnap.word _ hn, hd.word _ hn]

/-- At the boundary of generator 0 the stray snapshot leaves 7 in its count, which was 0. -/
theorem strayChip_count : ((frameBoundaryAct 0).run strayChip).fgCount 0 = 7 := by
  obtain ⟨ht, hg, -, -⟩ := strayChip_runs
  have e : (frameBoundaryAct 0).run strayChip = (frameFollow 0 (strayChip.fgNext 0)).run ((frameApply 0).run strayDue) :=
    frameBoundaryAct_run ht hg
  rw [e, frameFollow_of_noFollower strayDue_apply_noFollower, strayDue_apply]
  exact applyOne_straySnap_count _

/-- What O8 claims of the count at a frame boundary, as a claim about the boundary's effect. -/
theorem fgCount_of_actionsAreJudgedAtTheirDueTick (h : Obligations.ActionsAreJudgedAtTheirDueTick) {dt : Nat} {g : Fin 8} {s : State} {c : Chip}
    (hc : s.chip.after dt = c) (ht : c.tideOn = true) (hg : c.fgOn g = true) (hf : c.tideSt.firsts.contains g.val = false) :
    ((frameBoundaryAct g).run c).fgCount g = (c.fgCount g + 1) % 2 ^ 32 := by
  subst hc
  exact (completes_iff (exec_frameBoundary dt g s) _).mp (h.1 dt g s ht hg hf)

/-- Refutes O8: its first clause leaves the waiting snapshots free. A due snapshot of ENG page A whose bank holds a word outside the bank, at the
offset of generator 0's count, overwrites that count at the boundary, and the count reads 7 where the clause claims 1. The model makes no such
snapshot itself; the statement has no hypothesis that excludes it. -/
theorem not_actionsAreJudgedAtTheirDueTick : ¬ Obligations.ActionsAreJudgedAtTheirDueTick := by
  intro h
  obtain ⟨ht, hg, hf, hc⟩ := strayChip_runs
  have hd := fgCount_of_actionsAreJudgedAtTheirDueTick h (g := 0) strayState_after ht hg hf
  have hz : ((0 : Fin 8) : Nat) = 0 := rfl
  rw [hz, strayChip_count, hc] at hd
  exact absurd hd (by decide)

end Sys2Proof.Machine.Tide
end
